-- ==== Sys2Proof/Word.lean ====
section
/-! DEFINITION. The byte, the site clock's word, and the table of a fixed number of like things. -/

namespace Sys2Proof

/-- A byte of a link frame, a drive bus frame, the lamp bus or the flash. -/
abbrev Byte := BitVec 8

/-- A reading of the site clock: milliseconds, unsigned, wrapping at 2^32 (R18). -/
abbrev Tick := BitVec 32

/-- A fixed number of like things (24 groups, 96 fixtures, 27 channels ...), held as a list of exactly that length. -/
structure Table (n : Nat) (α : Type) where
  cells : List α
  len : cells.length = n
deriving DecidableEq, Repr

namespace Table

variable {n : Nat} {α β : Type}

/-- Every entry the same. -/
def fill (n : Nat) (a : α) : Table n α := ⟨List.replicate n a, by simp⟩

/-- The table whose entry i is f i. -/
def ofFn (f : Fin n → α) : Table n α := ⟨List.ofFn f, by simp⟩

/-- Entry i. -/
def get (t : Table n α) (i : Fin n) : α := t.cells[i.val]'(by rw [t.len]; exact i.isLt)

/-- The table with entry i replaced. -/
def set (t : Table n α) (i : Fin n) (a : α) : Table n α := ⟨t.cells.set i.val a, by simp [t.len]⟩

/-- Entry i changed by f. -/
def modify (t : Table n α) (i : Fin n) (f : α → α) : Table n α := t.set i (f (t.get i))

/-- Every entry changed by a function of its index and itself. -/
def mapIdx (f : Fin n → α → β) (t : Table n α) : Table n β := ofFn fun i => f i (t.get i)

/-- Every entry changed. -/
def map (f : α → β) (t : Table n α) : Table n β := mapIdx (fun _ => f) t

end Table

/-- Four values, one for each colour channel: red, green, blue, white (R127). -/
structure Quad (α : Type) where
  r : α
  g : α
  b : α
  w : α
deriving DecidableEq, Repr

namespace Quad

variable {α β γ : Type}

/-- The same value on every channel. -/
def fill (a : α) : Quad α := ⟨a, a, a, a⟩

/-- Each channel changed. -/
def map (f : α → β) (q : Quad α) : Quad β := ⟨f q.r, f q.g, f q.b, f q.w⟩

/-- Two quads combined channel by channel. -/
def zip (f : α → β → γ) (p : Quad α) (q : Quad β) : Quad γ := ⟨f p.r q.r, f p.g q.g, f p.b q.b, f p.w q.w⟩

/-- The channels in the order R, G, B, W. -/
def toList (q : Quad α) : List α := [q.r, q.g, q.b, q.w]

end Quad

/-- A colour on the bus scale 0..255 (R127). -/
abbrev Colour := Quad Byte

/-- Levels on LGT's internal scale 0..65,535 (R127). -/
abbrev Levels := Quad Nat

end Sys2Proof
end

