-- ==== Sys2Proof/Config.lean ====
section
/-! DEFINITION. The free values: what the manual leaves open after a step that goes on. Each is a constant with no body,
so no proof can see what it is; each is applied to State.fresh (and a position where one step needs several), so
every use is a value of its own. The assumption log names each. -/

namespace Sys2Proof.Config

/-- R99, R108: whether a good reply is handed to WTR before its evaluation is scored (log entry 9). -/
opaque replyBeforeScore : Nat → Bool

/-- R75: whether WTR's DRY write of the fade records comes after SEQ's STOPPING write (log entry 10). -/
opaque dryWriteLast : Nat → Bool

/-- R41: the start height of a fade record rewritten at the entry into STOPPING, one for each group, which the manual
does not give (log entry 11). -/
opaque stoppingStart : Nat → Nat → Nat

/-- R125, R141: the start time of a fixture fade record that is set to levels 0, one for each fixture, which the manual does
not give (log entry 12). -/
opaque fixtureFadeStart : Nat → Nat → Tick

/-- R129: the start time of a fade begun from a show-clock latch at a frame with no show time, one for each fixture (log entry
13). -/
opaque latchShowStart : Nat → Nat → Int

/-- R45: the frame count after a frame counted at its greatest value 4,294,967,295 (log entry 14). -/
opaque countAfterMax : Nat → Nat

/-- R71, R173: a byte of an unused point position in a group payload the controller writes (log entry 15). -/
opaque unusedPointByte : Nat → Nat → Byte

/-- R167: which bits of a byte a cut-off page program has left unprogrammed (log entry 5). -/
opaque programMask : Nat → Nat → Byte

/-- R167: which bits of a byte a cut-off erase has set (log entry 5). -/
opaque eraseMask : Nat → Nat → Byte

/-- R164: whether a suspended erase has left a byte erased (log entry 5). -/
opaque eraseTaken : Nat → Nat → Bool

/-- R146, R155, R187: what the 2-byte gust field carries for a gust above 65,535 dm/s (log entry 55). -/
opaque gustField : Nat → Nat

end Sys2Proof.Config
end

