-- ==== Sys2Proof/Syntax.lean ====
section
/-! DEFINITION. The commands of the FC24: one constructor for each row of the table of operations and events, with
what the world supplies at that step. A request's own operands are the payload bytes that its frame brought into the inbox. -/

namespace Sys2Proof

/-- The trip inputs as sensed at one moment; true is active, that is, open (08 section 8.4). -/
structure Inputs where
  estop : Bool
  intrA : Bool
  intrB : Bool
deriving DecidableEq, Repr

/-- The two intrusion loops (R154). -/
inductive IntrusionLoop where
  | intrA
  | intrB
deriving DecidableEq, Repr

/-- What a flash device answers to the identification read (R178): its three identification bytes (11 section 11.4.2),
its size, and whether it offers erase-suspend. -/
structure DeviceIdent where
  id0 : Byte
  id1 : Byte
  id2 : Byte
  sizeMiB : Nat
  eraseSuspend : Bool
deriving DecidableEq, Repr

/-- The outcome of a flash read (R164). -/
inductive ReadOutcome where
  | good
  | timeout
deriving DecidableEq, Repr

/-- One character on the show link as the receiver samples it: three samples of each bit (R180). In each sample word bit 0 is the
start bit, bits 1..8 are the data bits from the least significant, bit 9 is the parity bit and bit 10 the stop bit. -/
structure LinkChar where
  s1 : BitVec 11
  s2 : BitVec 11
  s3 : BitVec 11
deriving DecidableEq, Repr

/-- The six bytes of a drive reply (11 section 11.7). -/
structure ReplyBytes where
  b0 : Byte
  b1 : Byte
  b2 : Byte
  b3 : Byte
  b4 : Byte
  b5 : Byte
deriving DecidableEq, Repr

/-- The commands, in the order of the table. -/
inductive Instr where
  | powerOn (inputs : Inputs) (straps : BitVec 2)
  | pinReset (inputs : Inputs) (straps : BitVec 2)
  | identificationDone (answer : Option DeviceIdent)
  | estopActive
  | intrusionActive (loop : IntrusionLoop)
  | anemoPulse
  | windGate
  | levelSample (reading : BitVec 12)
  | intrusionDropTimer
  | driveCycle
  | pollSent (quietUs : Nat)
  | lineJammed
  | driveReply (bytes : ReplyBytes) (framingError : Bool) (replyUs : Nat)
  | replyWindowExpiry
  | strokeTimeout (g : Fin 24)
  | lampFrame
  | audioFrame
  | showMillisecond
  | showClipStart
  | clipStartWhenReady
  | clipEnd
  | announcementGapEnd
  | muteComplete
  | stopFadeEnd
  | audioWindowEnd
  | chunkArrival (outcome : ReadOutcome)
  | suspendGuardEnd
  | flashTimeout
  | deviceResetComplete
  | loadReadDone
  | directoryReadDone
  | settingsReadDone
  | flashReadDone (outcome : ReadOutcome)
  | programDone
  | eraseDone
  | linkFrameReceived (c : LinkChar)
  | gapTimeout
  | frameSent
  | unknownRequest
  | getIdent
  | getStatus
  | getGroup
  | getFixture
  | getChannels
  | readFlags
  | getTripLog
  | getService
  | getLoadResult
  | setGroup
  | setFixture
  | setZone
  | setWind
  | setLevel
  | setFeeder
  | setCounter
  | setDriveBus
  | setShowOptions
  | setReports
  | arm
  | disarm
  | start
  | hold
  | resume
  | stop
  | directJet
  | directLight
  | directClipPlay
  | directClipStop
  | clearTrip (inputs : Inputs)
  | clearGroupFault
  | flashRead
  | flashWrite
  | flashErase
  | saveSettings
  | reloadSettings
  | halt
  | release (inputs : Inputs)
  | linkByteReceived (c : LinkChar)
  | siteClockTick
deriving DecidableEq, Repr

end Sys2Proof
end

