-- ==== Sys2Proof/WellFormed.lean ====
section
/-! DEFINITION. Which commands the world can send: the bounds on times that the bits of an operand do not already give. -/

namespace Sys2Proof

/-- R105: a poll is sent only when the line is found quiet within 5 ms (5,000 µs) of the start of the check.
R107, R110: a reply is taken only inside the reply window, which is at most 10 ms (10,000 µs). -/
def Instr.wellFormed : Instr → Bool
  | .pollSent quietUs => decide (quietUs ≤ 5000)
  | .driveReply _ _ replyUs => decide (replyUs ≤ 10000)
  | _ => true

end Sys2Proof
end

