-- ==== Sys2Proof/Decode.lean ====
section
/-! DEFINITION. The table of operations and events gives its rows no bits, so no word spells a command. -/

namespace Sys2Proof

/-- No row of the table has bits: every word spells no command. -/
def decodeTableWord (_nbits _w : Nat) : Option Instr := none

end Sys2Proof
end

