-- ==== Sys2Proof/Machine/State.lean ====
section
/-! DEFINITION. The state of the FC24 as plain data: every register, table, queue, buffer, timer and mark the manual
names, the flash device's bytes, and the queue of commands that wait. Values at reset are given at the end. -/

namespace Sys2Proof.Machine

/-! ## Names and codes (11 section 11.3.1 lists each in the order of its codes) -/

/-- The status of a reply (10 section 10.5). -/
inductive Status where
  | ok | accepted | busy | unknownKind | badLength | outOfRange | wrongState | showActive | tripped | halted
  | levelDry | inputActive | locked | outOfRegion | noFlash | delayPool | duplicate | slotOverlap | conflict
deriving DecidableEq, Repr

/-- The failure code of a service outcome (10 section 10.5). -/
inductive Failure where
  | none | badCheck | badOrder | badKind | badGroup | badFixture | noClip | laneFull | conflict | aborted | tripped
  | flashTimeout
deriving DecidableEq, Repr

/-- The show state (R16). -/
inductive ShowState where
  | idle | loading | armed | running | held | stopping
deriving DecidableEq, Repr

/-- The end reason of a SHOW_STATE report (R16). -/
inductive EndReason where
  | stop | ended | duration | dry | trip | halt | disarm | load
deriving DecidableEq, Repr

/-- A group's interlock state (R90). -/
inductive Interlock where
  | shut | opening | running | closing | fault | lost
deriving DecidableEq, Repr

/-- A group's fault cause (R96, R97). -/
inductive FaultCause where
  | none | strokeTimeout | driveTrip | switchConflict
deriving DecidableEq, Repr

/-- The outcome of a poll (R107, R108). -/
inductive PollOutcome where
  | good | noReply | badCheck | wrongAddr | badSeq
deriving DecidableEq, Repr

/-- The valve command of a poll (R90). -/
inductive Valve where
  | close | openUp | hold
deriving DecidableEq, Repr

/-- The drive state of a reply (R108). -/
inductive DriveState where
  | ready | run | trip
deriving DecidableEq, Repr

/-- The level state (R151, R152). -/
inductive LevelState where
  | normal | low | dry
deriving DecidableEq, Repr

/-- The site mode (R155). -/
inductive SiteMode where
  | normal | restricted | tripped
deriving DecidableEq, Repr

/-- The origin of a latched colour (R128). -/
inductive LatchOrigin where
  | fromShow | direct | house
deriving DecidableEq, Repr

/-- The source of a zone (R60). -/
inductive ZoneSource where
  | left | right | mono
deriving DecidableEq, Repr

/-- A region of the flash (R163). -/
inductive Region where
  | settings | shows | clips
deriving DecidableEq, Repr

/-- The three service slots (R186). -/
inductive ServiceSlot where
  | arm | flash | settings
deriving DecidableEq, Repr

/-- The status of a service slot (R186). -/
inductive SlotStatus where
  | idle | queued | running | done | failed
deriving DecidableEq, Repr

/-- The settings image state (R174). -/
inductive ImageState where
  | blank | bad | loaded | modified
deriving DecidableEq, Repr

/-- The kind of a reset (R188). -/
inductive ResetKind where
  | powerOn | pinReset | release
deriving DecidableEq, Repr

/-- The outcome in the load result (R28). -/
inductive LoadOutcome where
  | noLoad | done | failed
deriving DecidableEq, Repr

/-- The six report categories (R185). -/
inductive Category where
  | showCat | water | light | site | service | mark
deriving DecidableEq, Repr

/-- The six flag banks (R159). -/
inductive Bank where
  | link | showBank | water | light | site | flash
deriving DecidableEq, Repr

/-- The flags of the six banks (R159). -/
inductive Flag where
  | parity | framing | gapTimeout | badCrc | inboxBusy | reportsDropped
  | loadFailed | compressedCues | overtaken | clipReplaced | lightOvertaken
  | strokeTimeout | driveTrip | switchConflict | groupLost | budgetLimited | heightClamped | busFault
  | dryCapActive | lightScaled
  | windForced | levelLow | levelDry | intrusion | estop | audioDegraded
  | timeout | lockedRefusal | eraseSuspended | settingsBad
deriving DecidableEq, Repr

/-! ## Times and fades -/

/-- A start time with its clock: signed show time, or the site clock (R74, R127). -/
inductive FadeTime where
  | onShow (t : Int)
  | onSite (t : Tick)
deriving DecidableEq, Repr

/-- The clock of a fade still to begin (R128). -/
inductive FadeClock where
  | showClock | siteClock
deriving DecidableEq, Repr

/-! ## Working settings (R173): what the SET requests change and the settings image stores -/

/-- A point of a height curve or a lead table: a height and a speed or lead (R71). -/
structure Point where
  h : Nat
  v : Nat
deriving DecidableEq, Repr

/-- A group record (R70). -/
structure GroupRecord where
  configured : Bool
  address : Nat
  curve : List Point
  leads : List Point
  offLead : Nat
  maxHeight : Nat
  rated : Nat
  exposure : Nat
  rampUp : Nat
  rampDown : Nat
  closeSpeed : Nat
  wetSpeed : Nat
  stroke : Nat
deriving DecidableEq, Repr

/-- A fixture record (R123). -/
structure FixtureRecord where
  base : Nat
  bound : Option (Fin 24)
  rated : Nat
  dryCap : Byte
  dryGrace : Nat
  house : Colour
  rescue : Colour
deriving DecidableEq, Repr

/-- A zone's settings (R60). -/
structure ZoneRecord where
  source : ZoneSource
  gain : Nat
  delay : Nat
deriving DecidableEq, Repr

/-- The wind settings and the derate table, entry 8c + b for exposure class c and band b (R149, 11 section 11.4.1). -/
structure WindSettings where
  factor : Nat
  plausible : Nat
  still : Nat
  thresholds : List Nat
  hysteresis : Nat
  calmHold : Nat
  derate : List Nat
deriving DecidableEq, Repr

/-- The level settings (R153). -/
structure LevelSettings where
  span : Nat
  low : Nat
  dry : Nat
  lowCap : Nat
deriving DecidableEq, Repr

/-- The feeder settings (R113). -/
structure FeederSettings where
  budget : Nat
  share : Nat
deriving DecidableEq, Repr

/-- A channel's limit and hold (R142). -/
structure CounterSettings where
  limit : Nat
  hold : Nat
deriving DecidableEq, Repr

/-- The show options (R189). -/
structure ShowOptions where
  masterGain : Nat
  annClip : Nat
  gap : Nat
  stopFade : Nat
deriving DecidableEq, Repr

/-- The working settings (09 section 9.5). -/
structure Settings where
  groups : Table 24 GroupRecord
  fixtures : Table 96 FixtureRecord
  zones : Table 4 ZoneRecord
  wind : WindSettings
  level : LevelSettings
  feeder : FeederSettings
  counters : Table 27 CounterSettings
  window : Nat
  options : ShowOptions
deriving DecidableEq, Repr

/-! ## LIF -/

/-- The receiver: hunting, or inside a frame with the bytes received after the start byte (R180). -/
inductive Receiver where
  | hunting
  | inFrame (bytes : List Byte)
deriving DecidableEq, Repr

/-- A request frame that has passed the frame check (R181). -/
structure Request where
  tag : Byte
  kind : Byte
  payload : List Byte
deriving DecidableEq, Repr

/-- An answer: the request's tag and kind, a status, and the bytes of the result fields (R183). -/
structure Answer where
  tag : Byte
  kind : Byte
  status : Status
  fields : List Byte
deriving DecidableEq, Repr

/-- An answer waiting for the transmitter: of a reply place, or of the BUSY list (R181, R183, R184). -/
inductive Waiting where
  | reply (a : Answer)
  | busy (a : Answer)
deriving DecidableEq, Repr

/-- A service slot (R186). -/
structure SlotRecord where
  status : SlotStatus
  kind : Byte
  tag : Byte
  failure : Failure
  cueIndex : Option Nat
  imageFound : Option ImageState
deriving DecidableEq, Repr

/-- A set of trip causes (R154). -/
structure Causes where
  estop : Bool
  intrA : Bool
  intrB : Bool
deriving DecidableEq, Repr

/-- The reports (11 section 11.5). -/
inductive Report where
  | ready (kind : ResetKind) (image : ImageState) (present : Bool)
  | showState (st : ShowState) (slot : Option Nat) (time : Option Int) (reason : Option EndReason)
  | mark (marker cueIndex : Nat) (time : Int)
  | serviceDone (slot : ServiceSlot) (record : SlotRecord)
  | trip (causes : Causes) (added : Bool) (clock : Tick)
  | groupState (g : Fin 24) (left : Option Interlock) (entered : Interlock) (cause : FaultCause) (starved : Bool)
      (sent actual : Nat) (faultCode : Option Byte)
  | validity (channel : Fin 27) (valid : Bool) (counter : Nat) (fatal : Bool)
  | site (band gust : Nat) (level : LevelState) (mm : Nat) (mode : SiteMode) (permit : Bool)
deriving DecidableEq, Repr

/-- What the transmitter is sending (R184). -/
inductive Sending where
  | answer (w : Waiting)
  | report (r : Report)
deriving DecidableEq, Repr

/-- The Link Interface's state. -/
structure Lif where
  rx : Receiver
  inbox : List Request
  answers : List Waiting
  readPlace : Option Byte
  tx : Option Sending
  reports : List Report
  enable : BitVec 6
  dropped : Nat
  armSlot : SlotRecord
  flashSlot : SlotRecord
  settingsSlot : SlotRecord
  halted : Bool
  starting : Bool
  bitRate : BitVec 2
  lastReset : ResetKind
deriving DecidableEq, Repr

/-! ## SEQ -/

/-- What a cue does (R5 to R9). -/
inductive CueAct where
  | jet (groups : BitVec 24) (height fade : Nat)
  | light (first last : Nat) (colour : Colour) (fade : Nat)
  | clip (id offset : Nat)
  | mark (marker : Nat)
  | ended
deriving DecidableEq, Repr

/-- A cue of the cue table, after the clamps of R6 (R4). -/
structure Cue where
  time : Nat
  act : CueAct
deriving DecidableEq, Repr

/-- An entry of a jet lane (R23). -/
structure JetEntry where
  cue : Nat
  time : Nat
  height : Nat
  fade : Nat
  dispatch : Int
deriving DecidableEq, Repr

/-- An entry of the light lane (R23). -/
structure LightEntry where
  cue : Nat
  time : Nat
  first : Nat
  last : Nat
  colour : Colour
  fade : Nat
deriving DecidableEq, Repr

/-- An entry of the clip lane (R23). -/
structure ClipEntry where
  cue : Nat
  time : Nat
  id : Nat
  offset : Nat
deriving DecidableEq, Repr

/-- An entry of the mark lane: a marker number, or none for END (R23). -/
structure MarkEntry where
  cue : Nat
  time : Nat
  marker : Option Nat
deriving DecidableEq, Repr

/-- A lane: its entries in order and its dispatch cursor (R23). -/
structure Lane (α : Type) where
  entries : List α
  cursor : Nat
deriving DecidableEq, Repr

/-- The lanes of a loaded show (R22). -/
structure Lanes where
  jets : Table 24 (Lane JetEntry)
  lights : Lane LightEntry
  clips : Lane ClipEntry
  marks : Lane MarkEntry
deriving DecidableEq, Repr

/-- The counts of a DONE load result (R28). -/
structure LoadCounts where
  cues : Nat
  entries : Nat
  clamps : Nat
  compressed : Nat
  overtaken : Nat
  preroll : Nat
deriving DecidableEq, Repr

/-- The load result (R28). -/
structure LoadResult where
  outcome : LoadOutcome
  failure : Failure
  slot : Nat
  label : List Byte
  cueIndex : Option Nat
  counts : Option LoadCounts
deriving DecidableEq, Repr

/-- The fields of a show header (R2, 11 section 11.8.1). -/
structure ShowHeader where
  version : Nat
  showId : Nat
  cueCount : Nat
  duration : Nat
  label : List Byte
  check : Nat
deriving DecidableEq, Repr

/-- How far a load has come (R20, R21): its header read waits behind a read of an interrupted load, its header is being
read, its cue records are being read (those read so far), or the clip directory is being copied. -/
inductive LoadPhase where
  | headerDeferred
  | header
  | cues (hdr : ShowHeader) (read : List Byte)
  | directory (hdr : ShowHeader) (records : List Byte)
deriving DecidableEq, Repr

/-- A STOPPING in progress: its end reason, the show time at which it began and its stop fade (R40, R41). -/
structure Stopping where
  reason : EndReason
  began : Int
  fade : Nat
deriving DecidableEq, Repr

/-- The Show Sequencer's state. The site clock stands beside it in State. -/
structure Seq where
  st : ShowState
  slot : Nat
  cues : List Cue
  lanes : Lanes
  duration : Nat
  preroll : Nat
  stopping : Option Stopping
  load : Option LoadPhase
  staleRead : Bool
  result : LoadResult
deriving DecidableEq, Repr

/-! ## AUD -/

/-- A clip as the clip table holds it (R14). -/
structure Clip where
  start : Nat
  frames : Nat
  gain : Nat
deriving DecidableEq, Repr

/-- A frame held in a ring: good with its left and right samples, or failed (R48). -/
inductive HeldFrame where
  | good (l r : BitVec 16)
  | failed
deriving DecidableEq, Repr

/-- The origin of a buffer's clip (R48). -/
inductive Origin where
  | fromShow | direct | announcement
deriving DecidableEq, Repr

/-- The record of a stream buffer that is not EMPTY (R48). start is the show frame of a SHOW clip; the other
origins start when ready. -/
structure Stream where
  playing : Bool
  origin : Origin
  id : Nat
  clip : Clip
  first : Nat
  start : Int
  read : Nat
  fetch : Nat
  held : List HeldFrame
deriving DecidableEq, Repr

/-- The two stream buffers. -/
inductive BufId where
  | a | b
deriving DecidableEq, Repr

/-- AUD's outstanding chunk read (R50): the buffer it is for (none once that buffer has been discarded, R54), the sector's
device address, its first clip frame and how many frames it holds. -/
structure Chunk where
  owner : Option BufId
  address : Nat
  first : Nat
  count : Nat
deriving DecidableEq, Repr

/-- A stop fade (R59): m0, N and j. -/
structure StopFade where
  m0 : Nat
  n : Nat
  j : Nat
deriving DecidableEq, Repr

/-- Why a directory copy is being made (R14): in the start-up sequence, at RELEASE, by an ARM load, or by an ARM load that has
since been interrupted (R30). -/
inductive CopyFor where
  | startUp | release | armLoad | staleLoad
deriving DecidableEq, Repr

/-- The Audio Engine's state. -/
structure Aud where
  count : Nat
  base : Int
  counting : Bool
  msDue : Bool
  bufA : Option Stream
  bufB : Option Stream
  chunk : Option Chunk
  m : Nat
  target : Nat
  rundown : Option Nat
  stopFade : Option StopFade
  muting : Bool
  gapLeft : Option Nat
  winFrames : Nat
  winUnderruns : Nat
  winNote : Bool
  clips : Table 64 (Option Clip)
  copying : Option CopyFor
  copyQueue : List CopyFor
  lines : Table 4 (List Int)
  out : Table 4 Int
deriving DecidableEq, Repr

/-! ## WTR -/

/-- A group's fade record (R74). -/
structure GroupFade where
  start : Nat
  target : Nat
  began : FadeTime
  dur : Nat
deriving DecidableEq, Repr

/-- A running stroke timer: its start on the site clock and its length (R96). -/
structure StrokeTimer where
  began : Tick
  len : Nat
deriving DecidableEq, Repr

/-- A good drive reply (R108). -/
structure DriveReply where
  actual : Nat
  openSw : Bool
  closedSw : Bool
  drive : DriveState
  code : Byte
deriving DecidableEq, Repr

/-- The last figures of a group (R76). -/
structure Figures where
  hc : Nat
  h1 : Nat
  h2 : Nat
  s : Nat
  k : Nat
  sp : Nat
deriving DecidableEq, Repr

/-- What WTR holds of one group beside its record; interlock is absent while the group is unconfigured (R90). target is the
held target S' of R100 and R102, which a trip and HALT set to 0 where the last figures stay (R76). sent and valve are the sent
command of the last figures, which the reports carry; c0 is the last sent speed that the next computation starts from (R83,
R95; log entry 56). -/
structure Group where
  interlock : Option Interlock
  cause : FaultCause
  stroke : Option StrokeTimer
  fade : GroupFade
  sent : Nat
  c0 : Nat
  valve : Valve
  figs : Figures
  target : Nat
  starved : Bool
  reply : Option DriveReply
  computed : Option Tick
deriving DecidableEq, Repr

/-! ## DBM -/

/-- A drive due in the cycle in progress: its address and the group it serves (R103). -/
structure Due where
  address : Nat
  group : Fin 24
deriving DecidableEq, Repr

/-- The poll in progress (R106, R107): the drive, the sequence number it carries, and the quiet wait before it. -/
structure Poll where
  due : Due
  seq : BitVec 4
  quietUs : Nat
deriving DecidableEq, Repr

/-- The outcome of the last poll of an address and the site clock at which it ended (R108). -/
structure LastPoll where
  outcome : PollOutcome
  ended : Tick
deriving DecidableEq, Repr

/-- The Drive Bus Master's state. Tables by address have entry a - 1 for address a. schedule holds the drives
still to be polled; times are in microseconds. -/
structure Dbm where
  schedule : List Due
  poll : Option Poll
  accountUs : Nat
  cycleWindow : Nat
  rotation : Nat
  seqs : Table 31 (BitVec 4)
  last : Table 31 (Option LastPoll)
  busOut : List Byte
deriving DecidableEq, Repr

/-! ## LGT -/

/-- A fixture's fade record (R127). -/
structure FixtureFade where
  starts : Levels
  targets : Levels
  began : FadeTime
  dur : Nat
deriving DecidableEq, Repr

/-- A colour waiting in a pending latch (R128). -/
structure Latch where
  colour : Colour
  fade : Nat
  clock : FadeClock
  origin : LatchOrigin
deriving DecidableEq, Repr

/-- What LGT holds of one fixture beside its record. -/
structure Fixture where
  fade : FixtureFade
  latch : Option Latch
  dryStart : Option Tick
  capped : Bool
  out : Colour
deriving DecidableEq, Repr

/-- The Light Controller's state. lampOut is the last lamp frame sent, its start code and its slots, and
empty while no frame has been sent (R135). -/
structure Lgt where
  fixtures : Table 96 Fixture
  overtakes : Nat
  lampOut : List Byte
deriving DecidableEq, Repr

/-! ## FDA -/

/-- The Feeder Allocator's figures (R112); the budget and the share are working settings. -/
structure Fda where
  cap : Nat
  load : Nat
  kL : Nat
  allowance : Nat
  demand : Table 24 Nat
  k : Nat
deriving DecidableEq, Repr

/-! ## SUP -/

/-- A supervision channel (R142); its limit and hold are working settings. -/
structure Channel where
  counter : Nat
  valid : Bool
  fatal : Bool
  last : Option Tick
deriving DecidableEq, Repr

/-- A trip log record (R158); the slot and the show time share one presence. -/
structure TripRecord where
  causes : Causes
  clock : Tick
  atShow : Option (Nat × Int)
  band : Nat
  level : LevelState
deriving DecidableEq, Repr

/-- The flag banks, one bit per flag as 11 section 11.6 places them (R159). -/
structure Flags where
  link : Byte
  showBank : Byte
  water : Byte
  light : Byte
  site : Byte
  flash : Byte
deriving DecidableEq, Repr

/-- The Supervision Unit's state; the flag banks stand beside it in State. siteDue is the model's own mark that a SITE
report is owed for a change made in the step that is running. -/
structure Sup where
  channels : Table 27 Channel
  anemo : BitVec 16
  prevAnemo : BitVec 16
  winds : List Nat
  gates : Nat
  stillRun : Nat
  calm : Nat
  band : Nat
  currents : List Nat
  average : Nat
  level : Nat
  measured : LevelState
  causes : Causes
  mode : SiteMode
  permit : Bool
  startMark : Bool
  dropTimer : Option Tick
  tripLog : List TripRecord
  siteDue : Bool
deriving DecidableEq, Repr

/-! ## FLP -/

/-- The bytes of the flash device that are not 0xFF, addresses strictly rising. -/
abbrev Memory := List Host.Cell

/-- What start-up has found of the flash (R178). -/
inductive Presence where
  | unidentified | present | missing
deriving DecidableEq, Repr

/-- A transaction of the flash port (R168). -/
inductive Txn where
  | audChunk
  | loadRead (address len : Nat)
  | directory
  | settingsRead (offset len : Nat)
  | settingsErase
  | settingsPage (page : Nat)
  | hostRead (address len : Nat)
  | hostProgram
  | hostErase
deriving DecidableEq, Repr

/-- The port state with the transaction in progress (R168); suspended and guarded carry the erase. -/
inductive Port where
  | free
  | reading (t : Txn)
  | programming (t : Txn)
  | erasing (t : Txn)
  | suspended (t : Txn)
  | guarded (t : Txn)
  | resetting
deriving DecidableEq, Repr

/-- The two requesters that take turns (R169). -/
inductive Turn where
  | internal | lif
deriving DecidableEq, Repr

/-- The operation the FLASH slot follows: its extent, and the bytes of a program (none for an erase) (R165, R166). -/
structure FlashWork where
  address : Nat
  len : Nat
  data : Option (List Byte)
deriving DecidableEq, Repr

/-- The owner of a lock (R171). -/
inductive LockOwner where
  | showSlot | showClip | showDirectory | announcement
deriving DecidableEq, Repr

/-- A locked extent: device addresses lo..hi - 1 (R171). -/
structure Lock where
  owner : LockOwner
  lo : Nat
  hi : Nat
deriving DecidableEq, Repr

/-- FLP's settings work (R175 to R178): a load in the start-up sequence or of a RELOAD_SETTINGS with the bytes read so
far, or a save with the image built at acceptance and whether a SET has been accepted since. -/
inductive SettingsWork where
  | load (startUp : Bool) (read : List Byte)
  | save (image : List Byte) (setSeen : Bool)
deriving DecidableEq, Repr

/-- The Flash Port's state. flagByNow: the suspension in progress is what set "erase suspended", which was clear (R170; log
entry 57). -/
structure Flp where
  presence : Presence
  ident : Option (Byte × Byte × Byte)
  port : Port
  internalQ : List Txn
  lifQ : List Txn
  turn : Turn
  work : Option FlashWork
  locks : List Lock
  annWaiting : Option (Nat × Nat)
  image : ImageState
  settingsWork : Option SettingsWork
  flagByNow : Bool
deriving DecidableEq, Repr

/-- The whole state of the FC24. -/
structure State where
  cfg : Settings
  clock : Tick
  lif : Lif
  seq : Seq
  aud : Aud
  groups : Table 24 Group
  dbm : Dbm
  lgt : Lgt
  fda : Fda
  sup : Sup
  flags : Flags
  flp : Flp
  flash : Memory
  pins : Inputs
  fresh : Nat
  pending : List Instr
deriving DecidableEq, Repr

/-- No rule of the manual stops the machine, so no step ends in a fault. -/
inductive Fault where
deriving DecidableEq, Repr

/-- Why a command is refused. -/
inductive Refusal where
  /-- Raised by an arm of exec whose command has no meaning yet; no arm of this model raises it. Safe: the machine stops. -/
  | notModelled (mnemonic : String)
deriving DecidableEq, Repr

/-- The outcome of a step. -/
abbrev Outcome := Host.Outcome State Fault Refusal

/-! ## Reset -/

/-- The default group record of group g (R73). -/
def GroupRecord.default (g : Fin 24) : GroupRecord where
  configured := false
  address := g.val + 1
  curve := [⟨100, 250⟩, ⟨800, 1000⟩]
  leads := [⟨100, 1000⟩, ⟨800, 5000⟩]
  offLead := 1000
  maxHeight := 800
  rated := 10000
  exposure := 0
  rampUp := 200
  rampDown := 400
  closeSpeed := 150
  wetSpeed := 100
  stroke := 3000

/-- The default fixture record (R126). -/
def FixtureRecord.default : FixtureRecord where
  base := 0
  bound := none
  rated := 0
  dryCap := 255
  dryGrace := 0
  house := Quad.fill 0
  rescue := Quad.fill 255

/-- The default limit and hold of a channel (R142). -/
def CounterSettings.default (c : Fin 27) : CounterSettings :=
  if c.val = 0 then ⟨3, 2⟩ else if c.val = 1 then ⟨10, 10⟩ else if c.val = 26 then ⟨4, 6⟩ else ⟨6, 4⟩

/-- The defaults of the working settings (R175). -/
def Settings.default : Settings where
  groups := Table.ofFn GroupRecord.default
  fixtures := Table.fill 96 FixtureRecord.default
  zones := Table.fill 4 ⟨.mono, 1000, 0⟩
  wind := ⟨100, 1000, 0, [20, 40, 60, 80, 100, 130, 160], 10, 30, List.replicate 32 1000⟩
  level := ⟨5000, 1500, 800, 300⟩
  feeder := ⟨4000000, 250⟩
  counters := Table.ofFn CounterSettings.default
  window := 2
  options := ⟨1000, 0, 5, 3000⟩

/-- A service slot that follows nothing (R186). -/
def SlotRecord.empty : SlotRecord := ⟨.idle, 0, 0, .none, none, none⟩

/-- LIF after a reset (R186, R190, R192). -/
def Lif.reset : Lif where
  rx := .hunting
  inbox := []
  answers := []
  readPlace := none
  tx := none
  reports := []
  enable := 0x3F
  dropped := 0
  armSlot := SlotRecord.empty
  flashSlot := SlotRecord.empty
  settingsSlot := { SlotRecord.empty with status := .running }
  halted := false
  starting := true
  bitRate := 0
  lastReset := .powerOn

/-- A lane with no entries. -/
def Lane.empty {α : Type} : Lane α := ⟨[], 0⟩

/-- No lane entries (R17). -/
def Lanes.empty : Lanes := ⟨Table.fill 24 Lane.empty, Lane.empty, Lane.empty, Lane.empty⟩

/-- The load result "no load" (R17, R28). -/
def LoadResult.empty : LoadResult := ⟨.noLoad, .none, 0, List.replicate 16 0, none, none⟩

/-- SEQ after a reset (R17). -/
def Seq.reset : Seq where
  st := .idle
  slot := 0
  cues := []
  lanes := Lanes.empty
  duration := 0
  preroll := 0
  stopping := none
  load := none
  staleRead := false
  result := LoadResult.empty

/-- AUD after a reset (R69). -/
def Aud.reset : Aud where
  count := 0
  base := 0
  counting := false
  msDue := false
  bufA := none
  bufB := none
  chunk := none
  m := 960
  target := 960
  rundown := none
  stopFade := none
  muting := false
  gapLeft := none
  winFrames := 0
  winUnderruns := 0
  winNote := false
  clips := Table.fill 64 none
  copying := none
  copyQueue := []
  lines := Table.fill 4 []
  out := Table.fill 4 0

/-- A group after a reset: unconfigured, its fade record at 0 on the site clock (R75, R89). -/
def Group.reset : Group where
  interlock := none
  cause := .none
  stroke := none
  fade := ⟨0, 0, .onSite 0, 0⟩
  sent := 0
  c0 := 0
  valve := .close
  figs := ⟨0, 0, 0, 0, 0, 0⟩
  target := 0
  starved := false
  reply := none
  computed := none

/-- DBM after a reset (R111). -/
def Dbm.reset : Dbm where
  schedule := []
  poll := none
  accountUs := 0
  cycleWindow := 2
  rotation := 1
  seqs := Table.fill 31 0
  last := Table.fill 31 none
  busOut := []

/-- A fixture after a reset (R141). -/
def Fixture.reset : Fixture where
  fade := ⟨Quad.fill 0, Quad.fill 0, .onSite 0, 0⟩
  latch := none
  dryStart := none
  capped := false
  out := Quad.fill 0

/-- LGT after a reset (R141). -/
def Lgt.reset : Lgt := ⟨Table.fill 96 Fixture.reset, 0, []⟩

/-- FDA after a reset (R122). -/
def Fda.reset : Fda := ⟨1000000, 0, 1000, 4000000, Table.fill 24 0, 1000⟩

/-- A channel after a reset (R161). -/
def Channel.reset : Channel := ⟨0, true, false, none⟩

/-- No cause latched. -/
def Causes.none : Causes := ⟨false, false, false⟩

/-- SUP after a power-on with no input active (R161): the band is forced to 7 and the level state is LOW, so the site is
RESTRICTED. -/
def Sup.reset : Sup where
  channels := Table.fill 27 Channel.reset
  anemo := 0
  prevAnemo := 0
  winds := []
  gates := 0
  stillRun := 0
  calm := 0
  band := 7
  currents := []
  average := 0
  level := 0
  measured := .low
  causes := Causes.none
  mode := .restricted
  permit := false
  startMark := false
  dropTimer := none
  tripLog := []
  siteDue := false

/-- The flag banks after a reset: clear, then "wind forced" (bit 0) and "level low" (bit 1) of SITE set (R161). -/
def Flags.reset : Flags := ⟨0, 0, 0, 0, 3, 0⟩

/-- FLP after a reset (R179). -/
def Flp.reset : Flp where
  presence := .unidentified
  ident := none
  port := .resetting
  internalQ := []
  lifQ := []
  turn := .internal
  work := none
  locks := []
  annWaiting := none
  image := .blank
  settingsWork := none
  flagByNow := false

/-- The machine right after a power-on with no trip input active, the straps open and an erased flash. -/
def State.reset : State where
  cfg := Settings.default
  clock := 0
  lif := Lif.reset
  seq := Seq.reset
  aud := Aud.reset
  groups := Table.fill 24 Group.reset
  dbm := Dbm.reset
  lgt := Lgt.reset
  fda := Fda.reset
  sup := Sup.reset
  flags := Flags.reset
  flp := Flp.reset
  flash := []
  pins := ⟨false, false, false⟩
  fresh := 0
  pending := []

end Sys2Proof.Machine
end

