-- ==== Sys2Proof/Machine/Bytes.lean ====
section
/-! DEFINITION. Bytes and numbers (R193: low byte first), the three check values of 11 section 11.2, and the value codes of
11 section 11.3.1. -/

namespace Sys2Proof.Machine

/-! ## Numbers, low byte first (R193) -/

/-- A number as one byte. -/
def byte1 (n : Nat) : List Byte := [BitVec.ofNat 8 n]

/-- A number as two bytes, low byte first. -/
def byte2 (n : Nat) : List Byte := [BitVec.ofNat 8 n, BitVec.ofNat 8 (n / 256)]

/-- A number as four bytes, low byte first. -/
def byte4 (n : Nat) : List Byte :=
  [BitVec.ofNat 8 n, BitVec.ofNat 8 (n / 256), BitVec.ofNat 8 (n / 65536), BitVec.ofNat 8 (n / 16777216)]

/-- A signed number as four bytes of two's complement. -/
def byte4s (i : Int) : List Byte := byte4 (BitVec.ofInt 32 i).toNat

/-- 1 for yes, 0 for no. -/
def byteYes (b : Bool) : List Byte := [if b then 1 else 0]

/-- An optional field of len bytes: the presence byte, then the field, or zeros where it is absent. -/
def optField (len : Nat) : Option (List Byte) → List Byte
  | some bs => 1 :: bs
  | none => 0 :: List.replicate len 0

/-- The byte at position i of a payload; past the end 0. -/
def u8 (p : List Byte) (i : Nat) : Nat := (p.getD i 0).toNat

/-- The two-byte number at position i. -/
def u16 (p : List Byte) (i : Nat) : Nat := u8 p i + 256 * u8 p (i + 1)

/-- The three-byte number at position i, for a group set. -/
def u24 (p : List Byte) (i : Nat) : Nat := u16 p i + 65536 * u8 p (i + 2)

/-- The four-byte number at position i. -/
def u32 (p : List Byte) (i : Nat) : Nat := u16 p i + 65536 * u16 p (i + 2)

/-- The colour in the four bytes at position i. -/
def colourAt (p : List Byte) (i : Nat) : Colour := ⟨p.getD i 0, p.getD (i + 1) 0, p.getD (i + 2) 0, p.getD (i + 3) 0⟩

/-! ## Check values -/

/-- Repeat f n times. -/
def times {α : Type} (f : α → α) : Nat → α → α
  | 0, a => a
  | n + 1, a => times f n (f a)

/-- One bit of the CRC-8: polynomial 0x07, most significant bit first. -/
def crc8Bit (c : BitVec 8) : BitVec 8 := if c.msb then (c <<< 1) ^^^ 0x07#8 else c <<< 1

/-- The CRC-8 of the drive bus. -/
def crc8 (bs : List Byte) : BitVec 8 := bs.foldl (fun c b => times crc8Bit 8 (c ^^^ b)) 0x00#8

/-- One bit of the CRC-16: polynomial 0x1021, most significant bit first. -/
def crc16Bit (c : BitVec 16) : BitVec 16 := if c.msb then (c <<< 1) ^^^ 0x1021#16 else c <<< 1

/-- The CRC-16 of the show link. -/
def crc16 (bs : List Byte) : BitVec 16 :=
  bs.foldl (fun c b => times crc16Bit 8 (c ^^^ ((b.setWidth 16 : BitVec 16) <<< (8 : Nat)))) 0xFFFF#16

/-- One bit of the CRC-32: polynomial 0x04C11DB7 taken least significant bit first, 0xEDB88320. -/
def crc32Bit (c : BitVec 32) : BitVec 32 := if c.getLsbD 0 then (c >>> 1) ^^^ 0xEDB88320#32 else c >>> 1

/-- The CRC-32 of show cues and the settings image. -/
def crc32 (bs : List Byte) : BitVec 32 :=
  (bs.foldl (fun c b => times crc32Bit 8 (c ^^^ (b.setWidth 32 : BitVec 32))) 0xFFFFFFFF#32) ^^^ 0xFFFFFFFF#32

/-! ## Codes, each enumeration from 0 upward in the order listed -/

/-- The code of a status. -/
def Status.code : Status → Nat
  | .ok => 0 | .accepted => 1 | .busy => 2 | .unknownKind => 3 | .badLength => 4 | .outOfRange => 5
  | .wrongState => 6 | .showActive => 7 | .tripped => 8 | .halted => 9 | .levelDry => 10 | .inputActive => 11
  | .locked => 12 | .outOfRegion => 13 | .noFlash => 14 | .delayPool => 15 | .duplicate => 16 | .slotOverlap => 17
  | .conflict => 18

/-- The code of a failure. -/
def Failure.code : Failure → Nat
  | .none => 0 | .badCheck => 1 | .badOrder => 2 | .badKind => 3 | .badGroup => 4 | .badFixture => 5 | .noClip => 6
  | .laneFull => 7 | .conflict => 8 | .aborted => 9 | .tripped => 10 | .flashTimeout => 11

/-- The code of a show state. -/
def ShowState.code : ShowState → Nat
  | .idle => 0 | .loading => 1 | .armed => 2 | .running => 3 | .held => 4 | .stopping => 5

/-- The code of an end reason. -/
def EndReason.code : EndReason → Nat
  | .stop => 0 | .ended => 1 | .duration => 2 | .dry => 3 | .trip => 4 | .halt => 5 | .disarm => 6 | .load => 7

/-- The code of an interlock state. -/
def Interlock.code : Interlock → Nat
  | .shut => 0 | .opening => 1 | .running => 2 | .closing => 3 | .fault => 4 | .lost => 5

/-- The code of a fault cause. -/
def FaultCause.code : FaultCause → Nat
  | .none => 0 | .strokeTimeout => 1 | .driveTrip => 2 | .switchConflict => 3

/-- The code of a poll outcome. -/
def PollOutcome.code : PollOutcome → Nat
  | .good => 0 | .noReply => 1 | .badCheck => 2 | .wrongAddr => 3 | .badSeq => 4

/-- The code of a valve command. -/
def Valve.code : Valve → Nat
  | .close => 0 | .openUp => 1 | .hold => 2

/-- The code of a drive state. -/
def DriveState.code : DriveState → Nat
  | .ready => 0 | .run => 1 | .trip => 2

/-- The code of a level state. -/
def LevelState.code : LevelState → Nat
  | .normal => 0 | .low => 1 | .dry => 2

/-- The code of a site mode. -/
def SiteMode.code : SiteMode → Nat
  | .normal => 0 | .restricted => 1 | .tripped => 2

/-- The code of a validity: VALID 0, INVALID 1. -/
def validityCode (valid : Bool) : Nat := if valid then 0 else 1

/-- The code of a fade clock: show 0, site 1. -/
def FadeClock.code : FadeClock → Nat
  | .showClock => 0 | .siteClock => 1

/-- The code of a latch origin. -/
def LatchOrigin.code : LatchOrigin → Nat
  | .fromShow => 0 | .direct => 1 | .house => 2

/-- The code of a zone source. -/
def ZoneSource.code : ZoneSource → Nat
  | .left => 0 | .right => 1 | .mono => 2

/-- The zone source of a code. -/
def ZoneSource.ofCode : Nat → Option ZoneSource
  | 0 => some .left
  | 1 => some .right
  | 2 => some .mono
  | _ => none

/-- The region of a code. -/
def Region.ofCode : Nat → Option Region
  | 0 => some .settings
  | 1 => some .shows
  | 2 => some .clips
  | _ => none

/-- The code of a service slot. -/
def ServiceSlot.code : ServiceSlot → Nat
  | .arm => 0 | .flash => 1 | .settings => 2

/-- The code of a slot status. -/
def SlotStatus.code : SlotStatus → Nat
  | .idle => 0 | .queued => 1 | .running => 2 | .done => 3 | .failed => 4

/-- The code of an image state. -/
def ImageState.code : ImageState → Nat
  | .blank => 0 | .bad => 1 | .loaded => 2 | .modified => 3

/-- The code of a reset kind. -/
def ResetKind.code : ResetKind → Nat
  | .powerOn => 0 | .pinReset => 1 | .release => 2

/-- The code of a load outcome. -/
def LoadOutcome.code : LoadOutcome → Nat
  | .noLoad => 0 | .done => 1 | .failed => 2

/-- The code of a read outcome. -/
def readOutcomeCode : ReadOutcome → Nat
  | .good => 0 | .timeout => 1

/-- A drive state from its code; the code 3 is taken as TRIP (R193). -/
def DriveState.ofCode : Nat → DriveState
  | 0 => .ready
  | 1 => .run
  | _ => .trip

/-! ## Small encodings shared by messages -/

/-- A group set as 3 bytes, bit n for Gn. -/
def groupSetBytes (set : BitVec 24) : List Byte := (byte4 set.toNat).take 3

/-- A trip cause set: bit 0 ESTOP, bit 1 INTR_A, bit 2 INTR_B. -/
def Causes.byte (c : Causes) : List Byte :=
  byte1 ((if c.estop then 1 else 0) + (if c.intrA then 2 else 0) + (if c.intrB then 4 else 0))

/-- The start time of a fade record as 4 bytes, signed on the show clock. -/
def FadeTime.bytes : FadeTime → List Byte
  | .onShow t => byte4s t
  | .onSite t => byte4 t.toNat

/-- The clock of a fade record. -/
def FadeTime.clock : FadeTime → FadeClock
  | .onShow _ => .showClock
  | .onSite _ => .siteClock

/-- A service slot record of GET_SERVICE, 9 bytes (11 section 11.4.2). -/
def SlotRecord.bytes (r : SlotRecord) : List Byte :=
  byte1 r.status.code ++ [r.kind, r.tag] ++ byte1 r.failure.code ++ optField 2 (r.cueIndex.map byte2)
    ++ optField 1 (r.imageFound.map fun i => byte1 i.code)

/-- The kind byte of a report (11 section 11.5). -/
def Report.kind : Report → Byte
  | .ready .. => 0xE0
  | .showState .. => 0xE1
  | .mark .. => 0xE2
  | .serviceDone .. => 0xE3
  | .trip .. => 0xE4
  | .groupState .. => 0xE5
  | .validity .. => 0xE6
  | .site .. => 0xE7

/-- The 2-byte gust field of the SITE report and of GET_STATUS; what it carries for a gust that two bytes cannot hold the manual
does not give (R155, R187; log entry 55). -/
def gustBytes (gust : Nat) : List Byte := byte2 (if gust ≤ 65535 then gust else Config.gustField gust)

/-- The payload of a report (11 section 11.5). -/
def Report.payload : Report → List Byte
  | .ready kind image present => byte1 kind.code ++ byte1 image.code ++ byteYes present
  | .showState st slot time reason =>
      byte1 st.code ++ optField 1 (slot.map byte1) ++ optField 4 (time.map byte4s)
        ++ optField 1 (reason.map fun r => byte1 r.code)
  | .mark marker cueIndex time => byte2 marker ++ byte2 cueIndex ++ byte4s time
  | .serviceDone slot record => byte1 slot.code ++ record.bytes
  | .trip causes added clock => causes.byte ++ byteYes added ++ byte4 clock.toNat
  | .groupState g left entered cause starved sent actual code =>
      byte1 g.val ++ optField 1 (left.map fun i => byte1 i.code) ++ byte1 entered.code ++ byte1 cause.code
        ++ byteYes starved ++ byte2 sent ++ byte2 actual ++ optField 1 (code.map fun b => [b])
  | .validity channel valid counter fatal =>
      byte1 channel.val ++ byte1 (validityCode valid) ++ byte1 counter ++ byteYes fatal
  | .site band gust level mm mode permit =>
      byte1 band ++ gustBytes gust ++ byte1 level.code ++ byte2 mm ++ byte1 mode.code ++ byteYes permit

/-- A frame of the show link (11 section 11.3): start byte, length, tag, kind, payload, CRC-16. -/
def linkFrame (tag kind : Byte) (payload : List Byte) : List Byte :=
  let body := byte2 payload.length ++ [tag, kind] ++ payload
  0xC3 :: body ++ byte2 (crc16 body).toNat

/-- The frame of an answer: its kind is the request's plus 0x80 modulo 256, its first payload byte the status, and result fields
follow only OK and ACCEPTED (R183). -/
def Answer.frame (a : Answer) : List Byte :=
  linkFrame a.tag (a.kind + 0x80)
    (byte1 a.status.code ++ (if a.status = .ok ∨ a.status = .accepted then a.fields else []))

/-- The frame of a report: tag 0 (R185). -/
def Report.frame (r : Report) : List Byte := linkFrame 0 r.kind r.payload

/-- The bytes of the frame the transmitter is sending. -/
def Sending.frame : Sending → List Byte
  | .answer (.reply a) => a.frame
  | .answer (.busy a) => a.frame
  | .report r => r.frame

end Sys2Proof.Machine
end

