-- ==== Sys2Proof/Machine/Flags.lean ====
section
/-! DEFINITION. The flag banks (R159, R160; 11 section 11.6): every flag's bank and bit, setting, reading and the cluster word. -/

namespace Sys2Proof.Machine

/-- The bank of a flag (R159). -/
def Flag.bank : Flag → Bank
  | .parity | .framing | .gapTimeout | .badCrc | .inboxBusy | .reportsDropped => .link
  | .loadFailed | .compressedCues | .overtaken | .clipReplaced | .lightOvertaken => .showBank
  | .strokeTimeout | .driveTrip | .switchConflict | .groupLost | .budgetLimited | .heightClamped | .busFault => .water
  | .dryCapActive | .lightScaled => .light
  | .windForced | .levelLow | .levelDry | .intrusion | .estop | .audioDegraded => .site
  | .timeout | .lockedRefusal | .eraseSuspended | .settingsBad => .flash

/-- The bit of a flag in its bank (11 section 11.6). -/
def Flag.bit : Flag → Nat
  | .parity => 0 | .framing => 1 | .gapTimeout => 2 | .badCrc => 3 | .inboxBusy => 4 | .reportsDropped => 5
  | .loadFailed => 0 | .compressedCues => 1 | .overtaken => 2 | .clipReplaced => 3 | .lightOvertaken => 4
  | .strokeTimeout => 0 | .driveTrip => 1 | .switchConflict => 2 | .groupLost => 3 | .budgetLimited => 4
  | .heightClamped => 5 | .busFault => 6
  | .dryCapActive => 0 | .lightScaled => 1
  | .windForced => 0 | .levelLow => 1 | .levelDry => 2 | .intrusion => 3 | .estop => 4 | .audioDegraded => 5
  | .timeout => 0 | .lockedRefusal => 1 | .eraseSuspended => 2 | .settingsBad => 3

/-- The flag's place as a mask over its bank. -/
def Flag.mask (f : Flag) : Byte := (1 : Byte) <<< f.bit

/-- A bank as one byte. -/
def Flags.read (fs : Flags) : Bank → Byte
  | .link => fs.link
  | .showBank => fs.showBank
  | .water => fs.water
  | .light => fs.light
  | .site => fs.site
  | .flash => fs.flash

/-- The banks with one of them replaced. -/
def Flags.write (fs : Flags) (b : Bank) (v : Byte) : Flags :=
  match b with
  | .link => { fs with link := v }
  | .showBank => { fs with showBank := v }
  | .water => { fs with water := v }
  | .light => { fs with light := v }
  | .site => { fs with site := v }
  | .flash => { fs with flash := v }

/-- Whether a flag is set. -/
def Flags.has (fs : Flags) (f : Flag) : Bool := (fs.read f.bank).getLsbD f.bit

/-- The flag set; a flag already set stays set (R159). -/
def Flags.raise (fs : Flags) (f : Flag) : Flags := fs.write f.bank (fs.read f.bank ||| f.mask)

/-- The flag clear. -/
def Flags.lower (fs : Flags) (f : Flag) : Flags := fs.write f.bank (fs.read f.bank &&& ~~~f.mask)

/-- The flag set where the condition holds. -/
def Flags.raiseIf (fs : Flags) (c : Bool) (f : Flag) : Flags := if c then fs.raise f else fs

/-- The banks in the order of their bits in the cluster word and the bank set (11 section 11.6). -/
def Bank.all : List Bank := [.link, .showBank, .water, .light, .site, .flash]

/-- The bit of a bank in the cluster word and the bank set. -/
def Bank.bit : Bank → Nat
  | .link => 0
  | .showBank => 1
  | .water => 2
  | .light => 3
  | .site => 4
  | .flash => 5

/-- The cluster word: one bit per bank, set while any flag of the bank is set (R160). -/
def Flags.cluster (fs : Flags) : Byte :=
  Bank.all.foldl (fun w b => if fs.read b = 0 then w else w ||| ((1 : Byte) <<< b.bit)) 0

/-! ## Conditions behind the condition flags -/

/-- The effective level state: LOW while the LEVEL channel is INVALID, and the measured state otherwise (R152). -/
def Sup.effective (u : Sup) : LevelState := if (u.channels.get 1).valid then u.measured else .low

/-- The band is forced: until three gates have passed since a reset, and while the WIND channel is INVALID (R148). -/
def Sup.forced (u : Sup) : Bool := decide (u.gates < 3) || !(u.channels.get 0).valid

/-- The SITE bank's condition flags that are present now (R148, R152). -/
def Sup.presentMask (u : Sup) : Byte :=
  (if u.forced then Flag.mask .windForced else 0)
    ||| (if u.effective = .low then Flag.mask .levelLow else 0)
    ||| (if u.effective = .dry then Flag.mask .levelDry else 0)

/-- The LIGHT bank's condition flags that are present now (R115, R132). -/
def Lgt.presentMask (l : Lgt) (kL : Nat) : Byte :=
  (if l.fixtures.cells.any (·.capped) then Flag.mask .dryCapActive else 0)
    ||| (if kL < 1000 then Flag.mask .lightScaled else 0)

/-- What a read leaves of a bank: the condition flags that are set and whose condition is present now; event flags and
absent condition flags are cleared (R160). -/
def State.bankAfterRead (s : State) (b : Bank) : Byte :=
  match b with
  | .light => s.flags.light &&& s.lgt.presentMask s.fda.kL
  | .site => s.flags.site &&& s.sup.presentMask
  | .link | .showBank | .water | .flash => 0

/-- The banks after a READ_FLAGS that names the banks of a set; banks not named are untouched (R160). -/
def State.flagsAfterRead (s : State) (named : Byte) : Flags :=
  Bank.all.foldl (fun fs b => if named.getLsbD b.bit then fs.write b (s.bankAfterRead b) else fs) s.flags

/-- The condition flags of the SITE bank set where their conditions are judged present (R159). -/
def Flags.judgeSite (fs : Flags) (u : Sup) : Flags := { fs with site := fs.site ||| u.presentMask }

end Sys2Proof.Machine
end

