-- ==== Sys2Proof/Machine/Ops.lean ====
section
/-! DEFINITION. Shared operations: the flash device's memory, reports and answers at the link, show time, fades and point tables. -/

namespace Sys2Proof.Machine

/-! ## The flash device's bytes (R164 to R167) -/

/-- What an unlisted address reads as: an erased byte (R1, R13; log entry 4). -/
def erasedByte : Byte := 0xFF

/-- The byte at an address. -/
def Memory.read : Memory → Nat → Byte
  | [], _ => erasedByte
  | (a, b) :: m, x => if a = x then b else Memory.read m x

/-- The memory with one byte replaced, in canonical form. -/
def Memory.write : Memory → Nat → Byte → Memory
  | [], x, v => if v = erasedByte then [] else [(x, v)]
  | (a, b) :: m, x, v =>
      if x < a then (if v = erasedByte then (a, b) :: m else (x, v) :: (a, b) :: m)
      else if x = a then (if v = erasedByte then m else (a, v) :: m)
      else (a, b) :: Memory.write m x v

/-- The n bytes from an address on. -/
def Memory.readBytes (m : Memory) (a n : Nat) : List Byte := (List.range n).map fun i => Memory.read m (a + i)

/-- A page program: each byte becomes the bitwise AND of the byte held and the byte written (R165). -/
def Memory.program : Memory → Nat → List Byte → Memory
  | m, _, [] => m
  | m, a, d :: ds => Memory.program (Memory.write m a (Memory.read m a &&& d)) (a + 1) ds

/-- An erase: every byte of the extent reads 0xFF (R166). -/
def Memory.erase (m : Memory) (a n : Nat) : Memory := m.filter fun c => !(decide (a ≤ c.1) && decide (c.1 < a + n))

/-- An erase that has got part of the way: each byte of the extent has some more of its bits set (R164, R167). -/
def Memory.partErase (m : Memory) (a n : Nat) (mask : Nat → Byte) : Memory :=
  m.filterMap fun c =>
    if a ≤ c.1 ∧ c.1 < a + n then
      (if c.2 ||| mask c.1 = erasedByte then none else some (c.1, c.2 ||| mask c.1))
    else some c

/-- A page program that has got part of the way: each byte has some of the bits cleared that the program clears
(R165, R167). -/
def Memory.partProgram : Memory → Nat → List Byte → (Nat → Byte) → Memory
  | m, _, [], _ => m
  | m, a, d :: ds, mask =>
      Memory.partProgram (Memory.write m a (Memory.read m a &&& (d ||| mask a))) (a + 1) ds mask

/-- The canonical form from an address on: addresses strictly rising, no entry equal to what an unlisted address reads as. -/
def Memory.wfFrom : Nat → Memory → Bool
  | _, [] => true
  | lo, (a, b) :: m => decide (lo ≤ a) && decide (b ≠ erasedByte) && Memory.wfFrom (a + 1) m

/-- The memory is in canonical form. -/
def Memory.wf (m : Memory) : Bool := Memory.wfFrom 0 m

/-! ## Regions (R163) -/

/-- The device address at which a region starts. -/
def Region.base : Region → Nat
  | .settings => 0x0000000
  | .shows => 0x0010000
  | .clips => 0x0110000

/-- The size of a region in bytes. -/
def Region.size : Region → Nat
  | .settings => 0x10000
  | .shows => 0x100000
  | .clips => 0xFEF0000

/-! ## Reports (R185) -/

/-- The category of a report; READY belongs to none. -/
def Report.category : Report → Option Category
  | .ready .. => none
  | .showState .. => some .showCat
  | .mark .. => some .mark
  | .serviceDone .. => some .service
  | .trip .. => some .site
  | .groupState .. => some .water
  | .validity .. => some .site
  | .site .. => some .site

/-- The bit of a category in the enable set (11 section 11.4.2, SET_REPORTS). -/
def Category.bit : Category → Nat
  | .showCat => 0
  | .water => 1
  | .light => 2
  | .site => 3
  | .service => 4
  | .mark => 5

/-- Whether a report is made at all: its category is enabled, or it is READY. -/
def Lif.makes (l : Lif) (r : Report) : Bool :=
  match r.category with
  | none => true
  | some c => l.enable.getLsbD c.bit

/-- Whether a report that is made finds the queue full. -/
def Lif.drops (l : Lif) (r : Report) : Bool := l.makes r && decide (16 ≤ l.reports.length)

/-- The report joins the queue, or is dropped and counted; the count stays at 65,535 once reached. -/
def Lif.withReport (l : Lif) (r : Report) : Lif :=
  if l.makes r then
    if 16 ≤ l.reports.length then { l with dropped := min 65535 (l.dropped + 1) }
    else { l with reports := l.reports ++ [r] }
  else l

/-- Make a report (R185). -/
def State.report (s : State) (r : Report) : State :=
  { s with lif := s.lif.withReport r, flags := s.flags.raiseIf (s.lif.drops r) .reportsDropped }

/-- Set a flag. -/
def State.flag (s : State) (f : Flag) : State := { s with flags := s.flags.raise f }

/-- Set a flag where a condition holds. -/
def State.flagIf (s : State) (c : Bool) (f : Flag) : State := { s with flags := s.flags.raiseIf c f }

/-! ## Answers and the transmitter (R181, R183, R184) -/

/-- The answer of a waiting entry. -/
def Waiting.answer : Waiting → Answer
  | .reply a => a
  | .busy a => a

/-- A waiting entry or a frame being sent that holds a reply place. -/
def Waiting.isReply : Waiting → Bool
  | .reply _ => true
  | .busy _ => false

/-- The reply places in use: filled ones, the one being sent, and the read place (R183, R184). -/
def Lif.placesUsed (l : Lif) : Nat :=
  (l.answers.filter (·.isReply)).length
    + (match l.tx with | some (.answer (.reply _)) => 1 | _ => 0)
    + (match l.readPlace with | some _ => 1 | none => 0)

/-- The BUSY list entries in use (R181, R184). -/
def Lif.busyUsed (l : Lif) : Nat :=
  (l.answers.filter (fun w => !w.isReply)).length
    + (match l.tx with | some (.answer (.busy _)) => 1 | _ => 0)

/-- Fill a reply place with an answer, as the newest of the waiting answers. -/
def State.reply (s : State) (tag kind : Byte) (status : Status) (fields : List Byte) : State :=
  { s with lif := { s.lif with answers := s.lif.answers ++ [.reply ⟨tag, kind, status, fields⟩] } }

/-- Whenever the line is free the transmitter takes the oldest answer, or else the oldest report (R184). -/
def Lif.kick (l : Lif) : Lif :=
  match l.tx with
  | some _ => l
  | none =>
    match l.answers with
    | w :: rest => { l with tx := some (.answer w), answers := rest }
    | [] =>
      match l.reports with
      | r :: rest => { l with tx := some (.report r), reports := rest }
      | [] => l

/-- The transmitter's choice at the end of a step. -/
def State.kick (s : State) : State := { s with lif := s.lif.kick }

/-! ## Service slots (R186) -/

/-- The record of a slot. -/
def Lif.slot (l : Lif) : ServiceSlot → SlotRecord
  | .arm => l.armSlot
  | .flash => l.flashSlot
  | .settings => l.settingsSlot

/-- LIF with a slot's record replaced. -/
def Lif.withSlot (l : Lif) (k : ServiceSlot) (r : SlotRecord) : Lif :=
  match k with
  | .arm => { l with armSlot := r }
  | .flash => { l with flashSlot := r }
  | .settings => { l with settingsSlot := r }

/-- A slot that is QUEUED or RUNNING. -/
def SlotRecord.active (r : SlotRecord) : Bool := decide (r.status = .queued) || decide (r.status = .running)

/-- A service is accepted: the slot takes the request's kind and tag and drops its outcome. -/
def State.beginService (s : State) (k : ServiceSlot) (st : SlotStatus) (kind tag : Byte) : State :=
  { s with lif := s.lif.withSlot k ⟨st, kind, tag, .none, none, none⟩ }

/-- A service ends: DONE, or FAILED with its code, with the cue index and the image state found where there is one;
SERVICE_DONE is sent. -/
def State.endService (s : State) (k : ServiceSlot) (failure : Failure) (cue : Option Nat) (image : Option ImageState) :
    State :=
  let r : SlotRecord :=
    { s.lif.slot k with
      status := if failure = .none then .done else .failed, failure := failure, cueIndex := cue, imageFound := image }
  State.report { s with lif := s.lif.withSlot k r } (.serviceDone k r)

/-! ## Show time (R45) -/

/-- Show time, in RUNNING, HELD and STOPPING: the base plus floor(count / 48). -/
def State.showTime (s : State) : Option Int :=
  match s.seq.st with
  | .running | .held | .stopping => some (s.aud.base + ((s.aud.count / 48 : Nat) : Int))
  | .idle | .loading | .armed => none

/-- The slot as SHOW_STATE and GET_STATUS carry it: present in every state except IDLE (R16). -/
def State.showSlot (s : State) : Option Nat := if s.seq.st = .idle then none else some s.seq.slot

/-- The SHOW_STATE report of the present show state (R16). -/
def State.sayShow (s : State) (reason : Option EndReason) : State :=
  s.report (.showState s.seq.st s.showSlot s.showTime reason)

/-! ## Fades (R74, R127) -/

/-- The value of a fade: start + (target - start) x elapsed / duration truncating toward zero, then the target. -/
def fadeValue (start target elapsed dur : Int) : Int :=
  if elapsed < dur then start + ((target - start) * elapsed).tdiv dur else target

/-- The time elapsed since a fade began: by show time, or (now - start) mod 2^32 on the site clock; none where the fade
runs on the show clock and there is no show time. -/
def FadeTime.elapsed (began : FadeTime) (showNow : Option Int) (now : Tick) : Option Int :=
  match began with
  | .onShow t => showNow.map fun n => n - t
  | .onSite t => some ((now - t).toNat : Int)

/-- The present value of a fade; with no show time to read it gives its target. -/
def fadeNow (start target : Nat) (began : FadeTime) (dur : Nat) (showNow : Option Int) (now : Tick) : Nat :=
  match began.elapsed showNow now with
  | none => target
  | some e => (fadeValue start target e dur).toNat

/-- A group's present faded height (R74). -/
def GroupFade.height (f : GroupFade) (showNow : Option Int) (now : Tick) : Nat :=
  fadeNow f.start f.target f.began f.dur showNow now

/-- The fade record of height 0 on the site clock that WTR writes (R75). -/
def GroupFade.zero (now : Tick) : GroupFade := ⟨0, 0, .onSite now, 0⟩

/-- A fixture's present levels (R127). -/
def FixtureFade.levels (f : FixtureFade) (showNow : Option Int) (now : Tick) : Levels :=
  Quad.zip (fun a b => fadeNow a b f.began f.dur showNow now) f.starts f.targets

/-- A bus-scale colour on the internal scale: 257 times each channel (R127). -/
def Colour.internal (c : Colour) : Levels := Quad.map (fun v : Byte => 257 * v.toNat) c

/-- Internal levels as bus values: floor(level / 256) (R127). -/
def Levels.bus (l : Levels) : Colour := Quad.map (fun x : Nat => BitVec.ofNat 8 (x / 256)) l

/-! ## Tables of points (R24, R80) -/

/-- Past the first point: between neighbouring points v_i + floor((x - h_i)(v_(i+1) - v_i) / (h_(i+1) - h_i)); at or above the
last point its value. Division of integers here is floor, its divisor being positive. -/
def interpFrom (x : Int) : Point → List Point → Int
  | p, [] => p.v
  | p, q :: rest =>
      if x < q.h then (p.v : Int) + ((x - p.h) * ((q.v : Int) - p.v)) / ((q.h : Int) - p.h)
      else interpFrom x q rest

/-- A table of points read at x: at or below the first point its value. -/
def interp (pts : List Point) (x : Int) : Int :=
  match pts with
  | [] => 0
  | p :: rest => if x ≤ p.h then p.v else interpFrom x p rest

/-! ## Small readers -/

/-- The group record of group g. -/
def State.groupRecord (s : State) (g : Fin 24) : GroupRecord := s.cfg.groups.get g

/-- The site mode is TRIPPED. -/
def State.isTripped (s : State) : Bool := decide (s.sup.mode = .tripped)

/-- The show state is IDLE. -/
def State.isIdle (s : State) : Bool := decide (s.seq.st = .idle)

/-- The level state is DRY as stage 3 judges it: DRY with the LEVEL channel VALID, which is the effective state DRY
(R79, R152). -/
def State.isDry (s : State) : Bool := decide (s.sup.effective = .dry)

/-- Do f for each group from G0 to G23, which is then the order of the reports of one event (log entry 70). -/
def State.eachGroup (s : State) (f : Fin 24 → State → State) : State := (List.finRange 24).foldl (fun t g => f g t) s

/-- Move on the counter that free values are applied to. -/
def State.tick (s : State) : State := { s with fresh := s.fresh + 1 }

end Sys2Proof.Machine
end

