-- ==== Sys2Proof/Machine/Operands.lean ====
section
/-! DEFINITION. The payloads of requests (11 section 11.4): each settings payload read into a record with its range checks, and
written back; a group payload's unused point positions are not read. -/

namespace Sys2Proof.Machine

/-- Neighbours in a list are related. -/
def chain {α : Type} (r : α → α → Bool) : List α → Bool
  | [] => true
  | [_] => true
  | a :: b :: rest => r a b && chain r (b :: rest)

/-- lo ≤ n ≤ hi. -/
def within (lo hi n : Nat) : Bool := decide (lo ≤ n) && decide (n ≤ hi)

/-! ## Group records (R70, R71) -/

/-- A height curve is accepted: 2..6 points, heights in 1..800 strictly increasing, speeds in 1..1000 not decreasing (R71). -/
def curveOk (pts : List Point) : Bool :=
  within 2 6 pts.length && pts.all (fun p => within 1 800 p.h && within 1 1000 p.v)
    && chain (fun p q => decide (p.h < q.h) && decide (p.v ≤ q.v)) pts

/-- A lead table is accepted: 2..4 points, heights in 1..800 strictly increasing, leads in 0..8000 (R71). -/
def leadsOk (pts : List Point) : Bool :=
  within 2 4 pts.length && pts.all (fun p => within 1 800 p.h && decide (p.v ≤ 8000))
    && chain (fun p q => decide (p.h < q.h)) pts

/-- Every field of a group record in its range, whether it says configured or not (R70, R72). -/
def GroupRecord.ok (r : GroupRecord) : Bool :=
  within 1 31 r.address && curveOk r.curve && leadsOk r.leads && decide (r.offLead ≤ 5000)
    && within 1 800 r.maxHeight && within 1 300000 r.rated && decide (r.exposure ≤ 3)
    && within 20 2000 r.rampUp && within 20 2000 r.rampDown && within 1 1000 r.closeSpeed
    && decide (r.wetSpeed ≤ 1000) && within 500 10000 r.stroke

/-- The leading n points of a point table that begins at a position. -/
def pointsAt (p : List Byte) (pos n : Nat) : List Point :=
  (List.range n).map fun i => ⟨u16 p (pos + 4 * i), u16 p (pos + 4 * i + 2)⟩

/-- The record of a SET_GROUP payload, or none where a field is outside its range (R72, R193). -/
def groupOf (p : List Byte) : Option GroupRecord :=
  let r : GroupRecord :=
    { configured := decide (u8 p 1 = 1), address := u8 p 2, curve := pointsAt p 4 (u8 p 3),
      leads := pointsAt p 29 (u8 p 28), offLead := u16 p 45, maxHeight := u16 p 47, rated := u32 p 49,
      exposure := u8 p 53, rampUp := u16 p 54, rampDown := u16 p 56, closeSpeed := u16 p 58, wetSpeed := u16 p 60,
      stroke := u16 p 62 }
  if u8 p 1 ≤ 1 ∧ within 2 6 (u8 p 3) = true ∧ within 2 4 (u8 p 28) = true ∧ r.ok = true then some r else none

/-- n point positions from a payload position on, the unused ones filled with free bytes. -/
def pointBytes (pts : List Point) (pos n : Nat) (unused : Nat → Byte) : List Byte :=
  (List.range n).flatMap fun i =>
    match pts[i]? with
    | some q => byte2 q.h ++ byte2 q.v
    | none => (List.range 4).map fun j => unused (pos + 4 * i + j)

/-- The SET_GROUP payload of a record (64 bytes). -/
def GroupRecord.bytes (g : Fin 24) (r : GroupRecord) (unused : Nat → Byte) : List Byte :=
  byte1 g.val ++ byteYes r.configured ++ byte1 r.address ++ byte1 r.curve.length ++ pointBytes r.curve 4 6 unused
    ++ byte1 r.leads.length ++ pointBytes r.leads 29 4 unused ++ byte2 r.offLead ++ byte2 r.maxHeight
    ++ byte4 r.rated ++ byte1 r.exposure ++ byte2 r.rampUp ++ byte2 r.rampDown ++ byte2 r.closeSpeed
    ++ byte2 r.wetSpeed ++ byte2 r.stroke

/-! ## Fixture records (R123) -/

/-- Every field of a fixture record in its range (R124). -/
def FixtureRecord.ok (r : FixtureRecord) : Bool :=
  decide (r.base ≤ 509) && decide (r.rated ≤ 2000) && decide (r.dryGrace ≤ 10000)

/-- The bound group of its byte: a group, or none for 0xFF; none of the two for any other value. -/
def boundOf (b : Nat) : Option (Option (Fin 24)) :=
  if h : b < 24 then some (some ⟨b, h⟩) else if b = 255 then some none else none

/-- The record of a SET_FIXTURE payload, or none where a field is outside its range (R124). -/
def fixtureOf (p : List Byte) : Option FixtureRecord :=
  match boundOf (u8 p 3) with
  | none => none
  | some bound =>
      let r : FixtureRecord :=
        { base := u16 p 1, bound := bound, rated := u16 p 4, dryCap := p.getD 6 0, dryGrace := u16 p 7,
          house := colourAt p 9, rescue := colourAt p 13 }
      if r.ok = true then some r else none

/-- The SET_FIXTURE payload of a record (17 bytes). -/
def FixtureRecord.bytes (f : Fin 96) (r : FixtureRecord) : List Byte :=
  byte1 f.val ++ byte2 r.base ++ byte1 (match r.bound with | some g => g.val | none => 255) ++ byte2 r.rated
    ++ [r.dryCap] ++ byte2 r.dryGrace ++ r.house.toList ++ r.rescue.toList

/-- Two records use a common lamp bus slot: both are assigned and their four-slot spans meet (R124). -/
def FixtureRecord.overlaps (p q : FixtureRecord) : Bool :=
  decide (p.base ≠ 0) && decide (q.base ≠ 0) && decide (p.base < q.base + 4) && decide (q.base < p.base + 4)

/-! ## Zones, wind, level, feeder, counters, drive bus, show options -/

/-- Every field of a zone record in its range (R60). -/
def ZoneRecord.ok (z : ZoneRecord) : Bool := decide (z.gain ≤ 1000) && decide (z.delay ≤ 250)

/-- The record of a SET_ZONE payload, or none where a field is outside its range (R60). -/
def zoneOf (p : List Byte) : Option ZoneRecord :=
  match ZoneSource.ofCode (u8 p 1) with
  | none => none
  | some src => let z : ZoneRecord := ⟨src, u16 p 2, u8 p 4⟩; if z.ok = true then some z else none

/-- The SET_ZONE payload of a record (5 bytes). -/
def ZoneRecord.bytes (i : Fin 4) (z : ZoneRecord) : List Byte :=
  byte1 i.val ++ byte1 z.source.code ++ byte2 z.gain ++ byte1 z.delay

/-- The samples of the delay pool that the zones' delays take (R61). -/
def poolTaken (zones : Table 4 ZoneRecord) : Nat := (zones.cells.map fun z => 48 * z.delay).sum

/-- The delay pool's size in samples (R61). -/
def poolSize : Nat := 24000

/-- The derate table's entry for an exposure class and a band (11 section 11.4.1). -/
def WindSettings.derateAt (w : WindSettings) (exposure band : Nat) : Nat := w.derate.getD (8 * exposure + band) 0

/-- A row of the derate table does not increase from one band to the next (R149). -/
def WindSettings.rowOk (w : WindSettings) (c : Nat) : Bool :=
  chain (fun a b => decide (b ≤ a)) ((List.range 8).map fun b => w.derateAt c b)

/-- The wind settings satisfy every condition of R149. -/
def WindSettings.ok (w : WindSettings) : Bool :=
  within 1 2000 w.factor && within 1 65535 w.plausible && decide (w.still ≤ 3600)
    && decide (w.thresholds.length = 7) && w.thresholds.all (within 1 2000) && decide (w.hysteresis ≤ 50)
    && within 5 300 w.calmHold && decide (w.derate.length = 32) && w.derate.all (fun d => decide (d ≤ 1000))
    && chain (fun a b => decide (a < b)) w.thresholds && decide (w.hysteresis < w.thresholds.headD 0)
    && (List.range 4).all w.rowOk

/-- The settings of a SET_WIND payload, or none where R149 refuses them. -/
def windOf (p : List Byte) : Option WindSettings :=
  let w : WindSettings :=
    { factor := u16 p 0, plausible := u16 p 2, still := u16 p 4,
      thresholds := (List.range 7).map fun i => u16 p (6 + 2 * i), hysteresis := u8 p 20, calmHold := u16 p 21,
      derate := (List.range 32).map fun i => u16 p (23 + 2 * i) }
  if w.ok = true then some w else none

/-- The SET_WIND payload of the settings (87 bytes). -/
def WindSettings.bytes (w : WindSettings) : List Byte :=
  byte2 w.factor ++ byte2 w.plausible ++ byte2 w.still ++ w.thresholds.flatMap byte2 ++ byte1 w.hysteresis
    ++ byte2 w.calmHold ++ w.derate.flatMap byte2

/-- The level settings satisfy every condition of R153. -/
def LevelSettings.ok (l : LevelSettings) : Bool :=
  within 500 10000 l.span && decide (l.lowCap ≤ 800) && decide (0 < l.dry) && decide (l.dry < l.low)
    && decide (l.low < l.span)

/-- The settings of a SET_LEVEL payload, or none where R153 refuses them. -/
def levelOf (p : List Byte) : Option LevelSettings :=
  let l : LevelSettings := ⟨u16 p 0, u16 p 2, u16 p 4, u16 p 6⟩
  if l.ok = true then some l else none

/-- The SET_LEVEL payload of the settings (8 bytes). -/
def LevelSettings.bytes (l : LevelSettings) : List Byte := byte2 l.span ++ byte2 l.low ++ byte2 l.dry ++ byte2 l.lowCap

/-- The feeder settings are in range (R113). -/
def FeederSettings.ok (f : FeederSettings) : Bool := decide (f.budget ≤ 4000000) && decide (f.share ≤ 1000)

/-- The settings of a SET_FEEDER payload, or none where a value is outside its range (R113). -/
def feederOf (p : List Byte) : Option FeederSettings :=
  let f : FeederSettings := ⟨u32 p 0, u16 p 4⟩
  if f.ok = true then some f else none

/-- The SET_FEEDER payload of the settings (6 bytes). -/
def FeederSettings.bytes (f : FeederSettings) : List Byte := byte4 f.budget ++ byte2 f.share

/-- A limit and a hold are in range (R145). -/
def CounterSettings.ok (c : CounterSettings) : Bool := within 1 200 c.limit && decide (c.hold ≤ 55)

/-- The limit and hold of a SET_COUNTER payload, or none where one is outside its range (R145). -/
def counterOf (p : List Byte) : Option CounterSettings :=
  let c : CounterSettings := ⟨u8 p 1, u8 p 2⟩
  if c.ok = true then some c else none

/-- The SET_COUNTER payload of a channel (3 bytes). -/
def CounterSettings.bytes (i : Fin 27) (c : CounterSettings) : List Byte := byte1 i.val ++ byte1 c.limit ++ byte1 c.hold

/-- The window of a SET_DRIVE_BUS payload, or none outside 1..10 (R110). -/
def windowOf (p : List Byte) : Option Nat := if within 1 10 (u8 p 0) = true then some (u8 p 0) else none

/-- The show options are in range (R189). -/
def ShowOptions.ok (o : ShowOptions) : Bool :=
  decide (o.masterGain ≤ 1000) && decide (o.annClip ≤ 64) && decide (o.gap ≤ 30) && decide (o.stopFade ≤ 10000)

/-- The options of a SET_SHOW_OPTIONS payload, or none where one is outside its range (R189). -/
def optionsOf (p : List Byte) : Option ShowOptions :=
  let o : ShowOptions := ⟨u16 p 0, u8 p 2, u8 p 3, u16 p 4⟩
  if o.ok = true then some o else none

/-- The SET_SHOW_OPTIONS payload of the options (6 bytes). -/
def ShowOptions.bytes (o : ShowOptions) : List Byte :=
  byte2 o.masterGain ++ byte1 o.annClip ++ byte1 o.gap ++ byte2 o.stopFade

/-! ## Checks between records (R72, R124, R175) -/

/-- Another configured group has this drive address (R72). -/
def addressTaken (groups : Table 24 GroupRecord) (g : Fin 24) (address : Nat) : Bool :=
  (List.finRange 24).any fun h =>
    decide (h ≠ g) && (groups.get h).configured && decide ((groups.get h).address = address)

/-- Another fixture's record overlaps this one (R124). -/
def slotTaken (fixtures : Table 96 FixtureRecord) (f : Fin 96) (r : FixtureRecord) : Bool :=
  (List.finRange 96).any fun h => decide (h ≠ f) && r.overlaps (fixtures.get h)

/-- The checks between records hold: no two configured groups share a drive address, no two assigned fixtures share a
slot, and the zone delays fit the pool (R175, step 7). -/
def Settings.consistent (c : Settings) : Bool :=
  (List.finRange 24).all (fun g => !((c.groups.get g).configured && addressTaken c.groups g (c.groups.get g).address))
    && (List.finRange 96).all (fun f => !slotTaken c.fixtures f (c.fixtures.get f))
    && decide (poolTaken c.zones ≤ poolSize)

end Sys2Proof.Machine
end

