-- ==== Sys2Proof/Machine/Stored.lean ====
section
/-! DEFINITION. The stored formats of 11 section 11.8: show header and cue records, clip directory, settings image. -/

namespace Sys2Proof.Machine

/-! ## Show header and cue records (R1 to R9) -/

/-- The length of a show header and of a cue record. -/
def headerLen : Nat := 28
def cueLen : Nat := 16

/-- The fields of a show header. -/
def headerOf (p : List Byte) : ShowHeader where
  version := u8 p 0
  showId := u8 p 1
  cueCount := u16 p 2
  duration := u32 p 4
  label := (List.range 16).map fun i => p.getD (8 + i) 0
  check := u32 p 24

/-- The load accepts the header of a slot (R2). -/
def ShowHeader.ok (h : ShowHeader) (slot : Nat) : Bool :=
  decide (h.version = 1) && decide (h.showId = slot) && within 1 3600000 h.duration && within 1 4096 h.cueCount

/-- What a cue record asks for, before any check; none for an unknown kind. A CLIP cue whose offset is absent has offset 0. -/
def cueActOf (p : List Byte) : Option CueAct :=
  match u8 p 4 with
  | 1 => some (.jet (BitVec.ofNat 24 (u24 p 5)) (u16 p 8) (u16 p 10))
  | 2 => some (.light (u8 p 5) (u8 p 6) (colourAt p 7) (u16 p 11))
  | 3 => some (.clip (u8 p 5) (if u8 p 6 = 0 then 0 else u32 p 7))
  | 4 => some (.mark (u16 p 5))
  | 5 => some .ended
  | _ => none

/-- The cue records of the bytes read, as many as the count gives. -/
def recordsOf (bytes : List Byte) : Nat → List (List Byte)
  | 0 => []
  | n + 1 => bytes.take cueLen :: recordsOf (bytes.drop cueLen) n

/-- The clamps of R6: heights above 800 dm to 800 dm, fades above 30,000 ms to 30,000 ms. -/
def CueAct.clamp : CueAct → CueAct
  | .jet g h f => .jet g (min 800 h) (min 30000 f)
  | .light a b c f => .light a b c (min 30000 f)
  | .clip id o => .clip id o
  | .mark n => .mark n
  | .ended => .ended

/-- How many fields the clamps of R6 change: each clamped field counts one. -/
def CueAct.clamps : CueAct → Nat
  | .jet _ h f => (if 800 < h then 1 else 0) + (if 30000 < f then 1 else 0)
  | .light _ _ _ f => if 30000 < f then 1 else 0
  | .clip _ _ => 0
  | .mark _ => 0
  | .ended => 0

/-! ## The clip directory (R10 to R12) -/

/-- The size of the CLIPS region, the bound of a clip's extent (R11). -/
def clipsSize : Nat := Region.size .clips

/-- The clip that the directory entry at a position names, with its id, where the entry is valid; none for an unused or an
invalid entry (R11). -/
def entryOf (sector : List Byte) (pos : Nat) : Option (Nat × Clip) :=
  let p := (sector.drop (64 * pos)).take 64
  let id := u16 p 0
  let c : Clip := ⟨u32 p 2, u32 p 6, u16 p 10⟩
  if within 1 64 id = true ∧ c.start % 4096 = 0 ∧ 4096 ≤ c.start ∧ 1 ≤ c.frames ∧ c.start + 4 * c.frames ≤ clipsSize
      ∧ c.gain ≤ 1000 ∧ (p.drop 12).all (fun b => decide (b = 0)) = true then some (id, c) else none

/-- The clip that the first valid entry in position order gives an id (R12). -/
def claimOf (entries : List (Option (Nat × Clip))) (id : Nat) : Option Clip :=
  match entries with
  | [] => none
  | some (i, c) :: rest => if i = id then some c else claimOf rest id
  | none :: rest => claimOf rest id

/-- The clip table settled from a directory sector (R11, R12, R14); entry i is clip id i + 1. -/
def settleDirectory (sector : List Byte) : Table 64 (Option Clip) :=
  let entries := (List.range 64).map (entryOf sector)
  Table.ofFn fun i => claimOf entries (i.val + 1)

/-- A look-up in the clip table; the ids 0 and above 64 name no clip (R8, R15). -/
def lookupClip (t : Table 64 (Option Clip)) (id : Nat) : Option Clip :=
  if h : id - 1 < 64 then (if id = 0 then none else t.get ⟨id - 1, h⟩) else none

/-! ## The settings image (R173, R175) -/

/-- A settings record: table id, index and content. -/
structure ImageRecord where
  table : Nat
  index : Nat
  content : List Byte
deriving DecidableEq, Repr

/-- The header word of the image. -/
def imageHeader : List Byte := [0x46, 0x43, 0x53, 0x01]

/-- The content length of a table and how many indices it has; none for an unknown table. -/
def imageTable : Nat → Option (Nat × Nat)
  | 1 => some (64, 24)
  | 2 => some (17, 96)
  | 3 => some (5, 4)
  | 4 => some (87, 1)
  | 5 => some (8, 1)
  | 6 => some (6, 1)
  | 7 => some (3, 27)
  | 8 => some (1, 1)
  | 9 => some (6, 1)
  | _ => none

/-- A record's index suits its table, and the number that a GROUP, FIXTURE, ZONE or COUNTER content names is its index (R193). -/
def indexOk (table index count : Nat) (content : List Byte) : Bool :=
  decide (index < count) && (!(decide (table ∈ [1, 2, 3, 7])) || decide (u8 content 0 = index))

/-- What reading the records of an image comes to: more bytes are needed, the image is damaged, or the records with the
number of bytes up to the end of the end record. -/
inductive ImageRead where
  | more
  | bad
  | records (rs : List ImageRecord) (used : Nat)
deriving DecidableEq, Repr

/-- Read records from the bytes after the header word; fuel bounds the number of records. -/
def readRecords : Nat → List Byte → Nat → List ImageRecord → ImageRead
  | 0, _, _, _ => .more
  | fuel + 1, bytes, used, acc =>
      if bytes.length < 4 then .more
      else
        let table := u8 bytes 0
        let index := u8 bytes 1
        let len := u16 bytes 2
        if table = 0 ∧ index = 0 ∧ len = 0 then .records acc.reverse (used + 4)
        else
          match imageTable table with
          | none => .bad
          | some (want, count) =>
              if len ≠ want then .bad
              else if bytes.length < 4 + len then .more
              else
                let content := (bytes.drop 4).take len
                if indexOk table index count content = true then
                  readRecords fuel (bytes.drop (4 + len)) (used + 4 + len) (⟨table, index, content⟩ :: acc)
                else .bad

/-- What judging the bytes read so far comes to (R175). -/
inductive Judged where
  | more
  | found (state : ImageState) (settings : Settings)
deriving DecidableEq, Repr

/-- Settings with one record taken over; none where a field is outside its range (R175, step 6). -/
def Settings.takeRecord (c : Settings) (r : ImageRecord) : Option Settings :=
  match r.table with
  | 1 => (groupOf r.content).bind fun x =>
      if h : r.index < 24 then some { c with groups := c.groups.set ⟨r.index, h⟩ x } else none
  | 2 => (fixtureOf r.content).bind fun x =>
      if h : r.index < 96 then some { c with fixtures := c.fixtures.set ⟨r.index, h⟩ x } else none
  | 3 => (zoneOf r.content).bind fun x =>
      if h : r.index < 4 then some { c with zones := c.zones.set ⟨r.index, h⟩ x } else none
  | 4 => (windOf r.content).map fun x => { c with wind := x }
  | 5 => (levelOf r.content).map fun x => { c with level := x }
  | 6 => (feederOf r.content).map fun x => { c with feeder := x }
  | 7 => (counterOf r.content).bind fun x =>
      if h : r.index < 27 then some { c with counters := c.counters.set ⟨r.index, h⟩ x } else none
  | 8 => (windowOf r.content).map fun x => { c with window := x }
  | 9 => (optionsOf r.content).map fun x => { c with options := x }
  | _ => none

/-- Settings with every record of a list taken over. -/
def Settings.takeRecords (c : Settings) : List ImageRecord → Option Settings
  | [] => some c
  | r :: rest => (c.takeRecord r).bind fun c' => c'.takeRecords rest

/-- No two records have the same table id and index (R175, step 5). -/
def noDuplicates : List ImageRecord → Bool
  | [] => true
  | r :: rest => rest.all (fun q => !(decide (q.table = r.table) && decide (q.index = r.index))) && noDuplicates rest

/-- A damaged or invalid image: BAD, with the default settings. -/
def judgedBad : Judged := .found .bad Settings.default

/-- Judge the bytes of the SETTINGS region read so far, from offset 0 (R175). -/
def judgeImage (bytes : List Byte) : Judged :=
  if (bytes.take 4).all (fun b => decide (b = 0xFF)) = true then .found .blank Settings.default
  else if bytes.take 4 ≠ imageHeader then judgedBad
  else
    let short := if Region.size .settings ≤ bytes.length then judgedBad else .more
    match readRecords bytes.length (bytes.drop 4) 4 [] with
    | .more => short
    | .bad => judgedBad
    | .records rs used =>
        if bytes.length < used + 4 then short
        else if u32 bytes used ≠ (crc32 (bytes.take used)).toNat then judgedBad
        else if noDuplicates rs = false then judgedBad
        else
          match Settings.default.takeRecords rs with
          | none => judgedBad
          | some c => if c.consistent = true then .found .loaded c else judgedBad

/-- A record of the image: table id, index, length, content. -/
def recordBytes (table index : Nat) (content : List Byte) : List Byte :=
  byte1 table ++ byte1 index ++ byte2 content.length ++ content

/-- The records SAVE_SETTINGS writes: one for every index of every table, in order (R173). -/
def Settings.recordBytes (c : Settings) (unused : Nat → Byte) : List Byte :=
  (List.finRange 24).flatMap (fun g =>
      Machine.recordBytes 1 g.val (GroupRecord.bytes g (c.groups.get g) fun i => unused (64 * g.val + i)))
    ++ (List.finRange 96).flatMap (fun f => Machine.recordBytes 2 f.val (FixtureRecord.bytes f (c.fixtures.get f)))
    ++ (List.finRange 4).flatMap (fun z => Machine.recordBytes 3 z.val (ZoneRecord.bytes z (c.zones.get z)))
    ++ Machine.recordBytes 4 0 c.wind.bytes ++ Machine.recordBytes 5 0 c.level.bytes
    ++ Machine.recordBytes 6 0 c.feeder.bytes
    ++ (List.finRange 27).flatMap (fun i => Machine.recordBytes 7 i.val (CounterSettings.bytes i (c.counters.get i)))
    ++ Machine.recordBytes 8 0 (byte1 c.window) ++ Machine.recordBytes 9 0 c.options.bytes

/-- The settings image: header word, records, end record, CRC-32 over all of that (R173). -/
def Settings.image (c : Settings) (unused : Nat → Byte) : List Byte :=
  let body := imageHeader ++ c.recordBytes unused ++ [0, 0, 0, 0]
  body ++ byte4 (crc32 body).toNat

end Sys2Proof.Machine
end

