-- ==== Sys2Proof/Machine/Feeder.lean ====
section
/-! DEFINITION. FDA: the light cap and scale, the water allowance, demand speeds and the water scale (06, R112 to R122). -/

namespace Sys2Proof.Machine

/-- The power estimate of a group at a speed: floor(rated x S^3 / 10^9) (R117). -/
def power (rated speed : Nat) : Nat := rated * speed ^ 3 / 1000000000

/-- The scaled demand at a water scale: the sum of the estimates at the floored speeds, over (rated power, demand speed)
of the configured groups (R118). -/
def scaledDemand (loads : List (Nat × Nat)) (k : Nat) : Nat :=
  (loads.map fun p => power p.1 (p.2 * k / 1000)).sum

/-- The largest multiple of 5 up to 5n at which the scaled demand fits the allowance. -/
def largestFit (loads : List (Nat × Nat)) (allowance : Nat) : Nat → Nat
  | 0 => 0
  | n + 1 => if scaledDemand loads (5 * (n + 1)) ≤ allowance then 5 * (n + 1) else largestFit loads allowance n

/-- The water scale: 1000 where the demand at full scale fits, else the largest multiple of 5 that does (R119). -/
def waterScale (loads : List (Nat × Nat)) (allowance : Nat) : Nat :=
  if scaledDemand loads 1000 ≤ allowance then 1000 else largestFit loads allowance 200

/-- The light cap C = floor(B x light share / 1000) (R113). -/
def lightCap (f : FeederSettings) : Nat := f.budget * f.share / 1000

/-- The water allowance A = B - min(L, C) (R116). -/
def waterAllowance (budget cap load : Nat) : Nat := budget - min load cap

/-- The light scale: floor(C x 1000 / L) where L > C, else 1000 (R114). -/
def lightScale (cap load : Nat) : Nat := if cap < load then cap * 1000 / load else 1000

/-- Rated power and held demand speed of each configured group (R117, R118). -/
def State.loads (s : State) : List (Nat × Nat) :=
  ((List.finRange 24).filter fun g => (s.groupRecord g).configured).map fun g =>
    ((s.groupRecord g).rated, s.fda.demand.get g)

/-- FDA recomputes k against the allowance and the demands it holds; "budget limited" is set where k < 1000
(R119 to R121). -/
def State.rescale (s : State) : State :=
  { s with fda := { s.fda with k := waterScale s.loads s.fda.allowance },
           flags := s.flags.raiseIf (decide (waterScale s.loads s.fda.allowance < 1000)) .budgetLimited }

/-- FDA recomputes C, A and then k from the settings in force and the latest light load (R113, R116). -/
def State.refeed (s : State) : State :=
  State.rescale { s with fda := { s.fda with
    cap := lightCap s.cfg.feeder
    allowance := waterAllowance s.cfg.feeder.budget (lightCap s.cfg.feeder) s.fda.load } }

/-- A light-load post: L and kL for the frame, "light scaled" where kL < 1000, then A and k (R114, R115). -/
def State.postLight (s : State) (load : Nat) : State :=
  State.rescale
    { s with
      fda := { s.fda with
        load := load
        kL := lightScale s.fda.cap load
        allowance := waterAllowance s.cfg.feeder.budget s.fda.cap load },
      flags := s.flags.raiseIf (decide (lightScale s.fda.cap load < 1000)) .lightScaled }

/-- A demand post: the speed replaces the one held, and k is recomputed if it differs (R118). -/
def State.postDemand (s : State) (g : Fin 24) (speed : Nat) : State :=
  if s.fda.demand.get g = speed then s
  else State.rescale { s with fda := { s.fda with demand := s.fda.demand.set g speed } }

end Sys2Proof.Machine
end

