-- ==== Sys2Proof/Machine/Store.lean ====
section
/-! DEFINITION. FLP: extents and locks (R171, R172), the arbiter with erase-suspend (R168 to R170), and how AUD seeks its next
chunk read (R50). -/

namespace Sys2Proof.Machine

/-! ## Extents and locks -/

/-- Two extents lo..hi - 1 share a byte. -/
def extentsMeet (lo hi lo' hi' : Nat) : Bool := decide (lo < hi') && decide (lo' < hi)

/-- The extent of a clip on the device, rounded out to whole 4 KiB sectors (R171). -/
def clipExtent (c : Clip) : Nat × Nat :=
  (Region.base .clips + c.start / 4096 * 4096, Region.base .clips + (c.start + 4 * c.frames + 4095) / 4096 * 4096)

/-- The extent of a show slot (R171). -/
def slotExtent (slot : Nat) : Nat × Nat := (Region.base .shows + slot * 0x20000, Region.base .shows + (slot + 1) * 0x20000)

/-- The clip directory sector (R171). -/
def directoryExtent : Nat × Nat := (Region.base .clips, Region.base .clips + 4096)

/-- A QUEUED or RUNNING FLASH service has an extent that meets this one (R172). -/
def Flp.serviceMeets (f : Flp) (e : Nat × Nat) : Bool :=
  match f.work with
  | some w => extentsMeet w.address (w.address + w.len) e.1 e.2
  | none => false

/-- Some lock in force meets an extent (R172). -/
def Flp.lockMeets (f : Flp) (lo hi : Nat) : Bool := f.locks.any fun l => extentsMeet lo hi l.lo l.hi

/-- A lock of the show, released when the show state returns to IDLE (R171). -/
def LockOwner.ofShow : LockOwner → Bool
  | .showSlot | .showClip | .showDirectory => true
  | .announcement => false

/-- The show's locks are released. -/
def Flp.releaseShow (f : Flp) : Flp := { f with locks := f.locks.filter fun l => !l.owner.ofShow }

/-- The announcement lock follows the setting and the clip table: the old extent is released, and the extent of the id that
is set is registered, or waits behind a FLASH service that meets it; during start-up too (R171, R172; log entry 64). -/
def State.relockAnnouncement (s : State) : State :=
  let kept := s.flp.locks.filter fun l => l.owner.ofShow
  match lookupClip s.aud.clips s.cfg.options.annClip with
  | none => { s with flp := { s.flp with locks := kept, annWaiting := none } }
  | some c =>
      let e := clipExtent c
      if s.flp.serviceMeets e then { s with flp := { s.flp with locks := kept, annWaiting := some e } }
      else { s with flp := { s.flp with locks := kept ++ [⟨.announcement, e.1, e.2⟩], annWaiting := none } }

/-- When a FLASH service has ended, the announcement lock that waited comes into force (R172). -/
def Flp.serviceOver (f : Flp) : Flp :=
  match f.annWaiting with
  | some e => { f with work := none, locks := f.locks ++ [⟨.announcement, e.1, e.2⟩], annWaiting := none }
  | none => { f with work := none }

/-! ## AUD's next chunk read (R50) -/

/-- The buffer of a name. -/
def Aud.buf (a : Aud) : BufId → Option Stream
  | .a => a.bufA
  | .b => a.bufB

/-- AUD with a buffer replaced. -/
def Aud.setBuf (a : Aud) (i : BufId) (st : Option Stream) : Aud :=
  match i with
  | .a => { a with bufA := st }
  | .b => { a with bufB := st }

/-- The other buffer. -/
def BufId.other : BufId → BufId
  | .a => .b
  | .b => .a

/-- The buffer that is PLAYING. -/
def Aud.playing (a : Aud) : Option BufId :=
  if (a.bufA.any (·.playing)) = true then some .a
  else if (a.bufB.any (·.playing)) = true then some .b
  else none

/-- A buffer that is PENDING. -/
def Aud.pendingBuf (a : Aud) : Option BufId :=
  if (a.bufA.any (!·.playing)) = true then some .a
  else if (a.bufB.any (!·.playing)) = true then some .b
  else none

/-- The frames of a stream buffer's ring (R48). -/
def ringFrames : Nat := 8192

/-- The frames of a chunk (R13). -/
def chunkFrames : Nat := 1024

/-- A buffer asks for a chunk: it has at least 1,024 free frames and clip data remaining (R50). -/
def Stream.wants (st : Stream) : Bool :=
  decide (st.held.length + chunkFrames ≤ ringFrames) && decide (st.fetch < st.clip.frames)
    && decide (st.read < st.clip.frames)

/-- The chunk asked for: the one that holds the clip frame max(fetch, read) (R50). -/
def Stream.nextChunk (st : Stream) (i : BufId) : Chunk :=
  let c := max st.fetch st.read / chunkFrames
  ⟨some i, Region.base .clips + st.clip.start + 4096 * c, chunkFrames * c,
    min chunkFrames (st.clip.frames - chunkFrames * c)⟩

/-- The buffer that AUD asks a chunk for: the PLAYING one first, then a PENDING one (R50). -/
def Aud.seeker (a : Aud) : Option BufId :=
  match a.playing.filter fun i => (a.buf i).any (·.wants) with
  | some i => some i
  | none => a.pendingBuf.filter fun i => (a.buf i).any (·.wants)

/-- With no read outstanding AUD asks for a chunk if a buffer qualifies; the fetch position moves past it (R50). -/
def Aud.seek (a : Aud) : Aud :=
  match a.chunk, a.seeker with
  | none, some i =>
      match a.buf i with
      | some st =>
          let c := st.nextChunk i
          { a.setBuf i (some { st with fetch := c.first + c.count }) with chunk := some c }
      | none => a
  | _, _ => a

/-! ## The arbiter (R168 to R170) -/

/-- The port state in which a transaction runs. -/
def Txn.port : Txn → Port
  | .audChunk => .reading .audChunk
  | .loadRead a n => .reading (.loadRead a n)
  | .directory => .reading .directory
  | .settingsRead o n => .reading (.settingsRead o n)
  | .settingsErase => .erasing .settingsErase
  | .settingsPage p => .programming (.settingsPage p)
  | .hostRead a n => .reading (.hostRead a n)
  | .hostProgram => .programming .hostProgram
  | .hostErase => .erasing .hostErase

/-- The extent of an erase. -/
def Flp.eraseExtent (f : Flp) : Txn → Nat × Nat
  | .settingsErase => (Region.base .settings, Region.size .settings)
  | .hostErase => match f.work with | some w => (w.address, w.len) | none => (0, 0)
  | .audChunk | .loadRead .. | .directory | .settingsRead .. | .settingsPage .. | .hostRead .. | .hostProgram => (0, 0)

/-- Start a transaction: the port takes its state, and the FLASH slot goes to RUNNING with a host program or erase
(R165, R166). -/
def State.startTxn (s : State) (t : Txn) : State :=
  { s with
    flp := { s.flp with port := t.port },
    lif := if t = .hostProgram ∨ t = .hostErase then
        { s.lif with flashSlot := { s.lif.flashSlot with status := .running } }
      else s.lif }

/-- The port is FREE: AUD first, then Internal and LIF in turn (R169). -/
def State.chooseTxn (s : State) : State :=
  if s.aud.chunk.isSome then s.startTxn .audChunk
  else
    match s.flp.internalQ, s.flp.lifQ with
    | [], [] => s
    | t :: rest, [] => State.startTxn { s with flp := { s.flp with internalQ := rest, turn := .lif } } t
    | [], u :: rest => State.startTxn { s with flp := { s.flp with lifQ := rest, turn := .internal } } u
    | t :: rest, u :: rest' =>
        match s.flp.turn with
        | .internal => State.startTxn { s with flp := { s.flp with internalQ := rest, turn := .lif } } t
        | .lif => State.startTxn { s with flp := { s.flp with lifQ := rest', turn := .internal } } u

/-- The erase is suspended for the waiting refill: the port becomes SUSPENDED, "erase suspended" is set, and the extent holds a
mixture of old bytes and 0xFF (R164, R170). -/
def State.suspend (s : State) (t : Txn) : State :=
  { s with
    flp := { s.flp with port := .suspended t, flagByNow := !s.flags.has .eraseSuspended },
    flags := s.flags.raise .eraseSuspended,
    flash := Memory.partErase s.flash (s.flp.eraseExtent t).1 (s.flp.eraseExtent t).2 fun a =>
      if Config.eraseTaken s.fresh a then 0xFF else 0,
    fresh := s.fresh + 1 }

/-- A suspension that has met a completed erase sets no flag (R170; log entry 57). -/
def State.unsuspended (s : State) : State :=
  { s with flags := if s.flp.flagByNow then s.flags.lower .eraseSuspended else s.flags }

/-- The arbiter acts on what waits: a FREE port starts the next transaction, an ERASING port is suspended for AUD. -/
def State.arbitrate (s : State) : State :=
  match s.flp.port with
  | .free => s.chooseTxn
  | .erasing t => if s.aud.chunk.isSome then s.suspend t else s
  | .reading _ | .programming _ | .suspended _ | .guarded _ | .resetting => s

/-- At the end of a step AUD seeks its next read, and then the arbiter acts (log entry 17). -/
def State.settleFlash (s : State) : State := State.arbitrate { s with aud := s.aud.seek }

/-- Hand an Internal transaction to the arbiter. -/
def State.handInternal (s : State) (t : Txn) : State :=
  { s with flp := { s.flp with internalQ := s.flp.internalQ ++ [t] } }

/-- Hand a LIF transaction to the arbiter. -/
def State.handLif (s : State) (t : Txn) : State := { s with flp := { s.flp with lifQ := s.flp.lifQ ++ [t] } }

/-- A directory copy is asked for: one is outstanding at a time, the others wait their turn behind it (R168). -/
def State.askDirectory (s : State) (why : CopyFor) : State :=
  match s.aud.copying with
  | none => State.handInternal { s with aud := { s.aud with copying := some why } } .directory
  | some _ => { s with aud := { s.aud with copyQueue := s.aud.copyQueue ++ [why] } }

/-- When a directory copy has ended, the next one asked for is handed over. -/
def State.nextDirectory (s : State) : State :=
  match s.aud.copyQueue with
  | [] => { s with aud := { s.aud with copying := none } }
  | why :: rest => State.handInternal { s with aud := { s.aud with copying := some why, copyQueue := rest } } .directory

/-- A SET has been accepted: the image state becomes MODIFIED, during start-up too, and a save in progress remembers it (R174,
R176; log entry 59). -/
def State.markModified (s : State) : State :=
  { s with flp := { s.flp with
      image := .modified
      settingsWork := match s.flp.settingsWork with
        | some (.save image _) => some (.save image true)
        | w => w } }

end Sys2Proof.Machine
end

