-- ==== Sys2Proof/Machine/Audio.lean ====
section
/-! DEFINITION. AUD: giving and discarding buffers, the announcement and the mute, storing chunks, and one audio frame
(03, R44 to R69). -/

namespace Sys2Proof.Machine

/-! ## Buffers (R49, R54) -/

/-- A buffer is discarded: it becomes EMPTY, and an outstanding chunk read of its own will be thrown away (R54). -/
def Aud.discard (a : Aud) (i : BufId) : Aud :=
  { a.setBuf i none with
    chunk := a.chunk.map fun c => if c.owner = some i then { c with owner := none } else c }

/-- Both buffers are discarded. -/
def Aud.discardBoth (a : Aud) : Aud := (a.discard .a).discard .b

/-- Every buffer of origin SHOW is discarded. -/
def Aud.discardShow (a : Aud) (pendingOnly : Bool) : Aud :=
  let hit := fun st : Stream => decide (st.origin = .fromShow) && !(pendingOnly && st.playing)
  let a1 := if (a.bufA.any hit) = true then a.discard .a else a
  if (a1.bufB.any hit) = true then a1.discard .b else a1

/-- The buffer a clip is given to (R49): the one that is not PLAYING; with none PLAYING a PENDING one, and otherwise A. -/
def Aud.chooseBuf (a : Aud) : BufId :=
  match a.playing with
  | some i => i.other
  | none => a.pendingBuf.getD .a

/-- The record of a buffer that has just been given a clip (R49). -/
def Stream.given (origin : Origin) (id : Nat) (clip : Clip) (first : Nat) (start : Int) : Stream :=
  ⟨false, origin, id, clip, first, start, first, first, []⟩

/-- A clip is given to the buffer R49 chooses; a PENDING clip there is replaced, setting "clip replaced". -/
def State.giveClip (s : State) (origin : Origin) (id : Nat) (clip : Clip) (first : Nat) (start : Int) : State :=
  { s with
    aud := (s.aud.discard s.aud.chooseBuf).setBuf s.aud.chooseBuf (some (Stream.given origin id clip first start)),
    flags := s.flags.raiseIf (s.aud.buf s.aud.chooseBuf).isSome .clipReplaced }

/-- A stream buffer is ready: it holds 1,024 frames, or every frame to the end of its clip (R48). -/
def Stream.ready (st : Stream) : Bool :=
  decide (chunkFrames ≤ st.held.length) || decide (st.clip.frames ≤ st.read + st.held.length)

/-! ## The show clock (R45, R47) -/

/-- The clock is cleared: the count 0, counting off, no show time (R47). -/
def Aud.clearClock (a : Aud) : Aud := { a with count := 0, base := 0, counting := false, msDue := false }

/-- The greatest frame count (R45). -/
def countMax : Nat := 4294967295

/-! ## The mute factor (R57 to R59) -/

/-- The stop fade's factor: m0 (N - j) / N while j < N, and 0 after (R59). -/
def StopFade.factor (f : StopFade) : Nat := if f.j < f.n then f.m0 * (f.n - f.j) / f.n else 0

/-- The mute factor: m, or the factor of a stop fade (R57, R59). -/
def Aud.factor (a : Aud) : Nat :=
  match a.stopFade with
  | some f => f.factor
  | none => a.m

/-- The mute ramp moves by one toward its target (R58). -/
def Aud.ramp (a : Aud) : Aud :=
  { a with m := if a.m < a.target then a.m + 1 else if a.target < a.m then a.m - 1 else a.m }

/-! ## Announcement, trip and clear (R63 to R66) -/

/-- Buffer A is given the announcement clip, PENDING from frame 0; with none set or the id absent it stays silent (R63). -/
def Aud.giveAnnouncement (a : Aud) (o : ShowOptions) : Aud :=
  match lookupClip a.clips o.annClip with
  | none => a
  | some c => { a with bufA := some (Stream.given .announcement o.annClip c 0 0) }

/-- The mute is complete: both buffers discarded, any stop fade ended, m and its target 960, and the announcement starts
(R63). -/
def Aud.muteDone (a : Aud) (o : ShowOptions) : Aud :=
  Aud.giveAnnouncement
    { a.discardBoth with m := 960, target := 960, stopFade := none, rundown := none, muting := false, gapLeft := none } o

/-- The site has entered TRIPPED: the program is muted, at once where nothing plays or the factor is already 0 (R63). -/
def Aud.trip (a : Aud) (o : ShowOptions) : Aud :=
  if a.playing = none ∨ a.factor = 0 then a.muteDone o
  else { a with m := a.factor, target := 0, stopFade := none, muting := true }

/-- The announcement is restarted: buffer A discarded, any gap ended, from frame 0 with the clip now set (R65). -/
def Aud.restart (a : Aud) (o : ShowOptions) : Aud := Aud.giveAnnouncement { a.discard .a with gapLeft := none } o

/-- The restart of R65, made only while the site is TRIPPED and the part is not halted. -/
def State.restartIfTripped (s : State) : State :=
  { s with aud := if s.isTripped && !s.lif.halted then s.aud.restart s.cfg.options else s.aud }

/-- The announcement is ended and silent frames follow (R66). -/
def Aud.clearTrip (a : Aud) : Aud :=
  { a.discardBoth with m := 960, target := 960, rundown := none, muting := false, gapLeft := none }

/-! ## Stop and halt (R59, R69) -/

/-- STOPPING is entered: a PENDING show clip dropped, the stop fade begun from the present m, any rundown ended, the clock
counting (R47, R59). -/
def Aud.stopping (a : Aud) (stopFade : Nat) : Aud :=
  { a.discardShow true with stopFade := some ⟨a.m, 48 * stopFade, 0⟩, rundown := none, counting := true }

/-- The show is IDLE at the end of STOPPING: show buffers discarded, m and its target 960, the clock cleared (R59). -/
def Aud.stopped (a : Aud) : Aud :=
  Aud.clearClock { a.discardShow false with stopFade := none, m := 960, target := 960 }

/-- The delay lines laid out for the zones' delays and zero-filled (R61). -/
def zeroLines (zones : Table 4 ZoneRecord) : Table 4 (List Int) :=
  Table.ofFn fun z => List.replicate (48 * (zones.get z).delay) 0

/-- AUD at HALT (R69). -/
def Aud.halt (a : Aud) (zones : Table 4 ZoneRecord) : Aud :=
  Aud.clearClock
    { a.discardBoth with
      m := 960, target := 960, stopFade := none, rundown := none, muting := false, gapLeft := none,
      lines := zeroLines zones }

/-- AUD at RELEASE: as at pin reset, but the clip table stands until its copy, and a read under way is not withdrawn
(R54, R69). -/
def Aud.release (a : Aud) (zones : Table 4 ZoneRecord) : Aud :=
  { a.halt zones with winFrames := 0, winUnderruns := 0, winNote := false }

/-! ## Chunks (R50, R51, R13) -/

/-- The audio frame held at a device address: left then right sample, low byte first (R13). -/
def frameAt (m : Memory) (address : Nat) : HeldFrame :=
  .good (BitVec.ofNat 16 ((Memory.read m address).toNat + 256 * (Memory.read m (address + 1)).toNat))
    (BitVec.ofNat 16 ((Memory.read m (address + 2)).toNat + 256 * (Memory.read m (address + 3)).toNat))

/-- The frames of a chunk that a buffer keeps, those at or after its read position, good or failed. -/
def Chunk.kept (c : Chunk) (read : Nat) (m : Memory) (good : Bool) : List HeldFrame :=
  (List.range (c.first + c.count - max c.first read)).map fun i =>
    if good then frameAt m (c.address + 4 * (max c.first read + i - c.first)) else .failed

/-- The outstanding chunk read has ended, good or failed: its buffer stores what it keeps, or the data is thrown away
(R50, R51, R54). -/
def Aud.arrive (a : Aud) (m : Memory) (good : Bool) : Aud :=
  match a.chunk with
  | none => a
  | some c =>
      match c.owner with
      | none => { a with chunk := none }
      | some i =>
          match a.buf i with
          | none => { a with chunk := none }
          | some st => { a.setBuf i (some { st with held := st.held ++ c.kept st.read m good }) with chunk := none }

/-! ## One audio frame (R44, R52, R55, R57, R61, R62) -/

/-- The samples of a held frame, if it is good. -/
def HeldFrame.samples : HeldFrame → Option (Int × Int)
  | .good l r => some (l.toInt, r.toInt)
  | .failed => none

/-- What AUD plays at this frame and the buffers after it. In a rundown the next rundown frame is played without being
consumed while m is above 0; otherwise the PLAYING buffer gives the frame at its read position, a failed or missing
frame being silent and an underrun frame, and a clip that has ended being silent (R52, R55). An underrun frame sets the
window's note as a good one does (log entry 49). -/
def Aud.take (a : Aud) : Option (Int × Int × Stream) × Aud :=
  match a.playing with
  | none => (none, a)
  | some i =>
      match a.buf i with
      | none => (none, a)
      | some st =>
          match a.rundown with
          | some p =>
              if a.m = 0 then (none, a)
              else
                (((st.held[p - st.read]?).bind HeldFrame.samples).map fun x => (x.1, x.2, st),
                  { a with rundown := some (p + 1) })
          | none =>
              if st.clip.frames ≤ st.read then (none, a)
              else
                let x := (st.held.head?).bind HeldFrame.samples
                (x.map fun x => (x.1, x.2, st),
                  { a.setBuf i (some { st with read := st.read + 1, held := st.held.tail }) with
                    winNote := true
                    winUnderruns := a.winUnderruns + (if x.isSome then 0 else 1) })

/-- A sample saturated to 16 bits. -/
def saturate (x : Int) : Int := max (-32768) (min 32767 x)

/-- Steps 1 and 2 of the mixer: the clip gain, then the master gain, which is 1000 for an announcement; divisions truncate
toward zero (R57). -/
def mixGain (st : Stream) (master : Nat) (x : Int) : Int :=
  ((x * st.clip.gain).tdiv 1000 * (if st.origin = .announcement then 1000 else (master : Int))).tdiv 1000

/-- Step 3 of the mixer for one zone: source, zone gain, mute factor, saturation (R57). -/
def mixZone (z : ZoneRecord) (l2 r2 : Int) (factor : Nat) : Int :=
  let src : Int := match z.source with
    | .left => l2
    | .right => r2
    | .mono => (l2 + r2) / 2
  saturate (((src * (z.gain : Int)).tdiv 1000 * (factor : Int)).tdiv 960)

/-- The mixer's result for a zone; a silent frame gives 0. -/
def mix (cfg : Settings) (z : Fin 4) (factor : Nat) : Option (Int × Int × Stream) → Int
  | none => 0
  | some (l, r, st) =>
      mixZone (cfg.zones.get z) (mixGain st cfg.options.masterGain l) (mixGain st cfg.options.masterGain r) factor

/-- A delay line takes a sample and gives the one that entered 48 x d frames before; a zone with no line gives the sample
itself (R61). -/
def lineOut (line : List Int) (x : Int) : Int := line.headD x

/-- A delay line after a sample has entered. -/
def lineNext (line : List Int) (x : Int) : List Int :=
  match line with
  | [] => []
  | _ :: rest => rest ++ [x]

/-- The frame is counted while counting is on; a multiple of 48 makes a millisecond due (R45, R46). -/
def Aud.countFrame (a : Aud) (afterMax : Nat) : Aud :=
  if a.counting then
    let c := if a.count < countMax then a.count + 1 else afterMax % (countMax + 1)
    { a with count := c, msDue := a.msDue || decide (c % 48 = 0),
             stopFade := a.stopFade.map fun f => { f with j := f.j + 1 } }
  else a

/-- The samples of one audio frame go out and enter the delay lines. -/
def Aud.emit (a : Aud) (x : Fin 4 → Int) : Aud :=
  { a with out := Table.ofFn fun z => lineOut (a.lines.get z) (x z),
           lines := Table.ofFn fun z => lineNext (a.lines.get z) (x z) }

/-- One audio frame: the ramp moves, the frame is taken and mixed, the delay lines act, the frame is counted, and the
gap and the underrun window move on (R44, R58, R62, R64). -/
def Aud.frame (a : Aud) (cfg : Settings) (afterMax : Nat) : Aud :=
  let a1 := a.ramp
  let t := a1.take
  let a2 := t.2.emit fun z => mix cfg z a1.factor t.1
  let a3 := a2.countFrame afterMax
  { a3 with gapLeft := a3.gapLeft.map fun n => n - 1, winFrames := a3.winFrames + 1 }

end Sys2Proof.Machine
end

