-- ==== Sys2Proof/Machine/Light.lean ====
section
/-! DEFINITION. LGT: pending latches, house fades, rescue, and the lamp frame (07, R123 to R141). -/

namespace Sys2Proof.Machine

/-! ## Latches (R128) -/

/-- A write of this origin over this latch overtakes a colour: one of origin SHOW is replaced by one of another origin
than HOUSE. -/
def overtakesLatch (held : Option Latch) (origin : LatchOrigin) : Bool :=
  match held with
  | some l => decide (l.origin = .fromShow) && decide (origin ≠ .house)
  | none => false

/-- A fixture with its pending latch replaced. -/
def Fixture.withLatch (x : Fixture) (l : Option Latch) : Fixture := { x with latch := l }

/-- How many colours a write over first..last overtakes. -/
def Lgt.overtaken (g : Lgt) (first last : Nat) (origin : LatchOrigin) : Nat :=
  (List.finRange 96).countP fun f => within first last f.val && overtakesLatch (g.fixtures.get f).latch origin

/-- The latch of every fixture from the first to the last is written; each overtaken colour is counted up to 65,535, and
"light overtaken" is set where there is one. -/
def State.latchRange (s : State) (first last : Nat) (l : Latch) : State :=
  { s with
    lgt := { s.lgt with
      fixtures := s.lgt.fixtures.mapIdx fun f x => if within first last f.val then x.withLatch (some l) else x
      overtakes := min 65535 (s.lgt.overtakes + s.lgt.overtaken first last l.origin) }
    flags := s.flags.raiseIf (decide (0 < s.lgt.overtaken first last l.origin)) .lightOvertaken }

/-- A fixture that is assigned (R123). -/
def FixtureRecord.assigned (r : FixtureRecord) : Bool := decide (r.base ≠ 0)

/-- The house fade of the entry into STOPPING: every assigned fixture's latch takes its house colour over the stop fade, on
the show clock (R136). -/
def Lgt.house (g : Lgt) (cfg : Settings) : Lgt :=
  { g with fixtures := g.fixtures.mapIdx fun f x =>
      if (cfg.fixtures.get f).assigned then
        x.withLatch (some ⟨(cfg.fixtures.get f).house, cfg.options.stopFade, .showClock, .house⟩)
      else x }

/-- Every pending latch is emptied, counting nothing as overtaken (R137, R141). -/
def Lgt.dropLatches (g : Lgt) : Lgt := { g with fixtures := g.fixtures.map fun x => x.withLatch none }

/-! ## Fade records -/

/-- A fade record at levels that stay: start and target equal, fade 0, on the site clock from a time (R127). -/
def FixtureFade.still (levels : Levels) (start : Tick) : FixtureFade := ⟨levels, levels, .onSite start, 0⟩

/-- HALT: latches emptied and every fade record at levels 0, fade 0, on the site clock, from a start time of each fixture's own
(R141; log entry 12). -/
def Lgt.halt (g : Lgt) (start : Fin 96 → Tick) : Lgt :=
  { g with fixtures := g.fixtures.mapIdx fun f x =>
      { x with latch := none, fade := FixtureFade.still (Quad.fill 0) (start f) } }

/-- CLEAR_TRIP: every assigned fixture stays at its rescue colour (R137). -/
def Lgt.clearTrip (g : Lgt) (cfg : Settings) (now : Tick) : Lgt :=
  { g with fixtures := g.fixtures.mapIdx fun f x =>
      if (cfg.fixtures.get f).assigned then
        { x with fade := FixtureFade.still (Colour.internal (cfg.fixtures.get f).rescue) now }
      else x }

/-- START: a fade record on the show clock holds its target levels, fade 0, on the site clock from now (R32). -/
def FixtureFade.atStart (f : FixtureFade) (now : Tick) : FixtureFade :=
  match f.began with
  | .onShow _ => FixtureFade.still f.targets now
  | .onSite _ => f

/-- START: the fade records on the show clock are rewritten and the overtake count is 0 (R32, R128). -/
def Lgt.start (g : Lgt) (now : Tick) : Lgt :=
  { g with fixtures := g.fixtures.map fun x => { x with fade := x.fade.atStart now }, overtakes := 0 }

/-- What an accepted SET_FIXTURE does to the fixture, by its base slot before and after (R125). -/
def Fixture.reassign (x : Fixture) (old new : FixtureRecord) (start : Tick) : Fixture :=
  if old.base = new.base then
    if old.base ≠ 0 ∧ old.bound ≠ new.bound then { x with dryStart := none } else x
  else { x with fade := FixtureFade.still (Quad.fill 0) start, latch := none, dryStart := none }

/-! ## The lamp frame (R129 to R135) -/

/-- Step 1: a latch that is not empty begins a new fade from the present levels (R129). -/
def Fixture.takeLatch (x : Fixture) (showNow : Option Int) (now : Tick) (noShow : Int) : Fixture :=
  match x.latch with
  | none => x
  | some l =>
      { x with
        latch := none
        fade :=
          { starts := x.fade.levels showNow now
            targets := Colour.internal l.colour
            began := match l.clock with
              | .showClock => .onShow (showNow.getD noShow)
              | .siteClock => .onSite now
            dur := l.fade } }

/-- Step 2: the levels of a fixture: 0 while halted, else its rescue colour while the site is TRIPPED, else its fade's
present levels (R130). -/
def Fixture.frameLevels (x : Fixture) (r : FixtureRecord) (halted tripped : Bool) (showNow : Option Int) (now : Tick) :
    Levels :=
  if halted then Quad.fill 0 else if tripped then Colour.internal r.rescue else x.fade.levels showNow now

/-- The last reported actual speed of a group, 0 where no reply is held (R131). -/
def Group.actual (g : Group) : Nat := (g.reply.map (·.actual)).getD 0

/-- A fixture is dry at this frame (R131). -/
def State.fixtureDry (s : State) (r : FixtureRecord) : Bool :=
  match r.bound with
  | none => false
  | some g =>
      decide ((s.groups.get g).interlock ≠ some .running)
        || decide ((s.groups.get g).actual < (s.groupRecord g).wetSpeed)

/-- The dry timer after its judgement; while halted it stays as it was (R131). -/
def dryTimerNext (timer : Option Tick) (dry halted : Bool) (now : Tick) : Option Tick :=
  if halted then timer else if dry then some (timer.getD now) else none

/-- A fixture is capped: its timer has run for its dry grace, and the site is not TRIPPED (R132). -/
def cappedNow (timer : Option Tick) (grace : Nat) (tripped : Bool) (now : Tick) : Bool :=
  !tripped && match timer with
    | some d => decide (grace ≤ (now - d).toNat)
    | none => false

/-- Steps 1 to 3 for one fixture; its output values are then the bus values after the dry cap. An unassigned fixture takes
no part; it is left with output values of 0, which it keeps where it is assigned until the next frame (log entry 71). -/
def State.lampFixture (s : State) (f : Fin 96) : Fixture :=
  let x := s.lgt.fixtures.get f
  let r := s.cfg.fixtures.get f
  if r.assigned then
    let y := x.takeLatch s.showTime s.clock (Config.latchShowStart s.fresh f.val)
    let bus := Levels.bus (y.frameLevels r s.lif.halted s.isTripped s.showTime s.clock)
    let timer := dryTimerNext y.dryStart (s.fixtureDry r) s.lif.halted s.clock
    let capped := cappedNow timer r.dryGrace s.isTripped s.clock
    { y with
      dryStart := timer
      capped := capped
      out := if capped then bus.map fun v => if r.dryCap < v then r.dryCap else v else bus }
  else { x with capped := false, out := Quad.fill 0 }

/-- The power of a fixture at bus values: floor(rated x (R + G + B + W) / 1020) (R133). -/
def fixturePower (rated : Nat) (c : Colour) : Nat := rated * (c.r.toNat + c.g.toNat + c.b.toNat + c.w.toNat) / 1020

/-- The light load over the assigned fixtures (R133). -/
def lightLoad (records : Table 96 FixtureRecord) (fixtures : Table 96 Fixture) : Nat :=
  ((List.finRange 96).map fun f =>
    if (records.get f).assigned then fixturePower (records.get f).rated (fixtures.get f).out else 0).sum

/-- Output values under a light scale: floor(v x kL / 1000) (R134). -/
def Colour.scaled (c : Colour) (kL : Nat) : Colour := c.map fun v => BitVec.ofNat 8 (v.toNat * kL / 1000)

/-- The value that a lamp bus slot carries for one assigned fixture, if the slot is one of its four. -/
def slotValue (base slot : Nat) (c : Colour) : Option Byte :=
  if base = 0 then none
  else if slot = base then some c.r
  else if slot = base + 1 then some c.g
  else if slot = base + 2 then some c.b
  else if slot = base + 3 then some c.w
  else none

/-- The slots of the lamp frame: 1 up to the highest in use, each with its fixture's value or 0 (R135). -/
def lampSlots (records : Table 96 FixtureRecord) (fixtures : Table 96 Fixture) : List Byte :=
  let used := (List.finRange 96).filter fun f => (records.get f).assigned
  let highest := used.foldl (fun n f => max n ((records.get f).base + 3)) 0
  (List.range highest).map fun i =>
    (used.findSome? fun f => slotValue (records.get f).base (i + 1) (fixtures.get f).out).getD 0

/-- The start code of a lamp frame (R135). -/
def lampStart : Byte := 0

/-- One lamp frame: steps 1 to 3 for each fixture, the light load posted to FDA, FDA's light scale applied, the frame sent;
"dry cap active" is set where a fixture is capped. -/
def State.lampFrame (s : State) : State :=
  let capped := Table.ofFn s.lampFixture
  let t := s.postLight (lightLoad s.cfg.fixtures capped)
  let sent := capped.map fun x => { x with out := Colour.scaled x.out t.fda.kL }
  { t with
    lgt := { s.lgt with fixtures := sent, lampOut := lampStart :: lampSlots s.cfg.fixtures sent }
    flags := t.flags.raiseIf (capped.cells.any (·.capped)) .dryCapActive
    fresh := s.fresh + 1 }

end Sys2Proof.Machine
end

