-- ==== Sys2Proof/Machine/Show.lean ====
section
/-! DEFINITION. SEQ: the return to IDLE, STOPPING, the load's checks and lanes, and dispatch (02, R16 to R43). -/

namespace Sys2Proof.Machine

/-! ## IDLE and STOPPING (R16, R40 to R43) -/

/-- The show state becomes IDLE: the cue table and lanes are emptied, the show's locks released, the show clock cleared, and
SHOW_STATE is sent with its end reason (R16, R41, R42, R47). -/
def State.showIdle (s : State) (reason : EndReason) : State :=
  State.sayShow
    { s with
      seq := { s.seq with st := .idle, cues := [], lanes := Lanes.empty, stopping := none, load := none }
      flp := s.flp.releaseShow
      aud := s.aud.clearClock }
    (some reason)

/-- An interlock state in which a group no longer moves: SHUT, FAULT or LOST (R41, R157). -/
def Interlock.down : Interlock → Bool
  | .shut | .fault | .lost => true
  | .opening | .running | .closing => false

/-- Every configured group is SHUT, FAULT or LOST. -/
def State.groupsDown (s : State) : Bool := s.groups.cells.all fun x => x.interlock.all Interlock.down

/-- The end condition of STOPPING (R41). -/
def State.stopEndHolds (s : State) : Bool :=
  match s.seq.st, s.seq.stopping, s.showTime with
  | .stopping, some p, some t => decide (p.began + p.fade ≤ t) && s.groupsDown
  | _, _, _ => false

/-- The end condition is tested; where it holds, the show goes to IDLE with the reason that STOPPING carries (R41, R59). -/
def State.testStopping (s : State) : State :=
  if s.stopEndHolds then
    match s.seq.stopping with
    | some p => State.showIdle { s with aud := s.aud.stopped } p.reason
    | none => s
  else s

/-- The fade record that the entry into STOPPING writes: target 0, fade 0, on the show clock; the start height is not given
(R41; log entry 11). -/
def GroupFade.stopping (start : Nat) (t : Int) : GroupFade := ⟨start % 801, 0, .onShow t, 0⟩

/-- A configured group, one that has an interlock state (R90), with its fade record replaced. -/
def Group.withFade (x : Group) (f : GroupFade) : Group := if x.interlock.isSome then { x with fade := f } else x

/-- STOPPING is entered: the lanes emptied, group targets 0, the house fade, the audio stop fade, and SHOW_STATE; then the end
condition is tested (R40, R41; log entry 21). -/
def State.enterStopping (s : State) (reason : EndReason) : State :=
  let t := s.showTime.getD 0
  State.testStopping <| State.sayShow
    { s with
      seq := { s.seq with
        st := .stopping
        lanes := Lanes.empty
        stopping := some ⟨reason, t, s.cfg.options.stopFade⟩ }
      groups := s.groups.mapIdx fun g x => x.withFade (GroupFade.stopping (Config.stoppingStart s.fresh g.val) t)
      lgt := s.lgt.house s.cfg
      aud := s.aud.stopping s.cfg.options.stopFade
      fresh := s.fresh + 1 }
    none

/-! ## The end of a load (R20, R28 to R30) -/

/-- The label of a load, sixteen zero bytes before the header was read. -/
def LoadPhase.label : Option LoadPhase → List Byte
  | some (.cues h _) => h.label
  | some (.directory h _) => h.label
  | _ => List.replicate 16 0

/-- A load ends FAILED: its locks released, cue table and lanes emptied, IDLE, the load result written, "load failed" set,
SERVICE_DONE (R20, R28, R29). -/
def State.failLoad (s : State) (failure : Failure) (cue : Option Nat) (label : List Byte) (reason : EndReason) : State :=
  State.endService
    (State.showIdle
      { s with
        seq := { s.seq with result := ⟨.failed, failure, s.seq.slot, label, cue, none⟩ }
        flags := s.flags.raise .loadFailed }
      reason)
    .arm failure cue none

/-- The load has a read at the flash port. -/
def LoadPhase.reading : Option LoadPhase → Bool
  | some .header | some (.cues ..) => true
  | _ => false

/-- A directory copy asked for by a load that has been interrupted (R30). -/
def CopyFor.interrupted : CopyFor → CopyFor
  | .armLoad => .staleLoad
  | w => w

/-- A load is interrupted: a read at the port will be discarded, a directory copy under way no longer belongs to the load, and
the load ends FAILED (R30). -/
def State.interruptLoad (s : State) (failure : Failure) (reason : EndReason) : State :=
  State.failLoad
    { s with
      seq := { s.seq with staleRead := s.seq.staleRead || LoadPhase.reading s.seq.load }
      aud := { s.aud with
        copying := s.aud.copying.map CopyFor.interrupted
        copyQueue := s.aud.copyQueue.filter fun w => decide (w ≠ .armLoad) } }
    failure none (LoadPhase.label s.seq.load) reason

/-- A trip or HALT returns the show to IDLE from any other state; a load in progress is interrupted (R42, R43). -/
def State.abortShow (s : State) (failure : Failure) (reason : EndReason) : State :=
  match s.seq.st with
  | .idle => s
  | .loading => s.interruptLoad failure reason
  | .armed | .running | .held | .stopping => s.showIdle reason

/-! ## Checking the cues (R4 to R9, R21) -/

/-- The failure code of a cue's fields, or none where they are accepted (R5, R7, R8, R9). -/
def CueAct.fault (cfg : Settings) (clips : Table 64 (Option Clip)) : CueAct → Failure
  | .jet set _ _ =>
      if set = 0 ∨ ((List.finRange 24).any fun g => set.getLsbD g.val && !(cfg.groups.get g).configured) = true then
        .badGroup
      else .none
  | .light first last _ _ =>
      if first ≤ last ∧ last ≤ 95
          ∧ ((List.finRange 96).all fun f => !within first last f.val || (cfg.fixtures.get f).assigned) = true then
        .none
      else .badFixture
  | .clip id offset =>
      match lookupClip clips id with
      | some c => if offset < c.frames then .none else .noClip
      | none => .noClip
  | .mark _ => .none
  | .ended => .none

/-- The outcome of checking the cues of a list: the first bad cue with its failure code, or the cue table after the clamps with
the clamp count. -/
inductive Checked where
  | bad (failure : Failure) (index : Nat)
  | good (cues : List Cue) (clamps : Nat)
deriving DecidableEq, Repr

/-- Check the cue records in list order: time and place after an END first, then the kind, then the fields (R4, R9, R21). -/
def checkCues (cfg : Settings) (clips : Table 64 (Option Clip)) (duration : Nat) :
    List (List Byte) → Nat → Nat → Bool → List Cue → Nat → Checked
  | [], _, _, _, acc, clamps => .good acc.reverse clamps
  | p :: rest, i, prev, ended, acc, clamps =>
      if ended ∨ duration < u32 p 0 ∨ u32 p 0 < prev then .bad .badOrder i
      else
        match cueActOf p with
        | none => .bad .badKind i
        | some act =>
            if CueAct.fault cfg clips act = .none then
              checkCues cfg clips duration rest (i + 1) (u32 p 0) (decide (act = .ended))
                (⟨u32 p 0, act.clamp⟩ :: acc) (clamps + act.clamps)
            else .bad (CueAct.fault cfg clips act) i

/-! ## Lanes and dispatch times (R22 to R27) -/

/-- How many lane entries a cue gives (R22). -/
def CueAct.entries : CueAct → Nat
  | .jet set _ _ => (List.finRange 24).countP fun g => set.getLsbD g.val
  | _ => 1

/-- The greatest number of lane entries (R22). -/
def laneMax : Nat := 8192

/-- The index of the cue whose entries would pass 8,192, if there is one (R22). -/
def laneFullAt : List Cue → Nat → Nat → Option Nat
  | [], _, _ => none
  | c :: rest, i, n => if laneMax < n + c.act.entries then some i else laneFullAt rest (i + 1) (n + c.act.entries)

/-- The lead of an entry: the off lead at height 0, else the lead table read at the height (R24). -/
def GroupRecord.leadOf (r : GroupRecord) (height : Nat) : Int :=
  if height = 0 then (r.offLead : Int) else interp r.leads height

/-- The prefetch lead of a clip entry (R23). -/
def prefetchLead : Int := 200

/-- The raw dispatch time of a jet entry (R25). -/
def JetEntry.raw (e : JetEntry) (r : GroupRecord) : Int := (e.time : Int) - r.leadOf e.height

/-- Dispatch times in lane order: d = max(r, the one before, -10,000) (R25). -/
def holdBack (r : GroupRecord) : Int → List JetEntry → List JetEntry
  | _, [] => []
  | prev, e :: rest =>
      let d := max (e.raw r) prev
      { e with dispatch := d } :: holdBack r d rest

/-- The entries of group g's jet lane, in cue order. -/
def jetLane (r : GroupRecord) (g : Fin 24) (cues : List Cue) : List JetEntry :=
  holdBack r (-10000) (cues.zipIdx.filterMap fun ci =>
    match ci.1.act with
    | .jet set height fade => if set.getLsbD g.val then some ⟨ci.2, ci.1.time, height, fade, 0⟩ else none
    | _ => none)

/-- How many entries of a jet lane are compressed (R25). -/
def compressedIn (r : GroupRecord) (lane : List JetEntry) : Nat := lane.countP fun e => decide (e.raw r < e.dispatch)

/-- How many entries of a jet lane are overtaken: each that shares its dispatch time with the next (R26). -/
def overtakenIn : List JetEntry → Nat
  | a :: b :: rest => (if a.dispatch = b.dispatch then 1 else 0) + overtakenIn (b :: rest)
  | _ => 0

/-- The lanes of a cue table, every cursor at the first entry (R22, R23). -/
def buildLanes (cfg : Settings) (cues : List Cue) : Lanes where
  jets := Table.ofFn fun g => ⟨jetLane (cfg.groups.get g) g cues, 0⟩
  lights :=
    ⟨cues.zipIdx.filterMap fun ci =>
      match ci.1.act with
      | .light a b c f => some ⟨ci.2, ci.1.time, a, b, c, f⟩
      | _ => none, 0⟩
  clips :=
    ⟨cues.zipIdx.filterMap fun ci =>
      match ci.1.act with
      | .clip id o => some ⟨ci.2, ci.1.time, id, o⟩
      | _ => none, 0⟩
  marks :=
    ⟨cues.zipIdx.filterMap fun ci =>
      match ci.1.act with
      | .mark n => some ⟨ci.2, ci.1.time, some n⟩
      | .ended => some ⟨ci.2, ci.1.time, none⟩
      | _ => none, 0⟩

/-- The raw dispatch times that the preroll is taken over: every jet entry's and every clip entry's (R27). -/
def rawTimes (cfg : Settings) (l : Lanes) : List Int :=
  ((List.finRange 24).flatMap fun g => (l.jets.get g).entries.map fun e => e.raw (cfg.groups.get g))
    ++ l.clips.entries.map fun e => (e.time : Int) - prefetchLead

/-- The preroll: min(10,000, max(0, -R)) (R27). -/
def prerollOf (cfg : Settings) (l : Lanes) : Nat := (min 10000 ((rawTimes cfg l).foldl (fun m r => max m (-r)) 0)).toNat

/-- The counts of a load that ends DONE (R28). -/
def loadCounts (cfg : Settings) (cues : List Cue) (l : Lanes) (clamps : Nat) : LoadCounts where
  cues := cues.length
  entries := (cues.map fun c => c.act.entries).sum
  clamps := clamps
  compressed := ((List.finRange 24).map fun g => compressedIn (cfg.groups.get g) (l.jets.get g).entries).sum
  overtaken := ((List.finRange 24).map fun g => overtakenIn (l.jets.get g).entries).sum
  preroll := prerollOf cfg l

/-- The locks that the end of a load registers: each clip that the clip lane names, once, and the directory sector (R171). -/
def loadLocks (clips : Table 64 (Option Clip)) (l : Lanes) : List Lock :=
  ((l.clips.entries.map (·.id)).dedup.filterMap fun id =>
    (lookupClip clips id).map fun c => ⟨.showClip, (clipExtent c).1, (clipExtent c).2⟩)
    ++ [⟨.showDirectory, directoryExtent.1, directoryExtent.2⟩]

/-- The load ends DONE: ARMED with its lanes and locks, the load result, the flags of R29, SERVICE_DONE (R28). -/
def State.armShow (s : State) (hdr : ShowHeader) (cues : List Cue) (l : Lanes) (counts : LoadCounts) : State :=
  State.endService
    (State.sayShow
      { s with
        seq := { s.seq with
          st := .armed, cues := cues, lanes := l, duration := hdr.duration, preroll := counts.preroll, load := none,
          result := ⟨.done, .none, s.seq.slot, hdr.label, none, some counts⟩ }
        flp := { s.flp with locks := s.flp.locks ++ loadLocks s.aud.clips l }
        flags := (s.flags.raiseIf (decide (0 < counts.compressed)) .compressedCues).raiseIf
          (decide (0 < counts.overtaken)) .overtaken }
      none)
    .arm .none none none

/-- The last step of a load, after the directory copy: the cues are checked, the lanes built, the locks registered (R21,
R22, R28). -/
def State.finishLoad (s : State) (hdr : ShowHeader) (records : List Byte) : State :=
  match checkCues s.cfg s.aud.clips hdr.duration (recordsOf records hdr.cueCount) 0 0 false [] 0 with
  | .bad failure i => s.failLoad failure (some i) hdr.label .load
  | .good cues clamps =>
      match laneFullAt cues 0 0 with
      | some i => s.failLoad .laneFull (some i) hdr.label .load
      | none =>
          let l := buildLanes s.cfg cues
          if (loadLocks s.aud.clips l).any (fun k => s.flp.serviceMeets (k.lo, k.hi)) then
            s.failLoad .conflict none hdr.label .load
          else s.armShow hdr cues l (loadCounts s.cfg cues l clamps)

/-! ## The reads of a load (R20) -/

/-- The greatest length of an Internal read (R168). -/
def readMax : Nat := 4096

/-- The next read of the cue records: those still to come, at most 4 KiB (log entry 16). -/
def cueRead (slot : Nat) (hdr : ShowHeader) (got : Nat) : Txn :=
  .loadRead ((slotExtent slot).1 + headerLen + got) (min readMax (cueLen * hdr.cueCount - got))

/-- The read of the show header. -/
def headerRead (slot : Nat) : Txn := .loadRead (slotExtent slot).1 headerLen

/-- An accepted ARM: the ARM slot RUNNING, LOADING with its report, the slot's lock registered or CONFLICT, and the header
asked for, which waits behind a read of an interrupted load (R19, R20, R168; log entry 18). -/
def State.beginLoad (s : State) (slot : Nat) (tag : Byte) : State :=
  let t := State.sayShow
    (State.beginService { s with seq := { s.seq with st := .loading, slot := slot, load := some .header } } .arm .running
      0x20 tag) none
  if s.flp.serviceMeets (slotExtent slot) then t.failLoad .conflict none (List.replicate 16 0) .load
  else
    let lock : Lock := ⟨.showSlot, (slotExtent slot).1, (slotExtent slot).2⟩
    let u : State := { t with flp := { t.flp with locks := t.flp.locks ++ [lock] } }
    if s.seq.staleRead then { u with seq := { u.seq with load := some .headerDeferred } }
    else u.handInternal (headerRead slot)

/-- A load read of the bytes has ended well (R20, R30). -/
def State.loadRead (s : State) (bytes : List Byte) : State :=
  if s.seq.staleRead then
    let t := { s with seq := { s.seq with staleRead := false } }
    match s.seq.load with
    | some .headerDeferred =>
        State.handInternal { t with seq := { t.seq with load := some .header } } (headerRead s.seq.slot)
    | _ => t
  else
    match s.seq.load with
    | some .header =>
        let hdr := headerOf bytes
        if hdr.ok s.seq.slot then
          State.handInternal { s with seq := { s.seq with load := some (.cues hdr []) } } (cueRead s.seq.slot hdr 0)
        else s.failLoad .badCheck none hdr.label .load
    | some (.cues hdr got) =>
        let all := got ++ bytes
        if all.length < cueLen * hdr.cueCount then
          State.handInternal { s with seq := { s.seq with load := some (.cues hdr all) } }
            (cueRead s.seq.slot hdr all.length)
        else if (crc32 all).toNat = hdr.check then
          State.askDirectory { s with seq := { s.seq with load := some (.directory hdr all) } } .armLoad
        else s.failLoad .badCheck none hdr.label .load
    | _ => s

/-- A load read has timed out: a stale one is discarded, otherwise the load ends FAILED with FLASH_TIMEOUT (R20, R30, R167). -/
def State.loadReadFailed (s : State) : State :=
  if s.seq.staleRead then
    let t := { s with seq := { s.seq with staleRead := false } }
    match s.seq.load with
    | some .headerDeferred =>
        State.handInternal { t with seq := { t.seq with load := some .header } } (headerRead s.seq.slot)
    | _ => t
  else s.failLoad .flashTimeout none (LoadPhase.label s.seq.load) .load

/-! ## Dispatch (R33 to R37) -/

/-- The head entries of a lane that are due at a show time. -/
def Lane.due {α : Type} (l : Lane α) (at_ : α → Int) (t : Int) : List α :=
  (l.entries.drop l.cursor).takeWhile fun e => decide (at_ e ≤ t)

/-- The lane with its cursor past the entries that are due. -/
def Lane.past {α : Type} (l : Lane α) (at_ : α → Int) (t : Int) : Lane α :=
  { l with cursor := l.cursor + (l.due at_ t).length }

/-- Dispatch times of the light, clip and mark lanes (R23). -/
def LightEntry.at_ (e : LightEntry) : Int := e.time
def ClipEntry.at_ (e : ClipEntry) : Int := (e.time : Int) - prefetchLead
def MarkEntry.at_ (e : MarkEntry) : Int := e.time

/-- The fade record that a jet entry writes at show time t: from the present faded height (R34). -/
def GroupFade.dispatched (f : GroupFade) (e : JetEntry) (t : Int) (now : Tick) : GroupFade :=
  ⟨f.height (some t) now, e.height, .onShow t, e.fade⟩

/-- A group after the due entries of its jet lane: its record is rewritten once, from the last of them (R34). -/
def Group.dispatched (x : Group) (due : List JetEntry) (t : Int) (now : Tick) : Group :=
  match due.getLast? with
  | some e => { x with fade := x.fade.dispatched e t now }
  | none => x

/-- The latch that a light entry writes (R35). -/
def LightEntry.latch (e : LightEntry) : Latch := ⟨e.colour, e.fade, .showClock, .fromShow⟩

/-- A clip entry is given to AUD, to start at show frame 48 x cue time from its start offset (R36, R49). -/
def State.dispatchClip (s : State) (e : ClipEntry) : State :=
  match lookupClip s.aud.clips e.id with
  | some c => s.giveClip .fromShow e.id c e.offset (48 * (e.time : Int))
  | none => s

/-- A MARK sends its report (R37). -/
def State.dispatchMark (s : State) (t : Int) (e : MarkEntry) : State :=
  match e.marker with
  | some n => s.report (.mark n e.cue t)
  | none => s

/-- The lanes after a dispatch event. -/
def Lanes.past (l : Lanes) (t : Int) : Lanes where
  jets := l.jets.map fun lane => lane.past (·.dispatch) t
  lights := l.lights.past LightEntry.at_ t
  clips := l.clips.past ClipEntry.at_ t
  marks := l.marks.past MarkEntry.at_ t

/-- What the due entries of every lane do, with the cursors moved past them (R33 to R37). -/
def State.deliver (s : State) (t : Int) : State :=
  let l := s.seq.lanes
  let s1 : State :=
    { s with
      seq := { s.seq with lanes := l.past t }
      groups := s.groups.mapIdx fun g x => x.dispatched ((l.jets.get g).due (·.dispatch) t) t s.clock }
  let s2 := (l.lights.due LightEntry.at_ t).foldl (fun a e => a.latchRange e.first e.last e.latch) s1
  let s3 := (l.clips.due ClipEntry.at_ t).foldl (fun a e => a.dispatchClip e) s2
  (l.marks.due MarkEntry.at_ t).foldl (fun a e => a.dispatchMark t e) s3

/-- An END is among the due entries. -/
def Lanes.endsAt (l : Lanes) (t : Int) : Bool := (l.marks.due MarkEntry.at_ t).any fun e => e.marker.isNone

/-- A dispatch event at show time t: the due entries are delivered; an END, or else the duration reached, begins STOPPING
(R33, R37, R40). -/
def State.dispatchEvent (s : State) (t : Int) : State :=
  let u := s.deliver t
  if s.seq.lanes.endsAt t then u.enterStopping .ended
  else if (s.seq.duration : Int) ≤ t then u.enterStopping .duration
  else u

/-- A fade record that holds a height on the show clock from a show time (R32). -/
def GroupFade.hold (h : Nat) (t : Int) : GroupFade := ⟨h, h, .onShow t, 0⟩

/-- START: RUNNING, both buffers discarded, the show clock at -preroll with a count of 0, every configured group held at its
present faded height, show-clock fixture fades settled, SHOW_STATE, and a dispatch event (R32, R47, R68). The records start at
show time -preroll (log entry 48); the base takes -preroll here and is 0 while ARMED (log entry 50). -/
def State.startShow (s : State) : State :=
  let t : Int := -(s.seq.preroll : Int)
  State.dispatchEvent
    (State.sayShow
      { s with
        seq := { s.seq with st := .running }
        aud := { s.aud.discardBoth with count := 0, base := t, counting := true, msDue := false }
        groups := s.groups.map fun x => x.withFade (GroupFade.hold (x.fade.height s.showTime s.clock) t)
        lgt := s.lgt.start s.clock }
      none)
    t

end Sys2Proof.Machine
end

