-- ==== Sys2Proof/Machine/Site.lean ====
section
/-! DEFINITION. SUP: PERMIT, the site mode, and the SITE report at the end of a step (08, R155, R157). -/

namespace Sys2Proof.Machine

/-- PERMIT goes low, or stays low, and the intrusion drop timer stops (R157). -/
def State.lowerPermit (s : State) : State :=
  { s with sup := { s.sup with permit := false, dropTimer := none, siteDue := s.sup.siteDue || s.sup.permit } }

/-- PERMIT may rise: the start-up mark is set, the part not halted, the site not TRIPPED (R157). -/
def State.mayPermit (s : State) : Bool := s.sup.startMark && !s.lif.halted && !s.isTripped

/-- PERMIT goes high where it may, or stays as it is (R157). -/
def State.raisePermit (s : State) : State :=
  { s with sup := { s.sup with
      permit := s.sup.permit || s.mayPermit
      siteDue := s.sup.siteDue || (s.mayPermit && !s.sup.permit) } }

/-- In a trip whose causes are intrusions only, every configured group SHUT, FAULT or LOST calls for PERMIT low (R157). -/
def State.dropCalled (s : State) : Bool := s.isTripped && !s.sup.causes.estop && s.groupsDown

/-- The judgement of the groups for the intrusion PERMIT drop (R157). -/
def State.judgeDrop (s : State) : State := if s.dropCalled then s.lowerPermit else s

/-- The DRIVE channel of a group: channel 2 + n (R142). -/
def driveChannel (g : Fin 24) : Fin 27 := ⟨g.val + 2, by omega⟩

/-- A channel that makes the site RESTRICTED is INVALID: WIND, LEVEL or AUDIO, or the DRIVE channel of a configured group
(R155). -/
def State.channelDown (s : State) : Bool :=
  !(s.sup.channels.get 0).valid || !(s.sup.channels.get 1).valid || !(s.sup.channels.get 26).valid
    || (List.finRange 24).any fun g => (s.groupRecord g).configured && !(s.sup.channels.get (driveChannel g)).valid

/-- The site mode as SUP judges it; TRIPPED holds until CLEAR_TRIP (R155). -/
def State.judgedMode (s : State) : SiteMode :=
  if s.sup.mode = .tripped then .tripped
  else if 0 < s.sup.band ∨ s.sup.effective ≠ .normal ∨ s.channelDown = true then .restricted
  else .normal

/-- The gust: the greatest of the gate winds held (R146); 0 with none held (log entry 8). -/
def Sup.gust (u : Sup) : Nat := u.winds.foldl max 0

/-- The SITE report of the figures as they stand (R155). -/
def Sup.siteReport (u : Sup) : Report := .site u.band u.gust u.effective u.level u.mode u.permit

/-- SUP's figures after the end of a step: the mode judged again, the mark cleared. -/
def State.supSettled (s : State) : Sup := { s.sup with mode := s.judgedMode, siteDue := false }

/-- The end of a step that bears on the site: the mode is judged again, the condition flags are set where present, and one
SITE report carries whatever changed (R155, R159; log entry 19). A condition that came and went within the step sets no flag
(log entry 63). -/
def State.settleSite (s : State) : State :=
  let t : State := { s with sup := s.supSettled, flags := s.flags.judgeSite s.supSettled }
  if s.sup.siteDue ∨ s.judgedMode ≠ s.sup.mode then t.report s.supSettled.siteReport else t

end Sys2Proof.Machine
end

