-- ==== Sys2Proof/Machine/Water.lean ====
section
/-! DEFINITION. WTR: interlock changes, the setpoint computation, replies, configuration (04 R70 to R89, 05 R90 to R102). -/

namespace Sys2Proof.Machine

/-- The state with one group replaced. -/
def State.withGroup (s : State) (g : Fin 24) (x : Group) : State := { s with groups := s.groups.set g x }

/-! ## Interlock changes (R88, R90, R96) -/

/-- An interlock state in which the demand posted is 0 (R81). -/
def Interlock.barred : Interlock → Bool
  | .fault | .lost => true
  | .shut | .opening | .running | .closing => false

/-- The stroke timer on an entry into an interlock state (R96). -/
def Interlock.timer (i : Interlock) (now : Tick) (stroke : Nat) : Option StrokeTimer :=
  match i with
  | .opening | .closing => some ⟨now, stroke⟩
  | .shut | .running | .fault | .lost => none

/-- The GROUP_STATE report of a configured group (R88). -/
def State.sayGroup (s : State) (g : Fin 24) (left : Option Interlock) (code : Option Byte) : State :=
  match (s.groups.get g).interlock with
  | some i =>
      s.report (.groupState g left i (s.groups.get g).cause (s.groups.get g).starved (s.groups.get g).sent
        (s.groups.get g).actual code)
  | none => s

/-- An interlock change is offered to SEQ and to SUP (R90). -/
def State.offerChange (s : State) : State := s.testStopping.judgeDrop

/-- The demand posted at a change between a state that posts S and FAULT or LOST (R81; log entry 34). -/
def State.postAtChange (s : State) (g : Fin 24) (left into : Interlock) : State :=
  if left.barred = into.barred then s
  else s.postDemand g (if into.barred then 0 else (s.groups.get g).figs.s)

/-- The last sent speed that the next computation starts from, at an entry into an interlock state: 0 on an entry into CLOSING
from FAULT or LOST, also where no poll has been sent in that state; the last figures stay (R76, R95; log entry 56). -/
def c0AtChange (left into : Interlock) (c0 : Nat) : Nat := if into = .closing ∧ left.barred = true then 0 else c0

/-- A group enters another interlock state: its stroke timer, its fault cause, the speed its next command starts from, the
GROUP_STATE report, the demand post, and the offer to SEQ and SUP (R90, R95, R96). -/
def State.changeInterlock (s : State) (g : Fin 24) (left into : Interlock) (cause : FaultCause) (code : Option Byte) : State :=
  State.offerChange <| State.postAtChange (into := into) (g := g) (left := left) <|
    State.sayGroup (g := g) (left := some left) (code := code) <|
      s.withGroup g
        { s.groups.get g with
          interlock := some into, cause := cause, stroke := into.timer s.clock (s.groupRecord g).stroke
          c0 := c0AtChange left into (s.groups.get g).c0 }

/-! ## The setpoint computation (R76 to R84) -/

/-- Stage 1: the present faded height (R77). -/
def State.stage1 (s : State) (g : Fin 24) : Nat := (s.groups.get g).fade.height s.showTime s.clock

/-- Stage 2: the wind derate (R78). -/
def State.stage2 (s : State) (g : Fin 24) : Nat :=
  s.stage1 g * s.cfg.wind.derateAt (s.groupRecord g).exposure s.sup.band / 1000

/-- Stage 3: the caps (R79). -/
def State.stage3 (s : State) (g : Fin 24) : Nat :=
  if s.isTripped || s.lif.halted || s.isDry then 0
  else
    let h := min (s.stage2 g) (s.groupRecord g).maxHeight
    if s.sup.effective = .low then min h s.cfg.level.lowCap else h

/-- Stage 4: the height curve; a height of 0 gives a speed of 0 (R80). -/
def GroupRecord.speedAt (r : GroupRecord) (h : Nat) : Nat := if h = 0 then 0 else (interp r.curve h).toNat

/-- The demand speed that WTR posts: S, or 0 in FAULT or LOST (R81). -/
def demandSpeed (i : Interlock) (speed : Nat) : Nat := if i.barred then 0 else speed

/-- The up step and the down step (R70). -/
def GroupRecord.upStep (r : GroupRecord) : Nat := max 1 (r.rampUp / 20)
def GroupRecord.downStep (r : GroupRecord) : Nat := max 1 (r.rampDown / 20)

/-- The emergency step (R83). -/
def emergencyStep : Nat := 50

/-- Stage 6: the command moves from the last sent speed toward the target by at most a step (R83). -/
def rampTo (c0 target up down : Nat) : Nat :=
  if c0 < target then min target (c0 + up)
  else if target < c0 then max target (c0 - down)
  else c0

/-- The site is TRIPPED or the part halted: the emergency step runs and a RUNNING group's valve is on HOLD. -/
def State.emergency (s : State) : Bool := s.isTripped || s.lif.halted

/-- A SHUT group with a positive target may open (R92). -/
def State.mayOpen (s : State) : Bool := !s.isTripped && s.sup.permit && !s.lif.halted

/-- The interlock's transitions at a poll: SHUT to OPENING and RUNNING to CLOSING (R92, R94). -/
def Interlock.atPoll (i : Interlock) (target c closeSpeed : Nat) (mayOpen : Bool) : Interlock :=
  match i with
  | .shut => if 0 < target ∧ mayOpen = true then .opening else .shut
  | .running => if target = 0 ∧ c ≤ closeSpeed then .closing else .running
  | .opening => .opening
  | .closing => .closing
  | .fault => .fault
  | .lost => .lost

/-- The speed command of a poll, from the state before and after its transitions (R90, R94, R95). -/
def pollSpeed (before after : Interlock) (c0 c closeSpeed : Nat) : Nat :=
  match after with
  | .running => c
  | .closing => if before = .running then c else min c0 closeSpeed
  | .shut | .opening | .fault | .lost => 0

/-- The valve command of a poll (R90, R94). -/
def pollValve (after : Interlock) (hold : Bool) : Valve :=
  match after with
  | .opening => .openUp
  | .running => if hold then .hold else .openUp
  | .shut | .closing | .fault | .lost => .close

/-- The group after a poll's computation, the water scale being k; the speed sent is what the next one starts from (R76, R82 to
R84, R90 to R96). -/
def State.polledGroup (s : State) (g : Fin 24) (i : Interlock) (k : Nat) : Group :=
  let x := s.groups.get g
  let r := s.groupRecord g
  let speed := r.speedAt (s.stage3 g)
  let target := speed * k / 1000
  let c := rampTo x.c0 target r.upStep (if s.emergency then emergencyStep else r.downStep)
  let j := i.atPoll target c r.closeSpeed s.mayOpen
  let command := pollSpeed i j x.c0 c r.closeSpeed
  { x with
    interlock := some j
    stroke := if j = i then x.stroke else j.timer s.clock r.stroke
    sent := command
    c0 := command
    valve := pollValve j s.emergency
    figs := ⟨s.stage1 g, s.stage2 g, s.stage3 g, speed, k, target⟩
    target := target
    starved := decide (0 < speed) && decide (target = 0)
    computed := some s.clock }

/-- The setpoint computation of a poll: the demand is posted, then k read; one GROUP_STATE reports a change of state or of
budget-starved, and a change of state is offered to SEQ and SUP (R76, R81, R88; log entry 27). -/
def State.computePoll (s : State) (g : Fin 24) : State :=
  let x := s.groups.get g
  match x.interlock with
  | none => s
  | some i =>
      let t := s.postDemand g (demandSpeed i ((s.groupRecord g).speedAt (s.stage3 g)))
      let y := s.polledGroup g i t.fda.k
      let u := t.withGroup g y
      let v := if y.interlock ≠ some i ∨ y.starved ≠ x.starved then u.sayGroup g (some i) none else u
      if y.interlock ≠ some i then v.offerChange else v

/-! ## A good reply (R84, R92 to R99) -/

/-- A good reply is recorded and judged by the interlock: drive TRIP, switch conflict, then the stroke's end. -/
def State.takeReply (s : State) (g : Fin 24) (rep : DriveReply) : State :=
  let t := s.withGroup g { s.groups.get g with reply := some rep }
  match (s.groups.get g).interlock with
  | none => s
  | some .fault => t
  | some .lost => t
  | some i =>
      if rep.drive = .trip then (t.flag .driveTrip).changeInterlock g i .fault .driveTrip (some rep.code)
      else if rep.openSw && rep.closedSw then (t.flag .switchConflict).changeInterlock g i .fault .switchConflict none
      else if i = .opening ∧ rep.openSw = true then t.changeInterlock g i .running .none none
      else if i = .closing ∧ rep.closedSw = true then t.changeInterlock g i .shut .none none
      else t

/-! ## Timers, requests and changes at SUP (R96, R98 to R100, R102) -/

/-- The stroke timer of a group has run for its length on the site clock (R96). -/
def State.strokeDue (s : State) (g : Fin 24) : Bool :=
  match (s.groups.get g).stroke with
  | some t => decide (t.len ≤ (s.clock - t.began).toNat)
  | none => false

/-- The stroke timer expires: FAULT with cause STROKE_TIMEOUT, and "valve stroke timeout" (R96). -/
def State.strokeExpire (s : State) (g : Fin 24) : State :=
  match (s.groups.get g).interlock with
  | some i => (s.flag .strokeTimeout).changeInterlock g i .fault .strokeTimeout none
  | none => s

/-- The DRIVE channel of a group has turned INVALID: a configured group enters LOST, "group lost" is set (R99). -/
def State.loseGroup (s : State) (g : Fin 24) : State :=
  match (s.groups.get g).interlock with
  | none => s
  | some .lost => s
  | some i => (s.flag .groupLost).changeInterlock g i .lost .none none

/-- The DRIVE channel of a group has turned VALID: a LOST group enters CLOSING (R99). -/
def State.findGroup (s : State) (g : Fin 24) : State :=
  match (s.groups.get g).interlock with
  | some .lost => s.changeInterlock g .lost .closing .none none
  | _ => s

/-- A group brought down: its fade record at 0 on the site clock and its held target 0; the last figures stay (R75, R76, R89,
R100, R102). -/
def Group.broughtDown (x : Group) (now : Tick) : Group := { x with fade := GroupFade.zero now, target := 0 }

/-- One configured group is brought down; an OPENING one enters CLOSING (R100, R102). -/
def State.bringDown (s : State) (g : Fin 24) : State :=
  match (s.groups.get g).interlock with
  | none => s
  | some i =>
      let t := s.withGroup g ((s.groups.get g).broughtDown s.clock)
      if i = .opening then t.changeInterlock g .opening .closing .none none else t

/-- Every configured group is brought down, at a trip or at HALT. -/
def State.waterDown (s : State) : State := s.eachGroup fun g t => t.bringDown g

/-- The level state entering DRY: every configured group's fade record at 0 (R75). -/
def State.zeroFades (s : State) : State :=
  { s with groups := s.groups.map fun x => x.withFade (GroupFade.zero s.clock) }

/-! ## Configuration (R72, R102) -/

/-- A group enters the interlock afresh: CLOSING with its stroke timer started, or LOST where its DRIVE channel is INVALID. Its
last reply goes, and on a change of address its figures and budget-starved too (R72; log entry 51). -/
def State.freshGroup (s : State) (g : Fin 24) : Group :=
  if (s.sup.channels.get (driveChannel g)).valid then
    { Group.reset with interlock := some .closing, stroke := some ⟨s.clock, (s.groupRecord g).stroke⟩ }
  else { Group.reset with interlock := some .lost }

/-- The group becomes configured or takes another drive: it enters the interlock afresh with a demand of 0, posted at once (log
entry 51), and is reported with the state it left where there is one (R72, R88). -/
def State.configure (s : State) (g : Fin 24) (left : Option Interlock) : State :=
  State.offerChange <| State.sayGroup (g := g) (left := left) (code := none) <|
    State.postDemand (g := g) (speed := 0) <| s.withGroup g (s.freshGroup g)

/-- The group stops being configured: it leaves the interlock, its fade record, its figures and its demand are 0 (R72, R87), the
record's start time with it (log entry 69), and its last reply, budget-starved and the clock of its last computation go (log
entry 51). -/
def State.unconfigure (s : State) (g : Fin 24) : State := State.postDemand (s.withGroup g Group.reset) g 0

/-- The drives still due in the cycle that remain at their group's address (R109). -/
def Dbm.stillDue (d : Dbm) (groups : Table 24 GroupRecord) : List Due :=
  d.schedule.filter fun e => (groups.get e.group).configured && decide ((groups.get e.group).address = e.address)

/-- The effect of a group record that has taken the place of another, the settings already holding it (R72, R109). A group that
a SET_GROUP configured before the start-up load ended stands so, and keeps its place where the load gives it the same address,
which R102 has otherwise: the model's choice (log entry 76). -/
def State.regroup (s : State) (g : Fin 24) (old : GroupRecord) : State :=
  let t : State := { s with dbm := { s.dbm with schedule := s.dbm.stillDue s.cfg.groups } }
  match old.configured, (s.groupRecord g).configured with
  | false, true => t.configure g none
  | true, true => if old.address = (s.groupRecord g).address then t else t.configure g none
  | true, false => t.unconfigure g
  | false, false => t

end Sys2Proof.Machine
end

