-- ==== Sys2Proof/Machine/Supervise.lean ====
section
/-! DEFINITION. SUP: channel evaluations and their effects, the wind gate, the level sample, the trip and its clearing
(08, R142 to R158). -/

namespace Sys2Proof.Machine

/-! ## Evaluations (R142 to R144) -/

/-- An evaluation event. -/
inductive Evaluation where
  | good | error | fatal
deriving DecidableEq, Repr

/-- The counter and validity of a channel after an evaluation (R143). -/
def Channel.evaluated (c : Channel) (k : CounterSettings) (now : Tick) (e : Evaluation) : Channel :=
  if c.fatal then { c with last := some now }
  else
    match e with
    | .fatal => ⟨255, false, true, some now⟩
    | .error =>
        if k.limit ≤ c.counter + 2 then ⟨k.limit + k.hold, false, c.fatal, some now⟩
        else { c with counter := c.counter + 2, last := some now }
    | .good => { c with
        counter := c.counter - 1
        valid := c.valid || decide (c.counter - 1 < k.limit)
        last := some now }

/-- SUP with one channel replaced. -/
def State.withChannel (s : State) (i : Fin 27) (c : Channel) : State :=
  { s with sup := { s.sup with channels := s.sup.channels.set i c } }

/-- A SITE report is owed where a condition holds. -/
def State.oweSite (s : State) (due : Bool) : State := { s with sup := { s.sup with siteDue := s.sup.siteDue || due } }

/-- The entry into DRY: WTR writes the fade records to 0, and a show in RUNNING or HELD enters STOPPING; the two writes have no
order between them (R75, R152; log entry 10). -/
def State.enterDry (s : State) : State :=
  if s.seq.st = .running ∨ s.seq.st = .held then
    let t : State := { s with fresh := s.fresh + 1 }
    if Config.dryWriteLast s.fresh then (t.enterStopping .dry).zeroFades else t.zeroFades.enterStopping .dry
  else s.zeroFades

/-- What follows when the effective level state was another before: a SITE report is owed, and an entry into DRY acts
(R152). -/
def State.levelMoved (s : State) (before : LevelState) : State :=
  if s.sup.effective = before then s
  else if s.sup.effective = .dry then (s.oweSite true).enterDry
  else s.oweSite true

/-- The band is set, a SITE report being owed where it changes. -/
def State.setBand (s : State) (band : Nat) : State :=
  { s with sup := { s.sup with band := band, siteDue := s.sup.siteDue || decide (band ≠ s.sup.band) } }

/-- The group of a DRIVE channel. -/
def groupOfChannel (i : Fin 27) : Option (Fin 24) :=
  if h : 2 ≤ i.val ∧ i.val - 2 < 24 then some ⟨i.val - 2, h.2⟩ else none

/-- What a change of validity does to its neighbours (R144). -/
def State.validityActs (s : State) (i : Fin 27) (before : LevelState) : State :=
  let valid := (s.sup.channels.get i).valid
  if i.val = 0 then
    if valid then { s with sup := { s.sup with calm := 0 } } else s.setBand 7
  else if i.val = 1 then s.levelMoved before
  else if i.val = 26 then s.flagIf (!valid) .audioDegraded
  else
    match groupOfChannel i with
    | some g => if valid then s.findGroup g else s.loseGroup g
    | none => s

/-- A channel takes new values; a change of validity is reported and acts (R144). The VALIDITY report goes before the reports of
what the change causes: the model's choice (log entry 74). -/
def State.moveChannel (s : State) (i : Fin 27) (c : Channel) : State :=
  let t := s.withChannel i c
  if c.valid = (s.sup.channels.get i).valid then t
  else State.validityActs (t.report (.validity i c.valid c.counter c.fatal)) i s.sup.effective

/-- A channel is evaluated (R143). -/
def State.evaluate (s : State) (i : Fin 27) (e : Evaluation) : State :=
  s.moveChannel i ((s.sup.channels.get i).evaluated (s.cfg.counters.get i) s.clock e)

/-- What an accepted SET_COUNTER does to the channel, its limit and hold being replaced: counter 0 and VALID unless it is fatal
(R145). -/
def State.resetChannel (s : State) (i : Fin 27) : State :=
  let c := s.sup.channels.get i
  if c.fatal then s else s.moveChannel i { c with counter := 0, valid := true }

/-! ## The wind gate (R146 to R148) -/

/-- The pulse count of the gate (R146). -/
def Sup.pulses (u : Sup) : Nat := (u.anemo - u.prevAnemo).toNat

/-- The gate wind (R146). -/
def Sup.gateWind (u : Sup) (w : WindSettings) : Nat := u.pulses * w.factor / 100

/-- The still run at the gate (R146). -/
def Sup.stillNext (u : Sup) : Nat := if u.pulses = 0 then u.stillRun + 1 else 0

/-- The WIND channel's error at the gate (R142). -/
def Sup.windError (u : Sup) (w : WindSettings) : Bool :=
  decide (w.plausible < u.pulses)
    || (decide (0 < w.still) && decide (u.pulses = 0) && decide (w.still < u.stillNext))

/-- The band of a gust: how many thresholds are at or below it (R147). -/
def WindSettings.bandOf (w : WindSettings) (gust : Nat) : Nat := w.thresholds.countP fun t => decide (t ≤ gust)

/-- The last n of a list. -/
def lastOf {α : Type} (n : Nat) (l : List α) : List α := l.drop (l.length - n)

/-- The band judged at a gate at which it is not forced (R147). -/
def State.judgeBand (s : State) : State :=
  let w := s.cfg.wind
  let b := s.sup.band
  let gust := s.sup.gust
  let target := w.bandOf gust
  if b < target then State.setBand { s with sup := { s.sup with calm := 0 } } target
  else if 0 < b ∧ gust + w.hysteresis < w.thresholds.getD (b - 1) 0 then
    if w.calmHold ≤ s.sup.calm + 1 then State.setBand { s with sup := { s.sup with calm := 0 } } target
    else { s with sup := { s.sup with calm := s.sup.calm + 1 } }
  else { s with sup := { s.sup with calm := 0 } }

/-- Step 6 of the gate: at the third gate the band takes that of the gust, unless WIND is INVALID at it, also where WIND was
INVALID at a gate before (log entry 67); the band is judged only at gates at which it is not forced and has not just ceased to
be (R148; log entry 28). -/
def State.gateBand (s : State) (third wasValid : Bool) : State :=
  if (s.sup.channels.get 0).valid = false then s
  else if third then
    State.setBand { s with sup := { s.sup with calm := 0 } } (s.cfg.wind.bandOf s.sup.gust)
  else if s.sup.gates < 3 ∨ wasValid = false then s
  else s.judgeBand

/-- The wind gate's expiry, its six steps in order (R146). -/
def State.windGate (s : State) : State :=
  let wind := s.sup.gateWind s.cfg.wind
  let bad := s.sup.windError s.cfg.wind
  let third := decide (s.sup.gates = 2)
  let wasValid := (s.sup.channels.get 0).valid
  let s1 : State := { s with sup := { s.sup with prevAnemo := s.sup.anemo, stillRun := s.sup.stillNext } }
  let s2 := s1.evaluate 0 (if bad then .error else .good)
  let s3 : State := { s2 with sup := { s2.sup with
    winds := lastOf 3 (s2.sup.winds ++ [wind]), gates := min 3 (s2.sup.gates + 1) } }
  s3.gateBand third wasValid

/-! ## The level sample (R150, R151) -/

/-- The current of a converter reading in microamperes (R150). -/
def currentOf (reading : BitVec 12) : Nat := reading.toNat * 25000 / 4095

/-- The LEVEL channel's error (R142). -/
def currentBad (current : Nat) : Bool := decide (current < 3600) || decide (21000 < current)

/-- The average of four currents (R151). -/
def averageOf (currents : List Nat) : Nat := currents.sum / 4

/-- The level of an average current (R151). -/
def levelOfCurrent (span average : Nat) : Nat := if average < 4000 then 0 else min span ((average - 4000) * span / 16000)

/-- One transition of the measured level state (R151). -/
def LevelState.move (m : LevelState) (k : LevelSettings) (level : Nat) : LevelState :=
  match m with
  | .normal => if level < k.low then .low else .normal
  | .low => if level < k.dry then .dry else if k.low + 20 ≤ level then .normal else .low
  | .dry => if k.dry + 20 ≤ level then .low else .dry

/-- The transitions applied as far as they carry the state within one sample. -/
def LevelState.judged (m : LevelState) (k : LevelSettings) (level : Nat) : LevelState := (m.move k level).move k level

/-- A sample without error is entered: the history, and with four held the average, the level and the measured state (R150,
R151). -/
def Sup.entered (u : Sup) (k : LevelSettings) (current : Nat) : Sup :=
  let held := lastOf 4 (u.currents ++ [current])
  if held.length < 4 then { u with currents := held }
  else
    let average := averageOf held
    let level := levelOfCurrent k.span average
    { u with currents := held, average := average, level := level, measured := u.measured.judged k level }

/-- The level sample: the channel is evaluated, then a sample without error is entered and the level state judged (R150). -/
def State.levelSample (s : State) (reading : BitVec 12) : State :=
  let current := currentOf reading
  let bad := currentBad current
  let s1 := s.evaluate 1 (if bad then .error else .good)
  if bad then s1
  else State.levelMoved { s1 with sup := s1.sup.entered s1.cfg.level current } s1.sup.effective

/-! ## Trips (R154, R157, R158) -/

/-- The union of two cause sets. -/
def Causes.union (a b : Causes) : Causes := ⟨a.estop || b.estop, a.intrA || b.intrA, a.intrB || b.intrB⟩

/-- The causes are in the set. -/
def Causes.any (a : Causes) : Bool := a.estop || a.intrA || a.intrB

/-- The trip log record of a trip now (R158). -/
def State.tripRecord (s : State) (causes : Causes) : TripRecord :=
  ⟨causes, s.clock, s.showTime.map fun t => (s.seq.slot, t), s.sup.band, s.sup.effective⟩

/-- The site enters TRIPPED, in SUP: causes latched with their flags, the log record, the TRIP report (R154, R158). -/
def State.latchTrip (s : State) (causes : Causes) : State :=
  State.report
    { s with
      sup := { s.sup with
        causes := s.sup.causes.union causes
        mode := .tripped
        siteDue := true
        tripLog := (s.tripRecord causes :: s.sup.tripLog).take 8
        dropTimer := if (s.sup.causes.union causes).estop then none else some s.clock }
      flags := (s.flags.raiseIf causes.estop .estop).raiseIf (causes.intrA || causes.intrB) .intrusion }
    (.trip causes false s.clock)

/-- What the entry into TRIPPED does in the other blocks, and to PERMIT (R42, R63, R75, R100, R137, R157). -/
def State.tripActs (s : State) : State :=
  let t := s.abortShow .tripped .trip
  let u : State :=
    { t with
      lgt := t.lgt.dropLatches
      aud := if t.lif.halted then t.aud else t.aud.trip t.cfg.options }
  let v := u.waterDown
  if v.sup.causes.estop then v.lowerPermit else v.judgeDrop

/-- A cause is latched: the site enters TRIPPED, or the cause joins a trip, its report carrying the added cause alone (R154; log
entry 66). -/
def State.latchCause (s : State) (c : Causes) : State :=
  if s.isTripped then
    let t := State.report
      { s with
        sup := { s.sup with causes := s.sup.causes.union c }
        flags := (s.flags.raiseIf c.estop .estop).raiseIf (c.intrA || c.intrB) .intrusion }
      (.trip c true s.clock)
    if c.estop then t.lowerPermit else t
  else (s.latchTrip c).tripActs

/-- The causes that a set of input levels would latch. -/
def inputCauses (i : Inputs) : Causes := ⟨i.estop, i.intrA, i.intrB⟩

/-- A trip input is active. -/
def inputActive (i : Inputs) : Bool := i.estop || i.intrA || i.intrB

/-- At a reset, and at RELEASE from outside TRIPPED, every active input latches its cause under one record (R154, R161,
R162). -/
def State.judgeInputs (s : State) (i : Inputs) : State :=
  if inputActive i && !s.isTripped then (s.latchTrip (inputCauses i)).tripActs else s

/-- The intrusion drop timer has run for 10,000 ms on the site clock (R157). -/
def State.dropDue (s : State) : Bool :=
  match s.sup.dropTimer with
  | some d => decide (10000 ≤ (s.clock - d).toNat)
  | none => false

/-- An accepted CLEAR_TRIP: causes emptied, the mode judged, PERMIT raised, the announcement ended, the fixtures held at
their rescue colours (R66, R137, R156, R157). -/
def State.clearTrip (s : State) : State :=
  State.oweSite (due := true) <| State.raisePermit
    { s with
      sup := { s.sup with causes := Causes.none, mode := .restricted, dropTimer := none }
      aud := s.aud.clearTrip
      lgt := s.lgt.clearTrip s.cfg s.clock }

end Sys2Proof.Machine
end

