-- ==== Sys2Proof/Machine/Bus.lean ====
section
/-! DEFINITION. DBM: the cycle's schedule and budget, polls, replies, jammed lines (05, R103 to R110; 11 section 11.7). -/

namespace Sys2Proof.Machine

/-! ## The schedule (R103) -/

/-- The configured group whose drive address is this one. -/
def groupAt (groups : Table 24 GroupRecord) (address : Nat) : Option (Fin 24) :=
  (List.finRange 24).find? fun g => (groups.get g).configured && decide ((groups.get g).address = address)

/-- The addresses 1..31 in ascending order beginning at an address and wrapping from 31 round to 1. -/
def addressesFrom (start : Nat) : List Nat := (List.range 31).map fun i => (start - 1 + i) % 31 + 1

/-- The poll schedule of a cycle (R103). -/
def scheduleFrom (groups : Table 24 GroupRecord) (start : Nat) : List Due :=
  (addressesFrom start).filterMap fun a => (groupAt groups a).map fun g => ⟨a, g⟩

/-! ## The budget (R104) -/

/-- The send time of every poll and the cycle's budget, in microseconds. -/
def sendUs : Nat := 400
def budgetUs : Nat := 45000

/-- The reply window of the cycle in microseconds. -/
def Dbm.windowUs (d : Dbm) : Nat := 1000 * d.cycleWindow

/-- Before each poll the budget is checked: where the worst case does not fit, the drive about to be polled and those after it
are skipped, "budget limited" is set, and the rotation start becomes the first drive skipped (R104). -/
def State.checkBudget (s : State) : State :=
  match s.dbm.schedule with
  | [] => s
  | e :: _ =>
      if budgetUs < s.dbm.accountUs + sendUs + s.dbm.windowUs then
        { s with
          dbm := { s.dbm with schedule := [], rotation := e.address }
          flags := s.flags.raise .budgetLimited }
      else s

/-- A cycle begins: the account at 0, the schedule drawn up, the window as it is set now (R103, R110; log entry 32). -/
def State.driveCycle (s : State) : State :=
  State.checkBudget
    { s with dbm := { s.dbm with
        schedule := scheduleFrom s.cfg.groups s.dbm.rotation, poll := none, accountUs := 0, cycleWindow := s.cfg.window } }

/-! ## Sending a poll (R105, R106) -/

/-- The place of an address in a table by address. -/
def addressIndex (a : Nat) : Fin 31 := ⟨(a - 1) % 31, Nat.mod_lt _ (by decide)⟩

/-- The 5 bytes of a poll (11 section 11.7). -/
def pollFrame (address : Nat) (seq : BitVec 4) (speed : Nat) (valve : Valve) (run : Bool) : List Byte :=
  let head := byte1 address ++ byte1 (seq.toNat + 16 * valve.code + (if run then 64 else 0)) ++ byte2 speed
  head ++ [crc8 head]

/-- The line is found quiet: the setpoint computation runs for the group at the head of the schedule, and the poll goes out
with its sequence number and the run flag (R76, R105, R106). -/
def State.sendPoll (s : State) (e : Due) (rest : List Due) (quietUs : Nat) : State :=
  let t := s.computePoll e.group
  let q := t.dbm.seqs.get (addressIndex e.address)
  { t with dbm := { t.dbm with
      schedule := rest
      poll := some ⟨e, q, quietUs⟩
      seqs := t.dbm.seqs.set (addressIndex e.address) (q + 1)
      busOut := pollFrame e.address q (t.groups.get e.group).sent (t.groups.get e.group).valve t.sup.permit } }

/-! ## The end of a poll (R107, R108) -/

/-- The bytes of a reply in order. -/
def replyList (r : ReplyBytes) : List Byte := [r.b0, r.b1, r.b2, r.b3, r.b4, r.b5]

/-- The outcome of a complete reply, the first check that fails giving it (R107, R108). -/
def judgeReply (p : Poll) (r : ReplyBytes) (framingError : Bool) : PollOutcome :=
  if framingError ∨ crc8 [r.b0, r.b1, r.b2, r.b3, r.b4] ≠ r.b5 then .badCheck
  else if r.b0.toNat ≠ p.due.address then .wrongAddr
  else if r.b1.setWidth 4 ≠ p.seq then .badSeq
  else .good

/-- The fields of a reply; an actual speed above 1000 is taken as 1000, a drive state code of 3 as TRIP (R193). -/
def replyFields (r : ReplyBytes) : DriveReply where
  actual := min 1000 (r.b2.toNat + 256 * r.b3.toNat)
  openSw := r.b1.getLsbD 4
  closedSw := r.b1.getLsbD 5
  drive := DriveState.ofCode (r.b1.toNat / 64)
  code := r.b4

/-- How DBM scores an outcome with SUP (R108). -/
def PollOutcome.score : PollOutcome → Evaluation
  | .good => .good
  | .wrongAddr => .fatal
  | .noReply | .badCheck | .badSeq => .error

/-- The drive still belongs to the configured group it was polled for (R109), judged by the record at the end of the poll (log
entry 53). -/
def State.belongs (s : State) (e : Due) : Bool :=
  (s.groupRecord e.group).configured && decide ((s.groupRecord e.group).address = e.address)

/-- DBM's record of the end of a poll, its elapsed time added to the account (R104, R108). -/
def Dbm.pollEnded (d : Dbm) (p : Poll) (o : PollOutcome) (now : Tick) (elapsedUs : Nat) : Dbm :=
  { d with
    poll := none
    accountUs := d.accountUs + elapsedUs
    last := d.last.set (addressIndex p.due.address) (some ⟨o, now⟩) }

/-- A good outcome reaches WTR and SUP: the reply is handed over and scored, in either order (R108; log entry 9). -/
def State.deliverGood (s : State) (g : Fin 24) (rep : DriveReply) : State :=
  let t : State := { s with fresh := s.fresh + 1 }
  if Config.replyBeforeScore s.fresh then (t.takeReply g rep).evaluate (driveChannel g) .good
  else (t.evaluate (driveChannel g) .good).takeReply g rep

/-- The outcome reaches WTR and SUP. A good reply of a drive that belongs to its group no more is discarded with its score
(R109); every other outcome scores the channel of the polled group, which belongs to the group's number and has no
evaluations while the group is unconfigured (R108, R142). -/
def State.deliverOutcome (s : State) (e : Due) (o : PollOutcome) (rep : DriveReply) : State :=
  if o = .good then if s.belongs e then s.deliverGood e.group rep else s
  else if (s.groupRecord e.group).configured then s.evaluate (driveChannel e.group) o.score
  else s

/-- A poll ends with an outcome; the next drive's budget is then checked (R103, R104, R107, R108). -/
def State.endPoll (s : State) (p : Poll) (o : PollOutcome) (rep : DriveReply) (elapsedUs : Nat) : State :=
  State.checkBudget <| State.deliverOutcome (e := p.due) (o := o) (rep := rep)
    { s with dbm := s.dbm.pollEnded p o s.clock elapsedUs }

/-- A reply that no window brought; its fields are read by nothing. -/
def noReplyFields : DriveReply := ⟨0, false, false, .ready, 0⟩

/-! ## A jammed line (R105) -/

/-- The line is still driven after 5 ms: the cycle is abandoned, every drive still due scores an error, "bus fault" is set, and
the rotation start becomes the drive about to be polled. The drives score in schedule order, which is then the order of their
reports: the model's choice (log entry 70). -/
def State.jamLine (s : State) (e : Due) (all : List Due) : State :=
  all.foldl (fun t d => t.evaluate (driveChannel d.group) .error)
    { s with
      dbm := { s.dbm with schedule := [], rotation := e.address }
      flags := s.flags.raise .busFault }

end Sys2Proof.Machine
end

