-- ==== Sys2Proof/Machine/Startup.lean ====
section
/-! DEFINITION. Settings taking effect, the start-up sequence, RELEASE's copy, reload and save, and the ends of flash
transactions (09, R164 to R178). -/

namespace Sys2Proof.Machine

/-! ## Settings taking effect (R175) -/

/-- Do f for each channel from 0 to 26, which is then the order of the reports (log entry 70). -/
def State.eachChannel (s : State) (f : Fin 27 → State → State) : State := (List.finRange 27).foldl (fun t i => f i t) s

/-- The fixtures after their records have been replaced, each with a start time of its own (R125; log entry 12). -/
def Lgt.reassign (l : Lgt) (old new : Table 96 FixtureRecord) (start : Fin 96 → Tick) : Lgt :=
  { l with fixtures := l.fixtures.mapIdx fun f x => x.reassign (old.get f) (new.get f) (start f) }

/-- New working settings take effect all together at the end of a load: each group, fixture and channel as its SET would have
it, the delay pool, the calm count, FDA, the announcement and its lock (R65, R145, R149, R171, R175). The groups act before
the channels, and both before FDA recomputes (log entries 52 and 54); a group configured before the start-up load ended is log
entry 76. -/
def State.takeSettings (s : State) (new : Settings) : State :=
  let t : State :=
    { s with
      cfg := new
      lgt := s.lgt.reassign s.cfg.fixtures new.fixtures fun f => Config.fixtureFadeStart s.fresh f.val
      aud := { s.aud with lines := zeroLines new.zones }
      sup := { s.sup with calm := 0 }
      fresh := s.fresh + 1 }
  let u := t.eachGroup fun g a => a.regroup g (s.cfg.groups.get g)
  let v := u.eachChannel fun i a => a.resetChannel i
  v.refeed.relockAnnouncement.restartIfTripped

/-- The end of a settings load: the settings take effect, the image state and the start-up mark are set, PERMIT rises where it
may, and the site is judged (R155, R157, R174, R175). -/
def State.settingsLoaded (s : State) (image : ImageState) (new : Settings) : State :=
  let t := s.takeSettings new
  State.settleSite <| State.raisePermit
    { t with flp := { t.flp with image := image, settingsWork := none }, sup := { t.sup with startMark := true } }

/-! ## READY (R178) -/

/-- The flash is present and supported; before the identification has ended this is no (log entry 65). -/
def Flp.present (f : Flp) : Bool := decide (f.presence = .present)

/-- The flash is missing or unsupported (R178). -/
def Flp.noFlash (f : Flp) : Bool := decide (f.presence = .missing)

/-- Steps 4 and 5 of the start-up sequence: the announcement lock, the SETTINGS slot back to IDLE, READY (R178). -/
def State.startUpReady (s : State) : State :=
  let t := s.relockAnnouncement
  State.report
    { t with lif := { t.lif with
        settingsSlot := { t.lif.settingsSlot with status := .idle }, starting := false } }
    (.ready t.lif.lastReset t.flp.image t.flp.present)

/-- Steps 4 to 6 of RELEASE: the announcement lock, READY with the kind RELEASE, PERMIT (R178, R191). -/
def State.releaseReady (s : State) : State :=
  State.raisePermit (State.report s.relockAnnouncement (.ready .release s.flp.image s.flp.present))

/-- With no flash the remaining steps meet none: every clip id absent, BLANK, the defaults (R178). -/
def State.startWithoutFlash (s : State) : State :=
  State.startUpReady
    (State.settingsLoaded { s with aud := { s.aud with clips := Table.fill 64 none } } .blank Settings.default)

/-- FLP identifies the flash: it is supported when it reports 256 MiB and offers erase-suspend (R178). -/
def supportedDevice : Option DeviceIdent → Bool
  | some d => decide (d.sizeMiB = 256) && d.eraseSuspend
  | none => false

/-- The identification has ended: the directory copy is asked for, or the sequence goes on with no flash (R178). -/
def State.identified (s : State) (answer : Option DeviceIdent) : State :=
  let t : State := { s with flp := { s.flp with
    port := .free
    presence := if supportedDevice answer then .present else .missing
    ident := answer.map fun d => (d.id0, d.id1, d.id2) } }
  if supportedDevice answer then t.askDirectory .startUp else t.startWithoutFlash

/-! ## Settings reads (R175, R177) -/

/-- FLP asks for the next settings read, always of 4 KiB (R175; log entry 58). -/
def State.askSettings (s : State) (startUp : Bool) (read : List Byte) : State :=
  State.handInternal { s with flp := { s.flp with settingsWork := some (.load startUp read) } }
    (.settingsRead read.length readMax)

/-- A group is in OPENING, RUNNING or CLOSING (R177). -/
def State.waterMoving (s : State) : Bool := !s.groupsDown

/-- The judgement of a reload has been reached: it ends FAILED with CONFLICT, or DONE with the image state found
(R177). One that conflicts carries no image state (log entry 72), and is not the end of a load for the delay pool, the
announcement and PERMIT (log entry 68). -/
def State.reloadFound (s : State) (image : ImageState) (new : Settings) : State :=
  if !s.isIdle || s.waterMoving then
    State.endService { s with flp := { s.flp with settingsWork := none } } .settings .conflict none none
  else State.endService (s.settingsLoaded image new) .settings .none none (some image)

/-- The judgement of a settings load has been reached: "settings bad" for BAD (R175). -/
def State.imageFound (s : State) (startUp : Bool) (image : ImageState) (new : Settings) : State :=
  let t := s.flagIf (decide (image = .bad)) .settingsBad
  if startUp then (t.settingsLoaded image new).startUpReady else t.reloadFound image new

/-- A settings read has ended well: the bytes read so far are judged, and reading stops as soon as they decide the image (R175;
log entry 58). -/
def State.settingsRead (s : State) (bytes : List Byte) : State :=
  match s.flp.settingsWork with
  | some (.load startUp read) =>
      match judgeImage (read ++ bytes) with
      | .more => s.askSettings startUp (read ++ bytes)
      | .found image new => s.imageFound startUp image new
  | some (.save ..) => s
  | none => s

/-- A settings read has timed out: BAD at start-up; FAILED in a reload, which is not the end of a load for the delay pool, the
announcement and PERMIT (R177, R178; log entry 68). -/
def State.settingsReadFailed (s : State) : State :=
  match s.flp.settingsWork with
  | some (.load true _) => s.imageFound true .bad Settings.default
  | some (.load false _) =>
      State.endService { s with flp := { s.flp with settingsWork := none } } .settings .flashTimeout none none
  | some (.save ..) => s
  | none => s

/-! ## Saving (R176) -/

/-- The pages of an image. -/
def pageBytes : Nat := 256
def pageOf (image : List Byte) (page : Nat) : List Byte := (image.drop (pageBytes * page)).take pageBytes

/-- The save goes on: the next page is handed over, or the service ends DONE (R176). -/
def State.saveOn (s : State) (image : List Byte) (setSeen : Bool) (page : Nat) : State :=
  if pageBytes * page < image.length then s.handInternal (.settingsPage page)
  else
    State.endService
      { s with flp := { s.flp with settingsWork := none, image := if setSeen then .modified else .loaded } }
      .settings .none none none

/-- A step of the save has ended well; next is the page that follows. -/
def State.saveStep (s : State) (next : Nat) : State :=
  match s.flp.settingsWork with
  | some (.save image setSeen) => s.saveOn image setSeen next
  | some (.load ..) => s
  | none => s

/-- A step of the save has timed out (R176). -/
def State.saveFailed (s : State) : State :=
  State.endService { s with flp := { s.flp with settingsWork := none, image := .modified } } .settings .flashTimeout
    none none

/-! ## The directory copy (R14) -/

/-- The clip table is replaced, and the announcement lock follows it (R14, R15, R171). -/
def State.withClips (s : State) (t : Table 64 (Option Clip)) : State :=
  State.relockAnnouncement { s with aud := { s.aud with clips := t } }

/-- What follows a directory copy, the table standing as it is now: start-up goes on to the settings, RELEASE to READY, a
load to its cues (R14, R21, R65, R178). -/
def State.afterCopy (s : State) (why : CopyFor) : State :=
  match why with
  | .startUp => s.restartIfTripped.askSettings true []
  | .release => s.restartIfTripped.releaseReady
  | .armLoad =>
      match s.seq.load with
      | some (.directory hdr records) => s.finishLoad hdr records
      | _ => s
  | .staleLoad => s

/-- The directory sector has been read (R14). -/
def State.directoryRead (s : State) (sector : List Byte) : State :=
  match s.aud.copying with
  | some why => (s.nextDirectory.withClips (settleDirectory sector)).afterCopy why
  | none => s

/-- The directory read has timed out: the previous table stands in an ARM, whose load fails, and every id is absent
otherwise (R14, R21, R167). -/
def State.directoryFailed (s : State) : State :=
  match s.aud.copying with
  | some .armLoad =>
      s.nextDirectory.failLoad .flashTimeout none (LoadPhase.label s.seq.load) .load
  | some .staleLoad => s.nextDirectory
  | some why => (s.nextDirectory.withClips (Table.fill 64 none)).afterCopy why
  | none => s

/-! ## Host reads, programs and erases (R164 to R166) -/

/-- The reply of a FLASH_READ, in the place that was held for it (R164, R183; 11 section 11.4.2). -/
def State.answerRead (s : State) (outcome : ReadOutcome) (bytes : List Byte) : State :=
  match s.lif.readPlace with
  | some tag =>
      State.reply { s with lif := { s.lif with readPlace := none } } tag 0x38 .ok
        (byte1 (readOutcomeCode outcome) ++ byte2 bytes.length ++ bytes)
  | none => s

/-- The FLASH service ends, and an announcement lock that waited for it comes into force (R165, R166, R172). -/
def State.endFlash (s : State) (failure : Failure) : State :=
  State.endService { s with flp := s.flp.serviceOver } .flash failure none none

/-- The bytes of the program in progress at the port, and where they go. -/
def State.programOf (s : State) : Txn → Nat × List Byte
  | .hostProgram =>
      match s.flp.work with
      | some w => (w.address, w.data.getD [])
      | none => (0, [])
  | .settingsPage p =>
      match s.flp.settingsWork with
      | some (.save image _) => (Region.base .settings + pageBytes * p, pageOf image p)
      | _ => (0, [])
  | .audChunk | .loadRead .. | .directory | .settingsRead .. | .settingsErase | .hostRead .. | .hostErase => (0, [])

/-- The port's state is replaced. -/
def State.withPort (s : State) (p : Port) : State := { s with flp := { s.flp with port := p } }

/-- The device reports a page program complete (R165, R176). -/
def State.programmed (s : State) (t : Txn) : State :=
  let u : State :=
    { s.withPort .free with flash := Memory.program s.flash (s.programOf t).1 (s.programOf t).2 }
  match t with
  | .hostProgram => u.endFlash .none
  | .settingsPage p => u.saveStep (p + 1)
  | .audChunk | .loadRead .. | .directory | .settingsRead .. | .settingsErase | .hostRead .. | .hostErase => u

/-- The device reports an erase complete (R166, R176). -/
def State.erased (s : State) (t : Txn) : State :=
  let u : State :=
    { s.withPort .free with flash := Memory.erase s.flash (s.flp.eraseExtent t).1 (s.flp.eraseExtent t).2 }
  match t with
  | .hostErase => u.endFlash .none
  | .settingsErase => u.saveStep 0
  | .audChunk | .loadRead .. | .directory | .settingsRead .. | .settingsPage _ | .hostRead .. | .hostProgram => u

/-! ## Timeouts (R167) -/

/-- The outcome of a transaction that has timed out reaches its owner (R167). -/
def State.timedOut (s : State) (t : Txn) : State :=
  match t with
  | .audChunk => { s with aud := s.aud.arrive s.flash false }
  | .loadRead .. => s.loadReadFailed
  | .directory => s.directoryFailed
  | .settingsRead .. => s.settingsReadFailed
  | .settingsErase => s.saveFailed
  | .settingsPage _ => s.saveFailed
  | .hostRead .. => s.answerRead .timeout []
  | .hostProgram => s.endFlash .flashTimeout
  | .hostErase => s.endFlash .flashTimeout

/-- A program or erase has been cut off: its bytes are as the device left them (R167; log entry 5). -/
def State.cutProgram (s : State) (t : Txn) : State :=
  { s with
    flash := Memory.partProgram s.flash (s.programOf t).1 (s.programOf t).2 (Config.programMask s.fresh)
    fresh := s.fresh + 1 }
def State.cutErase (s : State) (t : Txn) : State :=
  { s with
    flash := Memory.partErase s.flash (s.flp.eraseExtent t).1 (s.flp.eraseExtent t).2 (Config.eraseMask s.fresh)
    fresh := s.fresh + 1 }

/-- Whatever the device is doing is cut off, at a reset of the FC24 (R179; log entry 5). -/
def State.cutOff (s : State) : State :=
  match s.flp.port with
  | .programming t => s.cutProgram t
  | .erasing t | .suspended t | .guarded t => s.cutErase t
  | .free | .reading _ | .resetting => s

/-- The device is reset, with "timeout" set (R167). -/
def State.resetDevice (s : State) : State := (s.withPort .resetting).flag .timeout

/-- The transaction in progress reaches its timeout: the device is reset, and each owner meets its outcome; an erase suspended
behind it fails with it, as R167 has it and not R170's third step (R167; log entry 60). -/
def State.flashTimeout (s : State) : State :=
  match s.flp.port with
  | .reading t => s.resetDevice.timedOut t
  | .programming t => (s.cutProgram t).resetDevice.timedOut t
  | .erasing t | .guarded t => (s.cutErase t).resetDevice.timedOut t
  | .suspended t => ((s.cutErase t).resetDevice.timedOut .audChunk).timedOut t
  | .free | .resetting => s

end Sys2Proof.Machine
end

