-- ==== Sys2Proof/Machine/Replies.lean ====
section
/-! DEFINITION. The result fields of the status replies (10, R187, R188; 11 sections 11.4.2 and 11.4.3). -/

namespace Sys2Proof.Machine

/-- Two bytes for each channel of a quad. -/
def quadBytes (q : Levels) : List Byte := q.toList.flatMap byte2

/-- TERGOLAN, ILBORA and FC24, in eight characters each, padded with spaces. -/
def nameBytes : List Byte :=
  [0x54, 0x45, 0x52, 0x47, 0x4F, 0x4C, 0x41, 0x4E]
    ++ [0x49, 0x4C, 0x42, 0x4F, 0x52, 0x41, 0x20, 0x20]
    ++ [0x46, 0x43, 0x32, 0x34, 0x20, 0x20, 0x20, 0x20]

/-- GET_IDENT (R188): hardware revision 1. -/
def State.identFields (s : State) : List Byte :=
  nameBytes ++ byte1 1 ++ byte1 s.lif.bitRate.toNat ++ byteYes s.flp.present
    ++ optField 3 (s.flp.ident.map fun i => [i.1, i.2.1, i.2.2]) ++ byte1 s.lif.lastReset.code

/-- GET_STATUS (R187). -/
def State.statusFields (s : State) : List Byte :=
  byteYes s.lif.halted ++ byte4 s.clock.toNat ++ byteYes s.flp.present ++ byte1 s.flp.image.code
    ++ byte1 s.seq.st.code ++ optField 1 (s.showSlot.map byte1) ++ optField 4 (s.showTime.map byte4s)
    ++ byte2 s.lgt.overtakes
    ++ byte1 s.sup.mode.code ++ byteYes s.sup.permit ++ byte1 s.sup.band ++ gustBytes s.sup.gust ++ byte2 s.sup.calm
    ++ byte1 s.sup.effective.code ++ byte1 s.sup.measured.code ++ byte2 s.sup.average ++ byte2 s.sup.level
    ++ byte4 s.cfg.feeder.budget ++ byte2 s.cfg.feeder.share ++ byte4 s.fda.cap ++ byte4 s.fda.load ++ byte2 s.fda.kL
    ++ byte4 s.fda.allowance ++ byte2 s.fda.k
    ++ byte1 s.lif.armSlot.status.code ++ byte1 s.lif.flashSlot.status.code ++ byte1 s.lif.settingsSlot.status.code
    ++ [s.lif.enable.setWidth 8] ++ byte2 s.lif.dropped ++ byte1 s.lif.inbox.length ++ [s.flags.cluster]

/-- The last reply as GET_GROUP carries it: drive state and fault code only where the drive has reported TRIP; where no reply is
held, zeros (R87; log entry 61). -/
def driveReplyFields : Option DriveReply → List Byte
  | some r =>
      byte2 r.actual ++ byteYes r.openSw ++ byteYes r.closedSw
        ++ optField 1 (if r.drive = .trip then some (byte1 r.drive.code) else none)
        ++ optField 1 (if r.drive = .trip then some [r.code] else none)
  | none => List.replicate 8 0

/-- The last poll of a drive address (R87, R108). -/
def lastPollFields (l : Option LastPoll) : List Byte :=
  optField 5 (l.map fun p => byte1 p.outcome.code ++ byte4 p.ended.toNat)

/-- GET_GROUP (R87). -/
def State.groupFields (s : State) (g : Fin 24) : List Byte :=
  let x := s.groups.get g
  let r := s.groupRecord g
  GroupRecord.bytes g r (Config.unusedPointByte s.fresh)
    ++ optField 1 (x.interlock.map fun i => byte1 i.code) ++ byte1 x.cause.code
    ++ byte2 x.fade.start ++ byte2 x.fade.target ++ x.fade.began.bytes ++ byte2 x.fade.dur
    ++ byte1 x.fade.began.clock.code ++ byte2 (x.fade.height s.showTime s.clock)
    ++ byte2 x.figs.hc ++ byte2 x.figs.h1 ++ byte2 x.figs.h2 ++ byte2 x.figs.s ++ byte2 x.figs.k ++ byte2 x.figs.sp
    ++ byte2 x.sent ++ byte1 x.valve.code ++ byteYes x.starved ++ driveReplyFields x.reply
    ++ lastPollFields (s.dbm.last.get (addressIndex r.address))
    ++ optField 4 (x.computed.map fun t => byte4 t.toNat)

/-- A pending latch (11 section 11.4.3). -/
def latchFields (l : Option Latch) : List Byte :=
  optField 8 (l.map fun l => l.colour.toList ++ byte2 l.fade ++ byte1 l.clock.code ++ byte1 l.origin.code)

/-- GET_FIXTURE: an unassigned fixture reports its record and the rest as zeros (R140). The dry timer's value is worked at the
moment of the reply (log entry 62). -/
def State.fixtureFields (s : State) (f : Fin 96) : List Byte :=
  let x := s.lgt.fixtures.get f
  let r := s.cfg.fixtures.get f
  let levels := x.fade.levels s.showTime s.clock
  FixtureRecord.bytes f r
    ++ (if r.assigned then
        quadBytes x.fade.starts ++ quadBytes x.fade.targets ++ x.fade.began.bytes ++ byte2 x.fade.dur
          ++ byte1 x.fade.began.clock.code ++ quadBytes levels ++ (Levels.bus levels).toList ++ latchFields x.latch
          ++ optField 4 (x.dryStart.map fun d => byte4 (s.clock - d).toNat) ++ byteYes x.capped ++ x.out.toList
      else List.replicate 54 0)

/-- GET_CHANNELS (R144). -/
def State.channelFields (s : State) : List Byte :=
  (List.finRange 27).flatMap fun i =>
    let c := s.sup.channels.get i
    let k := s.cfg.counters.get i
    byte1 c.counter ++ byte1 k.limit ++ byte1 k.hold ++ byte1 (validityCode c.valid) ++ byteYes c.fatal
      ++ optField 4 (c.last.map fun t => byte4 t.toNat)

/-- READ_FLAGS: the six bank bytes, zero for banks not named (R160). -/
def State.flagFields (s : State) (named : Byte) : List Byte :=
  Bank.all.map fun b => if named.getLsbD b.bit then s.flags.read b else 0

/-- A record position of GET_TRIP_LOG, 13 bytes; the slot and the show time share one presence. -/
def TripRecord.bytes (r : TripRecord) : List Byte :=
  r.causes.byte ++ byte4 r.clock.toNat ++ optField 5 (r.atShow.map fun p => byte1 p.1 ++ byte4s p.2)
    ++ byte1 r.band ++ byte1 r.level.code

/-- GET_TRIP_LOG (R158). -/
def State.tripLogFields (s : State) : List Byte :=
  byte1 s.sup.tripLog.length
    ++ (List.range 8).flatMap fun i => ((s.sup.tripLog[i]?).map (·.bytes)).getD (List.replicate 13 0)

/-- GET_SERVICE (R186). -/
def State.serviceFields (s : State) : List Byte :=
  s.lif.armSlot.bytes ++ s.lif.flashSlot.bytes ++ s.lif.settingsSlot.bytes

/-- The counts of a DONE load. -/
def LoadCounts.bytes (c : LoadCounts) : List Byte :=
  byte2 c.cues ++ byte2 c.entries ++ byte2 c.clamps ++ byte2 c.compressed ++ byte2 c.overtaken ++ byte2 c.preroll

/-- GET_LOAD_RESULT (R28). -/
def State.loadFields (s : State) : List Byte :=
  let r := s.seq.result
  byte1 r.outcome.code ++ byte1 r.failure.code ++ byte1 r.slot ++ r.label ++ optField 2 (r.cueIndex.map byte2)
    ++ optField 12 (r.counts.map (·.bytes))

end Sys2Proof.Machine
end

