-- ==== Sys2Proof/Machine/Link.lean ====
section
/-! DEFINITION. LIF: receiving characters and frames, and taking and judging requests (10, R180 to R183; 11 section 11.4.2). -/

namespace Sys2Proof.Machine

/-! ## The end of a step -/

/-- What a step that bears on several blocks ends with: AUD seeks and the arbiter acts, the site is judged, the transmitter
takes its next frame. -/
def State.settle (s : State) : State := s.settleFlash.settleSite.kick

/-! ## Characters (R180) -/

/-- The majority of the three samples of each bit (R180). -/
def charBits (c : LinkChar) : BitVec 11 := (c.s1 &&& c.s2) ||| (c.s1 &&& c.s3) ||| (c.s2 &&& c.s3)

/-- The start bit is accepted: at least two of its samples are low (R180). -/
def charStarts (c : LinkChar) : Bool := !(charBits c).getLsbD 0

/-- The data byte, least significant bit first. -/
def charByte (c : LinkChar) : Byte := (charBits c >>> (1 : Nat)).setWidth 8

/-- A parity error: the data bits and the parity bit have an odd number of ones (00, even parity). -/
def parityBad (c : LinkChar) : Bool :=
  decide (((List.range 9).countP fun i => (charBits c).getLsbD (i + 1)) % 2 = 1)

/-- A framing error: the stop bit is low. -/
def framingBad (c : LinkChar) : Bool := !(charBits c).getLsbD 10

/-! ## Frames (R180, R181) -/

/-- The start byte of a frame. -/
def startByte : Byte := 0xC3

/-- The greatest payload length. -/
def payloadMax : Nat := 1024

/-- The payload length that the first two bytes of a frame give. -/
def frameLen (bs : List Byte) : Nat := u16 bs 0

/-- The bytes after the start byte are a whole frame: length, tag, kind, payload, CRC-16. -/
def frameWhole (bs : List Byte) : Bool := decide (2 ≤ bs.length) && decide (bs.length = 6 + frameLen bs)

/-- The CRC-16 of a whole frame matches. -/
def frameGood (bs : List Byte) : Bool :=
  decide (u16 bs (4 + frameLen bs) = (crc16 (bs.take (4 + frameLen bs))).toNat)

/-- The request of a whole frame. -/
def requestOf (bs : List Byte) : Request := ⟨bs.getD 2 0, bs.getD 3 0, (bs.drop 4).take (frameLen bs)⟩

/-- The receiver's state is replaced. -/
def State.withRx (s : State) (r : Receiver) : State := { s with lif := { s.lif with rx := r } }

/-- A request frame whose CRC-16 matches: it joins the inbox, or is answered BUSY, or is discarded (R181). -/
def State.frameIn (s : State) (q : Request) : State :=
  if s.lif.inbox.length < 4 then { s with lif := { s.lif with inbox := s.lif.inbox ++ [q] } }
  else if s.lif.busyUsed < 8 then
    State.flag
      { s with lif := { s.lif with answers := s.lif.answers ++ [.busy ⟨q.tag, q.kind, .busy, []⟩] } } .inboxBusy
  else s.flag .inboxBusy

/-- A byte received without error (R180, R181). -/
def State.takeByte (s : State) (d : Byte) : State :=
  match s.lif.rx with
  | .hunting => if d = startByte then s.withRx (.inFrame []) else s
  | .inFrame bs =>
      let all := bs ++ [d]
      if all.length = 2 ∧ payloadMax < frameLen all then (s.withRx .hunting).flag .badCrc
      else if frameWhole all then
        if frameGood all then (s.withRx .hunting).frameIn (requestOf all) else (s.withRx .hunting).flag .badCrc
      else s.withRx (.inFrame all)

/-- A character arrives: one with an error sets its flags and is dropped or ends the frame; one whose start bit is not
accepted is no character (R180; log entry 31). -/
def State.receive (s : State) (c : LinkChar) : State :=
  if charStarts c then
    if parityBad c || framingBad c then
      ((s.withRx .hunting).flagIf (parityBad c) .parity).flagIf (framingBad c) .framing
    else s.takeByte (charByte c)
  else s

/-- The character completes a frame with a matching CRC-16 (R181). -/
def State.completes (s : State) (c : LinkChar) : Bool :=
  charStarts c && !parityBad c && !framingBad c
    && match s.lif.rx with
      | .hunting => false
      | .inFrame bs => frameWhole (bs ++ [charByte c]) && frameGood (bs ++ [charByte c])

/-- The transmitter has sent its frame to the end: its reply place or BUSY entry is freed, and it chooses the next (R184). -/
def State.frameSent (s : State) : State := State.kick { s with lif := { s.lif with tx := none } }

/-! ## Taking and judging requests (R182, R183) -/

/-- A row of the request catalogue: the kind, the allowed payload lengths, whether it is taken while halted, whether it
waits for READY, and the service slot it uses (10 section 10.5, R182, R193). -/
structure RequestRule where
  kind : Byte
  least : Nat
  most : Nat
  takenHalted : Bool
  waitsReady : Bool
  slot : Option ServiceSlot
deriving DecidableEq, Repr

/-- A rule for a payload of one length, taken while halted and before READY: the status and configuration requests. -/
def RequestRule.plain (kind : Byte) (len : Nat) : RequestRule := ⟨kind, len, len, true, false, none⟩

/-- A rule for the show and direct requests: refused while halted and before READY. -/
def RequestRule.live (kind : Byte) (len : Nat) : RequestRule := ⟨kind, len, len, false, true, none⟩

/-- The catalogue (11 section 11.4.2). -/
def RequestRule.getIdent : RequestRule := .plain 0x01 0
def RequestRule.getStatus : RequestRule := .plain 0x02 0
def RequestRule.getGroup : RequestRule := .plain 0x03 1
def RequestRule.getFixture : RequestRule := .plain 0x04 1
def RequestRule.getChannels : RequestRule := .plain 0x05 0
def RequestRule.readFlags : RequestRule := .plain 0x06 1
def RequestRule.getTripLog : RequestRule := .plain 0x07 0
def RequestRule.getService : RequestRule := .plain 0x08 0
def RequestRule.getLoadResult : RequestRule := .plain 0x09 0
def RequestRule.setGroup : RequestRule := .plain 0x10 64
def RequestRule.setFixture : RequestRule := .plain 0x11 17
def RequestRule.setZone : RequestRule := .plain 0x12 5
def RequestRule.setWind : RequestRule := .plain 0x13 87
def RequestRule.setLevel : RequestRule := .plain 0x14 8
def RequestRule.setFeeder : RequestRule := .plain 0x15 6
def RequestRule.setCounter : RequestRule := .plain 0x16 3
def RequestRule.setDriveBus : RequestRule := .plain 0x17 1
def RequestRule.setShowOptions : RequestRule := .plain 0x18 6
def RequestRule.setReports : RequestRule := .plain 0x19 1
def RequestRule.arm : RequestRule := ⟨0x20, 1, 1, false, true, some .arm⟩
def RequestRule.disarm : RequestRule := .live 0x21 0
def RequestRule.start : RequestRule := .live 0x22 0
def RequestRule.hold : RequestRule := .live 0x23 0
def RequestRule.resume : RequestRule := .live 0x24 0
def RequestRule.stop : RequestRule := .live 0x25 0
def RequestRule.directJet : RequestRule := .live 0x28 7
def RequestRule.directLight : RequestRule := .live 0x29 8
def RequestRule.directClip : RequestRule := .live 0x2A 2
def RequestRule.clearTrip : RequestRule := ⟨0x30, 0, 0, false, false, none⟩
def RequestRule.clearGroupFault : RequestRule := ⟨0x31, 1, 1, false, false, none⟩
def RequestRule.flashRead : RequestRule := ⟨0x38, 7, 7, true, true, none⟩
def RequestRule.flashWrite : RequestRule := ⟨0x39, 5, 1024, true, false, some .flash⟩
def RequestRule.flashErase : RequestRule := ⟨0x3A, 6, 6, true, false, some .flash⟩
def RequestRule.saveSettings : RequestRule := ⟨0x3B, 0, 0, true, false, some .settings⟩
def RequestRule.reloadSettings : RequestRule := ⟨0x3C, 0, 0, true, false, some .settings⟩
def RequestRule.halt : RequestRule := ⟨0x40, 0, 0, false, true, none⟩
def RequestRule.release : RequestRule := ⟨0x41, 0, 0, true, true, none⟩

/-- The request kinds of the catalogue. -/
def requestKinds : List Byte :=
  [0x01, 0x02, 0x03, 0x04, 0x05, 0x06, 0x07, 0x08, 0x09]
    ++ [0x10, 0x11, 0x12, 0x13, 0x14, 0x15, 0x16, 0x17, 0x18, 0x19]
    ++ [0x20, 0x21, 0x22, 0x23, 0x24, 0x25, 0x28, 0x29, 0x2A, 0x30, 0x31]
    ++ [0x38, 0x39, 0x3A, 0x3B, 0x3C, 0x40, 0x41]

/-- A condition of a judgement: it holds and refuses, or the judgement goes on. -/
def refuseIf (c : Bool) (st : Status) : Except Status Unit := if c then .error st else .ok ()

/-- A part of a payload that must be there, or the judgement refuses. -/
def need {α : Type} (o : Option α) (st : Status) : Except Status α :=
  match o with
  | some a => .ok a
  | none => .error st

/-- LIF's own judgement of a request of the catalogue (R182). -/
def State.linkJudge (s : State) (r : RequestRule) (p : List Byte) : Except Status Unit := do
  refuseIf (!within r.least r.most p.length) .badLength
  refuseIf (s.lif.halted && !r.takenHalted) .halted
  refuseIf (s.lif.starting && r.waitsReady) .busy
  refuseIf (r.slot.any fun k => (s.lif.slot k).active) .busy

/-- A request is answered: its reply place is filled. -/
def State.answer (s : State) (q : Request) (st : Status) (fields : List Byte) : State := s.reply q.tag q.kind st fields

/-- A judged request: refused with its status, or carried out. -/
def State.judged {α : Type} (s : State) (q : Request) (j : Except Status α) (act : α → State) : State :=
  match j with
  | .error st => s.answer q st []
  | .ok a => act a

/-- The oldest request has been taken from the inbox. -/
def State.taken (s : State) : State := { s with lif := { s.lif with inbox := s.lif.inbox.tail } }

/-- LIF takes the oldest request when it is of this kind and the reply queue has a free place, judges it, and hands it to its
owner; the transmitter then takes its next frame (R182; log entry 3). -/
def State.serve (s : State) (r : RequestRule) (mine : Request → Bool) (owner : State → Request → State) : State :=
  match s.lif.inbox with
  | [] => s
  | q :: _ =>
      if q.kind = r.kind ∧ mine q = true ∧ s.lif.placesUsed < 4 then
        State.kick (s.taken.judged q (s.linkJudge r q.payload) fun _ => owner s.taken q)
      else s

/-- Every request of the kind. -/
def anyOf (_ : Request) : Bool := true

/-- A request whose kind the catalogue does not have is taken and refused (R182). -/
def State.serveUnknown (s : State) : State :=
  match s.lif.inbox with
  | [] => s
  | q :: _ =>
      if q.kind ∉ requestKinds ∧ s.lif.placesUsed < 4 then State.kick (s.taken.answer q .unknownKind []) else s

/-- A number as an index below n. -/
def indexOf (n k : Nat) : Option (Fin n) := if h : k < n then some ⟨k, h⟩ else none

end Sys2Proof.Machine
end

