-- ==== Sys2Proof/Machine/Drives.lean ====
section
/-! DEFINITION. Meanings: the drive bus cycle, its polls and replies, and the valve stroke timers (05, R90 to R110). -/

namespace Sys2Proof.Machine

/-- DRIVE_CYCLE (R103, R104, R110). -/
def execDriveCycle (s : State) : Outcome := .next s.driveCycle

/-- The longest quiet wait before a poll, in microseconds (R105). -/
def quietMaxUs : Nat := 5000

/-- POLL_SENT: the drive at the head of the schedule is polled, the line having been found quiet in time (R76, R105, R106). -/
def execPollSent (quietUs : Nat) (s : State) : Outcome :=
  .next <|
    match s.dbm.poll, s.dbm.schedule with
    | none, e :: rest => if quietUs ≤ quietMaxUs then State.settle (s.sendPoll e rest quietUs) else s
    | _, _ => s

/-- LINE_JAMMED (R105). -/
def execLineJammed (s : State) : Outcome :=
  .next <|
    match s.dbm.poll, s.dbm.schedule with
    | none, e :: rest => State.settle (s.jamLine e (e :: rest))
    | _, _ => s

/-- DRIVE_REPLY: a complete reply within the window ends the poll in progress (R107, R108). -/
def execDriveReply (bytes : ReplyBytes) (framingError : Bool) (replyUs : Nat) (s : State) : Outcome :=
  .next <|
    match s.dbm.poll with
    | some p =>
        if replyUs ≤ s.dbm.windowUs then
          State.settle
            (s.endPoll p (judgeReply p bytes framingError) (replyFields bytes) (p.quietUs + sendUs + replyUs))
        else s
    | none => s

/-- REPLY_WINDOW_EXPIRY: the poll in progress ends NO_REPLY (R107, R108). -/
def execReplyWindowExpiry (s : State) : Outcome :=
  .next <|
    match s.dbm.poll with
    | some p => State.settle (s.endPoll p .noReply noReplyFields (p.quietUs + sendUs + s.dbm.windowUs))
    | none => s

/-- STROKE_TIMEOUT (R96). -/
def execStrokeTimeout (g : Fin 24) (s : State) : Outcome :=
  .next (if s.strokeDue g then (s.strokeExpire g).settle else s)

end Sys2Proof.Machine
end

