-- ==== Sys2Proof/Machine/FlashEvents.lean ====
section
/-! DEFINITION. Meanings: the ends of flash transactions, the suspend guard, timeouts and the device reset (09, R164 to R178;
03 R50). -/

namespace Sys2Proof.Machine

/-- AUD's chunk has been read well: it is stored, and the port is FREE, or GUARDED with the erase resumed (R50, R170). -/
def State.chunkRead (s : State) (p : Port) : State :=
  State.settleFlash { s.withPort p with aud := s.aud.arrive s.flash true }

/-- CHUNK_ARRIVAL: good, or a timeout, which resets the device (R50, R51, R167, R170). -/
def execChunkArrival (outcome : ReadOutcome) (s : State) : Outcome :=
  .next <|
    match s.flp.port, outcome with
    | .reading .audChunk, .good => s.chunkRead .free
    | .suspended t, .good => s.chunkRead (.guarded t)
    | .reading .audChunk, .timeout => s.flashTimeout.settle
    | .suspended _, .timeout => s.flashTimeout.settle
    | _, _ => s

/-- SUSPEND_GUARD_END: the port becomes ERASING, and a waiting refill suspends the erase at once (R170). -/
def execSuspendGuardEnd (s : State) : Outcome :=
  .next <|
    match s.flp.port with
    | .guarded t => (s.withPort (.erasing t)).settleFlash
    | _ => s

/-- FLASH_TIMEOUT: the transaction in progress (R167). -/
def execFlashTimeout (s : State) : Outcome :=
  .next <|
    match s.flp.port with
    | .free => s
    | .resetting => s
    | _ => s.flashTimeout.settle

/-- DEVICE_RESET_COMPLETE: the port is FREE and the arbiter chooses (R167, R169). -/
def execDeviceResetComplete (s : State) : Outcome :=
  .next (if s.flp.port = .resetting ∧ s.flp.presence ≠ .unidentified then (s.withPort .free).settleFlash else s)

/-- LOAD_READ_DONE (R20, R164). -/
def execLoadReadDone (s : State) : Outcome :=
  .next <|
    match s.flp.port with
    | .reading (.loadRead a n) => ((s.withPort .free).loadRead (Memory.readBytes s.flash a n)).settleFlash.kick
    | _ => s

/-- DIRECTORY_READ_DONE (R14, R164). -/
def execDirectoryReadDone (s : State) : Outcome :=
  .next <|
    match s.flp.port with
    | .reading .directory =>
        ((s.withPort .free).directoryRead (Memory.readBytes s.flash (Region.base .clips) readMax)).settle
    | _ => s

/-- SETTINGS_READ_DONE (R175). -/
def execSettingsReadDone (s : State) : Outcome :=
  .next <|
    match s.flp.port with
    | .reading (.settingsRead o n) =>
        ((s.withPort .free).settingsRead (Memory.readBytes s.flash (Region.base .settings + o) n)).settle
    | _ => s

/-- FLASH_READ_DONE: GOOD with the bytes, or TIMEOUT, which resets the device (R164, R167). -/
def execFlashReadDone (outcome : ReadOutcome) (s : State) : Outcome :=
  .next <|
    match s.flp.port, outcome with
    | .reading (.hostRead a n), .good =>
        ((s.withPort .free).answerRead .good (Memory.readBytes s.flash a n)).settleFlash.kick
    | .reading (.hostRead ..), .timeout => s.flashTimeout.settle
    | _, _ => s

/-- PROGRAM_DONE (R165, R176). -/
def execProgramDone (s : State) : Outcome :=
  .next <|
    match s.flp.port with
    | .programming t => (s.programmed t).settleFlash.kick
    | _ => s

/-- ERASE_DONE: of an erase in progress in the device, within the guard too. Where the guard's end was taken first with a refill
waiting, the suspension has met a completed erase: the erase ends and the refill is served, as in the other order (R166,
R170, R176). -/
def execEraseDone (s : State) : Outcome :=
  .next <|
    match s.flp.port with
    | .erasing t => (s.erased t).settleFlash.kick
    | .guarded t => (s.erased t).settleFlash.kick
    | .suspended t => (s.unsuspended.erased t).settleFlash.kick
    | _ => s

end Sys2Proof.Machine
end

