-- ==== Sys2Proof/Machine/Frames.lean ====
section
/-! DEFINITION. Meanings: lamp frames, audio frames, the show clock's millisecond, and what AUD does at a frame's boundary
(07 R129, 03 R44 to R64, 02 R33). -/

namespace Sys2Proof.Machine

/-- LAMP_FRAME (R129 to R135). -/
def execLampFrame (s : State) : Outcome := .next s.lampFrame

/-- The frame count is at its greatest value and is about to be counted (R45). -/
def Aud.atMax (a : Aud) : Bool := a.counting && decide (countMax ≤ a.count)

/-- AUDIO_FRAME (R44, R45, R52, R55, R57, R58, R61). -/
def execAudioFrame (s : State) : Outcome :=
  .next <| State.settleFlash
    { s with
      aud := s.aud.frame s.cfg (Config.countAfterMax s.fresh)
      fresh := if s.aud.atMax then s.fresh + 1 else s.fresh }

/-- SHOW_MILLISECOND: a dispatch event in RUNNING, the end test in STOPPING; in HELD the millisecond waits (R33, R41,
R46). -/
def execShowMillisecond (s : State) : Outcome :=
  let t : State := { s with aud := { s.aud with msDue := false } }
  .next <|
    if s.aud.msDue then
      match s.seq.st, s.showTime with
      | .running, some now => (t.dispatchEvent now).settleFlash.kick
      | .stopping, _ => t.testStopping.settleFlash.kick
      | _, _ => s
    else s

/-- A PENDING show buffer is at its start: counting is on and the frame about to be output has its show frame number (R46,
R53). -/
def Aud.atStart (a : Aud) (i : BufId) : Bool :=
  a.counting && (a.buf i).any fun st =>
    !st.playing && decide (st.origin = .fromShow) && decide (st.start = (a.count : Int) + 48 * a.base)

/-- A PENDING direct or announcement buffer is ready, after any gap has run out (R53, R64). -/
def Aud.readyToStart (a : Aud) (i : BufId) : Bool :=
  (a.buf i).any fun st =>
    !st.playing && decide (st.origin ≠ .fromShow) && st.ready
      && (decide (st.origin ≠ .announcement) || decide (a.gapLeft.getD 0 = 0))

/-- A buffer becomes PLAYING; the other, if it was PLAYING, is cut and discarded (R53). -/
def Aud.startBuf (a : Aud) (i : BufId) : Aud :=
  let b := if ((a.buf i.other).any (·.playing)) = true then a.discard i.other else a
  b.setBuf i ((b.buf i).map fun st => { st with playing := true })

/-- SHOW_CLIP_START (R53). -/
def execShowClipStart (s : State) : Outcome :=
  .next <|
    if s.aud.atStart .a then State.settleFlash { s with aud := s.aud.startBuf .a }
    else if s.aud.atStart .b then State.settleFlash { s with aud := s.aud.startBuf .b }
    else s

/-- CLIP_START_WHEN_READY: the gap of an announcement is over when it starts (R53, R64). -/
def execClipStartWhenReady (s : State) : Outcome :=
  .next <|
    if s.aud.readyToStart .a then State.settleFlash { s with aud := { s.aud.startBuf .a with gapLeft := none } }
    else if s.aud.readyToStart .b then State.settleFlash { s with aud := { s.aud.startBuf .b with gapLeft := none } }
    else s

/-- The PLAYING buffer whose clip has ended (R52). -/
def Aud.endedBuf (a : Aud) : Option BufId := a.playing.filter fun i => (a.buf i).any fun st => decide (st.clip.frames ≤ st.read)

/-- A clip has ended: its buffer becomes EMPTY; an announcement starts its gap and is given to buffer A afresh (R52, R64). -/
def Aud.clipEnd (a : Aud) (i : BufId) (o : ShowOptions) : Aud :=
  if ((a.buf i).any fun st => decide (st.origin = .announcement)) = true then
    { (a.discard i).giveAnnouncement o with gapLeft := some (48000 * o.gap) }
  else a.discard i

/-- CLIP_END (R52, R64). -/
def execClipEnd (s : State) : Outcome :=
  .next <|
    match s.aud.endedBuf with
    | some i => State.settleFlash { s with aud := s.aud.clipEnd i s.cfg.options }
    | none => s

/-- ANNOUNCEMENT_GAP_END (R64). -/
def execAnnouncementGapEnd (s : State) : Outcome :=
  .next (if s.aud.gapLeft = some 0 then { s with aud := { s.aud with gapLeft := none } } else s)

/-- The mute of a trip is complete (R63; log entry 35). -/
def Aud.muteOver (a : Aud) : Bool := a.muting && (decide (a.m = 0) || decide (a.playing = none))

/-- MUTE_COMPLETE (R63). -/
def execMuteComplete (s : State) : Outcome :=
  .next (if s.aud.muteOver then State.settleFlash { s with aud := s.aud.muteDone s.cfg.options } else s)

/-- A stop fade has reached its end (R59). -/
def Aud.fadeOver (a : Aud) : Bool := a.stopFade.any fun f => decide (f.n ≤ f.j)

/-- The PLAYING buffer is discarded. -/
def Aud.discardPlaying (a : Aud) : Aud :=
  match a.playing with
  | some i => a.discard i
  | none => a

/-- STOP_FADE_END (R59). -/
def execStopFadeEnd (s : State) : Outcome :=
  .next (if s.aud.fadeOver then State.settleFlash { s with aud := s.aud.discardPlaying } else s)

/-- The frames of an underrun window (R62). -/
def windowFrames : Nat := 4800

/-- AUDIO_WINDOW_END: the count and the note are handed to SUP; a window with the note set is an evaluation (R62, R142). -/
def execAudioWindowEnd (s : State) : Outcome :=
  .next <|
    if windowFrames ≤ s.aud.winFrames then
      let t : State := { s with aud := { s.aud with winFrames := 0, winUnderruns := 0, winNote := false } }
      if s.aud.winNote then
        (t.evaluate 26 (if 0 < s.aud.winUnderruns then .error else .good)).settleSite.kick
      else t
    else s

end Sys2Proof.Machine
end

