-- ==== Sys2Proof/Machine/LinkEvents.lean ====
section
/-! DEFINITION. Meanings: the show link's line, unknown requests, the status requests and SET_REPORTS (10). -/

namespace Sys2Proof.Machine

/-! ## The line (R180, R181, R184) -/

/-- LINK_FRAME_RECEIVED: a character that completes a frame with a matching CRC-16 (R181). -/
def execLinkFrameReceived (c : LinkChar) (s : State) : Outcome :=
  .next (if s.completes c then (s.receive c).kick else s)

/-- LINK_BYTE_RECEIVED: a character that completes no such frame (R180). -/
def execLinkByteReceived (c : LinkChar) (s : State) : Outcome := .next (if s.completes c then s else s.receive c)

/-- GAP_TIMEOUT: inside a frame (R180). -/
def execGapTimeout (s : State) : Outcome :=
  .next <|
    match s.lif.rx with
    | .inFrame _ => (s.withRx .hunting).flag .gapTimeout
    | .hunting => s

/-- FRAME_SENT (R184). -/
def execFrameSent (s : State) : Outcome := .next (if s.lif.tx.isSome then s.frameSent else s)

/-! ## Requests of LIF and the status requests -/

/-- UNKNOWN_REQUEST (R182). -/
def execUnknownRequest (s : State) : Outcome := .next s.serveUnknown

/-- GET_IDENT (R188). -/
def execGetIdent (s : State) : Outcome :=
  .next (s.serve .getIdent anyOf fun t q => t.answer q .ok t.identFields)

/-- GET_STATUS (R187). -/
def execGetStatus (s : State) : Outcome :=
  .next (s.serve .getStatus anyOf fun t q => t.answer q .ok t.statusFields)

/-- GET_GROUP (R87). -/
def execGetGroup (s : State) : Outcome :=
  .next <| s.serve .getGroup anyOf fun t q =>
    t.judged q (need (indexOf 24 (u8 q.payload 0)) .outOfRange) fun g =>
      (t.answer q .ok (t.groupFields g)).tick

/-- GET_FIXTURE (R140). -/
def execGetFixture (s : State) : Outcome :=
  .next <| s.serve .getFixture anyOf fun t q =>
    t.judged q (need (indexOf 96 (u8 q.payload 0)) .outOfRange) fun f => t.answer q .ok (t.fixtureFields f)

/-- GET_CHANNELS (R144). -/
def execGetChannels (s : State) : Outcome :=
  .next (s.serve .getChannels anyOf fun t q => t.answer q .ok t.channelFields)

/-- The banks that a READ_FLAGS names; bits of no bank are not read (R160, R193). -/
def banksNamed (p : List Byte) : Byte := p.getD 0 0 &&& 0x3F

/-- READ_FLAGS (R160). -/
def execReadFlags (s : State) : Outcome :=
  .next <| s.serve .readFlags anyOf fun t q =>
    t.judged q (refuseIf (decide (banksNamed q.payload = 0)) .outOfRange) fun _ =>
      State.answer { t with flags := t.flagsAfterRead (banksNamed q.payload) } q .ok (t.flagFields (banksNamed q.payload))

/-- GET_TRIP_LOG (R158). -/
def execGetTripLog (s : State) : Outcome :=
  .next (s.serve .getTripLog anyOf fun t q => t.answer q .ok t.tripLogFields)

/-- GET_SERVICE (R186). -/
def execGetService (s : State) : Outcome :=
  .next (s.serve .getService anyOf fun t q => t.answer q .ok t.serviceFields)

/-- GET_LOAD_RESULT (R28). -/
def execGetLoadResult (s : State) : Outcome :=
  .next (s.serve .getLoadResult anyOf fun t q => t.answer q .ok t.loadFields)

/-- SET_REPORTS (R185). -/
def execSetReports (s : State) : Outcome :=
  .next <| s.serve .setReports anyOf fun t q =>
    State.answer { t with lif := { t.lif with enable := (q.payload.getD 0 0).setWidth 6 } } q .ok []

end Sys2Proof.Machine
end

