-- ==== Sys2Proof/Machine/PartRequests.lean ====
section
/-! DEFINITION. Meanings: the safety requests, the flash requests, HALT and RELEASE (08 R156, 05 R98, 09 R164 to R177, 10 R190
R191). -/

namespace Sys2Proof.Machine

/-! ## CLEAR_TRIP and CLEAR_GROUP_FAULT -/

/-- The judgement of CLEAR_TRIP, the inputs as they stand at this moment (R156). -/
def State.judgeClearTrip (s : State) (inputs : Inputs) : Except Status Unit := do
  refuseIf (!s.isTripped) .wrongState
  refuseIf (inputActive inputs) .inputActive

/-- CLEAR_TRIP (R156). -/
def execClearTrip (inputs : Inputs) (s : State) : Outcome :=
  .next <| s.serve .clearTrip anyOf fun t q =>
    t.judged q (t.judgeClearTrip inputs) fun _ =>
      (State.clearTrip { t.answer q .ok [] with pins := inputs }).settle

/-- The judgement of CLEAR_GROUP_FAULT (R98). -/
def State.judgeClearFault (s : State) (p : List Byte) : Except Status (Fin 24) := do
  let g ← need (indexOf 24 (u8 p 0)) .outOfRange
  refuseIf (!(s.groupRecord g).configured) .outOfRange
  refuseIf (decide ((s.groups.get g).interlock ≠ some .fault)) .wrongState
  return g

/-- CLEAR_GROUP_FAULT: the group enters CLOSING with its fault cause cleared (R98). -/
def execClearGroupFault (s : State) : Outcome :=
  .next <| s.serve .clearGroupFault anyOf fun t q =>
    t.judged q (t.judgeClearFault q.payload) fun g =>
      ((t.answer q .ok []).changeInterlock g .fault .closing .none none).settle

/-! ## FLASH_READ (R164) -/

/-- The device address of a region and offset (R163). -/
def Region.address (r : Region) (offset : Nat) : Nat := r.base + offset

/-- The judgement of FLASH_READ: the device address and the length (R164). The read place is occupied, and a new read BUSY, until
the earlier read's transaction has ended: the model's reading (log entry 75). -/
def State.judgeFlashRead (s : State) (p : List Byte) : Except Status (Nat × Nat) := do
  refuseIf s.lif.readPlace.isSome .busy
  refuseIf s.flp.noFlash .noFlash
  let r ← need (Region.ofCode (u8 p 0)) .outOfRange
  refuseIf (!within 1 512 (u16 p 5)) .outOfRange
  refuseIf (decide (r.size < u32 p 1 + u16 p 5)) .outOfRegion
  return (r.address (u32 p 1), u16 p 5)

/-- An accepted FLASH_READ: its reply place is held, and the read handed to the arbiter (R164, R183). -/
def State.flashRead (s : State) (tag : Byte) (address len : Nat) : State :=
  State.handLif { s with lif := { s.lif with readPlace := some tag } } (.hostRead address len)

/-- FLASH_READ (R164). -/
def execFlashRead (s : State) : Outcome :=
  .next <| s.serve .flashRead anyOf fun t q =>
    t.judged q (t.judgeFlashRead q.payload) fun a => (t.flashRead q.tag a.1 a.2).settleFlash

/-! ## FLASH_WRITE and FLASH_ERASE (R165, R166, R172) -/

/-- The conditions that end both judgements: CONFLICT with the SETTINGS slot, and the locks (R165, R172). -/
def State.needUnlocked (s : State) (lo hi : Nat) : Except Status Unit := do
  refuseIf s.lif.settingsSlot.active .conflict
  refuseIf (s.flp.lockMeets lo hi) .locked

/-- The data of a FLASH_WRITE. -/
def writeData (p : List Byte) : List Byte := p.drop 5

/-- A write of n bytes at an offset crosses a 256-byte page boundary (R165). -/
def crossesPage (offset n : Nat) : Bool := decide (offset / pageBytes ≠ (offset + n - 1) / pageBytes)

/-- The judgement of FLASH_WRITE (R165). -/
def State.judgeFlashWrite (s : State) (p : List Byte) : Except Status FlashWork := do
  refuseIf s.flp.noFlash .noFlash
  let r ← need (Region.ofCode (u8 p 0)) .outOfRange
  let n := (writeData p).length
  refuseIf (!within 1 256 n) .outOfRange
  refuseIf (decide (r.size < u32 p 1 + n)) .outOfRegion
  refuseIf (crossesPage (u32 p 1) n) .outOfRange
  s.needUnlocked (r.address (u32 p 1)) (r.address (u32 p 1) + n)
  return ⟨r.address (u32 p 1), n, some (writeData p)⟩

/-- The erase size of a code: SECTOR or BLOCK (R166). -/
def eraseSizeOf : Nat → Option Nat
  | 0 => some 4096
  | 1 => some 65536
  | _ => none

/-- The judgement of FLASH_ERASE (R166). -/
def State.judgeFlashErase (s : State) (p : List Byte) : Except Status FlashWork := do
  refuseIf s.flp.noFlash .noFlash
  let r ← need (Region.ofCode (u8 p 0)) .outOfRange
  let n ← need (eraseSizeOf (u8 p 5)) .outOfRange
  refuseIf (decide (r.size < u32 p 1 + n)) .outOfRegion
  refuseIf (decide (u32 p 1 % n ≠ 0)) .outOfRange
  s.needUnlocked (r.address (u32 p 1)) (r.address (u32 p 1) + n)
  return ⟨r.address (u32 p 1), n, none⟩

/-- An accepted FLASH service: the slot is QUEUED and holds its extent, and the transaction is handed over (R165, R166). -/
def State.beginFlash (s : State) (kind tag : Byte) (w : FlashWork) (t : Txn) : State :=
  State.handLif
    (State.beginService { s with flp := { s.flp with work := some w } } .flash .queued kind tag) t

/-- A FLASH service is refused or accepted; a refusal with LOCKED sets "locked refusal" (R172). -/
def State.flashService (s : State) (q : Request) (j : Except Status FlashWork) (t : Txn) : State :=
  match j with
  | .error st => (s.answer q st []).flagIf (decide (st = .locked)) .lockedRefusal
  | .ok w => ((s.answer q .accepted []).beginFlash q.kind q.tag w t).settleFlash

/-- FLASH_WRITE (R165). -/
def execFlashWrite (s : State) : Outcome :=
  .next <| s.serve .flashWrite anyOf fun t q => t.flashService q (t.judgeFlashWrite q.payload) .hostProgram

/-- FLASH_ERASE (R166). -/
def execFlashErase (s : State) : Outcome :=
  .next <| s.serve .flashErase anyOf fun t q => t.flashService q (t.judgeFlashErase q.payload) .hostErase

/-! ## SAVE_SETTINGS and RELOAD_SETTINGS (R176, R177) -/

/-- The judgement of SAVE_SETTINGS (R176). -/
def State.judgeSave (s : State) : Except Status Unit := do
  refuseIf s.flp.noFlash .noFlash
  refuseIf s.lif.flashSlot.active .conflict

/-- An accepted SAVE_SETTINGS: the image is built from the settings as they stand, and the region's erase handed over
(R176). -/
def State.beginSave (s : State) (q : Request) : State :=
  State.handInternal
    (State.beginService
      { s with
        flp := { s.flp with settingsWork := some (.save (s.cfg.image (Config.unusedPointByte s.fresh)) false) }
        fresh := s.fresh + 1 }
      .settings .running q.kind q.tag)
    .settingsErase

/-- SAVE_SETTINGS (R176). -/
def execSaveSettings (s : State) : Outcome :=
  .next <| s.serve .saveSettings anyOf fun t q =>
    t.judged q t.judgeSave fun _ => ((t.answer q .accepted []).beginSave q).settleFlash

/-- The judgement of RELOAD_SETTINGS (R177). -/
def State.judgeReload (s : State) : Except Status Unit := do
  s.judgeSave
  refuseIf (!s.isIdle) .showActive

/-- RELOAD_SETTINGS (R177). -/
def execReloadSettings (s : State) : Outcome :=
  .next <| s.serve .reloadSettings anyOf fun t q =>
    t.judged q t.judgeReload fun _ =>
      ((State.beginService (t.answer q .accepted []) .settings .running q.kind q.tag).askSettings false []).settleFlash

/-! ## HALT and RELEASE (R190, R191) -/

/-- HALT: each block acts as its chapter gives, SEQ's reports before WTR's (R190; log entry 73). -/
def State.haltPart (s : State) : State :=
  let t := State.abortShow { s with lif := { s.lif with halted := true } } .aborted .halt
  let u : State :=
    { t with
      lgt := t.lgt.halt fun f => Config.fixtureFadeStart t.fresh f.val
      aud := t.aud.halt t.cfg.zones
      fresh := t.fresh + 1 }
  u.waterDown.lowerPermit

/-- HALT (R190). -/
def execHalt (s : State) : Outcome :=
  .next <| s.serve .halt anyOf fun t q => ((t.answer q .ok []).haltPart).settle

/-- SEQ at RELEASE: as at a reset; a read of an interrupted load that is still at the flash port is still to be discarded
(R17, R168). -/
def Seq.release (q : Seq) : Seq := { Seq.reset with staleRead := q.staleRead || LoadPhase.reading q.load }

/-- A channel at RELEASE: at its start, but for a fatal one (R162). -/
def Channel.release (c : Channel) : Channel := if c.fatal then { c with last := none } else Channel.reset

/-- SUP at RELEASE: as at a pin reset, keeping the trip log, the fatal channels, the latched causes with a TRIPPED mode, and
the start-up mark (R162). A SITE report is owed where the band or the effective level changes. -/
def Sup.release (u : Sup) : Sup :=
  { Sup.reset with
    channels := u.channels.map Channel.release
    causes := u.causes
    mode := if u.mode = .tripped then .tripped else .restricted
    startMark := u.startMark
    tripLog := u.tripLog
    siteDue := u.permit || decide (u.band ≠ 7) || decide (u.effective ≠ .low) }

/-- The flag banks at RELEASE: LINK and FLASH are kept, the others as at a reset (R161, R191). -/
def Flags.release (f : Flags) : Flags := { Flags.reset with link := f.link, flash := f.flash }

/-- FDA at RELEASE: as at a reset, C and A from the kept settings (R122). -/
def Fda.release (f : FeederSettings) : Fda :=
  { Fda.reset with cap := lightCap f, allowance := waterAllowance f.budget (lightCap f) 0 }

/-- A group at RELEASE: fade record, last sent speed, last figures, last reply and budget-starved as at a reset, before it
enters CLOSING (R89). -/
def Group.release (x : Group) : Group := { Group.reset with interlock := x.interlock }

/-- A configured group enters CLOSING at RELEASE, whatever state it held, and then LOST where its DRIVE channel is still
INVALID (R88, R102). -/
def State.reenter (s : State) (g : Fin 24) : State :=
  match (s.groups.get g).interlock with
  | none => s
  | some left =>
      let t := s.changeInterlock g left .closing .none none
      if (t.sup.channels.get (driveChannel g)).valid then t else t.changeInterlock g .closing .lost .none none

/-- The directory copy of RELEASE; with no flash every clip id is absent and READY follows at once (R14, R178). -/
def State.releaseCopy (s : State) : State :=
  if s.flp.noFlash then
    State.releaseReady { s with aud := { s.aud with clips := Table.fill 64 none } }
  else s.askDirectory .release

/-- RELEASE: SEQ, AUD, WTR, LGT, FDA and SUP start as at a pin reset with the working settings kept, the site is judged from
the inputs unless it is TRIPPED, a TRIPPED site's announcement restarts, and the directory is copied (R65, R162, R191). The
groups enter CLOSING before the inputs are judged (log entry 40). -/
def State.releasePart (s : State) (inputs : Inputs) : State :=
  let t : State :=
    { s with
      clock := 0
      lif := { s.lif with halted := false, lastReset := .release }
      seq := s.seq.release
      aud := s.aud.release s.cfg.zones
      groups := s.groups.map Group.release
      lgt := Lgt.reset
      fda := Fda.release s.cfg.feeder
      sup := s.sup.release
      flags := s.flags.release
      pins := inputs }
  let u := t.eachGroup fun g a => a.reenter g
  let v := if s.isTripped then u.restartIfTripped else u.judgeInputs inputs
  v.rescale.releaseCopy

/-- RELEASE: refused when the part is not halted (R191). -/
def execRelease (inputs : Inputs) (s : State) : Outcome :=
  .next <| s.serve .release anyOf fun t q =>
    t.judged q (refuseIf (!t.lif.halted) .wrongState) fun _ => ((t.answer q .ok []).releasePart inputs).settle

end Sys2Proof.Machine
end

