-- ==== Sys2Proof/Machine/Resets.lean ====
section
/-! DEFINITION. Meanings: power-on, pin reset, identification, the site's inputs and timers (09 R178, 08 R142 to R158). -/

namespace Sys2Proof.Machine

/-! ## Resets (R17, R69, R89, R111, R122, R141, R161, R178, R179, R192) -/

/-- The machine at a reset: every block at its reset state, the flash device's bytes kept but for what the reset cut off, the
straps read, and the trip log given; the queue of commands stands. -/
def State.resetBlocks (s : State) (kind : ResetKind) (inputs : Inputs) (straps : BitVec 2) (log : List TripRecord) : State :=
  { State.reset with
    lif := { Lif.reset with bitRate := straps, lastReset := kind }
    sup := { Sup.reset with tripLog := log }
    flash := s.cutOff.flash
    pins := inputs
    fresh := s.cutOff.fresh
    pending := s.pending }

/-- A reset, with the inputs found active latched under one record; no SITE report is owed for it (R154, R161; log
entries 19 and 20). -/
def State.resetTo (s : State) (kind : ResetKind) (inputs : Inputs) (straps : BitVec 2) (log : List TripRecord) : State :=
  let t := (s.resetBlocks kind inputs straps log).judgeInputs inputs
  State.kick { t with sup := { t.sup with siteDue := false } }

/-- POWER_ON: the trip log is emptied (R158, R178). -/
def execPowerOn (inputs : Inputs) (straps : BitVec 2) (s : State) : Outcome :=
  .next (s.resetTo .powerOn inputs straps [])

/-- PIN_RESET: the trip log is kept (R158, R178). -/
def execPinReset (inputs : Inputs) (straps : BitVec 2) (s : State) : Outcome :=
  .next (s.resetTo .pinReset inputs straps s.sup.tripLog)

/-- The identification of the start-up sequence is under way. -/
def State.identifying (s : State) : Bool :=
  decide (s.flp.port = .resetting) && decide (s.flp.presence = .unidentified)

/-- IDENTIFICATION_DONE (R178). -/
def execIdentificationDone (answer : Option DeviceIdent) (s : State) : Outcome :=
  .next (if s.identifying then (s.identified answer).settle else s)

/-! ## Trip inputs and the site's timers -/

/-- ESTOP_ACTIVE (R154, R157). -/
def execEstopActive (s : State) : Outcome :=
  .next (State.settle (State.latchCause { s with pins := { s.pins with estop := true } } ⟨true, false, false⟩))

/-- INTRUSION_ACTIVE: either loop (R154, R157). -/
def execIntrusionActive (loop : IntrusionLoop) (s : State) : Outcome :=
  .next <| State.settle <|
    match loop with
    | .intrA => State.latchCause { s with pins := { s.pins with intrA := true } } ⟨false, true, false⟩
    | .intrB => State.latchCause { s with pins := { s.pins with intrB := true } } ⟨false, false, true⟩

/-- ANEMO_PULSE (R146). -/
def execAnemoPulse (s : State) : Outcome := .next { s with sup := { s.sup with anemo := s.sup.anemo + 1 } }

/-- WIND_GATE (R146 to R148). -/
def execWindGate (s : State) : Outcome := .next s.windGate.settle

/-- LEVEL_SAMPLE (R150 to R152). -/
def execLevelSample (reading : BitVec 12) (s : State) : Outcome := .next (s.levelSample reading).settle

/-- INTRUSION_DROP_TIMER (R157). -/
def execIntrusionDropTimer (s : State) : Outcome :=
  .next (if s.dropDue then s.lowerPermit.settleSite.kick else s)

/-- SITE_CLOCK_TICK (R18). -/
def execSiteClockTick (s : State) : Outcome := .next { s with clock := s.clock + 1 }

end Sys2Proof.Machine
end

