-- ==== Sys2Proof/Machine/SettingRequests.lean ====
section
/-! DEFINITION. Meanings: the configuration requests (04 R72, 07 R124, 03 R60, 08 R145 R149 R153, 06 R113, 05 R110, 10 R189). -/

namespace Sys2Proof.Machine

/-- A configuration request's show state condition. -/
def State.needIdle (s : State) : Except Status Unit := refuseIf (!s.isIdle) .showActive

/-! ## SET_GROUP (R72) -/

/-- The group is configured and its interlock state is OPENING, RUNNING or CLOSING. -/
def State.groupMoves (s : State) (g : Fin 24) : Bool :=
  (s.groupRecord g).configured && !(s.groups.get g).interlock.all Interlock.down

/-- The judgement of SET_GROUP. -/
def State.judgeSetGroup (s : State) (p : List Byte) : Except Status (Fin 24 × GroupRecord) := do
  let g ← need (indexOf 24 (u8 p 0)) .outOfRange
  s.needIdle
  let r ← need (groupOf p) .outOfRange
  refuseIf (s.groupMoves g) .wrongState
  refuseIf (r.configured && addressTaken s.cfg.groups g r.address) .duplicate
  return (g, r)

/-- An accepted SET_GROUP: the record replaced, its effect on the interlock, the schedule and FDA, k recomputed (R72, R109,
R120, R155). -/
def State.setGroup (s : State) (g : Fin 24) (r : GroupRecord) : State :=
  let t : State := { s.markModified with cfg := { s.cfg with groups := s.cfg.groups.set g r } }
  (t.regroup g (s.groupRecord g)).rescale.settleSite

/-- SET_GROUP (R72). -/
def execSetGroup (s : State) : Outcome :=
  .next <| s.serve .setGroup anyOf fun t q =>
    t.judged q (t.judgeSetGroup q.payload) fun a => (t.answer q .ok []).setGroup a.1 a.2

/-! ## SET_FIXTURE (R124, R125) -/

/-- The judgement of SET_FIXTURE. -/
def State.judgeSetFixture (s : State) (p : List Byte) : Except Status (Fin 96 × FixtureRecord) := do
  let f ← need (indexOf 96 (u8 p 0)) .outOfRange
  s.needIdle
  let r ← need (fixtureOf p) .outOfRange
  refuseIf (slotTaken s.cfg.fixtures f r) .slotOverlap
  return (f, r)

/-- An accepted SET_FIXTURE (R125). -/
def State.setFixture (s : State) (f : Fin 96) (r : FixtureRecord) : State :=
  { s.markModified with
    cfg := { s.cfg with fixtures := s.cfg.fixtures.set f r }
    lgt := { s.lgt with
      fixtures := s.lgt.fixtures.modify f fun x =>
        x.reassign (s.cfg.fixtures.get f) r (Config.fixtureFadeStart s.fresh f.val) }
    fresh := s.fresh + 1 }

/-- SET_FIXTURE (R124, R125). -/
def execSetFixture (s : State) : Outcome :=
  .next <| s.serve .setFixture anyOf fun t q =>
    t.judged q (t.judgeSetFixture q.payload) fun a => (t.answer q .ok []).setFixture a.1 a.2

/-! ## SET_ZONE (R60, R61) -/

/-- The judgement of SET_ZONE. -/
def State.judgeSetZone (s : State) (p : List Byte) : Except Status (Fin 4 × ZoneRecord) := do
  let z ← need (indexOf 4 (u8 p 0)) .outOfRange
  s.needIdle
  let r ← need (zoneOf p) .outOfRange
  refuseIf (decide (poolSize < poolTaken (s.cfg.zones.set z r))) .delayPool
  return (z, r)

/-- An accepted SET_ZONE: a changed delay reallocates and zero-fills the pool (R60). -/
def State.setZone (s : State) (z : Fin 4) (r : ZoneRecord) : State :=
  { s.markModified with
    cfg := { s.cfg with zones := s.cfg.zones.set z r }
    aud :=
      if r.delay = (s.cfg.zones.get z).delay then s.aud
      else { s.aud with lines := zeroLines (s.cfg.zones.set z r) } }

/-- SET_ZONE (R60). -/
def execSetZone (s : State) : Outcome :=
  .next <| s.serve .setZone anyOf fun t q =>
    t.judged q (t.judgeSetZone q.payload) fun a => (t.answer q .ok []).setZone a.1 a.2

/-! ## SET_WIND, SET_LEVEL, SET_FEEDER, SET_COUNTER, SET_DRIVE_BUS -/

/-- The judgement of SET_WIND (R149). -/
def State.judgeSetWind (s : State) (p : List Byte) : Except Status WindSettings := do
  s.needIdle
  need (windOf p) .outOfRange

/-- An accepted SET_WIND: the calm count is set to 0 (R149). -/
def State.setWind (s : State) (w : WindSettings) : State :=
  { s.markModified with cfg := { s.cfg with wind := w }, sup := { s.sup with calm := 0 } }

/-- SET_WIND (R149). -/
def execSetWind (s : State) : Outcome :=
  .next <| s.serve .setWind anyOf fun t q =>
    t.judged q (t.judgeSetWind q.payload) fun w => (t.answer q .ok []).setWind w

/-- The judgement of SET_LEVEL (R153). -/
def State.judgeSetLevel (s : State) (p : List Byte) : Except Status LevelSettings := do
  s.needIdle
  need (levelOf p) .outOfRange

/-- An accepted SET_LEVEL (R153). -/
def State.setLevel (s : State) (l : LevelSettings) : State := { s.markModified with cfg := { s.cfg with level := l } }

/-- SET_LEVEL (R153). -/
def execSetLevel (s : State) : Outcome :=
  .next <| s.serve .setLevel anyOf fun t q =>
    t.judged q (t.judgeSetLevel q.payload) fun l => (t.answer q .ok []).setLevel l

/-- An accepted SET_FEEDER: C, A and k are recomputed (R113). -/
def State.setFeeder (s : State) (f : FeederSettings) : State :=
  State.refeed { s.markModified with cfg := { s.cfg with feeder := f } }

/-- SET_FEEDER: in every show state and site mode (R113). -/
def execSetFeeder (s : State) : Outcome :=
  .next <| s.serve .setFeeder anyOf fun t q =>
    t.judged q (need (feederOf q.payload) .outOfRange) fun f => (t.answer q .ok []).setFeeder f

/-- The judgement of SET_COUNTER (R145). -/
def State.judgeSetCounter (s : State) (p : List Byte) : Except Status (Fin 27 × CounterSettings) := do
  let i ← need (indexOf 27 (u8 p 0)) .outOfRange
  s.needIdle
  let c ← need (counterOf p) .outOfRange
  return (i, c)

/-- An accepted SET_COUNTER: limit and hold replaced, the channel reset unless it is fatal (R145). -/
def State.setCounter (s : State) (i : Fin 27) (c : CounterSettings) : State :=
  let t : State := { s.markModified with cfg := { s.cfg with counters := s.cfg.counters.set i c } }
  (t.resetChannel i).settle

/-- SET_COUNTER (R145). -/
def execSetCounter (s : State) : Outcome :=
  .next <| s.serve .setCounter anyOf fun t q =>
    t.judged q (t.judgeSetCounter q.payload) fun a => (t.answer q .ok []).setCounter a.1 a.2

/-- The judgement of SET_DRIVE_BUS (R110). -/
def State.judgeSetDriveBus (s : State) (p : List Byte) : Except Status Nat := do
  s.needIdle
  need (windowOf p) .outOfRange

/-- An accepted SET_DRIVE_BUS; the cycle in progress keeps its window (R110). -/
def State.setDriveBus (s : State) (w : Nat) : State := { s.markModified with cfg := { s.cfg with window := w } }

/-- SET_DRIVE_BUS (R110). -/
def execSetDriveBus (s : State) : Outcome :=
  .next <| s.serve .setDriveBus anyOf fun t q =>
    t.judged q (t.judgeSetDriveBus q.payload) fun w => (t.answer q .ok []).setDriveBus w

/-! ## SET_SHOW_OPTIONS (R189) -/

/-- The judgement of SET_SHOW_OPTIONS (R65, R189). -/
def State.judgeSetShowOptions (s : State) (p : List Byte) : Except Status ShowOptions := do
  let o ← need (optionsOf p) .outOfRange
  let held := s.cfg.options
  refuseIf
    ((decide (o.annClip ≠ held.annClip) || decide (o.gap ≠ held.gap) || decide (o.stopFade ≠ held.stopFade))
      && !s.isIdle) .showActive
  refuseIf ((decide (o.annClip ≠ held.annClip) || decide (o.gap ≠ held.gap)) && s.isTripped) .tripped
  return o

/-- An accepted SET_SHOW_OPTIONS: a changed announcement clip moves the announcement lock (R171, R189). -/
def State.setShowOptions (s : State) (o : ShowOptions) : State :=
  let t : State := { s.markModified with cfg := { s.cfg with options := o } }
  if o.annClip = s.cfg.options.annClip then t else t.relockAnnouncement

/-- SET_SHOW_OPTIONS (R189). -/
def execSetShowOptions (s : State) : Outcome :=
  .next <| s.serve .setShowOptions anyOf fun t q =>
    t.judged q (t.judgeSetShowOptions q.payload) fun o => (t.answer q .ok []).setShowOptions o

end Sys2Proof.Machine
end

