-- ==== Sys2Proof/Machine/ShowRequests.lean ====
section
/-! DEFINITION. Meanings: the show requests and the direct requests (02 R19 R31 to R40, 04 R85, 07 R138, 03 R67). -/

namespace Sys2Proof.Machine

/-! ## ARM, DISARM, START, HOLD, RESUME, STOP -/

/-- The judgement of ARM (R19). -/
def State.judgeArm (s : State) (p : List Byte) : Except Status Nat := do
  refuseIf (decide (7 < u8 p 0)) .outOfRange
  refuseIf (!s.isIdle) .wrongState
  refuseIf s.isTripped .tripped
  refuseIf s.isDry .levelDry
  refuseIf s.flp.noFlash .noFlash
  return u8 p 0

/-- ARM (R19, R20). -/
def execArm (s : State) : Outcome :=
  .next <| s.serve .arm anyOf fun t q =>
    t.judged q (t.judgeArm q.payload) fun slot => ((t.answer q .accepted []).beginLoad slot q.tag).settleFlash

/-- DISARM: taken in ARMED (R31). -/
def execDisarm (s : State) : Outcome :=
  .next <| s.serve .disarm anyOf fun t q =>
    t.judged q (refuseIf (decide (t.seq.st ≠ .armed)) .wrongState) fun _ => (t.answer q .ok []).showIdle .disarm

/-- The judgement of START (R32). -/
def State.judgeStart (s : State) : Except Status Unit := do
  refuseIf (decide (s.seq.st ≠ .armed)) .wrongState
  refuseIf s.isDry .levelDry

/-- START (R32). -/
def execStart (s : State) : Outcome :=
  .next <| s.serve .start anyOf fun t q =>
    t.judged q t.judgeStart fun _ => (t.answer q .ok []).startShow.settleFlash

/-- HOLD stops the count and sets the ramp toward 0; a PLAYING buffer begins its rundown (R38, R47, R55). -/
def Aud.hold (a : Aud) : Aud :=
  { a with
    counting := false
    target := 0
    rundown := (a.playing.bind a.buf).map fun st => st.read }

/-- HOLD: taken in RUNNING (R38). -/
def State.holdShow (s : State) : State :=
  State.sayShow { s with seq := { s.seq with st := .held }, aud := s.aud.hold } none

/-- HOLD (R38). -/
def execHold (s : State) : Outcome :=
  .next <| s.serve .hold anyOf fun t q =>
    t.judged q (refuseIf (decide (t.seq.st ≠ .running)) .wrongState) fun _ => (t.answer q .ok []).holdShow

/-- RESUME ends any rundown, counts again and sets the ramp toward 960 (R39, R47, R56). -/
def Aud.resume (a : Aud) : Aud := { a with counting := true, target := 960, rundown := none }

/-- RESUME: taken in HELD (R39). -/
def State.resumeShow (s : State) : State :=
  State.sayShow { s with seq := { s.seq with st := .running }, aud := s.aud.resume } none

/-- RESUME (R39). -/
def execResume (s : State) : Outcome :=
  .next <| s.serve .resume anyOf fun t q =>
    t.judged q (refuseIf (decide (t.seq.st ≠ .held)) .wrongState) fun _ => (t.answer q .ok []).resumeShow

/-- The judgement of STOP: taken in LOADING, RUNNING and HELD (R30, R40). -/
def State.judgeStop (s : State) : Except Status Unit :=
  refuseIf (!decide (s.seq.st ∈ [ShowState.loading, .running, .held])) .wrongState

/-- An accepted STOP: a load is aborted, a show enters STOPPING (R30, R40). -/
def State.stopShow (s : State) : State :=
  if s.seq.st = .loading then s.interruptLoad .aborted .stop else s.enterStopping .stop

/-- STOP (R30, R40, R41). -/
def execStop (s : State) : Outcome :=
  .next <| s.serve .stop anyOf fun t q =>
    t.judged q t.judgeStop fun _ => (t.answer q .ok []).stopShow.settleFlash

/-! ## DIRECT_JET (R85, R86) -/

/-- The group set of a DIRECT_JET. -/
def jetSet (p : List Byte) : BitVec 24 := BitVec.ofNat 24 (u24 p 0)

/-- Every group of a set is configured. -/
def State.allConfigured (s : State) (set : BitVec 24) : Bool :=
  (List.finRange 24).all fun g => !set.getLsbD g.val || (s.groupRecord g).configured

/-- The judgement of DIRECT_JET: its group set, height and fade (R85). -/
def State.judgeDirectJet (s : State) (p : List Byte) : Except Status (BitVec 24 × Nat × Nat) := do
  refuseIf (!s.isIdle) .showActive
  refuseIf s.isTripped .tripped
  refuseIf s.isDry .levelDry
  refuseIf (decide (jetSet p = 0) || !s.allConfigured (jetSet p)) .outOfRange
  return (jetSet p, u16 p 3, u16 p 5)

/-- The groups of a set whose max height is below a height (R86). -/
def State.clampedGroups (s : State) (set : BitVec 24) (height : Nat) : BitVec 24 :=
  (List.finRange 24).foldl
    (fun c g => if set.getLsbD g.val && decide ((s.groupRecord g).maxHeight < height) then
      c ||| ((1 : BitVec 24) <<< g.val) else c) 0

/-- The greatest fade (R6, R86, R139). -/
def fadeMax : Nat := 30000

/-- The fade record that a DIRECT_JET writes: from the present faded height, on the site clock (R86). -/
def GroupFade.direct (f : GroupFade) (height fade : Nat) (showNow : Option Int) (now : Tick) : GroupFade :=
  ⟨f.height showNow now, height, .onSite now, fade⟩

/-- The fade records that a DIRECT_JET writes, with "height clamped" where one is (R86). -/
def State.directJet (s : State) (set : BitVec 24) (height fade : Nat) : State :=
  { s with
    groups := s.groups.mapIdx fun g x =>
      if set.getLsbD g.val then
        { x with fade := x.fade.direct (min height (s.groupRecord g).maxHeight) (min fadeMax fade) s.showTime s.clock }
      else x
    flags := s.flags.raiseIf (decide (s.clampedGroups set height ≠ 0)) .heightClamped }

/-- DIRECT_JET: the reply names the clamped groups and says whether the fade was clamped (R85, R86). -/
def execDirectJet (s : State) : Outcome :=
  .next <| s.serve .directJet anyOf fun t q =>
    t.judged q (t.judgeDirectJet q.payload) fun a =>
      (t.answer q .ok (groupSetBytes (t.clampedGroups a.1 a.2.1) ++ byteYes (decide (fadeMax < a.2.2)))).directJet
        a.1 a.2.1 a.2.2

/-! ## DIRECT_LIGHT (R138, R139) -/

/-- Every fixture of a range is assigned, and the range is one. -/
def State.rangeAssigned (s : State) (first last : Nat) : Bool :=
  decide (first ≤ last) && decide (last ≤ 95)
    && (List.finRange 96).all fun f => !within first last f.val || (s.cfg.fixtures.get f).assigned

/-- The judgement of DIRECT_LIGHT (R138). -/
def State.judgeDirectLight (s : State) (p : List Byte) : Except Status Unit := do
  refuseIf (!s.isIdle) .showActive
  refuseIf s.isTripped .tripped
  refuseIf (!s.rangeAssigned (u8 p 0) (u8 p 1)) .outOfRange

/-- The latch that a DIRECT_LIGHT writes (R139). -/
def directLatch (p : List Byte) : Latch := ⟨colourAt p 2, min fadeMax (u16 p 6), .siteClock, .direct⟩

/-- DIRECT_LIGHT (R138, R139). -/
def execDirectLight (s : State) : Outcome :=
  .next <| s.serve .directLight anyOf fun t q =>
    t.judged q (t.judgeDirectLight q.payload) fun _ =>
      (t.answer q .ok (byteYes (decide (fadeMax < u16 q.payload 6)))).latchRange (u8 q.payload 0) (u8 q.payload 1)
        (directLatch q.payload)

/-! ## DIRECT_CLIP (R67) -/

/-- A DIRECT_CLIP that says stop; any other is the play row's (log entry 37). -/
def saysStop (q : Request) : Bool := decide (q.payload.length = 2) && decide (u8 q.payload 0 = 0)

/-- The conditions of both actions (R67). -/
def State.needDirect (s : State) : Except Status Unit := do
  refuseIf (!s.isIdle) .showActive
  refuseIf s.isTripped .tripped

/-- The judgement of a play: the clip's id and record (R67). -/
def State.judgePlay (s : State) (p : List Byte) : Except Status (Nat × Clip) := do
  s.needDirect
  refuseIf (decide (u8 p 0 ≠ 1)) .outOfRange
  let c ← need (lookupClip s.aud.clips (u8 p 1)) .outOfRange
  return (u8 p 1, c)

/-- DIRECT_CLIP_PLAY (R67). -/
def execDirectClipPlay (s : State) : Outcome :=
  .next <| s.serve .directClip (fun q => !saysStop q) fun t q =>
    t.judged q (t.judgePlay q.payload) fun a =>
      ((t.answer q .ok []).giveClip .direct a.1 a.2 0 0).settleFlash

/-- Both buffers are discarded at once (R67). -/
def State.stopClips (s : State) : State := { s with aud := s.aud.discardBoth }

/-- DIRECT_CLIP_STOP (R67). -/
def execDirectClipStop (s : State) : Outcome :=
  .next <| s.serve .directClip saysStop fun t q =>
    t.judged q t.needDirect fun _ => (t.answer q .ok []).stopClips

end Sys2Proof.Machine
end

