-- ==== Sys2Proof/Machine/Dispatch.lean ====
section
/-! DEFINITION. What each command does: one direct call of its meaning. -/

namespace Sys2Proof.Machine

/-- The meaning of a command, its effect on everything but the queue. -/
def exec (i : Instr) (s : State) : Host.Outcome State Fault Refusal :=
  match i with
  | .powerOn inputs straps => Sys2Proof.Machine.execPowerOn inputs straps s
  | .pinReset inputs straps => Sys2Proof.Machine.execPinReset inputs straps s
  | .identificationDone answer => Sys2Proof.Machine.execIdentificationDone answer s
  | .estopActive => Sys2Proof.Machine.execEstopActive s
  | .intrusionActive loop => Sys2Proof.Machine.execIntrusionActive loop s
  | .anemoPulse => Sys2Proof.Machine.execAnemoPulse s
  | .windGate => Sys2Proof.Machine.execWindGate s
  | .levelSample reading => Sys2Proof.Machine.execLevelSample reading s
  | .intrusionDropTimer => Sys2Proof.Machine.execIntrusionDropTimer s
  | .driveCycle => Sys2Proof.Machine.execDriveCycle s
  | .pollSent quietUs => Sys2Proof.Machine.execPollSent quietUs s
  | .lineJammed => Sys2Proof.Machine.execLineJammed s
  | .driveReply bytes framingError replyUs => Sys2Proof.Machine.execDriveReply bytes framingError replyUs s
  | .replyWindowExpiry => Sys2Proof.Machine.execReplyWindowExpiry s
  | .strokeTimeout g => Sys2Proof.Machine.execStrokeTimeout g s
  | .lampFrame => Sys2Proof.Machine.execLampFrame s
  | .audioFrame => Sys2Proof.Machine.execAudioFrame s
  | .showMillisecond => Sys2Proof.Machine.execShowMillisecond s
  | .showClipStart => Sys2Proof.Machine.execShowClipStart s
  | .clipStartWhenReady => Sys2Proof.Machine.execClipStartWhenReady s
  | .clipEnd => Sys2Proof.Machine.execClipEnd s
  | .announcementGapEnd => Sys2Proof.Machine.execAnnouncementGapEnd s
  | .muteComplete => Sys2Proof.Machine.execMuteComplete s
  | .stopFadeEnd => Sys2Proof.Machine.execStopFadeEnd s
  | .audioWindowEnd => Sys2Proof.Machine.execAudioWindowEnd s
  | .chunkArrival outcome => Sys2Proof.Machine.execChunkArrival outcome s
  | .suspendGuardEnd => Sys2Proof.Machine.execSuspendGuardEnd s
  | .flashTimeout => Sys2Proof.Machine.execFlashTimeout s
  | .deviceResetComplete => Sys2Proof.Machine.execDeviceResetComplete s
  | .loadReadDone => Sys2Proof.Machine.execLoadReadDone s
  | .directoryReadDone => Sys2Proof.Machine.execDirectoryReadDone s
  | .settingsReadDone => Sys2Proof.Machine.execSettingsReadDone s
  | .flashReadDone outcome => Sys2Proof.Machine.execFlashReadDone outcome s
  | .programDone => Sys2Proof.Machine.execProgramDone s
  | .eraseDone => Sys2Proof.Machine.execEraseDone s
  | .linkFrameReceived c => Sys2Proof.Machine.execLinkFrameReceived c s
  | .gapTimeout => Sys2Proof.Machine.execGapTimeout s
  | .frameSent => Sys2Proof.Machine.execFrameSent s
  | .unknownRequest => Sys2Proof.Machine.execUnknownRequest s
  | .getIdent => Sys2Proof.Machine.execGetIdent s
  | .getStatus => Sys2Proof.Machine.execGetStatus s
  | .getGroup => Sys2Proof.Machine.execGetGroup s
  | .getFixture => Sys2Proof.Machine.execGetFixture s
  | .getChannels => Sys2Proof.Machine.execGetChannels s
  | .readFlags => Sys2Proof.Machine.execReadFlags s
  | .getTripLog => Sys2Proof.Machine.execGetTripLog s
  | .getService => Sys2Proof.Machine.execGetService s
  | .getLoadResult => Sys2Proof.Machine.execGetLoadResult s
  | .setGroup => Sys2Proof.Machine.execSetGroup s
  | .setFixture => Sys2Proof.Machine.execSetFixture s
  | .setZone => Sys2Proof.Machine.execSetZone s
  | .setWind => Sys2Proof.Machine.execSetWind s
  | .setLevel => Sys2Proof.Machine.execSetLevel s
  | .setFeeder => Sys2Proof.Machine.execSetFeeder s
  | .setCounter => Sys2Proof.Machine.execSetCounter s
  | .setDriveBus => Sys2Proof.Machine.execSetDriveBus s
  | .setShowOptions => Sys2Proof.Machine.execSetShowOptions s
  | .setReports => Sys2Proof.Machine.execSetReports s
  | .arm => Sys2Proof.Machine.execArm s
  | .disarm => Sys2Proof.Machine.execDisarm s
  | .start => Sys2Proof.Machine.execStart s
  | .hold => Sys2Proof.Machine.execHold s
  | .resume => Sys2Proof.Machine.execResume s
  | .stop => Sys2Proof.Machine.execStop s
  | .directJet => Sys2Proof.Machine.execDirectJet s
  | .directLight => Sys2Proof.Machine.execDirectLight s
  | .directClipPlay => Sys2Proof.Machine.execDirectClipPlay s
  | .directClipStop => Sys2Proof.Machine.execDirectClipStop s
  | .clearTrip inputs => Sys2Proof.Machine.execClearTrip inputs s
  | .clearGroupFault => Sys2Proof.Machine.execClearGroupFault s
  | .flashRead => Sys2Proof.Machine.execFlashRead s
  | .flashWrite => Sys2Proof.Machine.execFlashWrite s
  | .flashErase => Sys2Proof.Machine.execFlashErase s
  | .saveSettings => Sys2Proof.Machine.execSaveSettings s
  | .reloadSettings => Sys2Proof.Machine.execReloadSettings s
  | .halt => Sys2Proof.Machine.execHalt s
  | .release inputs => Sys2Proof.Machine.execRelease inputs s
  | .linkByteReceived c => Sys2Proof.Machine.execLinkByteReceived c s
  | .siteClockTick => Sys2Proof.Machine.execSiteClockTick s

end Sys2Proof.Machine
end

