-- ==== Sys2Proof/Safety.lean ====
section
/-! DEFINITION. What the statements speak of: when a request is taken, the link after an answer, the extent the flash
device is at work on, and the properties that every step keeps. -/

namespace Sys2Proof.Machine

/-! ## Requests at the link (R182, R183) -/

/-- LIF takes this request, of this row of the catalogue, and hands it to its owner: it is the oldest in the inbox, a reply
place is free, its length is allowed, and neither HALT, nor start-up, nor its service slot stands in its way (R182). -/
def State.takes (s : State) (r : RequestRule) (q : Request) : Bool :=
  decide (s.lif.inbox.head? = some q) && decide (q.kind = r.kind) && decide (s.lif.placesUsed < 4)
    && within r.least r.most q.payload.length && (!s.lif.halted || r.takenHalted)
    && (!s.lif.starting || !r.waitsReady) && r.slot.all fun k => !(s.lif.slot k).active

/-- The status with which LIF itself refuses a request of a row of the catalogue, in the order of its checks (R182). -/
def State.linkRefusal (s : State) (r : RequestRule) (p : List Byte) : Option Status :=
  if within r.least r.most p.length = false then some .badLength
  else if s.lif.halted = true ∧ r.takenHalted = false then some .halted
  else if s.lif.starting = true ∧ r.waitsReady = true then some .busy
  else if (r.slot.any fun k => (s.lif.slot k).active) = true then some .busy
  else none

/-- The link when the oldest request has been taken and its reply place filled, before the transmitter acts. -/
def Lif.answering (l : Lif) (q : Request) (st : Status) (fields : List Byte) : Lif :=
  { l with inbox := l.inbox.tail, answers := l.answers ++ [.reply ⟨q.tag, q.kind, st, fields⟩] }

/-- Nothing but the link changes: the request is answered, and the transmitter takes its next frame. -/
def State.answered (s : State) (q : Request) (st : Status) (fields : List Byte) : State :=
  { s with lif := (s.lif.answering q st fields).kick }

/-- Each request command with its row of the catalogue and the requests of that row that are its own. -/
def requestRows : List (Instr × RequestRule × (Request → Bool)) :=
  [(.getIdent, .getIdent, anyOf), (.getStatus, .getStatus, anyOf), (.getGroup, .getGroup, anyOf),
   (.getFixture, .getFixture, anyOf), (.getChannels, .getChannels, anyOf), (.readFlags, .readFlags, anyOf),
   (.getTripLog, .getTripLog, anyOf), (.getService, .getService, anyOf), (.getLoadResult, .getLoadResult, anyOf)]
  ++ [(.setGroup, .setGroup, anyOf), (.setFixture, .setFixture, anyOf), (.setZone, .setZone, anyOf),
   (.setWind, .setWind, anyOf), (.setLevel, .setLevel, anyOf), (.setFeeder, .setFeeder, anyOf),
   (.setCounter, .setCounter, anyOf), (.setDriveBus, .setDriveBus, anyOf), (.setShowOptions, .setShowOptions, anyOf),
   (.setReports, .setReports, anyOf)]
  ++ [(.arm, .arm, anyOf), (.disarm, .disarm, anyOf), (.start, .start, anyOf), (.hold, .hold, anyOf),
   (.resume, .resume, anyOf), (.stop, .stop, anyOf), (.directJet, .directJet, anyOf),
   (.directLight, .directLight, anyOf), (.directClipPlay, .directClip, fun q => !saysStop q),
   (.directClipStop, .directClip, saysStop)]
  ++ [(.clearGroupFault, .clearGroupFault, anyOf), (.flashRead, .flashRead, anyOf), (.flashWrite, .flashWrite, anyOf),
   (.flashErase, .flashErase, anyOf), (.saveSettings, .saveSettings, anyOf),
   (.reloadSettings, .reloadSettings, anyOf), (.halt, .halt, anyOf)]
  ++ [⟨false, false, false⟩, ⟨true, false, false⟩, ⟨false, true, false⟩, ⟨false, false, true⟩,
      ⟨true, true, false⟩, ⟨true, false, true⟩, ⟨false, true, true⟩, ⟨true, true, true⟩].flatMap
    fun i => [(.clearTrip i, .clearTrip, anyOf), (.release i, .release, anyOf)]

/-! ## Reports, interlock changes and the site as it is judged (R90, R155, R159, R185) -/

/-- A command makes a report: where its category is enabled and the queue has room for it behind the other reports
that the same command may make, it waits in the queue or is being sent (R184, R185). -/
def State.says (s t : State) (before : Nat) (r : Report) : Prop :=
  (∀ c, r.category = some c → s.lif.enable.getLsbD c.bit = true) → s.lif.reports.length + before < 16 →
    r ∈ t.lif.reports ∨ t.lif.tx = some (.report r)

/-- Some group is in another interlock state. -/
def State.interlockMoved (s t : State) : Prop :=
  ∃ g : Fin 24, (t.groups.get g).interlock ≠ (s.groups.get g).interlock

/-- The commands whose interlock changes may bring the last group to SHUT, FAULT or LOST, each with the other reports that
it may make beside the show's or the site's. -/
def State.mayBringDown (s : State) (c : Instr) (before : Nat) : Prop :=
  (∃ r f us, c = .driveReply r f us ∧ before = 4) ∨ (c = .replyWindowExpiry ∧ before = 3)
    ∨ (c = .lineJammed ∧ before = 2 * s.dbm.schedule.length + 1) ∨ ∃ g, c = .strokeTimeout g ∧ before = 2

/-- The effective level state: LOW while the LEVEL channel is INVALID, else the measured one (R152). -/
def State.levelNow (s : State) : LevelState := if (s.sup.channels.get 1).valid = true then s.sup.measured else .low

/-- The site mode and the condition flags are as their conditions stand: outside TRIPPED the mode is RESTRICTED while one of its
three grounds holds and else NORMAL, and a condition flag is set while its condition is present (R148, R152, R155, R159). -/
def State.siteJudged (s : State) : Prop :=
  let invalid (i : Fin 27) := (s.sup.channels.get i).valid = false
  let restricted := 0 < s.sup.band ∨ s.levelNow ≠ .normal ∨ invalid 0 ∨ invalid 1 ∨ invalid 26
    ∨ ∃ g : Fin 24, (s.cfg.groups.get g).configured = true ∧ invalid (driveChannel g)
  (s.sup.mode ≠ .tripped → (restricted → s.sup.mode = .restricted) ∧ (¬restricted → s.sup.mode = .normal))
    ∧ (s.sup.gates < 3 ∨ invalid 0 → s.flags.has .windForced = true)
    ∧ (s.levelNow = .low → s.flags.has .levelLow = true) ∧ (s.levelNow = .dry → s.flags.has .levelDry = true)

/-- A command that bears on the site ends with the site judged: TRIPPED neither entered nor left, the mode and the condition
flags as the conditions now stand, a flag whose condition is absent as it was, and one SITE report where the band, the effective
level state, the mode or PERMIT has changed (R155, R159). -/
def State.judgesSite (s t : State) (before : Nat) : Prop :=
  (t.sup.mode = .tripped ↔ s.sup.mode = .tripped) ∧ t.siteJudged
    ∧ (3 ≤ t.sup.gates → (t.sup.channels.get 0).valid = true → t.flags.has .windForced = s.flags.has .windForced)
    ∧ (t.levelNow ≠ .low → t.flags.has .levelLow = s.flags.has .levelLow)
    ∧ (t.levelNow ≠ .dry → t.flags.has .levelDry = s.flags.has .levelDry)
    ∧ (t.sup.band ≠ s.sup.band ∨ t.levelNow ≠ s.levelNow ∨ t.sup.mode ≠ s.sup.mode ∨ t.sup.permit ≠ s.sup.permit →
      s.says t before
        (.site t.sup.band (t.sup.winds.foldl max 0) t.levelNow t.sup.level t.sup.mode t.sup.permit))

/-! ## The flash device at work (R164 to R167) -/

/-- The device addresses lo..hi - 1 that a program or an erase in progress covers. -/
def State.workExtent (s : State) : Nat × Nat :=
  match s.flp.port with
  | .programming t => ((s.programOf t).1, (s.programOf t).1 + (s.programOf t).2.length)
  | .erasing t | .suspended t | .guarded t =>
      ((s.flp.eraseExtent t).1, (s.flp.eraseExtent t).1 + (s.flp.eraseExtent t).2)
  | .free | .reading _ | .resetting => (0, 0)

/-- An address lies in an extent lo..hi - 1. -/
def inExtent (e : Nat × Nat) (a : Nat) : Bool := decide (e.1 ≤ a) && decide (a < e.2)

/-- Nothing waits for the flash port, and AUD would ask for nothing: the port takes whatever comes next. -/
def State.flashQuiet (s : State) : Bool :=
  decide (s.aud.chunk = none) && decide (s.aud.seeker = none) && decide (s.flp.internalQ = [])
    && decide (s.flp.lifQ = [])

/-- A load has ended FAILED with a failure code, a cue index, a label and an end reason: IDLE, with the load result, the ARM
slot with its SERVICE_DONE, the flag and the show's locks as R20, R28, R29 and R186 give, and the water, lights, settings and
supervision as they were. -/
def State.LoadFailed (s t : State) (failure : Failure) (cue : Option Nat) (label : List Byte) : Prop :=
  t.seq.st = .idle ∧ t.seq.cues = [] ∧ t.seq.lanes = Lanes.empty ∧ t.seq.load = none
    ∧ t.seq.result = ⟨.failed, failure, s.seq.slot, label, cue, none⟩
    ∧ t.lif.armSlot =
      { s.lif.armSlot with status := .failed, failure := failure, cueIndex := cue, imageFound := none }
    ∧ s.says t 1 (.serviceDone .arm t.lif.armSlot)
    ∧ t.flp.locks = s.flp.locks.filter (fun l => !l.owner.ofShow) ∧ t.flags.has .loadFailed = true
    ∧ t.cfg = s.cfg ∧ t.clock = s.clock ∧ t.groups = s.groups ∧ t.dbm = s.dbm ∧ t.lgt = s.lgt ∧ t.fda = s.fda
    ∧ t.pins = s.pins

/-- The show has entered STOPPING with an end reason (R41): lanes empty, the fade records, the house colours and the audio
stop fade as the four points of R41 give. -/
def State.EntersStopping (s t : State) (reason : EndReason) : Prop :=
  t.seq.st = .stopping ∧ t.seq.lanes = Lanes.empty
    ∧ t.seq.stopping = some ⟨reason, s.showTime.getD 0, s.cfg.options.stopFade⟩
    ∧ (∀ g : Fin 24, (s.groups.get g).interlock.isSome = true → (t.groups.get g).fade.target = 0
      ∧ (t.groups.get g).fade.dur = 0 ∧ (t.groups.get g).fade.began = .onShow (s.showTime.getD 0))
    ∧ (∀ f : Fin 96, (s.cfg.fixtures.get f).assigned = true → (t.lgt.fixtures.get f).latch =
      some ⟨(s.cfg.fixtures.get f).house, s.cfg.options.stopFade, .showClock, .house⟩)
    ∧ t.aud.stopFade = some ⟨s.aud.m, 48 * s.cfg.options.stopFade, 0⟩ ∧ t.aud.counting = true
    ∧ t.cfg = s.cfg ∧ t.clock = s.clock ∧ t.dbm = s.dbm ∧ t.fda = s.fda ∧ t.sup = s.sup

/-- The show has passed through STOPPING to IDLE in one event, its stop fade being 0 and every configured group down: what the
entry writes stands, AUD and the clock are as at the end of STOPPING, and where no report is dropped one gives the end reason
(R16, R41, R47, R59). -/
def State.StopsAtOnce (s t : State) (reason : EndReason) : Prop :=
  t.seq.st = .idle ∧ t.seq.cues = [] ∧ t.seq.lanes = Lanes.empty ∧ t.seq.stopping = none
    ∧ (∀ g : Fin 24, (s.groups.get g).interlock.isSome = true → (t.groups.get g).fade.target = 0
      ∧ (t.groups.get g).fade.dur = 0 ∧ (t.groups.get g).fade.began = .onShow (s.showTime.getD 0))
    ∧ (∀ f : Fin 96, (s.cfg.fixtures.get f).assigned = true → (t.lgt.fixtures.get f).latch =
      some ⟨(s.cfg.fixtures.get f).house, 0, .showClock, .house⟩)
    ∧ t.aud.stopFade = none ∧ t.aud.m = 960 ∧ t.aud.target = 960 ∧ t.aud.count = 0 ∧ t.aud.counting = false
    ∧ t.flp.locks = s.flp.locks.filter (fun l => !l.owner.ofShow)
    ∧ (s.lif.enable.getLsbD Category.showCat.bit = true → s.lif.dropped < 65535 → t.lif.dropped = s.lif.dropped →
      Report.showState .idle none none (some reason) ∈ t.lif.reports
        ∨ t.lif.tx = some (.report (.showState .idle none none (some reason))))
    ∧ t.cfg = s.cfg ∧ t.clock = s.clock ∧ t.dbm = s.dbm ∧ t.fda = s.fda ∧ t.sup = s.sup

/-- STOPPING has been entered, or passed through where its stop fade is 0 and every configured group is down (R41; log entry
21). -/
def State.Stops (s t : State) (reason : EndReason) : Prop :=
  (0 < s.cfg.options.stopFade ∨ s.groupsDown = false → s.EntersStopping t reason)
    ∧ (s.cfg.options.stopFade = 0 → s.groupsDown = true → s.StopsAtOnce t reason)

/-- A buffer has started: it is PLAYING, with its clip, its positions and its frames as they stood; the other, where it was
PLAYING, is cut and its read's data thrown away, and otherwise stands (R53, R54). Only the fetch positions may have moved on. -/
def Aud.startsBuf (a b : Aud) (i : BufId) : Prop :=
  b.playing = some i
    ∧ (b.buf i).map (fun st => { st with fetch := 0 }) = (a.buf i).map (fun st => { st with playing := true, fetch := 0 })
    ∧ (((a.buf i.other).any (·.playing)) = true → b.buf i.other = none ∧ ∀ k, b.chunk = some k → k.owner ≠ some i.other)
    ∧ (((a.buf i.other).any (·.playing)) = false →
      (b.buf i.other).map (fun st => { st with fetch := 0 }) = (a.buf i.other).map fun st => { st with fetch := 0 })

/-- Nothing changes but AUD, and what the flash port's arbiter then starts or suspends for it. -/
def State.OnlyAudio (s t : State) : Prop :=
  t.cfg = s.cfg ∧ t.clock = s.clock ∧ t.seq = s.seq ∧ t.groups = s.groups ∧ t.dbm = s.dbm ∧ t.lgt = s.lgt
    ∧ t.fda = s.fda ∧ t.sup = s.sup ∧ t.pins = s.pins

/-- A configured group brought down by a trip or by HALT: its fade record and its held target 0, an OPENING one CLOSING with its
stroke timer started; its last figures stay (R75, R76, R89, R100, R102). -/
def State.downGroup (s : State) (g : Fin 24) : Group :=
  let down : Group := { s.groups.get g with fade := ⟨0, 0, .onSite s.clock, 0⟩, target := 0 }
  match (s.groups.get g).interlock with
  | none => s.groups.get g
  | some .opening =>
      { down with interlock := some .closing, cause := .none, stroke := some ⟨s.clock, (s.groupRecord g).stroke⟩ }
  | some _ => down

/-- The announcement clip stands in buffer A, PENDING from its frame 0 with nothing held; with none set or the id absent the
buffer is EMPTY (R63, R65). -/
def Aud.announces (a : Aud) (clips : Table 64 (Option Clip)) (id : Nat) : Prop :=
  (lookupClip clips id = none → a.bufA = none)
    ∧ ∀ c, lookupClip clips id = some c → ∃ st, a.bufA = some st ∧ st.playing = false ∧ st.origin = .announcement
      ∧ st.clip = c ∧ st.first = 0 ∧ st.read = 0 ∧ st.held = []

/-- What the entry into TRIPPED does to AUD: the mute ramp falls from the factor in force while the program plays on; with
nothing PLAYING, or a factor of 0, the mute is complete at once and the announcement begins; while halted neither (R63,
R69). A show that ends with it has its clock cleared (R42, R47). -/
def State.mutes (s t : State) : Prop :=
  (s.lif.halted = true → t.aud.m = s.aud.m ∧ t.aud.target = s.aud.target ∧ t.aud.muting = s.aud.muting
      ∧ ∀ i, (t.aud.buf i).map (·.held) = (s.aud.buf i).map (·.held))
    ∧ (s.lif.halted = false → s.aud.playing ≠ none → s.aud.factor ≠ 0 → t.aud.muting = true
      ∧ t.aud.m = s.aud.factor ∧ t.aud.target = 0 ∧ t.aud.stopFade = none ∧ t.aud.playing = s.aud.playing
      ∧ ∀ i, (t.aud.buf i).map (fun st => (st.clip, st.read, st.held))
          = (s.aud.buf i).map fun st => (st.clip, st.read, st.held))
    ∧ (s.lif.halted = false → s.aud.playing = none ∨ s.aud.factor = 0 → t.aud.muting = false ∧ t.aud.m = 960
      ∧ t.aud.target = 960 ∧ t.aud.stopFade = none ∧ t.aud.rundown = none ∧ t.aud.gapLeft = none
      ∧ t.aud.bufB = none ∧ t.aud.announces s.aud.clips s.cfg.options.annClip)
    ∧ (s.seq.st ≠ .idle → t.aud.count = 0 ∧ t.aud.counting = false)

/-- The site has entered TRIPPED with the causes given, and said so (R42, R63, R75, R100, R137, R154, R158). -/
def State.Trips (s t : State) (causes : Causes) : Prop :=
  t.sup.mode = .tripped ∧ t.sup.causes = causes ∧ s.says t (3 + (List.finRange 24).countP fun g => decide ((s.groups.get g).interlock = some .opening))
      (.trip causes false s.clock)
    ∧ t.sup.tripLog = (⟨causes, s.clock, s.showTime.map fun n => (s.seq.slot, n), s.sup.band, s.sup.effective⟩
        :: s.sup.tripLog).take 8
    ∧ t.seq.st = .idle ∧ (∀ f : Fin 96, (t.lgt.fixtures.get f).latch = none)
    ∧ (∀ g : Fin 24, t.groups.get g = s.downGroup g) ∧ s.mutes t
    ∧ t.cfg = s.cfg ∧ t.clock = s.clock ∧ t.dbm = s.dbm ∧ t.fda = s.fda

/-- After an intrusion trip PERMIT is low with the drop timer stopped where every configured group is SHUT, FAULT or LOST, and
otherwise stands with the timer started (R157). -/
def State.DropsByGroups (s t : State) : Prop :=
  if s.groupsDown = true then t.sup.permit = false ∧ t.sup.dropTimer = none
  else t.sup.permit = s.sup.permit ∧ t.sup.dropTimer = some s.clock

/-- A trip that was there stands: its record, its mode, and the blocks that acted on it. -/
def State.TripStands (s t : State) : Prop :=
  t.sup.mode = .tripped ∧ t.sup.tripLog = s.sup.tripLog ∧ t.groups = s.groups ∧ t.seq = s.seq ∧ t.lgt = s.lgt
    ∧ t.cfg = s.cfg ∧ t.clock = s.clock ∧ t.dbm = s.dbm ∧ t.fda = s.fda

/-! ## A directory copy (R14, R65, R171) -/

/-- The announcement's lock follows the clip table and the setting: the old extent is released, and the extent of the clip that
is set, rounded out to whole sectors, is locked, or waits where a FLASH service QUEUED or RUNNING meets it (R171, R172). -/
def State.relocked (s t : State) : Prop :=
  let kept := s.flp.locks.filter fun k => decide (k.owner ≠ .announcement)
  match lookupClip t.aud.clips t.cfg.options.annClip with
  | none => t.flp.locks = kept ∧ t.flp.annWaiting = none
  | some c =>
      let lo := 0x110000 + c.start / 4096 * 4096
      let hi := 0x110000 + (c.start + 4 * c.frames + 4095) / 4096 * 4096
      ((∃ w, s.flp.work = some w ∧ w.address < hi ∧ lo < w.address + w.len) →
        t.flp.locks = kept ∧ t.flp.annWaiting = some (lo, hi))
      ∧ ((∀ w, s.flp.work = some w → hi ≤ w.address ∨ w.address + w.len ≤ lo) →
        t.flp.locks = kept ++ [⟨.announcement, lo, hi⟩] ∧ t.flp.annWaiting = none)

/-- While the site is TRIPPED and the part not halted the announcement is restarted with the clip now set: buffer A gives up
what it held and any gap ends; otherwise AUD's buffers stand but for their fetch positions (R65). -/
def State.restartsAnnouncement (s t : State) : Prop :=
  (s.sup.mode = .tripped → s.lif.halted = false →
    t.aud.announces t.aud.clips s.cfg.options.annClip ∧ t.aud.gapLeft = none)
  ∧ (s.sup.mode ≠ .tripped ∨ s.lif.halted = true → t.aud.gapLeft = s.aud.gapLeft
    ∧ ∀ i, (t.aud.buf i).map (fun st => { st with fetch := 0 }) = (s.aud.buf i).map fun st => { st with fetch := 0 })
  ∧ (t.aud.bufB.map fun st => { st with fetch := 0 }) = s.aud.bufB.map fun st => { st with fetch := 0 }

/-! ## The settings image (R173, R175) -/

/-- The records of a table and index, read by the table's request, all give the value; with none of them it is the usual one. -/
def listedAs {α : Type} (rs : List ImageRecord) (table index : Nat) (read : List Byte → Option α) (value usual : α) : Prop :=
  (∀ r ∈ rs, r.table = table → r.index = index → read r.content = some value)
    ∧ ((∀ r ∈ rs, r.table = table → r.index ≠ index) → value = usual)

/-- The settings are the defaults overlaid with every record of an image, and every record's content is in its ranges (R175). -/
def Settings.overlays (c : Settings) (rs : List ImageRecord) : Prop :=
  let d := Settings.default
  (∀ g : Fin 24, listedAs rs 1 g.val groupOf (c.groups.get g) (d.groups.get g))
    ∧ (∀ f : Fin 96, listedAs rs 2 f.val fixtureOf (c.fixtures.get f) (d.fixtures.get f))
    ∧ (∀ z : Fin 4, listedAs rs 3 z.val zoneOf (c.zones.get z) (d.zones.get z))
    ∧ listedAs rs 4 0 windOf c.wind d.wind ∧ listedAs rs 5 0 levelOf c.level d.level
    ∧ listedAs rs 6 0 feederOf c.feeder d.feeder
    ∧ (∀ i : Fin 27, listedAs rs 7 i.val counterOf (c.counters.get i) (d.counters.get i))
    ∧ listedAs rs 8 0 windowOf c.window d.window ∧ listedAs rs 9 0 optionsOf c.options d.options

/-- The checks between records hold: no two configured groups have one drive address, no two assigned fixtures share a slot, and
the zone delays fit the pool of 24,000 samples (R61, R72, R124, R175). -/
def Settings.sound (c : Settings) : Prop :=
  (∀ g h : Fin 24, g ≠ h → (c.groups.get g).configured = true → (c.groups.get h).configured = true →
    (c.groups.get g).address ≠ (c.groups.get h).address)
  ∧ (∀ f h : Fin 96, f ≠ h → (c.fixtures.get f).base ≠ 0 → (c.fixtures.get h).base ≠ 0 →
    (c.fixtures.get f).base + 4 ≤ (c.fixtures.get h).base ∨ (c.fixtures.get h).base + 4 ≤ (c.fixtures.get f).base)
  ∧ 48 * ((c.zones.get 0).delay + (c.zones.get 1).delay + (c.zones.get 2).delay + (c.zones.get 3).delay) ≤ 24000

/-- Every record of the settings is in the ranges of its request, and the checks between records hold. -/
def Settings.fit (c : Settings) : Prop :=
  (∀ g : Fin 24, (c.groups.get g).ok = true) ∧ (∀ f : Fin 96, (c.fixtures.get f).ok = true)
    ∧ (∀ z : Fin 4, (c.zones.get z).ok = true) ∧ c.wind.ok = true ∧ c.level.ok = true ∧ c.feeder.ok = true
    ∧ (∀ i : Fin 27, (c.counters.get i).ok = true) ∧ (1 ≤ c.window ∧ c.window ≤ 10) ∧ c.options.ok = true ∧ c.sound

/-! ## A settings load (R175) -/

/-- A group as the records of a load leave it: entered afresh where it becomes configured or takes another address, out of the
interlock where it stops being configured, and as it was otherwise (R72, R175; log entry 51). -/
def State.regrouped (s : State) (new : Settings) (g : Fin 24) : Group :=
  if (new.groups.get g).configured = true then
    if (s.groupRecord g).configured = true ∧ (s.groupRecord g).address = (new.groups.get g).address then s.groups.get g
    else if (s.sup.channels.get (driveChannel g)).valid = true then
      { Group.reset with interlock := some .closing, stroke := some ⟨s.clock, (new.groups.get g).stroke⟩ }
    else { Group.reset with interlock := some .lost }
  else if (s.groupRecord g).configured = true then Group.reset else s.groups.get g

/-- The reset of its channel finds a group that is LOST after the records have acted (R99, R145; log entry 52). -/
def State.foundByLoad (s : State) (new : Settings) (g : Fin 24) : Bool :=
  !(s.sup.channels.get (driveChannel g)).fatal && !(s.sup.channels.get (driveChannel g)).valid
    && decide ((s.regrouped new g).interlock = some .lost)

/-- A group after a load: as the records leave it, and CLOSING with the pump stopped where the reset of its channel finds it. -/
def State.loadedGroup (s : State) (new : Settings) (g : Fin 24) : Group :=
  if s.foundByLoad new g = true then
    { s.regrouped new g with
      interlock := some .closing, cause := .none, c0 := 0, stroke := some ⟨s.clock, (new.groups.get g).stroke⟩ }
  else s.regrouped new g

/-- The demand of a group after a load: S of its last figures where it is found, 0 where it has entered afresh or left, and as
it was otherwise (R72, R81). -/
def State.loadedDemand (s : State) (new : Settings) (g : Fin 24) : Nat :=
  if s.foundByLoad new g = true then (s.regrouped new g).figs.s
  else if ((new.groups.get g).configured = false ∧ (s.groupRecord g).configured = false)
      ∨ ((new.groups.get g).configured = true ∧ (s.groupRecord g).configured = true
        ∧ (s.groupRecord g).address = (new.groups.get g).address) then s.fda.demand.get g
  else 0

/-- New working settings have taken effect with the show IDLE: the groups, where the reset of the LEVEL channel uncovers DRY
with their fade records at 0, the channels, the fixtures, the delay lines, FDA, the calm count and the announcement (R175). -/
def State.takesSettings (s t : State) (new : Settings) : Prop :=
  let level := s.sup.channels.get 1
  t.cfg = new ∧ t.seq.st = .idle ∧ t.aud.clips = s.aud.clips
    ∧ (∀ g : Fin 24, t.groups.get g =
        if level.valid = false ∧ level.fatal = false ∧ s.sup.measured = .dry ∧ (s.loadedGroup new g).interlock ≠ none then
          { s.loadedGroup new g with fade := ⟨0, 0, .onSite s.clock, 0⟩ }
        else s.loadedGroup new g)
    ∧ (∀ g : Fin 24, t.fda.demand.get g = s.loadedDemand new g)
    ∧ (∀ i : Fin 27, t.sup.channels.get i = if (s.sup.channels.get i).fatal = true then s.sup.channels.get i
        else { s.sup.channels.get i with counter := 0, valid := true })
    ∧ (∀ f : Fin 96,
        let old := s.cfg.fixtures.get f
        let r := new.fixtures.get f
        let x := s.lgt.fixtures.get f
        let y := t.lgt.fixtures.get f
        (old.base ≠ r.base → y.latch = none ∧ y.dryStart = none ∧ y.fade.starts = Quad.fill 0
          ∧ y.fade.targets = Quad.fill 0 ∧ y.fade.dur = 0 ∧ y.fade.began.clock = .siteClock)
        ∧ (old.base = r.base →
          y = { x with dryStart := if old.base ≠ 0 ∧ old.bound ≠ r.bound then none else x.dryStart }))
    ∧ (∀ z : Fin 4, t.aud.lines.get z = List.replicate (48 * (new.zones.get z).delay) 0)
    ∧ t.fda.load = s.fda.load ∧ t.fda.kL = s.fda.kL ∧ t.fda.cap = new.feeder.budget * new.feeder.share / 1000
    ∧ t.fda.allowance = new.feeder.budget - min s.fda.load t.fda.cap ∧ t.fda.k = waterScale t.loads t.fda.allowance
    ∧ t.sup.calm = 0
    ∧ (s.sup.mode = .tripped → s.lif.halted = false → t.aud.announces s.aud.clips new.options.annClip)

/-! ## What every step keeps -/

/-- The law of a supervision channel under its limit and hold (R142, R143, R145): a fatal one is INVALID at 255; any other is
INVALID only at or above its limit, VALID only below it, and never above the limit plus the hold. -/
def Channel.lawful (c : Channel) (k : CounterSettings) : Bool :=
  k.ok && (if c.fatal then decide (c.counter = 255) && !c.valid
    else decide (c.valid = decide (c.counter < k.limit)) && decide (c.counter ≤ k.limit + k.hold))

/-- Every channel keeps its law. -/
def State.channelsLawful (s : State) : Prop := ∀ i : Fin 27, (s.sup.channels.get i).lawful (s.cfg.counters.get i) = true

/-- PERMIT is high only when the start-up mark is set, the part is not halted, and no emergency-stop trip is latched (R157). -/
def State.permitSafe (s : State) : Prop :=
  s.sup.permit = true → s.sup.startMark = true ∧ s.lif.halted = false ∧ (s.sup.mode = .tripped → s.sup.causes.estop = false)

/-- The link's queues keep their sizes: four requests, four reply places, eight BUSY entries, sixteen reports (R181, R183 to
R185). -/
def State.queuesFit (s : State) : Prop :=
  s.lif.inbox.length ≤ 4 ∧ s.lif.placesUsed ≤ 4 ∧ s.lif.busyUsed ≤ 8 ∧ s.lif.reports.length ≤ 16

/-- A group has an interlock state exactly while it is configured (R90). -/
def State.interlocksFit (s : State) : Prop :=
  ∀ g : Fin 24, (s.groups.get g).interlock.isSome = (s.cfg.groups.get g).configured

/-- While the site is TRIPPED or the part is halted no group is OPENING, and every configured group's held target is 0 (R100,
R102). -/
def State.watersClosing (s : State) : Prop :=
  s.sup.mode = .tripped ∨ s.lif.halted = true → ∀ g : Fin 24, (s.groups.get g).interlock ≠ some .opening
    ∧ ((s.groups.get g).interlock ≠ none → (s.groups.get g).target = 0)

/-- The speed that the next command of a group starts from is the speed last sent, or 0; in OPENING and RUNNING it is the speed
last sent (R76, R83, R95; log entry 56). -/
def State.rampsFit (s : State) : Prop :=
  ∀ g : Fin 24, ((s.groups.get g).c0 = (s.groups.get g).sent ∨ (s.groups.get g).c0 = 0)
    ∧ ((s.groups.get g).interlock = some .opening ∨ (s.groups.get g).interlock = some .running →
      (s.groups.get g).c0 = (s.groups.get g).sent)

/-- A stroke timer runs only in the states that start one: a group that holds a timer is OPENING or CLOSING (R96). -/
def State.strokesFit (s : State) : Prop :=
  ∀ g : Fin 24, (s.groups.get g).stroke.isSome = true →
    (s.groups.get g).interlock = some .opening ∨ (s.groups.get g).interlock = some .closing

/-- The locks and the FLASH service keep clear of each other: no lock, in force or waiting, reaches into SETTINGS, no lock in
force meets the extent of a service QUEUED or RUNNING, and a program has a byte for each byte of its extent (R171, R172). -/
def State.locksClear (s : State) : Prop :=
  (∀ l ∈ s.flp.locks, 0x10000 ≤ l.lo ∧ s.flp.serviceMeets (l.lo, l.hi) = false)
    ∧ (∀ e, s.flp.annWaiting = some e → 0x10000 ≤ e.1)
    ∧ ∀ w data, s.flp.work = some w → w.data = some data → data.length = w.len

/-- The image of a save in progress fits the SETTINGS region, and so would one of the working settings, their wind record having
its seven thresholds and its derate table's 32 entries (R149, R173, R176). -/
def State.savesFit (s : State) : Prop :=
  (∀ image seen, s.flp.settingsWork = some (.save image seen) → image.length ≤ 0x10000)
    ∧ s.cfg.wind.thresholds.length = 7 ∧ s.cfg.wind.derate.length = 32

end Sys2Proof.Machine
end

