-- ==== Sys2Proof/Certificates/Slice0/Obligations.lean ====
section
/-! DEFINITION. The statements for the provers. Throughout, that a request waits in the inbox for its command is log entry 3, that
the transmitter takes its next frame in the same step is log entry 22, that the flash port does is log entry 17, that a SET taken
during start-up makes the image MODIFIED is log entry 59, and what a SET_GROUP taken then does with its group entry 76. -/

open Sys2Proof Sys2Proof.Machine

/-! ## The machine -/

/-- Step takes the command at the front of the queue and carries it out on the state with the queue's rest. -/
def Obligations.StepRunsFrontCommand : Prop :=
  ∀ (c : Instr) (rest : List Instr) (s : State), s.pending = c :: rest → step s = exec c (s.withPending rest)

/-- Every command answers a next state, whatever the state, and leaves the queue of commands as it is. -/
def Obligations.EveryCommandAnswersNext : Prop :=
  ∀ (c : Instr) (s : State), ∃ t, exec c s = .next t ∧ t.pending = s.pending

/-! ## What every step keeps -/

/-- Every step keeps the flash device's bytes in canonical form. -/
def Obligations.StepKeepsFlashCanonical : Prop :=
  ∀ s t : State, Memory.wf s.flash = true → step s = .next t → Memory.wf t.flash = true

/-- Every step keeps the law of every supervision channel (R142, R143, R145), and every step keeps the working settings such
that each record is in its ranges and the checks between records hold (R60, R61, R70 to R72, R110, R113, R124, R145, R149, R153,
R175, R189). -/
def Obligations.StepKeepsChannelsAndSettingsLawful : Prop :=
  (∀ s t : State, s.channelsLawful → step s = .next t → t.channelsLawful)
    ∧ ∀ s t : State, s.cfg.fit → step s = .next t → t.cfg.fit

/-- Every step keeps PERMIT low while the part is halted, before the start-up mark, and in an emergency-stop trip (R157); and
every step keeps it so that outside TRIPPED the site mode is RESTRICTED or NORMAL as the band, the level state and the channels
stand, and that every condition flag of the SITE bank whose condition is present is set (R148, R152, R155, R159, R160). -/
def Obligations.StepKeepsPermitSafe : Prop :=
  (∀ s t : State, s.permitSafe → step s = .next t → t.permitSafe)
    ∧ ∀ s t : State, s.siteJudged → step s = .next t → t.siteJudged

/-- Every step keeps the link's queues within their sizes (R181, R183 to R185). -/
def Obligations.StepKeepsQueuesFit : Prop := ∀ s t : State, s.queuesFit → step s = .next t → t.queuesFit

/-- Every step keeps interlock states with the configured groups (R90); every step keeps it so that while the site is TRIPPED or
the part halted no group is OPENING and every configured group's held target is 0 (R100, R102), and that the speed a group's
next command starts from is the speed last sent, or, in CLOSING, FAULT, LOST or SHUT, 0 (R76, R83, R95); and every step keeps it
so that a group holds a running stroke timer only while its interlock state is OPENING or CLOSING (R96).
The model's choices it rests on: the 0 at the entry into CLOSING from FAULT or LOST is log entry 56. -/
def Obligations.StepKeepsInterlocksFit : Prop :=
  (∀ s t : State, s.interlocksFit → step s = .next t → t.interlocksFit)
    ∧ (∀ s t : State, s.watersClosing → step s = .next t → t.watersClosing)
    ∧ (∀ s t : State, s.rampsFit → step s = .next t → t.rampsFit)
    ∧ ∀ s t : State, s.strokesFit → step s = .next t → t.strokesFit

/-- The machine after a reset has every property that the steps keep. -/
def Obligations.ResetHasInvariants : Prop :=
  Memory.wf State.reset.flash = true ∧ State.reset.channelsLawful ∧ State.reset.cfg.fit ∧ State.reset.permitSafe
    ∧ State.reset.siteJudged ∧ State.reset.queuesFit ∧ State.reset.interlocksFit ∧ State.reset.watersClosing
    ∧ State.reset.rampsFit ∧ State.reset.strokesFit ∧ State.reset.locksClear ∧ State.reset.savesFit

/-- A command changes no byte of the flash but those of the program or erase that is in progress before or after it. Every step
keeps the locks and the FLASH service clear of each other, and a save's image within its region; where both hold, no byte of a
locked extent is being programmed or erased, and no command changes one (R171, R172).
The model's choices it rests on: a lock registered during start-up is log entry 64. -/
def Obligations.FlashChangesOnlyWhereWorked : Prop :=
  (∀ (c : Instr) (s t : State) (a : Nat), exec c s = .next t → inExtent s.workExtent a = false →
    inExtent t.workExtent a = false → Memory.read t.flash a = Memory.read s.flash a)
  ∧ (∀ s t : State, s.locksClear → step s = .next t → t.locksClear)
  ∧ (∀ s t : State, s.savesFit → step s = .next t → t.savesFit)
  ∧ ∀ (s : State) (l : Lock) (a : Nat), s.locksClear → s.savesFit → l ∈ s.flp.locks → l.lo ≤ a → a < l.hi →
    inExtent s.workExtent a = false
      ∧ ∀ (c : Instr) (t : State), exec c s = .next t → Memory.read t.flash a = Memory.read s.flash a

/-! ## Loading a show (01, 02) -/

/-- The directory (R11, R12): an entry names a clip exactly when every condition of R11 holds, and the clip table gives an id
the clip of the valid entry at the lowest position that bears it; a look-up gives the ids 1 to 64 their entry, and no other id a
clip. -/
def Obligations.DirectoryGivesLowestValidEntry : Prop :=
  (∀ (sector : List Byte),
    (∀ (pos id : Nat) (c : Clip), entryOf sector pos = some (id, c) ↔
      (let p := (sector.drop (64 * pos)).take 64
      id = u16 p 0 ∧ c = ⟨u32 p 2, u32 p 6, u16 p 10⟩ ∧ 1 ≤ id ∧ id ≤ 64 ∧ c.start % 4096 = 0 ∧ 4096 ≤ c.start
        ∧ 1 ≤ c.frames ∧ c.start + 4 * c.frames ≤ 0xFEF0000 ∧ c.gain ≤ 1000 ∧ ∀ b ∈ p.drop 12, b = 0))
    ∧ ∀ (i : Fin 64) (c : Clip), (settleDirectory sector).get i = some c ↔
        ∃ pos, pos < 64 ∧ entryOf sector pos = some (i.val + 1, c)
          ∧ ∀ p, p < pos → ∀ c', entryOf sector p ≠ some (i.val + 1, c'))
  ∧ ∀ (clips : Table 64 (Option Clip)) (id : Nat) (c : Clip), lookupClip clips id = some c ↔
      ∃ i : Fin 64, id = i.val + 1 ∧ clips.get i = some c

/-- A load's records are the bytes read, 16 to a record, and a record's kind and fields stand where Formats places them.
Checking them ends at the first bad cue, with its index and BAD_ORDER, BAD_KIND, BAD_GROUP, BAD_FIXTURE or NO_CLIP as its fields
give, in that order (R4, R5, R7 to R9, R21). The cues of a load that pass the checks are the records in order, each with its
record's time and the act its record asks for, heights clamped to 800 dm and fades to 30,000 ms, each clamped field counted;
times do not decrease and stay within the duration, and an END stands only last (R4, R6, R9). A jet lane holds one entry for
each JET cue that names its group, in cue order, with d_k = max(r_k, d_(k-1), -10,000) (R22 to R25). The lead that r_k is reckoned
with is the off lead at a height of 0; at or below the first point's height it is the first point's lead, at or above the last
point's the last point's, and between two points the floor of the line through them, toward minus infinity where the leads fall,
as in R24's figure of 2,833 ms (R24). The light, clip and mark lanes hold one entry for each cue of their kind (R23). The
preroll is min(10,000, max(0, -R)) over the raw times of the jet and clip entries (R27), LANE_FULL names the first cue whose
entries pass 8,192 (R22), and the load result counts the cues, the entries, the clamps, the entries dispatched after their raw
time, and those that share a dispatch time with the next (R6, R22, R25, R26, R28). -/
def Obligations.LoadedCuesAreInOrder : Prop :=
  (∀ (bytes : List Byte) (n i : Nat), (recordsOf bytes n)[i]? = if i < n then some ((bytes.drop (16 * i)).take 16) else none)
  ∧ (∀ p : List Byte,
     (u8 p 4 = 1 → cueActOf p = some (.jet (BitVec.ofNat 24 (u24 p 5)) (u16 p 8) (u16 p 10)))
     ∧ (u8 p 4 = 2 → cueActOf p = some (.light (u8 p 5) (u8 p 6) (colourAt p 7) (u16 p 11)))
     ∧ (u8 p 4 = 3 → cueActOf p = some (.clip (u8 p 5) (if u8 p 6 = 0 then 0 else u32 p 7)))
     ∧ (u8 p 4 = 4 → cueActOf p = some (.mark (u16 p 5))) ∧ (u8 p 4 = 5 → cueActOf p = some .ended)
     ∧ (u8 p 4 = 0 ∨ 5 < u8 p 4 → cueActOf p = none))
  ∧ (∀ (cfg : Settings) (clips : Table 64 (Option Clip)) (duration : Nat) (records : List (List Byte)),
     let fails (i : Nat) (f : Failure) : Prop := ∃ p, records[i]? = some p ∧
       let late := duration < u32 p 0
         ∨ ∃ j q, i = j + 1 ∧ records[j]? = some q ∧ (u32 p 0 < u32 q 0 ∨ u8 q 4 = 5)
       let noGroup := u24 p 5 = 0
         ∨ ∃ g : Fin 24, (u24 p 5).testBit g.val = true ∧ (cfg.groups.get g).configured = false
       let noFixture := u8 p 6 < u8 p 5 ∨ 95 < u8 p 6
         ∨ ∃ x : Fin 96, u8 p 5 ≤ x.val ∧ x.val ≤ u8 p 6 ∧ (cfg.fixtures.get x).base = 0
       let noClip := ¬∃ (k : Fin 64) (c : Clip), u8 p 5 = k.val + 1 ∧ clips.get k = some c
         ∧ (if u8 p 6 = 0 then 0 else u32 p 7) < c.frames
       (f = .badOrder ∧ late) ∨ (f = .badKind ∧ ¬late ∧ (u8 p 4 = 0 ∨ 5 < u8 p 4))
         ∨ (f = .badGroup ∧ ¬late ∧ u8 p 4 = 1 ∧ noGroup) ∨ (f = .badFixture ∧ ¬late ∧ u8 p 4 = 2 ∧ noFixture)
         ∨ (f = .noClip ∧ ¬late ∧ u8 p 4 = 3 ∧ noClip)
     (∀ f i, checkCues cfg clips duration records 0 0 false [] 0 = .bad f i ↔ fails i f ∧ ∀ j f', j < i → ¬fails j f')
       ∧ ((∃ cues n, checkCues cfg clips duration records 0 0 false [] 0 = .good cues n) ↔ ∀ i f, ¬fails i f))
  ∧ (∀ (cfg : Settings) (clips : Table 64 (Option Clip)) (duration : Nat) (records : List (List Byte)) (cues : List Cue)
     (n : Nat), checkCues cfg clips duration records 0 0 false [] 0 = .good cues n →
     cues.length = records.length ∧ cues.Pairwise (fun a b => a.time ≤ b.time) ∧ (∀ c ∈ cues, c.time ≤ duration)
       ∧ (∀ c ∈ cues.dropLast, c.act ≠ .ended)
       ∧ (∀ (i : Nat) (p : List Byte) (c : Cue), records[i]? = some p → cues[i]? = some c → c.time = u32 p 0
         ∧ ∃ act, cueActOf p = some act ∧ act.fault cfg clips = .none
           ∧ c.act = match act with
             | .jet set h f => .jet set (if 800 < h then 800 else h) (if 30000 < f then 30000 else f)
             | .light a b q f => .light a b q (if 30000 < f then 30000 else f)
             | other => other)
       ∧ n = (records.map fun p => match cueActOf p with
           | some (.jet _ h f) => (if 800 < h then 1 else 0) + (if 30000 < f then 1 else 0)
           | some (.light _ _ _ f) => if 30000 < f then 1 else 0
           | _ => 0).sum)
  ∧ (∀ (r : GroupRecord) (g : Fin 24) (cues : List Cue),
     let lane := jetLane r g cues
     let lead (h : Nat) : Int := if h = 0 then r.offLead else interp r.leads h
     lane.Pairwise (fun a b => a.cue < b.cue)
       ∧ (∀ i t h f, (∃ e ∈ lane, e.cue = i ∧ e.time = t ∧ e.height = h ∧ e.fade = f) ↔
           ∃ set, cues[i]? = some ⟨t, .jet set h f⟩ ∧ set.getLsbD g.val = true)
       ∧ (∀ e, lane[0]? = some e → e.dispatch = max ((e.time : Int) - lead e.height) (-10000))
       ∧ (∀ k a b, lane[k]? = some a → lane[k + 1]? = some b →
           b.dispatch = max (max ((b.time : Int) - lead b.height) a.dispatch) (-10000))
       ∧ lane.Pairwise (fun a b => a.dispatch ≤ b.dispatch))
  ∧ ((∀ (r : GroupRecord) (h : Nat), r.leads.Pairwise (fun p q => p.h < q.h) →
       (∀ p, r.leads.head? = some p → h ≤ p.h → interp r.leads h = p.v)
       ∧ (∀ p, r.leads.getLast? = some p → p.h ≤ h → interp r.leads h = p.v)
       ∧ ∀ i p q, r.leads[i]? = some p → r.leads[i + 1]? = some q → p.h ≤ h → h < q.h →
           interp r.leads h = p.v + Int.fdiv (((h : Int) - p.h) * ((q.v : Int) - p.v)) ((q.h : Int) - p.h))
     ∧ interp [⟨200, 3000⟩, ⟨500, 2000⟩] 250 = 2833)
  ∧ ∀ (cfg : Settings) (cues : List Cue) (n : Nat),
     let l := buildLanes cfg cues
     let raw (g : Fin 24) (e : JetEntry) : Int := (e.time : Int) -
       (if e.height = 0 then ((cfg.groups.get g).offLead : Int) else interp (cfg.groups.get g).leads e.height)
     let isRaw (x : Int) : Prop := (∃ g : Fin 24, ∃ e ∈ (l.jets.get g).entries, x = raw g e)
       ∨ ∃ e ∈ l.clips.entries, x = (e.time : Int) - 200
     let preroll : Int := prerollOf cfg l
     let size := ((List.finRange 24).map fun g => (l.jets.get g).entries.length).sum + l.lights.entries.length
       + l.clips.entries.length + l.marks.entries.length
     (∀ g : Fin 24, l.jets.get g = ⟨jetLane (cfg.groups.get g) g cues, 0⟩)
       ∧ l.lights.cursor = 0 ∧ l.clips.cursor = 0 ∧ l.marks.cursor = 0
       ∧ l.lights.entries.Pairwise (fun a b => a.cue < b.cue) ∧ l.clips.entries.Pairwise (fun a b => a.cue < b.cue)
       ∧ l.marks.entries.Pairwise (fun a b => a.cue < b.cue)
       ∧ (∀ i t a b q f, (⟨i, t, a, b, q, f⟩ : LightEntry) ∈ l.lights.entries ↔ cues[i]? = some ⟨t, .light a b q f⟩)
       ∧ (∀ i t id o, (⟨i, t, id, o⟩ : ClipEntry) ∈ l.clips.entries ↔ cues[i]? = some ⟨t, .clip id o⟩)
       ∧ (∀ i t m, (⟨i, t, some m⟩ : MarkEntry) ∈ l.marks.entries ↔ cues[i]? = some ⟨t, .mark m⟩)
       ∧ (∀ i t, (⟨i, t, none⟩ : MarkEntry) ∈ l.marks.entries ↔ cues[i]? = some ⟨t, .ended⟩)
       ∧ (0 ≤ preroll ∧ preroll ≤ 10000 ∧ (∀ x, isRaw x → min 10000 (-x) ≤ preroll)
         ∧ (preroll = 0 ∨ ∃ x, isRaw x ∧ preroll = min 10000 (-x)))
       ∧ (laneFullAt cues 0 0 = none ↔ size ≤ 8192)
       ∧ (∀ i, laneFullAt cues 0 0 = some i ↔ i < cues.length
         ∧ ((cues.take i).map fun c => c.act.entries).sum ≤ 8192
         ∧ 8192 < ((cues.take (i + 1)).map fun c => c.act.entries).sum)
       ∧ loadCounts cfg cues l n = ⟨cues.length, size, n,
           ((List.finRange 24).map fun g =>
             (l.jets.get g).entries.countP fun e => decide (raw g e < e.dispatch)).sum,
           ((List.finRange 24).map fun g =>
             let lane := (l.jets.get g).entries
             (List.range (lane.length - 1)).countP fun k =>
               decide ((lane[k]?).map (·.dispatch) = (lane[k + 1]?).map (·.dispatch))).sum,
           prerollOf cfg l⟩

/-- ARM: refused at the first condition of R19's table that holds; accepted, it goes to LOADING with the slot locked, the ARM
slot RUNNING and the header asked for, at once where the flash port is free, and else behind what is there; where a FLASH
service QUEUED or RUNNING meets the show slot, it ends at once FAILED with CONFLICT (R19, R20).
The model's choices it rests on: that the read starts in the same event is log entry 17; that the header read waits behind a
read of an interrupted load is entry 18. -/
def Obligations.ArmIsJudgedAndBeginsLoading : Prop :=
  ∀ (s : State) (q : Request), s.takes .arm q = true →
    (∀ st, (if 7 < u8 q.payload 0 then some Status.outOfRange else if s.seq.st ≠ .idle then some .wrongState
        else if s.sup.mode = .tripped then some .tripped else if s.sup.effective = .dry then some .levelDry
        else if s.flp.presence = .missing then some .noFlash else none) = some st →
      exec .arm s = .next (s.answered q st []))
    ∧ (u8 q.payload 0 ≤ 7 → s.seq.st = .idle → s.sup.mode ≠ .tripped → s.sup.effective ≠ .dry →
      s.flp.presence ≠ .missing →
      let lo := 0x10000 + u8 q.payload 0 * 0x20000
      let meets := ∃ w, s.flp.work = some w ∧ w.address < lo + 0x20000 ∧ lo < w.address + w.len
      ∃ t, exec .arm s = .next t ∧ t.cfg = s.cfg ∧ t.clock = s.clock ∧ t.groups = s.groups ∧ t.dbm = s.dbm
        ∧ t.lgt = s.lgt ∧ t.fda = s.fda ∧ t.sup = s.sup ∧ t.pins = s.pins
        ∧ ((∀ x, s.flp.port ≠ .erasing x) → t.flash = s.flash)
        ∧ (meets → t.seq.st = .idle ∧ t.seq.cues = [] ∧ t.seq.lanes = Lanes.empty
          ∧ t.seq.result = ⟨.failed, .conflict, u8 q.payload 0, List.replicate 16 0, none, none⟩
          ∧ t.lif.armSlot = ⟨.failed, 0x20, q.tag, .conflict, none, none⟩ ∧ t.flags.has .loadFailed = true
          ∧ s.says t 2 (.serviceDone .arm t.lif.armSlot) ∧ t.flp.work = s.flp.work
          ∧ t.flp.locks = s.flp.locks.filter fun k => !k.owner.ofShow)
        ∧ (¬meets →
          t.seq = { s.seq with
            st := .loading, slot := u8 q.payload 0
            load := some (if s.seq.staleRead = true then .headerDeferred else .header) }
          ∧ t.aud = s.aud.seek ∧ t.lif.armSlot = ⟨.running, 0x20, q.tag, .none, none, none⟩
          ∧ t.flp.locks = s.flp.locks ++ [⟨.showSlot, lo, lo + 0x20000⟩]
          ∧ (s.seq.staleRead = false → s.flp.port = .free → s.flashQuiet = true →
            t.flp.port = .reading (.loadRead lo 28) ∧ t.aud = s.aud)
          ∧ (s.flp.port ≠ .free → t.flp.internalQ =
            s.flp.internalQ ++ (if s.seq.staleRead = true then [] else [.loadRead lo 28]))
          ∧ (s.flp.port ≠ .free → (∀ x, s.flp.port ≠ .erasing x) → t.flp.port = s.flp.port)))

/-- LOAD_READ_DONE: an accepted header asks for the cue records, in order, those still to come after each read, the last of them
with a matching check for the directory; a header whose version, show id, cue count or duration is not accepted, or a check that
does not pass, ends the load with BAD_CHECK (R2, R3, R20). A read left over from an interrupted load is
discarded, and the header of a load that waits behind it is then asked for (R30).
The model's choices it rests on: how the cue records are divided into reads is log entry 16; the header read that waits is
entry 18. -/
def Obligations.LoadReadGoesOnOrFails : Prop :=
  (∀ (bytes : List Byte) (slot : Nat),
    headerOf bytes = ⟨u8 bytes 0, u8 bytes 1, u16 bytes 2, u32 bytes 4,
      (List.range 16).map fun i => bytes.getD (8 + i) 0, u32 bytes 24⟩
    ∧ ((headerOf bytes).ok slot = true ↔ u8 bytes 0 = 1 ∧ u8 bytes 1 = slot ∧ 1 ≤ u32 bytes 4 ∧ u32 bytes 4 ≤ 3600000
      ∧ 1 ≤ u16 bytes 2 ∧ u16 bytes 2 ≤ 4096)
    ∧ ∀ h got, cueRead slot h got = .loadRead (0x10000 + slot * 0x20000 + 28 + got) (min 4096 (16 * h.cueCount - got)))
  ∧ (∀ (s : State) (a n : Nat), s.flp.port = .reading (.loadRead a n) → s.seq.staleRead = false → s.flashQuiet = true →
    let bytes := Memory.readBytes s.flash a n
    (s.seq.load = some .header → (headerOf bytes).ok s.seq.slot = true →
      exec .loadReadDone s = .next { s with
        seq := { s.seq with load := some (.cues (headerOf bytes) []) }
        flp := { s.flp with port := .reading (cueRead s.seq.slot (headerOf bytes) 0), turn := .lif }
        lif := s.lif.kick })
    ∧ (s.seq.load = some .header → (headerOf bytes).ok s.seq.slot = false →
      ∃ t, exec .loadReadDone s = .next t ∧ s.LoadFailed t .badCheck none (headerOf bytes).label ∧ t.flp.port = .free)
    ∧ ∀ (h : ShowHeader) (got : List Byte), s.seq.load = some (.cues h got) →
      ((got ++ bytes).length < 16 * h.cueCount →
        exec .loadReadDone s = .next { s with
          seq := { s.seq with load := some (.cues h (got ++ bytes)) }
          flp := { s.flp with port := .reading (cueRead s.seq.slot h (got ++ bytes).length), turn := .lif }
          lif := s.lif.kick })
      ∧ (16 * h.cueCount ≤ (got ++ bytes).length →
        ((crc32 (got ++ bytes)).toNat = h.check → s.aud.copying = none →
          ∃ t, exec .loadReadDone s = .next t ∧ t.seq = { s.seq with load := some (.directory h (got ++ bytes)) }
            ∧ t.flp.port = .reading .directory ∧ t.aud = { s.aud with copying := some .armLoad }
            ∧ t.cfg = s.cfg ∧ t.groups = s.groups ∧ t.lgt = s.lgt ∧ t.sup = s.sup ∧ t.flash = s.flash)
        ∧ ((crc32 (got ++ bytes)).toNat ≠ h.check →
          ∃ t, exec .loadReadDone s = .next t ∧ s.LoadFailed t .badCheck none h.label ∧ t.flp.port = .free)))
  ∧ ∀ (s : State) (a n : Nat), s.flp.port = .reading (.loadRead a n) → s.seq.staleRead = true → s.flashQuiet = true →
    (s.seq.load ≠ some .headerDeferred → exec .loadReadDone s = .next { s with
      seq := { s.seq with staleRead := false }, flp := { s.flp with port := .free }, lif := s.lif.kick })
    ∧ (s.seq.load = some .headerDeferred → exec .loadReadDone s = .next { s with
      seq := { s.seq with staleRead := false, load := some .header }
      flp := { s.flp with port := .reading (.loadRead (0x10000 + s.seq.slot * 0x20000) 28), turn := .lif }
      lif := s.lif.kick })

/-- DIRECTORY_READ_DONE in a load: the clip table is settled from the sector; the load ends with its first bad cue, with
LANE_FULL, with CONFLICT where a FLASH service QUEUED or RUNNING meets an extent to be locked, or ARMED with its lanes, result
and locks: the extent of every clip the clip lane names, rounded out to whole sectors, and the directory sector (R14, R21, R22,
R28, R171). The copy of a load that has been interrupted settles the clip table, moves the announcement's lock with it, and
changes neither the show nor the music; the next copy that waits is then asked for (R14, R30).
The model's choices it rests on: that such a copy restarts no announcement is log entry 43, that a copy waits behind one in
progress entry 18, and the chunk that AUD asks for in the same event entry 17. -/
def Obligations.DirectoryReadEndsLoad : Prop :=
  (∀ (clips : Table 64 (Option Clip)) (l : Lanes) (k : Lock), k ∈ loadLocks clips l ↔
    k = ⟨.showDirectory, 0x110000, 0x111000⟩ ∨ ∃ e ∈ l.clips.entries, ∃ c, lookupClip clips e.id = some c
      ∧ k = ⟨.showClip, 0x110000 + c.start / 4096 * 4096, 0x110000 + (c.start + 4 * c.frames + 4095) / 4096 * 4096⟩)
  ∧ (∀ s : State, s.flp.port = .reading .directory → s.aud.copying = some .staleLoad →
    ∃ t, exec .directoryReadDone s = .next t ∧ t.cfg = s.cfg ∧ t.clock = s.clock ∧ t.groups = s.groups ∧ t.seq = s.seq
      ∧ t.lgt = s.lgt ∧ t.dbm = s.dbm ∧ t.fda = s.fda ∧ t.pins = s.pins ∧ t.flash = s.flash ∧ s.relocked t
      ∧ t.aud = ({ s.aud with
        clips := settleDirectory (Memory.readBytes s.flash 0x110000 4096)
        copying := s.aud.copyQueue.head?
        copyQueue := s.aud.copyQueue.tail } : Aud).seek
      ∧ (s.flashQuiet = true → t.flp.port = if s.aud.copyQueue = [] then .free else .reading .directory))
  ∧ ∀ (s : State) (h : ShowHeader) (records : List Byte), s.flp.port = .reading .directory →
    s.aud.copying = some .armLoad → s.aud.copyQueue = [] → s.seq.load = some (.directory h records) →
    ∃ t, exec .directoryReadDone s = .next t ∧ t.cfg = s.cfg ∧ t.clock = s.clock ∧ t.groups = s.groups
      ∧ t.lgt = s.lgt ∧ t.dbm = s.dbm ∧ t.fda = s.fda ∧ t.pins = s.pins ∧ t.flash = s.flash
      ∧ t.aud.clips = settleDirectory (Memory.readBytes s.flash 0x110000 4096) ∧ t.aud.copying = none
      ∧ (let failed (failure : Failure) (cue : Option Nat) : Prop :=
          t.seq.st = .idle ∧ t.seq.cues = [] ∧ t.seq.lanes = Lanes.empty ∧ t.flags.has .loadFailed = true
            ∧ t.seq.result = ⟨.failed, failure, s.seq.slot, h.label, cue, none⟩ ∧ (∀ k ∈ t.flp.locks, k.owner = .announcement)
            ∧ t.lif.armSlot =
              { s.lif.armSlot with status := .failed, failure := failure, cueIndex := cue, imageFound := none }
            ∧ s.says t 1 (.serviceDone .arm t.lif.armSlot)
        match checkCues s.cfg t.aud.clips h.duration (recordsOf records h.cueCount) 0 0 false [] 0 with
        | .bad failure i => failed failure (some i)
        | .good cues clamps =>
            match laneFullAt cues 0 0 with
            | some i => failed .laneFull (some i)
            | none =>
                let l := buildLanes s.cfg cues
                if ∃ k ∈ loadLocks t.aud.clips l, ∃ w, s.flp.work = some w ∧ w.address < k.hi ∧ k.lo < w.address + w.len
                then failed .conflict none
                else
                  t.seq.st = .armed ∧ t.seq.cues = cues ∧ t.seq.lanes = l ∧ t.seq.duration = h.duration
                    ∧ t.seq.preroll = prerollOf s.cfg l
                    ∧ t.seq.result =
                      ⟨.done, .none, s.seq.slot, h.label, none, some (loadCounts s.cfg cues l clamps)⟩
                    ∧ (∀ k ∈ loadLocks t.aud.clips l, k ∈ t.flp.locks) ∧ t.lif.armSlot =
                      { s.lif.armSlot with status := .done, failure := .none, cueIndex := none, imageFound := none }
                    ∧ s.says t 1 (.serviceDone .arm t.lif.armSlot))

/-! ## Running a show (02) -/

/-- DISARM, HOLD and RESUME: each taken in one show state, and refused with WRONG_STATE in every other (R31, R38, R39).
The model's choices it rests on: the show clock's base of 0 in IDLE after a DISARM is log entry 50. -/
def Obligations.DisarmHoldResumeChangeTheShow : Prop :=
  ∀ (s : State) (q : Request),
    (s.takes .disarm q = true →
      (s.seq.st ≠ .armed → exec .disarm s = .next (s.answered q .wrongState []))
      ∧ (s.seq.st = .armed → exec .disarm s = .next { s with
          seq := { s.seq with st := .idle, cues := [], lanes := Lanes.empty, stopping := none, load := none }
          aud := { s.aud with count := 0, base := 0, counting := false, msDue := false }
          flp := { s.flp with locks := s.flp.locks.filter fun k => !k.owner.ofShow }
          flags := s.flags.raiseIf (s.lif.drops (.showState .idle none none (some .disarm))) .reportsDropped
          lif := ((s.lif.answering q .ok []).withReport (.showState .idle none none (some .disarm))).kick }))
    ∧ (s.takes .hold q = true →
      (s.seq.st ≠ .running → exec .hold s = .next (s.answered q .wrongState []))
      ∧ (s.seq.st = .running → ∃ t, exec .hold s = .next t ∧ t.seq = { s.seq with st := .held }
          ∧ t.aud = { s.aud with
              counting := false, target := 0, rundown := (s.aud.playing.bind s.aud.buf).map fun x => x.read }
          ∧ t.showTime = s.showTime ∧ t.groups = s.groups ∧ t.lgt = s.lgt ∧ t.cfg = s.cfg ∧ t.sup = s.sup
          ∧ t.flp = s.flp ∧ t.flash = s.flash ∧ t.clock = s.clock ∧ t.dbm = s.dbm ∧ t.fda = s.fda))
    ∧ (s.takes .resume q = true →
      (s.seq.st ≠ .held → exec .resume s = .next (s.answered q .wrongState []))
      ∧ (s.seq.st = .held → ∃ t, exec .resume s = .next t ∧ t.seq = { s.seq with st := .running }
          ∧ t.aud = { s.aud with counting := true, target := 960, rundown := none }
          ∧ t.showTime = s.showTime ∧ t.groups = s.groups ∧ t.lgt = s.lgt ∧ t.cfg = s.cfg ∧ t.sup = s.sup
          ∧ t.flp = s.flp ∧ t.flash = s.flash ∧ t.clock = s.clock ∧ t.dbm = s.dbm ∧ t.fda = s.fda))

/-- START: refused outside ARMED and at DRY; taken, the show is RUNNING from -preroll with a count of 0, and every configured
group that no due entry moves is held at its present height on the show clock (R32, R47). Where an END is due in START's own
dispatch event, or -preroll has reached the duration, the show enters STOPPING in that event, with reason END or DURATION, and
with a stop fade of 0 and every configured group down it is IDLE at once (R33, R37, R40, R41).
The model's choices it rests on: that those records start at -preroll and that the base takes -preroll at START are log
entries 48 and 50, the end test at the entry into STOPPING and the start time of its fade records entries 21 and 41. -/
def Obligations.StartRunsTheShow : Prop :=
  ∀ (s : State) (q : Request), s.takes .start q = true →
    (s.seq.st ≠ .armed → exec .start s = .next (s.answered q .wrongState []))
    ∧ (s.seq.st = .armed → s.sup.effective = .dry → exec .start s = .next (s.answered q .levelDry []))
    ∧ (s.seq.st = .armed → s.sup.effective ≠ .dry →
      let now : Int := -(s.seq.preroll : Int)
      let begun : State := { s with
        seq := { s.seq with st := .running }, aud := { s.aud with count := 0, base := now, counting := true } }
      let lit (t : State) : Prop :=
        ∀ f : Fin 96, (t.lgt.fixtures.get f).fade = (s.lgt.fixtures.get f).fade.atStart s.clock
      (s.seq.lanes.endsAt now = true → ∃ t, exec .start s = .next t ∧ begun.Stops t .ended ∧ lit t)
      ∧ (s.seq.lanes.endsAt now = false → (s.seq.duration : Int) ≤ now →
        ∃ t, exec .start s = .next t ∧ begun.Stops t .duration ∧ lit t))
    ∧ (s.seq.st = .armed → s.sup.effective ≠ .dry → s.seq.lanes.endsAt (-(s.seq.preroll : Int)) = false →
      -(s.seq.preroll : Int) < s.seq.duration →
      ∃ t, exec .start s = .next t ∧ t.seq.st = .running
        ∧ s.says t (s.seq.lanes.marks.due MarkEntry.at_ (-(s.seq.preroll : Int))).length
            (.showState .running (some s.seq.slot) (some (-(s.seq.preroll : Int))) none)
        ∧ t.aud.count = 0 ∧ t.aud.base = -(s.seq.preroll : Int)
        ∧ t.aud.counting = true ∧ t.seq.lanes = s.seq.lanes.past (-(s.seq.preroll : Int))
        ∧ (∀ g : Fin 24, (s.seq.lanes.jets.get g).due (·.dispatch) (-(s.seq.preroll : Int)) = [] →
          t.groups.get g = (s.groups.get g).withFade
            (GroupFade.hold ((s.groups.get g).fade.height none s.clock) (-(s.seq.preroll : Int))))
        ∧ (∀ f : Fin 96, (t.lgt.fixtures.get f).fade = (s.lgt.fixtures.get f).fade.atStart s.clock)
        ∧ t.cfg = s.cfg ∧ t.clock = s.clock ∧ t.dbm = s.dbm ∧ t.fda = s.fda ∧ t.sup = s.sup)

/-- SHOW_MILLISECOND in RUNNING, at a show time that neither an END nor the duration ends: every due entry is taken once; a
group with due jet entries takes the last of them from its present height (R33, R34); a fixture's latch takes the last due light
entry over it, each waiting SHOW colour that is replaced being counted as overtaken (R35, R128); the last due clip goes to the
buffer that is not PLAYING, to start at show frame 48 x its cue time, replacing a clip that waits there (R36, R49); and every
due MARK sends its report (R37). -/
def Obligations.MillisecondDispatchesDueEntries : Prop :=
  ∀ (s : State) (now : Int), s.seq.st = .running → s.aud.msDue = true → s.showTime = some now →
    s.seq.lanes.endsAt now = false → now < s.seq.duration →
    ∃ t, exec .showMillisecond s = .next t ∧ t.seq = { s.seq with lanes := s.seq.lanes.past now }
      ∧ t.aud.msDue = false ∧ t.aud.count = s.aud.count
      ∧ (∀ g : Fin 24, t.groups.get g =
          match ((s.seq.lanes.jets.get g).due (·.dispatch) now).getLast? with
          | some e => { s.groups.get g with
              fade := ⟨(s.groups.get g).fade.height (some now) s.clock, e.height, .onShow now, e.fade⟩ }
          | none => s.groups.get g)
      ∧ (let due := (s.seq.lanes.lights.entries.drop s.seq.lanes.lights.cursor).takeWhile fun e =>
          decide ((e.time : Int) ≤ now)
        let covering (f : Fin 96) := due.filter fun e => decide (e.first ≤ f.val) && decide (f.val ≤ e.last)
        let waits (f : Fin 96) : Bool := (s.lgt.fixtures.get f).latch.any fun l => decide (l.origin = .fromShow)
        let lost := ((List.finRange 96).map fun f =>
          if waits f = true then (covering f).length else (covering f).length - 1).sum
        (∀ f : Fin 96, t.lgt.fixtures.get f =
            match (covering f).getLast? with
            | some e => { s.lgt.fixtures.get f with latch := some ⟨e.colour, e.fade, .showClock, .fromShow⟩ }
            | none => s.lgt.fixtures.get f)
          ∧ t.lgt.overtakes = (if due = [] then s.lgt.overtakes else min 65535 (s.lgt.overtakes + lost))
          ∧ t.lgt.lampOut = s.lgt.lampOut
          ∧ (0 < lost → t.flags.has .lightOvertaken = true)
          ∧ (lost = 0 → t.flags.has .lightOvertaken = s.flags.has .lightOvertaken))
      ∧ (let due := (s.seq.lanes.clips.entries.drop s.seq.lanes.clips.cursor).takeWhile fun e =>
          decide ((e.time : Int) - 200 ≤ now)
        let i := s.aud.chooseBuf
        (∀ e c, due.getLast? = some e → lookupClip s.aud.clips e.id = some c →
            (∃ st, t.aud.buf i = some st ∧ st.playing = false ∧ st.origin = .fromShow ∧ st.id = e.id ∧ st.clip = c
              ∧ st.first = e.offset ∧ st.start = 48 * (e.time : Int) ∧ st.read = e.offset ∧ st.held = [])
            ∧ ((s.aud.buf i).isSome = true → t.flags.has .clipReplaced = true))
          ∧ (2 ≤ due.length → (∀ e ∈ due, (lookupClip s.aud.clips e.id).isSome = true) →
              t.flags.has .clipReplaced = true)
          ∧ (∀ j, j ≠ i ∨ due = [] → (t.aud.buf j).map (fun st => { st with fetch := 0 })
              = (s.aud.buf j).map fun st => { st with fetch := 0 })
          ∧ (due = [] → t.flags.has .clipReplaced = s.flags.has .clipReplaced))
      ∧ (let due := (s.seq.lanes.marks.entries.drop s.seq.lanes.marks.cursor).takeWhile fun e =>
          decide ((e.time : Int) ≤ now)
        let sent := due.filterMap fun e => e.marker.map fun n => Report.mark n e.cue now
        (s.lif.enable.getLsbD Category.mark.bit = true → s.lif.reports.length + sent.length ≤ 16 →
            (t.lif.tx, t.lif.reports, t.lif.answers) =
              (let l := ({ s.lif with reports := s.lif.reports ++ sent } : Lif).kick; (l.tx, l.reports, l.answers)))
          ∧ (s.lif.enable.getLsbD Category.mark.bit = false →
            (t.lif.tx, t.lif.reports, t.lif.answers) = (s.lif.kick.tx, s.lif.kick.reports, s.lif.kick.answers)))
      ∧ t.cfg = s.cfg ∧ t.clock = s.clock ∧ t.dbm = s.dbm ∧ t.fda = s.fda ∧ t.sup = s.sup

/-- STOP in RUNNING and HELD, an END, and the duration reached: the show enters STOPPING with its reason; the lanes are empty,
every configured group's target is 0, the assigned fixtures take their house colours, the audio fades out (R40, R41); with a
stop fade of 0 and every configured group SHUT, FAULT or LOST it is IDLE at once. Once the stop fade has run and every
configured group is SHUT, FAULT or LOST, the show is IDLE; until then it goes on; that is tested at each millisecond and at each
interlock change, so that a drive's reply or missing reply, a jammed line or a stroke timeout that leaves no group moving ends
the show in its own event, with the end reason that STOPPING holds (R41, R90). STOP in LOADING ends the load ABORTED,
IDLE with reason STOP: its read at the port is left to be discarded, its directory copy belongs to no load any more (R30). STOP
in IDLE, ARMED and STOPPING is refused with WRONG_STATE (R40).
A stroke timer is taken to run only in OPENING and CLOSING, as every step keeps it (StepKeepsInterlocksFit, R96).
The model's choices it rests on: the end test at the entry and the start time of the fade records are the model's readings, log
entries 21 and 41. -/
def Obligations.StoppingIsEnteredAndEnds : Prop :=
  (∀ (s : State),
     (∀ q, s.takes .stop q = true → s.seq.st = .running ∨ s.seq.st = .held →
       ∃ t, exec .stop s = .next t ∧ s.Stops t .stop)
     ∧ ∀ now, s.seq.st = .running → s.aud.msDue = true → s.showTime = some now →
       ((s.seq.lanes.endsAt now = true → ∃ t, exec .showMillisecond s = .next t ∧ s.Stops t .ended)
       ∧ (s.seq.lanes.endsAt now = false → (s.seq.duration : Int) ≤ now →
         ∃ t, exec .showMillisecond s = .next t ∧ s.Stops t .duration)))
  ∧ (∀ (s : State) (p : Stopping) (now : Int), s.seq.st = .stopping → s.seq.stopping = some p → s.aud.msDue = true →
     s.showTime = some now →
     ∃ t, exec .showMillisecond s = .next t ∧ t.groups = s.groups ∧ t.lgt = s.lgt ∧ t.cfg = s.cfg ∧ t.sup = s.sup
       ∧ (if p.began + p.fade ≤ now ∧ s.groupsDown = true then
           t.seq.st = .idle ∧ t.seq.cues = [] ∧ t.flp.locks = s.flp.locks.filter fun k => !k.owner.ofShow
         else t.seq = s.seq ∧ t.flp.locks = s.flp.locks))
  ∧ (∀ (s : State) (p : Stopping) (now : Int) (c : Instr) (before : Nat), s.seq.st = .stopping →
     s.seq.stopping = some p → s.showTime = some now → s.strokesFit → s.mayBringDown c before → ∃ t, exec c s = .next t
       ∧ (s.interlockMoved t → t.groupsDown = true → p.began + p.fade ≤ now →
         t.seq.st = .idle ∧ t.seq.cues = [] ∧ t.seq.lanes = Lanes.empty ∧ t.seq.stopping = none
           ∧ t.flp.locks = s.flp.locks.filter (fun k => !k.owner.ofShow)
           ∧ t.aud.stopFade = none ∧ t.aud.m = 960 ∧ t.aud.target = 960 ∧ t.aud.count = 0 ∧ t.aud.counting = false
           ∧ s.says t before (.showState .idle none none (some p.reason)))
       ∧ (¬s.interlockMoved t ∨ t.groupsDown = false ∨ now < p.began + p.fade →
         t.seq = s.seq ∧ t.flp.locks = s.flp.locks ∧ t.showTime = s.showTime))
  ∧ (∀ (s : State), s.groupsDown = true ↔ ∀ g : Fin 24, (s.groups.get g).interlock = none
     ∨ (s.groups.get g).interlock = some .shut ∨ (s.groups.get g).interlock = some .fault
     ∨ (s.groups.get g).interlock = some .lost)
  ∧ ∀ (s : State) (q : Request), s.takes .stop q = true →
     (s.seq.st = .idle ∨ s.seq.st = .armed ∨ s.seq.st = .stopping → exec .stop s = .next (s.answered q .wrongState []))
     ∧ (s.seq.st = .loading → ∃ t, exec .stop s = .next t ∧ s.LoadFailed t .aborted none (LoadPhase.label s.seq.load)
       ∧ (s.seq.load = some .header ∨ (∃ h got, s.seq.load = some (.cues h got)) → t.seq.staleRead = true)
       ∧ (s.seq.load = some .headerDeferred ∨ (∃ h got, s.seq.load = some (.directory h got)) →
         t.seq.staleRead = s.seq.staleRead)
       ∧ (s.aud.copying = some .armLoad → t.aud.copying = some .staleLoad)
       ∧ (s.aud.copying ≠ some .armLoad → t.aud.copying = s.aud.copying) ∧ t.aud.clips = s.aud.clips
       ∧ (s.lif.enable.getLsbD Category.showCat.bit = true → s.lif.reports.length < 16 →
         Report.showState .idle none none (some .stop) ∈ t.lif.reports))

/-! ## Music and the show clock (03) -/

/-- The mixer's steps for one zone, every division truncating toward zero and MONO's taking the floor (R57). -/
def Obligations.MixerFollowsItsSteps : Prop :=
  ∀ (cfg : Settings) (z : Fin 4) (factor : Nat) (l r : Int) (st : Stream),
    mix cfg z factor none = 0
    ∧ mix cfg z factor (some (l, r, st)) =
      (let master : Int := if st.origin = .announcement then 1000 else cfg.options.masterGain
      let l2 := ((l * st.clip.gain).tdiv 1000 * master).tdiv 1000
      let r2 := ((r * st.clip.gain).tdiv 1000 * master).tdiv 1000
      let source : Int := match (cfg.zones.get z).source with
        | .left => l2
        | .right => r2
        | .mono => Int.fdiv (l2 + r2) 2
      let x := ((source * (cfg.zones.get z).gain).tdiv 1000 * factor).tdiv 960
      if x < -32768 then -32768 else if 32767 < x then 32767 else x)

/-- AUDIO_FRAME: the ramp moves by one toward its target, each zone's sample, under the mute factor or in STOPPING the stop
fade's, passes its delay line, a frame is counted while counting is on and its 48th makes a millisecond due, and a PLAYING
buffer outside a rundown gives up the frame at its read position, a failed or missing one being an underrun; a rundown plays the
frame after the last while the ramp is above 0, and takes none from the buffer; each frame of an announcement's gap is one fewer
to come (R44, R45, R46, R52, R55, R58, R59, R61, R62, R64).
AUDIO_WINDOW_END: the window starts at 0 again; with its note set the AUDIO channel is evaluated, an error where the window has
underruns (R62, R142).
The model's choices it rests on: that an underrun frame sets the window's note is log entry 49; the chunk asked for in the same
event is entry 17; what a late window does is entry 1. -/
def Obligations.AudioFrameMixesAndScoresItsWindow : Prop :=
  (∀ s : State, 4800 ≤ s.aud.winFrames →
    (s.aud.winNote = false →
      exec .audioWindowEnd s = .next { s with aud := { s.aud with winFrames := 0, winUnderruns := 0, winNote := false } })
    ∧ (s.aud.winNote = true → ∃ t, exec .audioWindowEnd s = .next t
      ∧ t.aud = { s.aud with winFrames := 0, winUnderruns := 0, winNote := false }
      ∧ t.sup.channels.get 26 = (s.sup.channels.get 26).evaluated (s.cfg.counters.get 26) s.clock
          (if 0 < s.aud.winUnderruns then .error else .good)
      ∧ (∀ i : Fin 27, i ≠ 26 → t.sup.channels.get i = s.sup.channels.get i)
      ∧ ((s.sup.channels.get 26).valid = true → (t.sup.channels.get 26).valid = false →
          t.flags.has .audioDegraded = true)
      ∧ t.cfg = s.cfg ∧ t.clock = s.clock ∧ t.seq = s.seq ∧ t.groups = s.groups ∧ t.dbm = s.dbm ∧ t.lgt = s.lgt
      ∧ t.fda = s.fda ∧ t.flp = s.flp ∧ t.flash = s.flash))
  ∧ ∀ s : State,
    let m := if s.aud.m < s.aud.target then s.aud.m + 1 else if s.aud.target < s.aud.m then s.aud.m - 1 else s.aud.m
    let factor := match s.aud.stopFade with
      | some f => if f.j < f.n then f.m0 * (f.n - f.j) / f.n else 0
      | none => m
    let sample (st : Stream) (h : Option HeldFrame) : Option (Int × Int × Stream) := match h with
      | some (.good l r) => some (l.toInt, r.toInt, st)
      | _ => none
    let frame : Option (Int × Int × Stream) := match s.aud.playing.bind s.aud.buf with
      | none => none
      | some st => match s.aud.rundown with
        | some p => if m = 0 then none else sample st st.held[p - st.read]?
        | none => if st.clip.frames ≤ st.read then none else sample st st.held.head?
    ∃ t, exec .audioFrame s = .next t ∧ s.OnlyAudio t ∧ t.aud.m = m
    ∧ (∀ z : Fin 4, t.aud.out.get z = ((s.aud.lines.get z).head?.getD (mix s.cfg z factor frame)))
    ∧ (∀ z : Fin 4, s.aud.lines.get z ≠ [] → t.aud.lines.get z =
        (s.aud.lines.get z).tail ++ [mix s.cfg z factor frame])
    ∧ (s.aud.counting = false → t.aud.count = s.aud.count ∧ t.aud.msDue = s.aud.msDue
        ∧ t.aud.stopFade = s.aud.stopFade)
    ∧ (s.aud.counting = true → s.aud.count < 4294967295 → t.aud.count = s.aud.count + 1
        ∧ t.aud.msDue = (s.aud.msDue || decide ((s.aud.count + 1) % 48 = 0)))
    ∧ (s.aud.counting = true → t.aud.stopFade = s.aud.stopFade.map fun f => { f with j := f.j + 1 })
    ∧ t.aud.base = s.aud.base ∧ t.aud.winFrames = s.aud.winFrames + 1
    ∧ (s.aud.gapLeft = none → t.aud.gapLeft = none) ∧ (∀ n, s.aud.gapLeft = some n → t.aud.gapLeft = some (n - 1))
    ∧ (∀ i st, s.aud.playing = some i → s.aud.buf i = some st → s.aud.rundown = none → st.read < st.clip.frames →
        (∃ st', t.aud.buf i = some st' ∧ st'.read = st.read + 1 ∧ st'.held = st.held.tail ∧ st'.clip = st.clip)
        ∧ t.aud.rundown = none ∧ t.aud.winNote = true
        ∧ (∀ l r, st.held.head? = some (.good l r) → t.aud.winUnderruns = s.aud.winUnderruns)
        ∧ ((∀ l r, st.held.head? ≠ some (.good l r)) → t.aud.winUnderruns = s.aud.winUnderruns + 1))
    ∧ (∀ i st p, s.aud.playing = some i → s.aud.buf i = some st → s.aud.rundown = some p →
        (∃ st', t.aud.buf i = some st' ∧ st'.read = st.read ∧ st'.held = st.held ∧ st'.clip = st.clip)
        ∧ t.aud.rundown = some (if m = 0 then p else p + 1) ∧ t.aud.winNote = s.aud.winNote
        ∧ t.aud.winUnderruns = s.aud.winUnderruns)

/-- SHOW_CLIP_START, CLIP_START_WHEN_READY, CLIP_END and ANNOUNCEMENT_GAP_END: the buffer named starts from where it stands,
cutting one that was PLAYING and leaving one that was not, or its ended clip leaves it EMPTY; an announcement that has ended is
given to buffer A again, PENDING, under its gap (R52, R53, R54, R64). A PENDING show clip starts at the frame whose show frame
number is its start, while frames are counted; a PENDING direct clip or announcement when it holds 1,024 frames or all that is
left of its clip, an announcement also not before its gap has run out (R48, R53, R64). MUTE_COMPLETE and STOP_FADE_END: the
buffers are discarded and the announcement starts, once a trip's mute has come down to 0 or nothing plays; the PLAYING buffer is
discarded once the stop fade has run for its frames (R59, R63).
The model's choices it rests on: when a mute is complete is log entry 35, and that an event out of place changes nothing log
entry 1. -/
def Obligations.BuffersStartAndEnd : Prop :=
  (∀ a : Aud,
     (∀ i, a.atStart i = true ↔ a.counting = true ∧ ∃ st, a.buf i = some st ∧ st.playing = false ∧ st.origin = .fromShow
       ∧ st.start = (a.count : Int) + 48 * a.base)
     ∧ (∀ i, a.readyToStart i = true ↔ ∃ st, a.buf i = some st ∧ st.playing = false ∧ st.origin ≠ .fromShow
       ∧ (1024 ≤ st.held.length ∨ st.clip.frames ≤ st.read + st.held.length)
       ∧ (st.origin = .announcement → a.gapLeft = none ∨ a.gapLeft = some 0))
     ∧ (a.muteOver = true ↔ a.muting = true ∧ (a.m = 0 ∨ ∀ i st, a.buf i = some st → st.playing = false))
     ∧ (a.fadeOver = true ↔ ∃ f, a.stopFade = some f ∧ f.n ≤ f.j)
     ∧ ∀ i, a.playing = some i ↔ (∃ st, a.buf i = some st ∧ st.playing = true)
       ∧ (i = .b → ∀ st, a.bufA = some st → st.playing = false))
  ∧ (∀ s : State,
     (s.aud.atStart .a = true → ∃ t, exec .showClipStart s = .next t ∧ s.OnlyAudio t
       ∧ t.aud = (s.aud.startBuf .a).seek ∧ s.aud.startsBuf t.aud .a)
     ∧ (s.aud.atStart .a = false → s.aud.atStart .b = true → ∃ t, exec .showClipStart s = .next t ∧ s.OnlyAudio t
       ∧ t.aud = (s.aud.startBuf .b).seek ∧ s.aud.startsBuf t.aud .b)
     ∧ ((∀ i, s.aud.atStart i = false) → exec .showClipStart s = .next s)
     ∧ ((∀ i, s.aud.readyToStart i = false) → exec .clipStartWhenReady s = .next s)
     ∧ (s.aud.gapLeft ≠ some 0 → exec .announcementGapEnd s = .next s)
     ∧ (s.aud.readyToStart .a = true → ∃ t, exec .clipStartWhenReady s = .next t ∧ s.OnlyAudio t
       ∧ s.aud.startsBuf t.aud .a ∧ (t.aud.bufB.any (·.playing)) = false ∧ t.aud.gapLeft = none)
     ∧ (s.aud.readyToStart .a = false → s.aud.readyToStart .b = true →
       ∃ t, exec .clipStartWhenReady s = .next t ∧ s.OnlyAudio t
         ∧ s.aud.startsBuf t.aud .b ∧ (t.aud.bufA.any (·.playing)) = false ∧ t.aud.gapLeft = none)
     ∧ (∀ i st, s.aud.playing = some i → s.aud.buf i = some st → st.clip.frames ≤ st.read →
       ∃ t, exec .clipEnd s = .next t ∧ s.OnlyAudio t
         ∧ (st.origin ≠ .announcement → t.aud.buf i = none ∧ t.aud.gapLeft = s.aud.gapLeft)
         ∧ (st.origin = .announcement → t.aud.gapLeft = some (48000 * s.cfg.options.gap)
           ∧ (i = .a → t.aud.announces s.aud.clips s.cfg.options.annClip)))
     ∧ (s.aud.gapLeft = some 0 →
       exec .announcementGapEnd s = .next { s with aud := { s.aud with gapLeft := none } }))
  ∧ (∀ s : State,
     (s.aud.muteOver = true → ∃ t, exec .muteComplete s = .next t ∧ s.OnlyAudio t ∧ t.aud.m = 960 ∧ t.aud.target = 960
       ∧ t.aud.muting = false ∧ t.aud.stopFade = none ∧ t.aud.bufB = none
       ∧ (lookupClip s.aud.clips s.cfg.options.annClip = none → t.aud.bufA = none)
       ∧ ∀ c, lookupClip s.aud.clips s.cfg.options.annClip = some c →
           ∃ st, t.aud.bufA = some st ∧ st.playing = false ∧ st.origin = .announcement ∧ st.clip = c ∧ st.first = 0
             ∧ st.read = 0 ∧ st.held = [])
     ∧ (s.aud.muteOver = false → exec .muteComplete s = .next s)
     ∧ (s.aud.fadeOver = true → ∃ t, exec .stopFadeEnd s = .next t ∧ s.OnlyAudio t ∧ t.aud.stopFade = s.aud.stopFade
       ∧ ∀ i, s.aud.playing = some i → t.aud.buf i = none)
     ∧ (s.aud.fadeOver = false → exec .stopFadeEnd s = .next s))

/-! ## The setpoint computation (04) -/

/-- Stage 1: the present faded height goes from the start height to the target in proportion to the time elapsed, on the show
time or on the site clock modulo 2^32, truncating toward zero, and lies between them; at the end of the fade, for a fade of 0 at
once, and on the show clock with no show time, it is the target (R74, R77). Stage 2: the height is cut by the derate entry of
the group's class and the band; 1000 leaves it, and a row that does not increase never gives a higher band a greater height
(R78). Stage 3: no height while the site is TRIPPED, the part halted, or the level DRY with its channel VALID; otherwise the
least of the derated height, the max height, and, at LOW or with the LEVEL channel INVALID, the low cap (R79). -/
def Obligations.DerateAndCapsLimitHeight : Prop :=
  ((∀ (s : State) (g : Fin 24),
      let f := (s.groups.get g).fade
      let elapsed : Option Int := match f.began with
        | .onShow began => s.showTime.map fun now => now - began
        | .onSite began => some (((s.clock.toNat + 4294967296 - began.toNat) % 4294967296 : Nat) : Int)
      (s.seq.st = .idle ∨ s.seq.st = .loading ∨ s.seq.st = .armed → s.showTime = none)
        ∧ (elapsed = none → s.stage1 g = f.target)
        ∧ ∀ e, elapsed = some e → (f.dur ≤ e → s.stage1 g = f.target)
          ∧ (0 ≤ e → e < f.dur → (s.stage1 g : Int) = f.start + ((f.target - f.start : Int) * e).tdiv f.dur)
          ∧ (0 ≤ e → min f.start f.target ≤ s.stage1 g ∧ s.stage1 g ≤ max f.start f.target))
    ∧ GroupFade.height ⟨800, 600, .onSite 5, 2000⟩ none 6 = 800
    ∧ GroupFade.height ⟨800, 600, .onSite 5, 2000⟩ none 1004 = 701)
  ∧ (∀ (s : State) (g : Fin 24),
     let d := s.cfg.wind.derate.getD (8 * (s.groupRecord g).exposure + s.sup.band) 0
     s.stage2 g = s.stage1 g * d / 1000 ∧ (d = 1000 → s.stage2 g = s.stage1 g)
       ∧ ∀ (b b' h : Nat), s.cfg.wind.rowOk (s.groupRecord g).exposure = true → b ≤ b' → b' ≤ 7 →
           h * s.cfg.wind.derateAt (s.groupRecord g).exposure b' / 1000
             ≤ h * s.cfg.wind.derateAt (s.groupRecord g).exposure b / 1000)
  ∧ (∀ (s : State) (g : Fin 24),
     let level := (s.sup.channels.get 1).valid
     s.stage3 g =
       if s.sup.mode = .tripped ∨ s.lif.halted = true ∨ (s.sup.measured = .dry ∧ level = true) then 0
       else if s.sup.measured = .low ∨ level = false then
         min (min (s.stage2 g) (s.groupRecord g).maxHeight) s.cfg.level.lowCap
       else min (s.stage2 g) (s.groupRecord g).maxHeight)

/-- Stage 4: the speed of a height by the height curve, with the figures of R80's example (R80). -/
def Obligations.CurveGivesSpeed : Prop :=
  (∀ r : GroupRecord, r.speedAt 0 = 0
    ∧ (curveOk r.curve = true → ∀ h, 0 < h →
      (∀ p, r.curve.head? = some p → h ≤ p.h → r.speedAt h = p.v)
      ∧ (∀ p, r.curve.getLast? = some p → p.h ≤ h → r.speedAt h = p.v)
      ∧ ∀ i p q, r.curve[i]? = some p → r.curve[i + 1]? = some q → p.h ≤ h → h < q.h →
          r.speedAt h = p.v + (h - p.h) * (q.v - p.v) / (q.h - p.h) ∧ p.v ≤ q.v))
    ∧ ∀ r : GroupRecord, r.curve = [⟨50, 300⟩, ⟨200, 550⟩, ⟨400, 780⟩, ⟨600, 1000⟩] →
        r.speedAt 30 = 300 ∧ r.speedAt 200 = 550 ∧ r.speedAt 276 = 637 ∧ r.speedAt 700 = 1000

/-- POLL_SENT: with the line quiet in time the drive at the head of the schedule is polled. Its group's figures are those of
stages 1 to 5 with the demand posted before the water scale is read, and recomputed where the post differs from the demand
held (R118, R120); the poll carries the group's command, its sequence number
and the run flag; the other groups stand as they were (R76, R77, R81, R82, R84, R106).
The model's choices it rests on: that a later quiet wait changes nothing is log entry 1. -/
def Obligations.PollComputesAndSends : Prop :=
  ∀ (s : State) (e : Due) (rest : List Due) (quiet : Nat) (i : Interlock), s.dbm.poll = none →
    s.dbm.schedule = e :: rest → (s.groups.get e.group).interlock = some i →
    (5000 < quiet → exec (.pollSent quiet) s = .next s)
    ∧ (quiet ≤ 5000 → ∃ t, exec (.pollSent quiet) s = .next t
      ∧ (let speed := (s.groupRecord e.group).speedAt (s.stage3 e.group)
        let x := t.groups.get e.group
        let seq := s.dbm.seqs.get (addressIndex e.address)
        x.figs = ⟨s.stage1 e.group, s.stage2 e.group, s.stage3 e.group, speed, t.fda.k, speed * t.fda.k / 1000⟩
          ∧ x.starved = (decide (0 < speed) && decide (speed * t.fda.k / 1000 = 0))
          ∧ x.target = x.figs.sp ∧ x.computed = some s.clock ∧ x.fade = (s.groups.get e.group).fade
          ∧ x.reply = (s.groups.get e.group).reply ∧ x.cause = (s.groups.get e.group).cause
          ∧ t.fda.demand.get e.group = (if i = .fault ∨ i = .lost then 0 else speed)
          ∧ (t.fda.demand.get e.group ≠ s.fda.demand.get e.group → t.fda.k = waterScale t.loads t.fda.allowance
            ∧ t.fda = { s.fda with demand := t.fda.demand, k := t.fda.k })
          ∧ (t.fda.demand.get e.group = s.fda.demand.get e.group → t.fda = s.fda)
          ∧ t.dbm = { s.dbm with
              schedule := rest
              poll := some ⟨e, seq, quiet⟩
              seqs := s.dbm.seqs.set (addressIndex e.address) (seq + 1)
              busOut := pollFrame e.address seq x.sent x.valve t.sup.permit })
      ∧ (∀ h : Fin 24, h ≠ e.group → t.groups.get h = s.groups.get h)
      ∧ (∀ h : Fin 24, h ≠ e.group → t.fda.demand.get h = s.fda.demand.get h)
      ∧ t.cfg = s.cfg ∧ t.clock = s.clock ∧ t.lgt = s.lgt ∧ t.pins = s.pins)

/-- Stage 6: in RUNNING the command moves from the last sent speed toward the target by at most the up step, or by the down
step, which is the emergency step while the site is TRIPPED or the part halted; in the other states the interlock gives the
command, which is sent and becomes the last sent speed (R83). The premise on the last sent speed is kept by every step. -/
def Obligations.RampMovesTheCommand : Prop :=
  ∀ (s : State) (e : Due) (rest : List Due) (quiet : Nat) (i : Interlock), s.rampsFit → s.dbm.poll = none →
    s.dbm.schedule = e :: rest → (s.groups.get e.group).interlock = some i → quiet ≤ 5000 →
    ∃ t, exec (.pollSent quiet) s = .next t
      ∧ (let r := s.groupRecord e.group
        let c₀ := (s.groups.get e.group).sent
        let x := t.groups.get e.group
        let d := if s.sup.mode = .tripped ∨ s.lif.halted = true then 50 else max 1 (r.rampDown / 20)
        (i = .running → c₀ < x.figs.sp → x.sent = min x.figs.sp (c₀ + max 1 (r.rampUp / 20)))
        ∧ (i = .running → x.figs.sp < c₀ → x.sent = max x.figs.sp (c₀ - d))
        ∧ (i = .running → x.figs.sp = c₀ → x.sent = c₀)
        ∧ (i = .closing → x.sent ≤ min c₀ r.closeSpeed)
        ∧ (i ≠ .running → i ≠ .closing → x.sent = 0) ∧ x.c0 = x.sent
        ∧ t.dbm.busOut.getD 2 0 = BitVec.ofNat 8 x.sent ∧ t.dbm.busOut.getD 3 0 = BitVec.ofNat 8 (x.sent / 256))

/-! ## Interlock and drive bus (05) -/

/-- The interlock at a poll: SHUT opens only with a target, PERMIT high, the site not TRIPPED and the part not halted; RUNNING
closes at a target of 0 once the command is down to the close speed; the valve command is the state's; the command rises by
no more than the up step; no poll carries OPEN while the site is TRIPPED and no group is OPENING; and one GROUP_STATE reports a
change of the state, of budget-starved, or of both (R88, R90, R92, R94, R95, R96, R100, R101).
The model's choices it rests on: the speed that the next command starts from is log entry 56. -/
def Obligations.PollMovesTheInterlock : Prop :=
  ∀ (s : State) (e : Due) (rest : List Due) (quiet : Nat) (i : Interlock), s.dbm.poll = none →
    s.dbm.schedule = e :: rest → (s.groups.get e.group).interlock = some i → quiet ≤ 5000 →
    ∃ t, exec (.pollSent quiet) s = .next t
      ∧ (let r := s.groupRecord e.group
        let x := t.groups.get e.group
        let opens := 0 < x.figs.sp ∧ s.sup.mode ≠ .tripped ∧ s.sup.permit = true ∧ s.lif.halted = false
        let emergency := s.sup.mode = .tripped ∨ s.lif.halted = true
        (i = .shut → opens → x.interlock = some .opening ∧ x.valve = .openUp ∧ x.sent = 0
          ∧ x.stroke = some ⟨s.clock, r.stroke⟩)
        ∧ (i = .shut → ¬opens → x.interlock = some .shut ∧ x.valve = .close ∧ x.sent = 0)
        ∧ (i = .running → x.figs.sp = 0 → x.sent ≤ r.closeSpeed → x.interlock = some .closing ∧ x.valve = .close
          ∧ x.stroke = some ⟨s.clock, r.stroke⟩)
        ∧ (i = .running → ¬(x.figs.sp = 0 ∧ x.sent ≤ r.closeSpeed) → x.interlock = some .running
          ∧ (emergency → x.valve = .hold) ∧ (¬emergency → x.valve = .openUp))
        ∧ (i = .opening → x.interlock = some .opening ∧ x.valve = .openUp)
        ∧ (i = .closing ∨ i = .fault ∨ i = .lost → x.interlock = some i ∧ x.valve = .close)
        ∧ (0 < x.sent → x.interlock = some .running ∨ x.interlock = some .closing)
        ∧ (x.interlock = some .closing → x.sent ≤ r.closeSpeed)
        ∧ (i = .closing → x.sent = min (s.groups.get e.group).c0 r.closeSpeed)
        ∧ x.sent ≤ (s.groups.get e.group).c0 + max 1 (r.rampUp / 20)
        ∧ ((s.groups.get e.group).c0 ≤ (s.groups.get e.group).sent →
          x.sent ≤ (s.groups.get e.group).sent + max 1 (r.rampUp / 20))
        ∧ (emergency → i ≠ .opening → x.valve ≠ .openUp)
        ∧ (∀ j, x.interlock = some j → j ≠ i ∨ x.starved ≠ (s.groups.get e.group).starved →
          s.says t 1 (.groupState e.group (some i) j x.cause x.starved x.sent ((x.reply.map (·.actual)).getD 0) none)))

/-- DRIVE_REPLY, good: the reply is recorded and moves the interlock: drive TRIP first, both switches next, then the stroke's
end; in FAULT and LOST it is recorded only (R84, R93, R95, R97, R98, R108). A change of state sends its GROUP_STATE, with the
fault code of a drive TRIP, a change of the channel's validity its VALIDITY, and the site is judged (R88, R144, R155). A LOST
group whose channel turns VALID by it enters CLOSING with the pump stopped, and the reply either is recorded only, or then moves
the CLOSING group, by the order in which the two are taken (R95, R99).
The model's choices it rests on: that order is free, log entry 9; the speed of 0 that the next command starts from is entry 56;
the demand posted at the change is entry 34. -/
def Obligations.GoodReplyMovesTheInterlock : Prop :=
  ∀ (s : State) (p : Poll) (r : ReplyBytes) (us : Nat) (i : Interlock),
    s.dbm.poll = some p → us ≤ 1000 * s.dbm.cycleWindow → judgeReply p r false = .good →
    (s.groupRecord p.due.group).configured = true → (s.groupRecord p.due.group).address = p.due.address →
    (s.groups.get p.due.group).interlock = some i →
    ∃ t, exec (.driveReply r false us) s = .next t
      ∧ (let f := replyFields r
        let ch := s.sup.channels.get (driveChannel p.due.group)
        let ch' := ch.evaluated (s.cfg.counters.get (driveChannel p.due.group)) s.clock .good
        let found := i = .lost ∧ ch.valid = false ∧ ch'.valid = true
        let x : Group := { s.groups.get p.due.group with reply := some f }
        let fault : FaultCause → Group → Group := fun c y =>
          { y with interlock := some .fault, cause := c, stroke := none }
        let moved : Interlock → Group → Group := fun j y =>
          { y with interlock := some j, cause := .none, stroke := none }
        let closing : Group := { x with
          interlock := some .closing, cause := .none, c0 := 0, stroke := some ⟨s.clock, (s.groupRecord p.due.group).stroke⟩ }
        t.sup.channels.get (driveChannel p.due.group) = ch'
        ∧ (¬found → t.groups.get p.due.group =
          (if i = .fault ∨ i = .lost then x
          else if f.drive = .trip then fault .driveTrip x
          else if f.openSw = true ∧ f.closedSw = true then fault .switchConflict x
          else if i = .opening ∧ f.openSw = true then moved .running x
          else if i = .closing ∧ f.closedSw = true then moved .shut x
          else x))
        ∧ (found → Config.replyBeforeScore s.fresh = true → t.groups.get p.due.group = closing
          ∧ t.fda.demand.get p.due.group = x.figs.s)
        ∧ (found → Config.replyBeforeScore s.fresh = false → t.groups.get p.due.group =
            (if f.drive = .trip then fault .driveTrip closing
            else if f.openSw = true ∧ f.closedSw = true then fault .switchConflict closing
            else if f.closedSw = true then moved .shut closing
            else closing)
          ∧ (f.drive ≠ .trip → ¬(f.openSw = true ∧ f.closedSw = true) →
            t.fda.demand.get p.due.group = x.figs.s))
        ∧ (((i ≠ .fault ∧ i ≠ .lost) ∨ (found ∧ Config.replyBeforeScore s.fresh = false)) → f.drive = .trip →
            t.flags.has .driveTrip = true ∧ t.fda.demand.get p.due.group = 0)
        ∧ (((i ≠ .fault ∧ i ≠ .lost) ∨ (found ∧ Config.replyBeforeScore s.fresh = false)) → f.drive ≠ .trip →
            f.openSw = true → f.closedSw = true →
            t.flags.has .switchConflict = true ∧ t.fda.demand.get p.due.group = 0)
        ∧ (¬found → ∀ j, (t.groups.get p.due.group).interlock = some j → j ≠ i →
          s.says t 4 (.groupState p.due.group (some i) j (t.groups.get p.due.group).cause x.starved x.sent f.actual
            (if f.drive = .trip then some f.code else none)))
        ∧ (found → s.says t 4 (.groupState p.due.group (some .lost) .closing .none x.starved x.sent
            (if Config.replyBeforeScore s.fresh = true then f.actual
              else ((s.groups.get p.due.group).reply.map (·.actual)).getD 0) none))
        ∧ (ch'.valid ≠ ch.valid → s.says t 4 (.validity (driveChannel p.due.group) ch'.valid ch'.counter ch'.fatal)))
      ∧ s.judgesSite t 4 ∧ t.dbm.poll = none ∧ t.dbm.accountUs = s.dbm.accountUs + (p.quietUs + 400 + us)
      ∧ t.dbm.last.get (addressIndex p.due.address) = some ⟨.good, s.clock⟩
      ∧ (∀ h : Fin 24, h ≠ p.due.group → t.groups.get h = s.groups.get h)
      ∧ t.cfg = s.cfg ∧ t.clock = s.clock ∧ t.lgt = s.lgt ∧ t.pins = s.pins

/-- The checks of a complete reply, in order (R107, R108). A bad reply or an expired window: the poll ends, nothing of a reply
reaches the group, the drive's channel is scored, an error
or for WRONG_ADDR fatal, and a group whose channel turns INVALID is LOST (R99, R107, R108).
A change of validity sends its VALIDITY and that of the state its GROUP_STATE, and the site is judged (R88, R144, R155).
It scores the group's channel also where the group has another address meanwhile; a good reply of a drive that belongs to its
group no more is discarded with its score, and the channel of an unconfigured group is not evaluated (R109, R142).
The model's choices it rests on: a reply within the window of the cycle, log entry 1, and that the record at the end of the poll
says whether the drive still belongs to its group, entry 53. -/
def Obligations.BadOutcomeScoresTheDrive : Prop :=
  (∀ (p : Poll) (r : ReplyBytes) (framing : Bool),
     let crc := crc8 [r.b0, r.b1, r.b2, r.b3, r.b4] = r.b5
     let addr := r.b0.toNat = p.due.address
     let seq := r.b1.setWidth 4 = p.seq
     (framing = true ∨ ¬crc → judgeReply p r framing = .badCheck)
       ∧ (framing = false → crc → ¬addr → judgeReply p r framing = .wrongAddr)
       ∧ (framing = false → crc → addr → ¬seq → judgeReply p r framing = .badSeq)
       ∧ (framing = false → crc → addr → seq → judgeReply p r framing = .good))
  ∧ (∀ (s : State) (p : Poll) (c : Instr) (o : PollOutcome) (us : Nat) (i : Interlock), s.dbm.poll = some p →
     ((∃ r f, c = .driveReply r f us ∧ us ≤ 1000 * s.dbm.cycleWindow ∧ judgeReply p r f = o ∧ o ≠ .good)
       ∨ (c = .replyWindowExpiry ∧ o = .noReply ∧ us = 1000 * s.dbm.cycleWindow)) →
     (s.groupRecord p.due.group).configured = true → (s.groups.get p.due.group).interlock = some i →
     ∃ t, exec c s = .next t
       ∧ (let ch := (s.sup.channels.get (driveChannel p.due.group)).evaluated
             (s.cfg.counters.get (driveChannel p.due.group)) s.clock (if o = .wrongAddr then .fatal else .error)
         let lost := (s.sup.channels.get (driveChannel p.due.group)).valid = true ∧ ch.valid = false ∧ i ≠ .lost
         t.sup.channels.get (driveChannel p.due.group) = ch
         ∧ (lost → t.groups.get p.due.group =
               { s.groups.get p.due.group with interlock := some .lost, cause := .none, stroke := none }
             ∧ t.flags.has .groupLost = true ∧ (i ≠ .fault → t.fda.demand.get p.due.group = 0)
             ∧ s.says t 3 (.groupState p.due.group (some i) .lost .none (s.groups.get p.due.group).starved
               (s.groups.get p.due.group).sent (((s.groups.get p.due.group).reply.map (·.actual)).getD 0) none))
         ∧ (ch.valid ≠ (s.sup.channels.get (driveChannel p.due.group)).valid →
           s.says t 3 (.validity (driveChannel p.due.group) ch.valid ch.counter ch.fatal))
         ∧ (ch.valid = (s.sup.channels.get (driveChannel p.due.group)).valid → t.groups = s.groups ∧ t.fda = s.fda))
       ∧ s.judgesSite t 3 ∧ t.dbm.poll = none ∧ t.dbm.accountUs = s.dbm.accountUs + (p.quietUs + 400 + us)
       ∧ t.dbm.last.get (addressIndex p.due.address) = some ⟨o, s.clock⟩
       ∧ (∀ h : Fin 24, h ≠ p.due.group → t.groups.get h = s.groups.get h)
       ∧ t.cfg = s.cfg ∧ t.clock = s.clock ∧ t.lgt = s.lgt ∧ t.pins = s.pins)
  ∧ ∀ (s : State) (p : Poll) (c : Instr) (o : PollOutcome) (us : Nat), s.dbm.poll = some p →
     ((∃ r f, c = .driveReply r f us ∧ us ≤ 1000 * s.dbm.cycleWindow ∧ judgeReply p r f = o)
       ∨ (c = .replyWindowExpiry ∧ o = .noReply ∧ us = 1000 * s.dbm.cycleWindow)) →
     (s.groupRecord p.due.group).configured = false
       ∨ (o = .good ∧ (s.groupRecord p.due.group).address ≠ p.due.address) →
     ∃ t, exec c s = .next t ∧ t.groups = s.groups ∧ t.sup.channels = s.sup.channels
       ∧ t.fda = s.fda ∧ t.dbm.poll = none ∧ t.dbm.accountUs = s.dbm.accountUs + (p.quietUs + 400 + us)
       ∧ t.dbm.last.get (addressIndex p.due.address) = some ⟨o, s.clock⟩

/-- DRIVE_CYCLE: the account starts at 0 and the schedule is the configured groups' drives, by ascending address from the
rotation start on and from 31 round to 1; when a poll has ended, by a reply or by the end of its window, and the next one's
worst case does not fit 45 ms, the rest are skipped and the rotation moves to the first of them (R103, R104, R110). LINE_JAMMED:
the cycle is abandoned, "bus fault" set, the rotation moves to the drive that was about to be polled, each drive still due
scores an error, and a group whose channel turns INVALID by it is LOST, and the site is judged (R99, R105, R155).
The model's choices it rests on: a cycle that begins over a poll is log entry 32, and the demand posted at the entry into LOST
entry 34. -/
def Obligations.CycleKeepsItsBudgetAndAbandonsJams : Prop :=
  ((∀ s : State, s.cfg.window ≤ 10 → exec .driveCycle s = .next { s with dbm := { s.dbm with
       schedule := scheduleFrom s.cfg.groups s.dbm.rotation, poll := none, accountUs := 0, cycleWindow := s.cfg.window } })
   ∧ (∀ (groups : Table 24 GroupRecord) (start : Nat) (e : Due), e ∈ scheduleFrom groups start →
       (groups.get e.group).configured = true ∧ (groups.get e.group).address = e.address ∧ 1 ≤ e.address
         ∧ e.address ≤ 31)
   ∧ (∀ (groups : Table 24 GroupRecord) (start : Nat), 1 ≤ start → start ≤ 31 →
       (scheduleFrom groups start).Pairwise fun a b =>
         (a.address + 31 - start) % 31 < (b.address + 31 - start) % 31)
   ∧ (∀ (groups : Table 24 GroupRecord) (start : Nat) (g : Fin 24), 1 ≤ start → start ≤ 31 →
       (groups.get g).configured = true → 1 ≤ (groups.get g).address → (groups.get g).address ≤ 31 →
       addressTaken groups g (groups.get g).address = false → ⟨(groups.get g).address, g⟩ ∈ scheduleFrom groups start)
   ∧ ∀ (s : State) (p : Poll) (e : Due) (rest : List Due) (c : Instr) (us : Nat), s.dbm.poll = some p →
       s.dbm.schedule = e :: rest → (∃ r f, c = .driveReply r f us ∧ us ≤ 1000 * s.dbm.cycleWindow)
         ∨ (c = .replyWindowExpiry ∧ us = 1000 * s.dbm.cycleWindow) →
       ∃ t, exec c s = .next t
         ∧ (if 45000 < s.dbm.accountUs + (p.quietUs + 400 + us) + 400 + 1000 * s.dbm.cycleWindow
           then t.dbm.schedule = [] ∧ t.dbm.rotation = e.address ∧ t.flags.has .budgetLimited = true
           else t.dbm.schedule = e :: rest ∧ t.dbm.rotation = s.dbm.rotation))
  ∧ (∀ (s : State) (e : Due) (rest : List Due), s.dbm.poll = none → s.dbm.schedule = e :: rest →
     ((e :: rest).map (·.group)).Nodup →
     ∃ t, exec .lineJammed s = .next t
       ∧ t.dbm = { s.dbm with schedule := [], rotation := e.address } ∧ t.flags.has .busFault = true
       ∧ s.judgesSite t (2 * (rest.length + 1) + 1)
       ∧ (∀ g : Fin 24, t.sup.channels.get (driveChannel g) =
           if g ∈ (e :: rest).map (·.group) then
             (s.sup.channels.get (driveChannel g)).evaluated (s.cfg.counters.get (driveChannel g)) s.clock .error
           else s.sup.channels.get (driveChannel g))
       ∧ (∀ g : Fin 24,
           let lost := g ∈ (e :: rest).map (·.group) ∧ (s.sup.channels.get (driveChannel g)).valid = true
             ∧ (t.sup.channels.get (driveChannel g)).valid = false
           (∀ i, lost → (s.groups.get g).interlock = some i → i ≠ .lost →
             t.groups.get g = { s.groups.get g with interlock := some .lost, cause := .none, stroke := none }
               ∧ t.flags.has .groupLost = true ∧ (i ≠ .fault → t.fda.demand.get g = 0))
           ∧ (¬lost ∨ (s.groups.get g).interlock = none ∨ (s.groups.get g).interlock = some .lost →
             t.groups.get g = s.groups.get g ∧ t.fda.demand.get g = s.fda.demand.get g))
       ∧ t.cfg = s.cfg ∧ t.clock = s.clock ∧ t.lgt = s.lgt ∧ t.pins = s.pins)

/-- STROKE_TIMEOUT: a group whose stroke timer has run out enters FAULT with cause STROKE_TIMEOUT; while the timer has not run
out nothing happens (R96, R97). CLEAR_GROUP_FAULT takes a group from FAULT to CLOSING with the pump stopped (R95), and is
refused in R98's order. Both send the GROUP_STATE of the change, and the site is judged (R88, R155).
The model's choices it rests on: an expiry that is not due is log entry 1, the demand posted at the change entry 34, and the
speed of 0 that the next command starts from at the entry into CLOSING, the last figures standing, entry 56. -/
def Obligations.FaultsAreEnteredAndCleared : Prop :=
  (∀ (s : State) (g : Fin 24) (i : Interlock) (timer : StrokeTimer), (s.groups.get g).interlock = some i →
    (s.groups.get g).stroke = some timer →
    ((s.clock - timer.began).toNat < timer.len → exec (.strokeTimeout g) s = .next s)
    ∧ (timer.len ≤ (s.clock - timer.began).toNat → ∃ t, exec (.strokeTimeout g) s = .next t
      ∧ t.groups = s.groups.set g
        { s.groups.get g with interlock := some .fault, cause := .strokeTimeout, stroke := none }
      ∧ s.says t 2 (.groupState g (some i) .fault .strokeTimeout (s.groups.get g).starved (s.groups.get g).sent
          (((s.groups.get g).reply.map (·.actual)).getD 0) none)
      ∧ s.judgesSite t 2 ∧ t.flags.has .strokeTimeout = true ∧ (i ≠ .lost → i ≠ .fault → t.fda.demand.get g = 0)
      ∧ t.cfg = s.cfg ∧ t.clock = s.clock ∧ t.dbm = s.dbm ∧ t.lgt = s.lgt ∧ t.sup.channels = s.sup.channels))
  ∧ ∀ (s : State) (q : Request), s.takes .clearGroupFault q = true →
    (∀ st, (if h : u8 q.payload 0 < 24 then
          if (s.groupRecord ⟨u8 q.payload 0, h⟩).configured = false then some Status.outOfRange
          else if (s.groups.get ⟨u8 q.payload 0, h⟩).interlock ≠ some .fault then some .wrongState else none
        else some .outOfRange) = some st → exec .clearGroupFault s = .next (s.answered q st []))
    ∧ ∀ g : Fin 24, u8 q.payload 0 = g.val → (s.groupRecord g).configured = true →
      (s.groups.get g).interlock = some .fault → ∃ t, exec .clearGroupFault s = .next t
        ∧ t.groups = s.groups.set g { s.groups.get g with
            interlock := some .closing, cause := .none, c0 := 0
            stroke := some ⟨s.clock, (s.groupRecord g).stroke⟩ }
        ∧ s.says t 1 (.groupState g (some .fault) .closing .none (s.groups.get g).starved (s.groups.get g).sent
            (((s.groups.get g).reply.map (·.actual)).getD 0) none)
        ∧ s.judgesSite t 1 ∧ t.cfg = s.cfg ∧ t.clock = s.clock ∧ t.dbm = s.dbm ∧ t.lgt = s.lgt
        ∧ t.sup.channels = s.sup.channels

/-- SET_GROUP: refused at the first condition of R72's table; accepted, the record is replaced and the image MODIFIED, and the
group enters the interlock afresh, with a GROUP_STATE that has no state left, keeps its place in it, or leaves it, by its
configuration before and after, and the site is judged (R72, R88, R155); the drives
of the cycle in progress that no longer stand at their group's address are taken from its schedule (R109), and the water scale
is recomputed (R120). A payload gives a record exactly where every field is in its range and both tables of points are accepted
(R70, R71), and an address is taken by another configured group alone.
The model's choices it rests on: what of the group's last reply and figures goes with it, and its demand of 0, is log entry 51,
the start time of the fade record of a group that is unconfigured entry 69. -/
def Obligations.SetGroupReplacesTheRecord : Prop :=
  (∀ (p : List Byte) (r : GroupRecord), groupOf p = some r ↔
    (u8 p 1 ≤ 1 ∧ r.configured = decide (u8 p 1 = 1) ∧ r.address = u8 p 2 ∧ 1 ≤ r.address ∧ r.address ≤ 31)
    ∧ (2 ≤ u8 p 3 ∧ u8 p 3 ≤ 6 ∧ r.curve.length = u8 p 3
      ∧ (∀ (i : Nat) (x : Point), r.curve[i]? = some x → x = ⟨u16 p (4 + 4 * i), u16 p (6 + 4 * i)⟩ ∧ 1 ≤ x.h ∧ x.h ≤ 800 ∧ 1 ≤ x.v
        ∧ x.v ≤ 1000)
      ∧ ∀ (i : Nat) (x y : Point), r.curve[i]? = some x → r.curve[i + 1]? = some y → x.h < y.h ∧ x.v ≤ y.v)
    ∧ (2 ≤ u8 p 28 ∧ u8 p 28 ≤ 4 ∧ r.leads.length = u8 p 28
      ∧ (∀ (i : Nat) (x : Point), r.leads[i]? = some x → x = ⟨u16 p (29 + 4 * i), u16 p (31 + 4 * i)⟩ ∧ 1 ≤ x.h ∧ x.h ≤ 800
        ∧ x.v ≤ 8000)
      ∧ ∀ (i : Nat) (x y : Point), r.leads[i]? = some x → r.leads[i + 1]? = some y → x.h < y.h)
    ∧ (r.offLead = u16 p 45 ∧ r.offLead ≤ 5000 ∧ r.maxHeight = u16 p 47 ∧ 1 ≤ r.maxHeight ∧ r.maxHeight ≤ 800
      ∧ r.rated = u32 p 49 ∧ 1 ≤ r.rated ∧ r.rated ≤ 300000 ∧ r.exposure = u8 p 53 ∧ r.exposure ≤ 3)
    ∧ (r.rampUp = u16 p 54 ∧ 20 ≤ r.rampUp ∧ r.rampUp ≤ 2000 ∧ r.rampDown = u16 p 56 ∧ 20 ≤ r.rampDown
      ∧ r.rampDown ≤ 2000 ∧ r.closeSpeed = u16 p 58 ∧ 1 ≤ r.closeSpeed ∧ r.closeSpeed ≤ 1000
      ∧ r.wetSpeed = u16 p 60 ∧ r.wetSpeed ≤ 1000 ∧ r.stroke = u16 p 62 ∧ 500 ≤ r.stroke ∧ r.stroke ≤ 10000))
  ∧ (∀ (groups : Table 24 GroupRecord) (g : Fin 24) (a : Nat), addressTaken groups g a = true ↔
    ∃ h : Fin 24, h ≠ g ∧ (groups.get h).configured = true ∧ (groups.get h).address = a)
  ∧ ∀ (s : State) (q : Request), s.takes .setGroup q = true →
    (24 ≤ u8 q.payload 0 → exec .setGroup s = .next (s.answered q .outOfRange []))
    ∧ ∀ g : Fin 24, u8 q.payload 0 = g.val →
      (s.seq.st ≠ .idle → exec .setGroup s = .next (s.answered q .showActive []))
      ∧ (s.seq.st = .idle → groupOf q.payload = none → exec .setGroup s = .next (s.answered q .outOfRange []))
      ∧ ∀ r, s.seq.st = .idle → groupOf q.payload = some r →
        let moves := (s.groupRecord g).configured = true ∧ ((s.groups.get g).interlock = some .opening
          ∨ (s.groups.get g).interlock = some .running ∨ (s.groups.get g).interlock = some .closing)
        let twice := r.configured = true ∧ addressTaken s.cfg.groups g r.address = true
        (moves → exec .setGroup s = .next (s.answered q .wrongState []))
        ∧ (¬moves → twice → exec .setGroup s = .next (s.answered q .duplicate []))
        ∧ (¬moves → ¬twice → ∃ t, exec .setGroup s = .next t
          ∧ t.cfg = { s.cfg with groups := s.cfg.groups.set g r } ∧ t.flp.image = .modified
          ∧ (let old := s.groupRecord g
            let fresh : Group :=
              if (s.sup.channels.get (driveChannel g)).valid then
                { Group.reset with interlock := some .closing, stroke := some ⟨s.clock, r.stroke⟩ }
              else { Group.reset with interlock := some .lost }
            t.groups =
              (if r.configured = true then
                (if old.configured = true ∧ old.address = r.address then s.groups else s.groups.set g fresh)
              else if old.configured = true then s.groups.set g Group.reset else s.groups)
            ∧ (r.configured = true → ¬(old.configured = true ∧ old.address = r.address) →
              ∀ i, fresh.interlock = some i → s.says t 1 (.groupState g none i .none false 0 0 none))
            ∧ (r.configured = false → old.configured = true → t.fda.demand.get g = 0)
            ∧ (r.configured = true → ¬(old.configured = true ∧ old.address = r.address) → t.fda.demand.get g = 0))
          ∧ (∀ h : Fin 24, h ≠ g → t.fda.demand.get h = s.fda.demand.get h)
          ∧ t.fda = { s.fda with demand := t.fda.demand, k := waterScale t.loads t.fda.allowance }
          ∧ t.dbm = { s.dbm with schedule := s.dbm.schedule.filter fun e =>
              (t.cfg.groups.get e.group).configured && decide ((t.cfg.groups.get e.group).address = e.address) }
          ∧ t.siteJudged
          ∧ t.clock = s.clock ∧ t.seq = s.seq ∧ t.lgt = s.lgt ∧ t.flash = s.flash ∧ t.sup.channels = s.sup.channels)

/-- DIRECT_JET: refused at the first condition of R85's table; accepted, each named group's fade record goes from its present
height to the clamped height on the site clock, and the reply names the clamped groups (R85, R86). -/
def Obligations.DirectJetWritesFades : Prop :=
  ∀ (s : State) (q : Request), s.takes .directJet q = true →
    let set := jetSet q.payload
    let refused : Option Status :=
      if s.seq.st ≠ .idle then some .showActive else if s.sup.mode = .tripped then some .tripped
      else if s.sup.effective = .dry then some .levelDry
      else if set = 0 ∨ ∃ g : Fin 24, set.getLsbD g.val = true ∧ (s.groupRecord g).configured = false then
        some .outOfRange
      else none
    (∀ st, refused = some st → exec .directJet s = .next (s.answered q st []))
    ∧ (refused = none → ∃ t, exec .directJet s = .next t
      ∧ (∀ g : Fin 24, t.groups.get g =
          if set.getLsbD g.val = true then
            { s.groups.get g with fade := ⟨(s.groups.get g).fade.height s.showTime s.clock,
                min (u16 q.payload 3) (s.groupRecord g).maxHeight, .onSite s.clock, min 30000 (u16 q.payload 5)⟩ }
          else s.groups.get g)
      ∧ t.lif = (s.lif.answering q .ok (groupSetBytes (s.clampedGroups set (u16 q.payload 3))
          ++ byteYes (decide (30000 < u16 q.payload 5)))).kick
      ∧ (∀ g : Fin 24, (s.clampedGroups set (u16 q.payload 3)).getLsbD g.val =
          (set.getLsbD g.val && decide ((s.groupRecord g).maxHeight < u16 q.payload 3)))
      ∧ t = { s with groups := t.groups, lif := t.lif, flags := t.flags })

/-! ## Feeder allocation (06) -/

/-- The power estimate of a group: the cube law with its floor, its ends, its order, R117's figures, and that FDA takes the
rated power from the group table as it stands (R117). -/
def Obligations.PowerFollowsTheCube : Prop :=
  (∀ rated speed, power rated speed = rated * speed ^ 3 / 1000000000)
    ∧ (∀ rated, power rated 0 = 0 ∧ power rated 1000 = rated)
    ∧ (∀ rated a b, a ≤ b → power rated a ≤ power rated b)
    ∧ power 10000 10 = 0 ∧ power 10000 300 = 270
    ∧ ∀ (s : State) (rated speed : Nat), (rated, speed) ∈ s.loads ↔
        ∃ g : Fin 24, (s.cfg.groups.get g).configured = true ∧ (s.cfg.groups.get g).rated = rated
          ∧ s.fda.demand.get g = speed

/-- The scaled demand at a scale is the sum of the power estimates of the groups at their demand speeds, each speed scaled and
cut to whole permille first (R118). The water scale: 1000 where the demand fits the allowance, else the greatest multiple of 5
that fits; the scaled demand does not fall as the scale rises, and at the scale found it fits (R119). -/
def Obligations.WaterScaleIsTheGreatestThatFits : Prop :=
  ∀ (loads : List (Nat × Nat)) (allowance : Nat),
    let k := waterScale loads allowance
    (∀ j, scaledDemand loads j = (loads.map fun p => p.1 * (p.2 * j / 1000) ^ 3 / 1000000000).sum)
      ∧ (scaledDemand loads 1000 ≤ allowance → k = 1000) ∧ scaledDemand loads k ≤ allowance ∧ k % 5 = 0 ∧ k ≤ 1000
      ∧ (∀ j, j % 5 = 0 → j ≤ 1000 → k < j → allowance < scaledDemand loads j)
      ∧ (∀ a b, a ≤ b → scaledDemand loads a ≤ scaledDemand loads b) ∧ scaledDemand loads 0 = 0

/-- SET_FEEDER: refused out of range; accepted in every show state and site mode, it replaces the budget and the share and
recomputes the light cap, the water allowance and the water scale, leaving the light load and its scale (R113). -/
def Obligations.SetFeederRecomputes : Prop :=
  ∀ (s : State) (q : Request), s.takes .setFeeder q = true →
    let b := u32 q.payload 0
    let share := u16 q.payload 4
    ((4000000 < b ∨ 1000 < share) → exec .setFeeder s = .next (s.answered q .outOfRange []))
    ∧ (b ≤ 4000000 → share ≤ 1000 →
      let cap := b * share / 1000
      let allowance := b - min s.fda.load cap
      exec .setFeeder s = .next { s with
        cfg := { s.cfg with feeder := ⟨b, share⟩ }
        fda := { s.fda with cap := cap, allowance := allowance, k := waterScale s.loads allowance }
        flp := s.markModified.flp
        flags := if waterScale s.loads allowance < 1000 then s.flags.raise .budgetLimited else s.flags
        lif := (s.lif.answering q .ok []).kick })

/-! ## Lighting (07) -/

/-- A fixture's present levels go from the start levels to the targets in proportion to the time elapsed, truncating toward
zero, and are the targets at the end of the duration, for a duration of 0 at once, and on the show clock with no show time
(R127). Steps 1 to 3 of a lamp frame for an assigned fixture: the latch begins a fade from the present levels; the levels are 0
while halted, the rescue colour while TRIPPED, the fade's otherwise; the dry timer is judged and the dry cap applied (R127, R129
to R132).
The model's choices it rests on: what a show-clock fade with no show time does is log entry 13, and the capped mark while halted
entry 29. -/
def Obligations.LampFixtureFollowsItsSteps : Prop :=
  (∀ (x : FixtureFade) (showNow : Option Int) (now : Tick),
    let elapsed : Option Int := match x.began with
      | .onShow began => showNow.map fun n => n - began
      | .onSite began => some (((now.toNat + 4294967296 - began.toNat) % 4294967296 : Nat) : Int)
    let level (start target : Nat) : Nat := match elapsed with
      | none => target
      | some e => if e < x.dur then (start + ((target - start : Int) * e).tdiv x.dur).toNat else target
    x.levels showNow now = ⟨level x.starts.r x.targets.r, level x.starts.g x.targets.g, level x.starts.b x.targets.b,
      level x.starts.w x.targets.w⟩)
  ∧ ∀ (s : State) (f : Fin 96), (s.cfg.fixtures.get f).assigned = true →
    let x := s.lgt.fixtures.get f
    let r := s.cfg.fixtures.get f
    let y := s.lampFixture f
    let levels := if s.lif.halted = true then Quad.fill 0
      else if s.sup.mode = .tripped then Quad.map (fun v : Byte => 257 * v.toNat) r.rescue
      else y.fade.levels s.showTime s.clock
    let bus : Colour := Quad.map (fun n : Nat => BitVec.ofNat 8 (n / 256)) levels
    let dry := ∃ g, r.bound = some g ∧ ((s.groups.get g).interlock ≠ some .running
      ∨ ((s.groups.get g).reply.map (·.actual)).getD 0 < (s.cfg.groups.get g).wetSpeed)
    (x.latch = none → y.fade = x.fade) ∧ y.latch = none
      ∧ (∀ l, x.latch = some l → y.fade.starts = x.fade.levels s.showTime s.clock
        ∧ y.fade.targets = Quad.map (fun v : Byte => 257 * v.toNat) l.colour ∧ y.fade.dur = l.fade
        ∧ (l.clock = .siteClock → y.fade.began = .onSite s.clock)
        ∧ ∀ now, l.clock = .showClock → s.showTime = some now → y.fade.began = .onShow now)
      ∧ (s.lif.halted = true → y.dryStart = x.dryStart)
      ∧ (s.lif.halted = false → dry → y.dryStart = some (x.dryStart.getD s.clock))
      ∧ (s.lif.halted = false → ¬dry → y.dryStart = none)
      ∧ (y.capped = true ↔ s.sup.mode ≠ .tripped ∧ ∃ d, y.dryStart = some d ∧ r.dryGrace ≤ (s.clock - d).toNat)
      ∧ (y.capped = false → y.out = bus)
      ∧ (y.capped = true → y.out = Quad.map (fun v : Byte => if r.dryCap < v then r.dryCap else v) bus)

/-- Step 5, and its law: each slot of an assigned fixture is floor(v x kL / 1000), and the light load of the frame sent, on its
output slots, does not exceed the light cap plus 4 x 96 W (R134). -/
def Obligations.LightScaleKeepsTheCap : Prop :=
  ∀ s : State, ∃ t, exec .lampFrame s = .next t
    ∧ (∀ f : Fin 96, (s.cfg.fixtures.get f).assigned = true → (t.lgt.fixtures.get f).out =
        Quad.map (fun v : Byte => BitVec.ofNat 8 (v.toNat * t.fda.kL / 1000)) (s.lampFixture f).out)
    ∧ (t.fda.kL = 1000 → ∀ f : Fin 96, (s.cfg.fixtures.get f).assigned = true →
        (t.lgt.fixtures.get f).out = (s.lampFixture f).out)
    ∧ (t.fda.kL = 0 → ∀ f : Fin 96, (s.cfg.fixtures.get f).assigned = true →
        (t.lgt.fixtures.get f).out = Quad.fill 0)
    ∧ 200 * 833 / 1000 = 166 ∧ t.fda.cap = s.fda.cap
    ∧ lightLoad s.cfg.fixtures t.lgt.fixtures ≤ s.fda.cap + 4 * 96

/-- LAMP_FRAME: the light load of the capped levels is posted, the light scale, the water allowance and the water scale follow,
and the frame carries its start code 0 and the slots up to the highest in use and no further, every assigned fixture's output
values in its four, and 0 in every slot of no fixture; with no fixture assigned, the start code alone (R114, R116, R133, R135).
-/
def Obligations.LampFramePostsAndSends : Prop :=
  ∀ s : State, ∃ t, exec .lampFrame s = .next t
    ∧ (let load := ((List.finRange 96).map fun f =>
          let c := (s.lampFixture f).out
          if (s.cfg.fixtures.get f).assigned then
            (s.cfg.fixtures.get f).rated * (c.r.toNat + c.g.toNat + c.b.toNat + c.w.toNat) / 1020
          else 0).sum
      t.fda.load = load
        ∧ t.fda.kL = (if s.fda.cap < load then s.fda.cap * 1000 / load else 1000)
        ∧ t.fda.allowance = s.cfg.feeder.budget - min load s.fda.cap
        ∧ t.fda.k = waterScale s.loads t.fda.allowance
        ∧ t.fda.demand = s.fda.demand ∧ t.fda.cap = s.fda.cap
        ∧ (t.fda.kL < 1000 → t.flags.has .lightScaled = true)
        ∧ (t.fda.k < 1000 → t.flags.has .budgetLimited = true)
        ∧ ((∃ f : Fin 96, (s.lampFixture f).capped = true) → t.flags.has .dryCapActive = true))
    ∧ (∀ f : Fin 96, (s.cfg.fixtures.get f).assigned = true →
        t.lgt.fixtures.get f = { s.lampFixture f with out := (t.lgt.fixtures.get f).out }
        ∧ (s.cfg.fixtures.get f).base + 3 < t.lgt.lampOut.length
        ∧ (slotTaken s.cfg.fixtures f (s.cfg.fixtures.get f) = false →
            ((t.lgt.lampOut.drop (s.cfg.fixtures.get f).base).take 4) = (t.lgt.fixtures.get f).out.toList))
    ∧ t.lgt.lampOut.head? = some 0
    ∧ (1 < t.lgt.lampOut.length → ∃ f : Fin 96, (s.cfg.fixtures.get f).assigned = true
        ∧ t.lgt.lampOut.length = (s.cfg.fixtures.get f).base + 3 + 1)
    ∧ (∀ n : Nat, 1 ≤ n → n < t.lgt.lampOut.length →
        (∀ f : Fin 96, (s.cfg.fixtures.get f).assigned = true →
          n < (s.cfg.fixtures.get f).base ∨ (s.cfg.fixtures.get f).base + 3 < n) → t.lgt.lampOut[n]? = some 0)
    ∧ ((∀ f : Fin 96, (s.cfg.fixtures.get f).assigned = false) → t.lgt.lampOut = [0])
    ∧ t.lgt.overtakes = s.lgt.overtakes ∧ t.cfg = s.cfg ∧ t.clock = s.clock ∧ t.lif = s.lif ∧ t.seq = s.seq
    ∧ t.aud = s.aud ∧ t.groups = s.groups ∧ t.dbm = s.dbm ∧ t.sup = s.sup ∧ t.flp = s.flp ∧ t.flash = s.flash
    ∧ t.pins = s.pins

/-- SET_FIXTURE: refused at the first condition of R124's table; accepted, the record is replaced, and the fixture starts dark,
keeps its levels, or has its dry timer stopped, by its base slot and bound group before and after (R124, R125). A payload gives
a record exactly where every field is in its range (R123, R124); slots are taken where the four of an assigned fixture meet
those of another assigned one.
The model's choices it rests on: the start time of a fade record that starts dark is a free value, log entry 12. -/
def Obligations.SetFixtureReplacesTheRecord : Prop :=
  (∀ (p : List Byte) (r : FixtureRecord), fixtureOf p = some r ↔
    r.base = u16 p 1 ∧ r.base ≤ 509 ∧ (∀ g, r.bound = some g → u8 p 3 = g.val) ∧ (r.bound = none → u8 p 3 = 255)
      ∧ r.rated = u16 p 4 ∧ r.rated ≤ 2000 ∧ r.dryCap = p.getD 6 0 ∧ r.dryGrace = u16 p 7 ∧ r.dryGrace ≤ 10000
      ∧ r.house = ⟨p.getD 9 0, p.getD 10 0, p.getD 11 0, p.getD 12 0⟩
      ∧ r.rescue = ⟨p.getD 13 0, p.getD 14 0, p.getD 15 0, p.getD 16 0⟩)
  ∧ (∀ (fixtures : Table 96 FixtureRecord) (f : Fin 96) (r : FixtureRecord), slotTaken fixtures f r = true ↔
    r.base ≠ 0 ∧ ∃ h : Fin 96, h ≠ f ∧ (fixtures.get h).base ≠ 0 ∧ r.base < (fixtures.get h).base + 4
      ∧ (fixtures.get h).base < r.base + 4)
  ∧ ∀ (s : State) (q : Request), s.takes .setFixture q = true →
    (96 ≤ u8 q.payload 0 → exec .setFixture s = .next (s.answered q .outOfRange []))
    ∧ ∀ f : Fin 96, u8 q.payload 0 = f.val →
      (s.seq.st ≠ .idle → exec .setFixture s = .next (s.answered q .showActive []))
      ∧ (s.seq.st = .idle → fixtureOf q.payload = none → exec .setFixture s = .next (s.answered q .outOfRange []))
      ∧ ∀ r, s.seq.st = .idle → fixtureOf q.payload = some r →
        (slotTaken s.cfg.fixtures f r = true → exec .setFixture s = .next (s.answered q .slotOverlap []))
        ∧ (slotTaken s.cfg.fixtures f r = false → ∃ t, exec .setFixture s = .next t
          ∧ t.cfg = { s.cfg with fixtures := s.cfg.fixtures.set f r } ∧ t.flp.image = .modified
          ∧ t.lif = (s.lif.answering q .ok []).kick
          ∧ (let old := s.cfg.fixtures.get f
            let x := s.lgt.fixtures.get f
            let y := t.lgt.fixtures.get f
            (old.base ≠ r.base → y.latch = none ∧ y.dryStart = none ∧ y.fade.starts = Quad.fill 0
              ∧ y.fade.targets = Quad.fill 0 ∧ y.fade.dur = 0 ∧ y.fade.began.clock = .siteClock)
            ∧ (old.base = r.base → y.fade = x.fade ∧ y.latch = x.latch)
            ∧ (old.base = r.base → old.base ≠ 0 → old.bound ≠ r.bound → y.dryStart = none)
            ∧ (old.base = r.base → old.bound = r.bound → y.dryStart = x.dryStart))
          ∧ (∀ h : Fin 96, h ≠ f → t.lgt.fixtures.get h = s.lgt.fixtures.get h)
          ∧ t = { s with cfg := t.cfg, flp := t.flp, lif := t.lif, lgt := t.lgt, fresh := t.fresh })

/-- DIRECT_LIGHT: refused at the first condition of R138's table; accepted, the latch of every fixture of the range takes the
colour on the site clock, a waiting SHOW colour being counted as overtaken (R128, R138, R139). -/
def Obligations.DirectLightWritesLatches : Prop :=
  ∀ (s : State) (q : Request), s.takes .directLight q = true →
    let first := u8 q.payload 0
    let last := u8 q.payload 1
    let refused : Option Status :=
      if s.seq.st ≠ .idle then some .showActive else if s.sup.mode = .tripped then some .tripped
      else if last < first ∨ 95 < last
          ∨ ∃ f : Fin 96, first ≤ f.val ∧ f.val ≤ last ∧ (s.cfg.fixtures.get f).base = 0 then some .outOfRange
      else none
    let lost := (List.finRange 96).countP fun f => decide (first ≤ f.val) && decide (f.val ≤ last)
      && (s.lgt.fixtures.get f).latch.any fun l => decide (l.origin = .fromShow)
    (∀ st, refused = some st → exec .directLight s = .next (s.answered q st []))
    ∧ (refused = none → ∃ t, exec .directLight s = .next t
      ∧ (∀ f : Fin 96, t.lgt.fixtures.get f =
          if first ≤ f.val ∧ f.val ≤ last then
            { s.lgt.fixtures.get f with
              latch := some ⟨colourAt q.payload 2, min 30000 (u16 q.payload 6), .siteClock, .direct⟩ }
          else s.lgt.fixtures.get f)
      ∧ t.lgt.overtakes = min 65535 (s.lgt.overtakes + lost)
      ∧ (0 < lost → t.flags.has .lightOvertaken = true)
      ∧ t.lif = (s.lif.answering q .ok (byteYes (decide (30000 < u16 q.payload 6)))).kick
      ∧ t = { s with lgt := t.lgt, lif := t.lif, flags := t.flags })

/-! ## Site supervision (08) -/

/-- An evaluation: with error, without error, and fatal; the law that INVALID is at or above the limit, and that the counter
stays within limit + hold but for a fatal channel's 255; and that power-on and pin reset clear the fatal mark (R143). -/
def Obligations.EvaluationMovesTheCounter : Prop :=
  (∀ (c : Channel) (k : CounterSettings) (now : Tick),
    (c.fatal = false →
      (k.limit ≤ c.counter + 2 → c.evaluated k now .error = ⟨k.limit + k.hold, false, false, some now⟩)
      ∧ (c.counter + 2 < k.limit → c.evaluated k now .error = ⟨c.counter + 2, c.valid, false, some now⟩)
      ∧ (c.evaluated k now .good).counter = c.counter - 1 ∧ (c.evaluated k now .good).fatal = false
      ∧ (c.counter - 1 < k.limit → (c.evaluated k now .good).valid = true)
      ∧ (k.limit ≤ c.counter - 1 → (c.evaluated k now .good).valid = c.valid)
      ∧ c.evaluated k now .fatal = ⟨255, false, true, some now⟩)
    ∧ (c.fatal = true → ∀ e, c.evaluated k now e = { c with last := some now })
    ∧ (c.lawful k = true → ∀ e, (c.evaluated k now e).lawful k = true)
    ∧ (c.lawful k = true → c.fatal = false → (c.valid = false ↔ k.limit ≤ c.counter) ∧ c.counter ≤ k.limit + k.hold)
    ∧ (c.lawful k = true → c.fatal = true → c.valid = false ∧ c.counter = 255))
  ∧ (Channel.lawful ⟨255, false, false, none⟩ ⟨200, 55⟩ = true)
  ∧ ∀ (s : State) (inputs : Inputs) (straps : BitVec 2),
      (∃ t, exec (.powerOn inputs straps) s = .next t ∧ ∀ i : Fin 27, (t.sup.channels.get i).fatal = false)
      ∧ ∃ t, exec (.pinReset inputs straps) s = .next t ∧ ∀ i : Fin 27, (t.sup.channels.get i).fatal = false

/-- ANEMO_PULSE and SITE_CLOCK_TICK: the counter and the clock advance by 1 and wrap, and nothing else changes (R18, R146); on
an empty queue nothing changes (the model's choice, log entry 2). -/
def Obligations.PulseAndTickCount : Prop :=
  (∀ s : State, exec .anemoPulse s = .next { s with sup := { s.sup with anemo := s.sup.anemo + 1 } }
     ∧ exec .siteClockTick s = .next { s with clock := s.clock + 1 }
     ∧ ((s.sup.anemo + 1).toNat = (s.sup.anemo.toNat + 1) % 65536)
     ∧ ((s.clock + 1).toNat = (s.clock.toNat + 1) % 4294967296))
  ∧ (∀ s : State, s.pending = [] → step s = .next s)

/-- WIND_GATE: the pulses are counted, the WIND channel evaluated, the gate wind held, and the band judged: risen at once,
fallen through the calm hold, taken at the third gate, or forced to 7 with the channel INVALID; at a gate at which the channel
turns VALID again, past the third, it stands with a calm count of 0 (R142, R144, R146 to R148). A change of the channel's
validity sends its VALIDITY; the site mode and the condition flags are judged, and one SITE report carries what has changed
(R144, R148, R155, R159).
The model's choices it rests on: that the band is not judged at the third gate nor at one at which the channel turns VALID is
log entry 28, the calm count entry 45, and the third gate after an INVALID channel entry 67. -/
def Obligations.WindGateJudgesTheBand : Prop :=
  ∀ s : State, ∃ t, exec .windGate s = .next t
    ∧ (let pulses := (s.sup.anemo.toNat + 65536 - s.sup.prevAnemo.toNat) % 65536
      let still := if pulses = 0 then s.sup.stillRun + 1 else 0
      let w := s.cfg.wind
      let bad := w.plausible < pulses ∨ (0 < w.still ∧ pulses = 0 ∧ w.still < still)
      let ch := (s.sup.channels.get 0).evaluated (s.cfg.counters.get 0) s.clock (if bad then .error else .good)
      let winds := lastOf 3 (s.sup.winds ++ [pulses * w.factor / 100])
      let gust := winds.foldl max 0
      let target := w.thresholds.countP fun x => decide (x ≤ gust)
      let b := s.sup.band
      let lull := 0 < b ∧ gust + w.hysteresis < w.thresholds.getD (b - 1) 0
      t.sup.prevAnemo = s.sup.anemo ∧ t.sup.stillRun = still ∧ t.sup.winds = winds
        ∧ t.sup.gates = min 3 (s.sup.gates + 1) ∧ t.sup.channels = s.sup.channels.set 0 ch
        ∧ (ch.valid ≠ (s.sup.channels.get 0).valid → s.says t 1 (.validity 0 ch.valid ch.counter ch.fatal))
        ∧ ((s.sup.channels.get 0).valid = true → ch.valid = false → t.sup.band = 7)
        ∧ ((s.sup.channels.get 0).valid = false → ch.valid = false → t.sup.band = b)
        ∧ (ch.valid = true → s.sup.gates = 2 → t.sup.band = target ∧ t.sup.calm = 0)
        ∧ (ch.valid = true → s.sup.gates < 2 → t.sup.band = b)
        ∧ ((s.sup.channels.get 0).valid = false → ch.valid = true → 3 ≤ s.sup.gates → t.sup.band = b ∧ t.sup.calm = 0)
        ∧ ((s.sup.channels.get 0).valid = true → ch.valid = true → 3 ≤ s.sup.gates →
          (b < target → t.sup.band = target ∧ t.sup.calm = 0)
          ∧ (target ≤ b → lull → w.calmHold ≤ s.sup.calm + 1 → t.sup.band = target ∧ t.sup.calm = 0)
          ∧ (target ≤ b → lull → s.sup.calm + 1 < w.calmHold → t.sup.band = b ∧ t.sup.calm = s.sup.calm + 1)
          ∧ (target ≤ b → ¬lull → t.sup.band = b ∧ t.sup.calm = 0)))
    ∧ s.judgesSite t 1 ∧ t.sup.permit = s.sup.permit ∧ t.sup.anemo = s.sup.anemo
    ∧ t.cfg = s.cfg ∧ t.clock = s.clock ∧ t.seq = s.seq ∧ t.groups = s.groups
    ∧ t.dbm = s.dbm ∧ t.lgt = s.lgt ∧ t.fda = s.fda ∧ t.pins = s.pins

/-- LEVEL_SAMPLE: a sample with error moves its channel, and leaves the history, the figures, the water, the show, the lights
and the music as they were; one without enters the history, and with four held gives the average, the level and the measured
state, which goes from NORMAL to LOW below the low level, from LOW to DRY below the dry level, from LOW to NORMAL 20 mm above
the low level and from DRY to LOW 20 mm above the dry level, as far as one sample carries it; entering DRY, also by the channel
turning VALID with the measured state DRY, writes the fade records to 0 and stops a running or held show (R142, R144, R150 to
R152). A change of the channel's validity sends its VALIDITY; the site mode and the condition flags are judged, and one SITE
report carries what has changed (R144, R152, R155, R159).
The model's choices it rests on: the entry into STOPPING rests on log entries 21 and 41, the last of the two fade writes on
entry 10; 'level dry' where the same sample leaves DRY again is entry 63; the chunk that AUD asks for in the same event is entry
17. -/
def Obligations.LevelSampleJudgesTheLevel : Prop :=
  ∀ (s : State) (reading : BitVec 12), ∃ t, exec (.levelSample reading) s = .next t
    ∧ (let current := reading.toNat * 25000 / 4095
      let bad := current < 3600 ∨ 21000 < current
      t.sup.channels = s.sup.channels.set 1
          ((s.sup.channels.get 1).evaluated (s.cfg.counters.get 1) s.clock (if bad then .error else .good))
        ∧ (bad → t.sup.currents = s.sup.currents ∧ t.sup.measured = s.sup.measured ∧ t.sup.level = s.sup.level
          ∧ t.sup.average = s.sup.average ∧ t.sup.band = s.sup.band ∧ t.sup.permit = s.sup.permit
          ∧ t.groups = s.groups ∧ t.seq = s.seq ∧ t.lgt = s.lgt ∧ t.aud = s.aud.seek)
        ∧ (¬bad → t.sup.currents = lastOf 4 (s.sup.currents ++ [current])
          ∧ (t.sup.currents.length < 4 → t.sup.measured = s.sup.measured ∧ t.sup.level = s.sup.level)
          ∧ (4 ≤ t.sup.currents.length →
            t.sup.average = t.sup.currents.sum / 4
            ∧ t.sup.level = (if t.sup.average < 4000 then 0
              else min s.cfg.level.span ((t.sup.average - 4000) * s.cfg.level.span / 16000))
            ∧ (let lv := t.sup.level
              let moved (m : LevelState) : LevelState := match m with
                | .normal => if lv < s.cfg.level.low then .low else .normal
                | .low => if lv < s.cfg.level.dry then .dry else if s.cfg.level.low + 20 ≤ lv then .normal else .low
                | .dry => if s.cfg.level.dry + 20 ≤ lv then .low else .dry
              t.sup.measured = moved (moved s.sup.measured))))
        ∧ (¬bad →
          let was := (s.sup.channels.get 1).valid
          let now := (t.sup.channels.get 1).valid
          let enters := now = true ∧ ((was = true ∧ s.sup.measured ≠ .dry ∧ t.sup.measured = .dry)
            ∨ (was = false ∧ (s.sup.measured = .dry ∨ t.sup.measured = .dry)))
          (enters →
            (∀ g : Fin 24, (s.groups.get g).interlock.isSome = true →
              (t.groups.get g).fade.target = 0 ∧ (t.groups.get g).fade.dur = 0)
            ∧ (s.seq.st = .running ∨ s.seq.st = .held →
              (0 < s.cfg.options.stopFade ∨ s.groupsDown = false → t.seq.st = .stopping
                ∧ t.seq.stopping = some ⟨.dry, s.showTime.getD 0, s.cfg.options.stopFade⟩)
              ∧ (s.cfg.options.stopFade = 0 → s.groupsDown = true → t.seq.st = .idle))
            ∧ (s.seq.st ≠ .running → s.seq.st ≠ .held → t.seq = s.seq))
          ∧ (¬enters → t.groups = s.groups ∧ t.seq = s.seq)))
    ∧ (let ch := t.sup.channels.get 1
      ch.valid ≠ (s.sup.channels.get 1).valid → s.says t 3 (.validity 1 ch.valid ch.counter ch.fatal))
    ∧ s.judgesSite t 3 ∧ t.cfg = s.cfg ∧ t.clock = s.clock ∧ t.dbm = s.dbm ∧ t.fda = s.fda ∧ t.pins = s.pins

/-- ESTOP_ACTIVE and INTRUSION_ACTIVE outside TRIPPED: the site trips, with its cause, flag and log record; the show is IDLE,
the latches are empty, each configured group's fade record and held target are 0 and an OPENING group closes; the music falls to
silence under the mute ramp, or the announcement begins at once where nothing plays; PERMIT drops at once for an emergency stop,
and for an intrusion when every configured group is down, the drop timer running till then (R42, R63, R69, R75, R100, R137,
R154, R157, R158). Each sends its TRIP report. A cause added to a trip joins the set with its flag, without a record; an
emergency stop drops PERMIT and stops the drop timer, whose expiry drops PERMIT too (R154, R157). During an intrusion trip an
interlock change that leaves every configured group SHUT, FAULT or LOST, by a drive's reply or missing reply, a jammed line or a
stroke timeout, drops PERMIT and stops the timer in its own event; any other leaves both as they are (R90, R157). A stroke timer
is taken there to run only in OPENING and CLOSING, as every step keeps it (StepKeepsInterlocksFit, R96).
The model's choices it rests on: the record of the show time before the show ends and the timer with PERMIT low are log entries
46 and 36; the factor a stop fade leaves and a rundown that plays on are entries 23 and 25; the cause that the report of an
added one carries is entry 66, and an expiry that is not due, or of a timer that is stopped, entry 1. -/
def Obligations.TripInputsTripTheSite : Prop :=
  (∀ s : State, s.sup.mode ≠ .tripped → s.sup.causes = Causes.none →
     (∃ t, exec .estopActive s = .next t ∧ s.Trips t ⟨true, false, false⟩ ∧ t.flags.has .estop = true
       ∧ t.sup.permit = false ∧ t.sup.dropTimer = none ∧ t.pins = { s.pins with estop := true })
     ∧ (∃ t, exec (.intrusionActive .intrA) s = .next t ∧ s.Trips t ⟨false, true, false⟩
       ∧ t.flags.has .intrusion = true ∧ s.DropsByGroups t ∧ t.pins = { s.pins with intrA := true })
     ∧ (∃ t, exec (.intrusionActive .intrB) s = .next t ∧ s.Trips t ⟨false, false, true⟩
       ∧ t.flags.has .intrusion = true ∧ s.DropsByGroups t ∧ t.pins = { s.pins with intrB := true }))
  ∧ ((∀ s : State, s.sup.mode = .tripped →
     (∃ t, exec .estopActive s = .next t ∧ t.sup.causes = { s.sup.causes with estop := true }
       ∧ s.says t 1 (.trip ⟨true, false, false⟩ true s.clock)
       ∧ t.flags.has .estop = true ∧ t.sup.permit = false ∧ t.sup.dropTimer = none ∧ s.TripStands t)
     ∧ (∃ t, exec (.intrusionActive .intrA) s = .next t ∧ t.sup.causes = { s.sup.causes with intrA := true }
       ∧ s.says t 1 (.trip ⟨false, true, false⟩ true s.clock)
       ∧ t.flags.has .intrusion = true ∧ t.sup.permit = s.sup.permit ∧ t.sup.dropTimer = s.sup.dropTimer
       ∧ s.TripStands t)
     ∧ (∃ t, exec (.intrusionActive .intrB) s = .next t ∧ t.sup.causes = { s.sup.causes with intrB := true }
       ∧ s.says t 1 (.trip ⟨false, false, true⟩ true s.clock)
       ∧ t.flags.has .intrusion = true ∧ t.sup.permit = s.sup.permit ∧ t.sup.dropTimer = s.sup.dropTimer
       ∧ s.TripStands t))
   ∧ (∀ (s : State) (c : Instr) (before : Nat), s.strokesFit → s.mayBringDown c before → ∃ t, exec c s = .next t
     ∧ (s.interlockMoved t → s.judgesSite t before)
     ∧ (s.interlockMoved t → t.groupsDown = true → s.sup.mode = .tripped → s.sup.causes.estop = false →
       t.sup.permit = false ∧ t.sup.dropTimer = none)
     ∧ (¬s.interlockMoved t ∨ t.groupsDown = false ∨ s.sup.mode ≠ .tripped ∨ s.sup.causes.estop = true →
       t.sup.permit = s.sup.permit ∧ t.sup.dropTimer = s.sup.dropTimer)
     ∧ t.sup.causes = s.sup.causes ∧ t.sup.tripLog = s.sup.tripLog)
   ∧ (∀ s : State, s.sup.dropTimer = none → exec .intrusionDropTimer s = .next s)
   ∧ ∀ (s : State) (d : Tick), s.sup.dropTimer = some d →
     ((s.clock - d).toNat < 10000 → exec .intrusionDropTimer s = .next s)
     ∧ (10000 ≤ (s.clock - d).toNat → ∃ t, exec .intrusionDropTimer s = .next t ∧ t.sup.permit = false
       ∧ s.judgesSite t 0
       ∧ t.sup.dropTimer = none ∧ t.sup.causes = s.sup.causes ∧ t.groups = s.groups ∧ t.seq = s.seq ∧ t.aud = s.aud
       ∧ t.lgt = s.lgt ∧ t.cfg = s.cfg ∧ t.clock = s.clock ∧ t.dbm = s.dbm ∧ t.fda = s.fda ∧ t.flp = s.flp))

/-- CLEAR_TRIP: refused outside TRIPPED and with an input active; accepted, the causes are emptied, the mode is judged, PERMIT
rises where it may, a SITE report is sent, the announcement ends, and every assigned fixture stays at its rescue colour (R66,
R137, R155 to R157).
The model's choices it rests on: the end of a mute still falling is log entry 24. -/
def Obligations.ClearTripEndsTheTrip : Prop :=
  ∀ (s : State) (q : Request) (inputs : Inputs), s.takes .clearTrip q = true →
    (s.sup.mode ≠ .tripped → exec (.clearTrip inputs) s = .next (s.answered q .wrongState []))
    ∧ (s.sup.mode = .tripped → inputs ≠ ⟨false, false, false⟩ →
      exec (.clearTrip inputs) s = .next (s.answered q .inputActive []))
    ∧ (s.sup.mode = .tripped → inputs = ⟨false, false, false⟩ → ∃ t, exec (.clearTrip inputs) s = .next t
      ∧ t.sup.causes = Causes.none ∧ t.sup.dropTimer = none ∧ t.sup.permit = (s.sup.permit || s.sup.startMark)
      ∧ t.sup.mode = (if 0 < s.sup.band ∨ s.sup.effective ≠ .normal ∨ s.channelDown = true then .restricted
          else .normal)
      ∧ t.siteJudged
      ∧ s.says t 0 (.site t.sup.band (t.sup.winds.foldl max 0) t.levelNow t.sup.level t.sup.mode t.sup.permit)
      ∧ t.aud.bufA = none ∧ t.aud.gapLeft = none ∧ t.aud.m = 960
      ∧ (∀ f : Fin 96, (s.cfg.fixtures.get f).assigned = true → (t.lgt.fixtures.get f).fade =
          FixtureFade.still (Quad.map (fun v : Byte => 257 * v.toNat) (s.cfg.fixtures.get f).rescue) s.clock)
      ∧ t.sup.tripLog = s.sup.tripLog ∧ t.groups = s.groups ∧ t.seq = s.seq ∧ t.cfg = s.cfg ∧ t.clock = s.clock
      ∧ t.dbm = s.dbm ∧ t.fda = s.fda)

/-- SET_COUNTER: refused in R145's order; accepted, the limit and the hold are replaced, and a channel that is not fatal starts
at 0 and VALID, which is reported where it was INVALID, a LOST group with it entering CLOSING with the pump stopped, and the
site is judged (R95, R144, R145, R155). The limit is 1 to 200, the hold 0 to 55.
The model's choices it rests on: the speed of 0 that the next command starts from at that entry is log entry 56. -/
def Obligations.SetCounterResetsTheChannel : Prop :=
  (∀ (p : List Byte) (k : CounterSettings), counterOf p = some k ↔
    k = ⟨u8 p 1, u8 p 2⟩ ∧ 1 ≤ k.limit ∧ k.limit ≤ 200 ∧ k.hold ≤ 55)
  ∧ ∀ (s : State) (q : Request), s.takes .setCounter q = true →
    (27 ≤ u8 q.payload 0 → exec .setCounter s = .next (s.answered q .outOfRange []))
    ∧ ∀ i : Fin 27, u8 q.payload 0 = i.val →
      (s.seq.st ≠ .idle → exec .setCounter s = .next (s.answered q .showActive []))
      ∧ (s.seq.st = .idle → counterOf q.payload = none → exec .setCounter s = .next (s.answered q .outOfRange []))
      ∧ ∀ k, s.seq.st = .idle → counterOf q.payload = some k → ∃ t, exec .setCounter s = .next t
        ∧ t.cfg = { s.cfg with counters := s.cfg.counters.set i k } ∧ t.flp.image = .modified
        ∧ t.sup.channels = (if (s.sup.channels.get i).fatal = true then s.sup.channels
          else s.sup.channels.set i { s.sup.channels.get i with counter := 0, valid := true })
        ∧ ((s.sup.channels.get i).fatal = false → (s.sup.channels.get i).valid = false →
          s.says t 2 (.validity i true 0 false))
        ∧ t.siteJudged
        ∧ (∀ g : Fin 24, i = driveChannel g → (s.groups.get g).interlock = some .lost →
          (s.sup.channels.get i).fatal = false → (s.sup.channels.get i).valid = false →
          t.groups = s.groups.set g { s.groups.get g with
            interlock := some .closing, cause := .none, c0 := 0
            stroke := some ⟨s.clock, (s.groupRecord g).stroke⟩ })
        ∧ ((s.sup.channels.get i).valid = true → t.groups = s.groups)
        ∧ t.clock = s.clock ∧ t.dbm = s.dbm ∧ t.pins = s.pins

/-- READ_FLAGS: refused where it names no bank; otherwise it answers the named banks, clears their event flags and the condition
flags whose condition is absent, leaves the others, and touches no other bank; the cluster word has a bit for each bank
with a flag set (R159, R160). In LIGHT bit 0 is "dry cap active", whose condition is that a fixture was capped in the last frame,
and bit 1 "light scaled", that kL is below 1000 (R115, R132); in SITE bit 0 is "wind forced", that three gates have not passed or
WIND is INVALID, and bits 1 and 2 are "level low" and "level dry", that the effective level state is LOW or DRY (R148, R152), the
event flags "intrusion", "e-stop" and "audio degraded" following in bits 3 to 5.
The model's choices it rests on: that a fixture's capped mark may stand while halted is log entry 29. -/
def Obligations.ReadFlagsClearsWhatItReturns : Prop :=
  (∀ (s : State) (q : Request), s.takes .readFlags q = true →
    let named : Byte := q.payload.getD 0 0
    ((∀ b : Bank, named.getLsbD b.bit = false) → exec .readFlags s = .next (s.answered q .outOfRange []))
    ∧ ((∃ b : Bank, named.getLsbD b.bit = true) → ∃ flags, exec .readFlags s = .next
          { s.answered q .ok (Bank.all.map fun b => if named.getLsbD b.bit then s.flags.read b else 0) with
            flags := flags }
        ∧ ∀ b : Bank, flags.read b =
          if named.getLsbD b.bit then
            (match b with
            | .light => s.flags.light &&&
                ((if ∃ f : Fin 96, (s.lgt.fixtures.get f).capped = true then 0x01 else 0)
                  ||| (if s.fda.kL < 1000 then 0x02 else 0))
            | .site => s.flags.site &&&
                ((if s.sup.gates < 3 ∨ (s.sup.channels.get 0).valid = false then 0x01 else 0)
                  ||| (if s.levelNow = .low then 0x02 else 0) ||| (if s.levelNow = .dry then 0x04 else 0))
            | _ => 0)
          else s.flags.read b))
  ∧ (∀ (fs : Flags) (f : Flag), (fs.raise f).has f = true
      ∧ ∀ g : Flag, g ≠ f → (fs.raise f).has g = fs.has g)
  ∧ (∀ fs : Flags, fs.has .dryCapActive = fs.light.getLsbD 0 ∧ fs.has .lightScaled = fs.light.getLsbD 1
      ∧ fs.has .windForced = fs.site.getLsbD 0 ∧ fs.has .levelLow = fs.site.getLsbD 1
      ∧ fs.has .levelDry = fs.site.getLsbD 2 ∧ fs.has .intrusion = fs.site.getLsbD 3
      ∧ fs.has .estop = fs.site.getLsbD 4 ∧ fs.has .audioDegraded = fs.site.getLsbD 5)
  ∧ ∀ (fs : Flags) (b : Bank), fs.cluster.getLsbD b.bit = decide (fs.read b ≠ 0)

/-! ## Resets, start-up and the flash port (09) -/

/-- POWER_ON and PIN_RESET: every block starts at its reset state, with the straps and the inputs as they are read; an input
found active trips the site under one record; power-on empties the trip log and pin reset keeps it (R17, R69, R89, R111, R122,
R141, R158, R161, R178, R179, R192). IDENTIFICATION_DONE: a supported flash is present and its directory is read; with any other
the part runs on without flash, on the defaults. DIRECTORY_READ_DONE at start-up: the clip table is settled, the announcement's
lock follows it, a site that is TRIPPED has its announcement restarted, and the settings are read next (R14, R65, R171, R178).
The registers for which the manual gives no reset value hold those of log entry 8.
The model's choices it rests on: the reports of a trip found at a reset are log entries 19 and 20, the lock of an announcement
set during start-up entry 64, and that a restarted announcement's chunk goes before the settings read entry 17. -/
def Obligations.ResetsAndIdentification : Prop :=
  (∀ (s : State) (inputs : Inputs) (straps : BitVec 2) (c : Instr) (kind : ResetKind) (log : List TripRecord),
    (c = .powerOn inputs straps ∧ kind = .powerOn ∧ log = [])
      ∨ (c = .pinReset inputs straps ∧ kind = .pinReset ∧ log = s.sup.tripLog) →
    ∃ t, exec c s = .next t ∧ t.cfg = Settings.default ∧ t.clock = 0 ∧ t.seq = Seq.reset ∧ t.aud = Aud.reset
      ∧ t.groups = Table.fill 24 Group.reset ∧ t.dbm = Dbm.reset ∧ t.lgt = Lgt.reset ∧ t.fda = Fda.reset
      ∧ t.flp = Flp.reset ∧ t.pins = inputs ∧ t.pending = s.pending
      ∧ (inputs = ⟨false, false, false⟩ →
        t.lif = { Lif.reset with bitRate := straps, lastReset := kind } ∧ t.sup = { Sup.reset with tripLog := log }
          ∧ t.flags = Flags.reset)
      ∧ (inputs ≠ ⟨false, false, false⟩ →
        let causes : Causes := ⟨inputs.estop, inputs.intrA, inputs.intrB⟩
        t.sup = { Sup.reset with
          mode := .tripped, causes := causes, tripLog := (⟨causes, 0, none, 7, .low⟩ :: log).take 8 }
        ∧ t.lif = { Lif.reset with bitRate := straps, lastReset := kind, tx := some (.report (.trip causes false 0)) }
        ∧ t.flags.has .estop = inputs.estop ∧ t.flags.has .intrusion = (inputs.intrA || inputs.intrB)))
  ∧ (∀ s : State, s.flp.port = .reading .directory → s.aud.copying = some .startUp → s.aud.copyQueue = [] →
    ∃ t, exec .directoryReadDone s = .next t
      ∧ t.aud.clips = settleDirectory (Memory.readBytes s.flash 0x110000 4096) ∧ t.aud.copying = none
      ∧ t.flp.settingsWork = some (.load true []) ∧ s.relocked t ∧ s.restartsAnnouncement t
      ∧ (t.flp.port = .reading (.settingsRead 0 4096) ∨ .settingsRead 0 4096 ∈ t.flp.internalQ)
      ∧ (s.flashQuiet = true → s.sup.mode ≠ .tripped ∨ s.lif.halted = true →
        t.flp.port = .reading (.settingsRead 0 4096))
      ∧ t.sup.startMark = s.sup.startMark ∧ t.sup.permit = s.sup.permit ∧ t.cfg = s.cfg ∧ t.clock = s.clock
      ∧ t.seq = s.seq ∧ t.groups = s.groups ∧ t.dbm = s.dbm ∧ t.lgt = s.lgt ∧ t.fda = s.fda ∧ t.pins = s.pins
      ∧ t.flash = s.flash)
  ∧ ∀ (s : State) (answer : Option DeviceIdent), s.flp.port = .resetting → s.flp.presence = .unidentified →
    ((∃ d, answer = some d ∧ d.sizeMiB = 256 ∧ d.eraseSuspend = true) → s.aud.copying = none → s.flashQuiet = true →
      ∃ t, exec (.identificationDone answer) s = .next t ∧ t.flp.presence = .present
        ∧ t.flp.ident = answer.map (fun d => (d.id0, d.id1, d.id2)) ∧ t.flp.port = .reading .directory
        ∧ t.aud.copying = some .startUp ∧ t.cfg = s.cfg ∧ t.clock = s.clock ∧ t.seq = s.seq ∧ t.groups = s.groups
        ∧ t.dbm = s.dbm ∧ t.lgt = s.lgt ∧ t.fda = s.fda ∧ t.flash = s.flash ∧ t.pins = s.pins)
    ∧ ((∀ d, answer = some d → d.sizeMiB ≠ 256 ∨ d.eraseSuspend = false) →
      ∃ t, exec (.identificationDone answer) s = .next t ∧ t.flp.presence = .missing ∧ t.cfg = Settings.default
        ∧ t.flp.image = .blank ∧ t.sup.startMark = true ∧ t.lif.starting = false
        ∧ t.lif.settingsSlot.status = .idle ∧ t.aud.clips = Table.fill 64 none
        ∧ (s.lif.halted = false → s.sup.mode ≠ .tripped → t.sup.permit = true)
        ∧ t.clock = s.clock ∧ t.pins = s.pins)

/-- SAVE_SETTINGS and RELOAD_SETTINGS: refused with NO_FLASH or CONFLICT, a reload with SHOW_ACTIVE too; accepted, the image of
the settings as they stand is to be written after the region's erase, or the region is read (R176, R177). SETTINGS_READ_DONE:
where the bytes read decide the image, the settings take effect with its image state, at start-up always, in a reload only while
the show is IDLE and no group moves; the groups, channels, fixtures, delay lines, FDA, calm count and announcement then act on
them; until then the next bytes are read (R175, R177, R178). The requests are stated where the flash port is free and nothing
waits for it, so that the save or the load begins in the same event; that a group which the load finds posts the S of its last
figures is the model's choice, log entry 34. How an image is laid out and judged is the statement ImagesAreJudgedAndReadBack.
The model's choices it rests on: what starts in the same event is log entry 17; the flag of a BAD image in a reload that
conflicts is log entry 39, that groups act before channels and both before FDA entries 52 and 54, reads of 4 KiB and where they
stop entry 58, a reload that conflicts entries 68 and 72, a group configured before the start-up load ends entry 76, the record
of an unconfigured group entry 69, what a group entered afresh drops entry 51, and a speed of 0 that the next command starts
from entry 56. -/
def Obligations.SettingsAreSavedAndLoaded : Prop :=
  (∀ (s : State) (q : Request),
    (s.takes .saveSettings q = true →
      (s.flp.presence = .missing → exec .saveSettings s = .next (s.answered q .noFlash []))
      ∧ (s.flp.presence ≠ .missing → s.lif.flashSlot.active = true →
        exec .saveSettings s = .next (s.answered q .conflict []))
      ∧ (s.flp.presence ≠ .missing → s.lif.flashSlot.active = false → s.flp.port = .free → s.flashQuiet = true →
        ∃ (t : State) (unused : Nat → Byte), exec .saveSettings s = .next t ∧ t.flp.port = .erasing .settingsErase
          ∧ t.flp.settingsWork = some (.save (s.cfg.image unused) false)
          ∧ t.lif = ({ s.lif.answering q .accepted [] with
              settingsSlot := ⟨.running, 0x3B, q.tag, .none, none, none⟩ }).kick
          ∧ t = { s with flp := t.flp, lif := t.lif, fresh := t.fresh }))
    ∧ (s.takes .reloadSettings q = true →
      (s.flp.presence = .missing → exec .reloadSettings s = .next (s.answered q .noFlash []))
      ∧ (s.flp.presence ≠ .missing → s.lif.flashSlot.active = true →
        exec .reloadSettings s = .next (s.answered q .conflict []))
      ∧ (s.flp.presence ≠ .missing → s.lif.flashSlot.active = false → s.seq.st ≠ .idle →
        exec .reloadSettings s = .next (s.answered q .showActive []))
      ∧ (s.flp.presence ≠ .missing → s.lif.flashSlot.active = false → s.seq.st = .idle → s.flp.port = .free →
        s.flashQuiet = true →
        ∃ t, exec .reloadSettings s = .next t ∧ t.flp.port = .reading (.settingsRead 0 4096)
          ∧ t.flp.settingsWork = some (.load false [])
          ∧ t.lif = ({ s.lif.answering q .accepted [] with
              settingsSlot := ⟨.running, 0x3C, q.tag, .none, none, none⟩ }).kick
          ∧ t = { s with flp := t.flp, lif := t.lif })))
  ∧ ∀ (s : State) (o n : Nat) (startUp : Bool) (read : List Byte), s.flp.port = .reading (.settingsRead o n) →
    s.flp.settingsWork = some (.load startUp read) → s.flashQuiet = true →
    let all := read ++ Memory.readBytes s.flash o n
    (judgeImage all = .more → ∃ t, exec .settingsReadDone s = .next t
      ∧ t.flp.port = .reading (.settingsRead all.length 4096) ∧ t.flp.settingsWork = some (.load startUp all)
      ∧ t.cfg = s.cfg ∧ t.groups = s.groups ∧ t.seq = s.seq ∧ t.lgt = s.lgt ∧ t.dbm = s.dbm ∧ t.flash = s.flash)
    ∧ ∀ image new, judgeImage all = .found image new → ∃ t, exec .settingsReadDone s = .next t
      ∧ (image = .bad → t.flags.has .settingsBad = true) ∧ t.flp.settingsWork = none ∧ t.clock = s.clock
      ∧ (if startUp = true ∨ (s.seq.st = .idle ∧ s.groupsDown = true) then
          t.cfg = new ∧ (s.seq.st = .idle → s.takesSettings t new) ∧ t.flp.image = image ∧ t.sup.startMark = true
            ∧ (s.lif.halted = false → s.sup.mode ≠ .tripped → t.sup.permit = true)
            ∧ (startUp = true → t.lif.starting = false ∧ t.lif.settingsSlot.status = .idle)
            ∧ (startUp = false → t.lif.settingsSlot =
              { s.lif.settingsSlot with status := .done, failure := .none, cueIndex := none, imageFound := some image }
              ∧ ((∀ k : Category, k ≠ .service → s.lif.enable.getLsbD k.bit = false) →
                s.says t 0 (.serviceDone .settings t.lif.settingsSlot)))
            ∧ t.siteJudged
        else
          t.cfg = s.cfg ∧ t.flp.image = s.flp.image ∧ t.groups = s.groups ∧ t.seq = s.seq ∧ t.lif.settingsSlot =
            { s.lif.settingsSlot with status := .failed, failure := .conflict, cueIndex := none, imageFound := none }
            ∧ s.says t 1 (.serviceDone .settings t.lif.settingsSlot) ∧ t.sup.permit = s.sup.permit
            ∧ t.sup.startMark = s.sup.startMark)

/-- The settings image. A save's image is the header word, one record for each index of each table in order, the end record, and
the CRC-32 over all of that; with settings in their ranges the records are ones that a load knows and that give those settings,
and the image has 4,013 bytes (R173). A load's bytes are judged in this order: four bytes of 0xFF are BLANK; another header
word, a record whose table, length or index is unknown, or that names another number than its index, a wrong CRC-32, two records
of one table and index, a content out of its ranges and a check between records that fails are BAD; both with the defaults; any
other image is LOADED, with its records over the defaults; more is read while the end is not yet there and the region goes on,
and an image with no end in the region is BAD (R175, R193). An image the machine writes from settings in their ranges is judged
LOADED with those settings, whatever stands behind it.
The model's choices it rests on: that reading stops as soon as the bytes decide the image is log entry 58, the unused point
bytes are entry 15. -/
def Obligations.ImagesAreJudgedAndReadBack : Prop :=
  let header : List Byte := [0x46, 0x43, 0x53, 0x01]
  let tables : List (Nat × Nat × Nat) :=
    [(1, 64, 24), (2, 17, 96), (3, 5, 4), (4, 87, 1), (5, 8, 1), (6, 6, 1), (7, 3, 27), (8, 1, 1), (9, 6, 1)]
  let known (r : ImageRecord) : Prop := ∃ count, (r.table, r.content.length, count) ∈ tables ∧ r.index < count
    ∧ (r.table = 1 ∨ r.table = 2 ∨ r.table = 3 ∨ r.table = 7 → u8 r.content 0 = r.index)
  let listed (rs : List ImageRecord) : List Byte := header
    ++ rs.flatMap fun r => byte1 r.table ++ byte1 r.index ++ byte2 r.content.length ++ r.content
  let bad : Judged := .found .bad Settings.default
  let short (bytes : List Byte) : Judged := if 0x10000 ≤ bytes.length then bad else .more
  (∀ (c : Settings) (unused : Nat → Byte), ∃ rs,
    let body := listed rs ++ [0, 0, 0, 0]
    c.image unused = body ++ byte4 (crc32 body).toNat
      ∧ rs.map (fun r => (r.table, r.index)) = tables.flatMap (fun x => (List.range x.2.2).map fun i => (x.1, i))
      ∧ (c.fit → (∀ r ∈ rs, known r) ∧ c.overlays rs ∧ (c.image unused).length = 4013))
  ∧ (∀ bytes : List Byte, 4 ≤ bytes.length →
    (bytes.take 4 = List.replicate 4 0xFF → judgeImage bytes = .found .blank Settings.default)
    ∧ (bytes.take 4 ≠ List.replicate 4 0xFF → bytes.take 4 ≠ header → judgeImage bytes = bad))
  ∧ (∀ (rs : List ImageRecord) (rest : List Byte), (∀ r ∈ rs, known r) →
    let all := listed rs ++ rest
    let len := u16 rest 2
    (rest.length < 4 → judgeImage all = short all)
    ∧ (4 ≤ rest.length → ¬(u8 rest 0 = 0 ∧ u8 rest 1 = 0 ∧ len = 0) →
      ((∀ count, (u8 rest 0, len, count) ∉ tables) → judgeImage all = bad)
      ∧ ((∃ count, (u8 rest 0, len, count) ∈ tables) → rest.length < 4 + len → judgeImage all = short all)
      ∧ (4 + len ≤ rest.length → ¬known ⟨u8 rest 0, u8 rest 1, (rest.drop 4).take len⟩ → judgeImage all = bad))
    ∧ ∀ tail, rest = [0, 0, 0, 0] ++ tail →
      let accepted (c : Settings) : Prop := u32 tail 0 = (crc32 (listed rs ++ [0, 0, 0, 0])).toNat
        ∧ rs.Pairwise (fun a b => ¬(a.table = b.table ∧ a.index = b.index)) ∧ c.overlays rs ∧ c.sound
      (tail.length < 4 → judgeImage all = short all)
      ∧ (4 ≤ tail.length → (∀ c, judgeImage all = .found .loaded c ↔ accepted c)
        ∧ ((∀ c, ¬accepted c) → judgeImage all = bad)))
  ∧ ∀ (c : Settings) (unused : Nat → Byte) (rest : List Byte), c.fit →
    judgeImage (c.image unused ++ rest) = .found .loaded c

/-- FLASH_READ_DONE, PROGRAM_DONE, ERASE_DONE, SUSPEND_GUARD_END and DEVICE_RESET_COMPLETE, with nothing waiting for the port:
the reply carries the bytes held; a program clears bits by AND; an erase leaves 0xFF; either leaves every other byte; the
service ends with its SERVICE_DONE, or the save goes on; the erase goes on after its guard; the port is FREE again (R164 to
R167, R170, R176, R186).
The model's choices it rests on: what starts in the same event is log entry 17. -/
def Obligations.FlashWorkEnds : Prop :=
  ∀ s : State, s.flashQuiet = true →
    (∀ a n tag, s.flp.port = .reading (.hostRead a n) → s.lif.readPlace = some tag →
      exec (.flashReadDone .good) s = .next { s with
        flp := { s.flp with port := .free }
        lif := ({ s.lif with
          readPlace := none
          answers := s.lif.answers
            ++ [Waiting.reply ⟨tag, 0x38, .ok, 0 :: (byte2 n ++ Memory.readBytes s.flash a n)⟩] }).kick })
    ∧ (∀ w d, s.flp.port = .programming .hostProgram → s.flp.work = some w → w.data = some d →
      Memory.wf s.flash = true → ∃ t, exec .programDone s = .next t ∧ t.flp.port = .free ∧ t.flp.work = none
        ∧ (∀ i, i < d.length → Memory.read t.flash (w.address + i) =
            Memory.read s.flash (w.address + i) &&& d.getD i 0xFF)
        ∧ (∀ a, a < w.address ∨ w.address + d.length ≤ a → Memory.read t.flash a = Memory.read s.flash a)
        ∧ t.lif.flashSlot =
          { s.lif.flashSlot with status := .done, failure := .none, cueIndex := none, imageFound := none }
        ∧ s.says t 0 (.serviceDone .flash t.lif.flashSlot)
        ∧ (∀ e, s.flp.annWaiting = some e → (⟨.announcement, e.1, e.2⟩ : Lock) ∈ t.flp.locks)
        ∧ t = { s with flp := t.flp, lif := t.lif, flash := t.flash, flags := t.flags })
    ∧ (∀ p image seen, s.flp.port = .programming (.settingsPage p) → s.flp.settingsWork = some (.save image seen) →
      Memory.wf s.flash = true → ∃ t, exec .programDone s = .next t
        ∧ (∀ i, i < ((image.drop (256 * p)).take 256).length → Memory.read t.flash (256 * p + i) =
            Memory.read s.flash (256 * p + i) &&& image.getD (256 * p + i) 0xFF)
        ∧ (∀ a, a < 256 * p ∨ 256 * p + ((image.drop (256 * p)).take 256).length ≤ a →
            Memory.read t.flash a = Memory.read s.flash a)
        ∧ (if 256 * (p + 1) < image.length then
            t.flp.port = .programming (.settingsPage (p + 1)) ∧ t.lif = s.lif.kick
          else t.flp.port = .free ∧ t.flp.image = (if seen = true then .modified else .loaded)
            ∧ t.flp.settingsWork = none ∧ t.lif.settingsSlot =
              { s.lif.settingsSlot with status := .done, failure := .none, cueIndex := none, imageFound := none }
            ∧ s.says t 0 (.serviceDone .settings t.lif.settingsSlot))
        ∧ t = { s with flp := t.flp, lif := t.lif, flash := t.flash, flags := t.flags })
    ∧ (∀ w, s.flp.port = .erasing .hostErase ∨ s.flp.port = .guarded .hostErase → s.flp.work = some w →
      ∃ t, exec .eraseDone s = .next t ∧ t.flp.port = .free ∧ t.flp.work = none
        ∧ (∀ a, w.address ≤ a → a < w.address + w.len → Memory.read t.flash a = 0xFF)
        ∧ (∀ a, a < w.address ∨ w.address + w.len ≤ a → Memory.read t.flash a = Memory.read s.flash a)
        ∧ t.lif.flashSlot =
          { s.lif.flashSlot with status := .done, failure := .none, cueIndex := none, imageFound := none }
        ∧ s.says t 0 (.serviceDone .flash t.lif.flashSlot)
        ∧ t = { s with flp := t.flp, lif := t.lif, flash := t.flash, flags := t.flags })
    ∧ (∀ image seen, s.flp.port = .erasing .settingsErase ∨ s.flp.port = .guarded .settingsErase →
      s.flp.settingsWork = some (.save image seen) → image ≠ [] → ∃ t, exec .eraseDone s = .next t
        ∧ t.flp.port = .programming (.settingsPage 0) ∧ t.lif = s.lif.kick
        ∧ (∀ a, a < 0x10000 → Memory.read t.flash a = 0xFF)
        ∧ (∀ a, 0x10000 ≤ a → Memory.read t.flash a = Memory.read s.flash a)
        ∧ t = { s with flp := t.flp, lif := t.lif, flash := t.flash })
    ∧ (∀ x, s.flp.port = .guarded x →
      exec .suspendGuardEnd s = .next { s with flp := { s.flp with port := .erasing x } })
    ∧ (s.flp.port = .resetting → s.flp.presence ≠ .unidentified →
      exec .deviceResetComplete s = .next { s with flp := { s.flp with port := .free } })

/-- With no read outstanding AUD asks for the chunk that holds the next frame, at its place in the CLIPS region, for the PLAYING
buffer, or else a PENDING one, that has 1,024 free frames and clip data remaining, and its fetch position moves past the chunk;
where neither does it asks for nothing (R50). CHUNK_ARRIVAL: the frames from the read position on join the buffer the chunk was
read for; those of a discarded buffer are thrown away; a suspended erase goes on under its guard (R50, R54, R170). A refill that
waits when the guard ends suspends the erase again; where the erase has completed by then, ERASE_DONE ends it and the refill is
served, and the outcome is that of the other order (R170). FLASH_TIMEOUT, and a read outcome TIMEOUT: the device is reset with
"timeout" set, and the owner meets the failure: failed frames, a TIMEOUT reply, a FAILED service, a FAILED load, a clip table
with every id absent, a BAD image, a FAILED reload or save (R14, R51, R164 to R167, R176 to R178).
The model's choices it rests on: that FLASH_TIMEOUT with no transaction in progress changes nothing is log entry 1; the flag
"erase suspended" where a suspension meets a completed erase is entry 57; that an erase suspended behind a read that times out
fails with it is entry 60. -/
def Obligations.ChunksArriveAndTransactionsTimeOut : Prop :=
  (∀ a : Aud,
    let wants (i : BufId) (st : Stream) : Prop := a.buf i = some st ∧ st.held.length + 1024 ≤ 8192
      ∧ st.fetch < st.clip.frames ∧ st.read < st.clip.frames
    let asks (i : BufId) (st : Stream) : Prop :=
      let c := max st.fetch st.read / 1024
      let n := min 1024 (st.clip.frames - 1024 * c)
      a.seek = { a.setBuf i (some { st with fetch := 1024 * c + n }) with
        chunk := some ⟨some i, 0x110000 + st.clip.start + 4096 * c, 1024 * c, n⟩ }
    (a.chunk ≠ none → a.seek = a) ∧ ((∀ i st, ¬wants i st) → a.seek = a)
      ∧ (∀ i st, a.chunk = none → a.playing = some i → wants i st → asks i st)
      ∧ ∀ i st, a.chunk = none → wants i st → st.playing = false →
        (∀ j st', wants j st' → st'.playing = false) → (∀ st', a.buf i.other = some st' → st'.playing = true) → asks i st) ∧
  (∀ (s : State) (k : Chunk) (i : BufId) (st : Stream), s.aud.chunk = some k → k.owner = some i →
    s.aud.buf i = some st →
    let frames (good : Bool) := (List.range (k.first + k.count - max k.first st.read)).map fun j =>
      if good = true then frameAt s.flash (k.address + 4 * (max k.first st.read - k.first + j)) else .failed
    (∀ x, s.flp.port = .reading .audChunk ∨ s.flp.port = .suspended x → ∃ t, exec (.chunkArrival .good) s = .next t
      ∧ s.OnlyAudio t ∧ (∃ st', t.aud.buf i = some st' ∧ st'.held = st.held ++ frames true ∧ st'.read = st.read)
      ∧ (s.flp.port = .suspended x → t.flp.port = .guarded x))
    ∧ ∀ c x, x = .hostErase ∨ x = .settingsErase → (c = .chunkArrival .timeout ∧ (s.flp.port = .reading .audChunk ∨ s.flp.port = .suspended x))
        ∨ (c = .flashTimeout ∧ s.flp.port = .reading .audChunk) → ∃ t, exec c s = .next t
      ∧ t.flp.port = .resetting ∧ t.flags.has .timeout = true
      ∧ ∃ st', t.aud.buf i = some st' ∧ st'.held = st.held ++ frames false ∧ st'.read = st.read)
  ∧ (∀ (s : State) (k : Chunk), s.aud.chunk = some k → k.owner = none → s.flp.port = .reading .audChunk →
    ∃ t, exec (.chunkArrival .good) s = .next t ∧ s.OnlyAudio t
      ∧ ∀ i, (t.aud.buf i).map (·.held) = (s.aud.buf i).map (·.held))
  ∧ (∀ (s : State) (x : Txn), s.flp.port = .guarded x → s.aud.chunk.isSome = true → ∃ t, exec .suspendGuardEnd s = .next t
    ∧ t.flp.port = .suspended x ∧ t.flags.has .eraseSuspended = true
    ∧ t.flp.flagByNow = !s.flags.has .eraseSuspended
    ∧ t = { s with
        flp := { s.flp with port := .suspended x, flagByNow := t.flp.flagByNow }
        flags := t.flags, flash := t.flash, fresh := t.fresh })
  ∧ (∀ (s : State) (w : FlashWork), s.flp.port = .suspended .hostErase → s.aud.chunk.isSome = true →
    s.flp.work = some w → ∃ t, exec .eraseDone s = .next t ∧ t.flp.port = .reading .audChunk ∧ t.flp.work = none
      ∧ (∀ a, w.address ≤ a → a < w.address + w.len → Memory.read t.flash a = 0xFF)
      ∧ (∀ a, a < w.address ∨ w.address + w.len ≤ a → Memory.read t.flash a = Memory.read s.flash a)
      ∧ t.lif.flashSlot =
        { s.lif.flashSlot with status := .done, failure := .none, cueIndex := none, imageFound := none }
      ∧ s.says t 0 (.serviceDone .flash t.lif.flashSlot)
      ∧ (t.flags.has .eraseSuspended = (s.flags.has .eraseSuspended && !s.flp.flagByNow))
      ∧ t = { s with flp := t.flp, lif := t.lif, flash := t.flash, flags := t.flags })
  ∧ (∀ (s : State) (x : Txn), s.flp.port = .guarded x → x = .hostErase ∨ x = .settingsErase →
    s.aud.chunk.isSome = true → Memory.wf s.flash = true →
    ∃ u t t', exec .suspendGuardEnd s = .next u ∧ exec .eraseDone u = .next t ∧ exec .eraseDone s = .next t'
      ∧ t = { t' with fresh := t.fresh, flp := { t'.flp with flagByNow := t.flp.flagByNow } })
  ∧ (∀ (s : State) (a n : Nat) (tag : Byte) (c : Instr), s.flp.port = .reading (.hostRead a n) →
    s.lif.readPlace = some tag → c = .flashTimeout ∨ c = .flashReadDone .timeout → ∃ t, exec c s = .next t
      ∧ t.flp.port = .resetting ∧ t.flags.has .timeout = true ∧ t.lif.readPlace = none
      ∧ (let w : Waiting := .reply ⟨tag, 0x38, .ok, [1, 0, 0]⟩
        w ∈ t.lif.answers ∨ t.lif.tx = some (.answer w)))
  ∧ (∀ s : State, s.flp.port = .programming .hostProgram ∨ s.flp.port = .erasing .hostErase
      ∨ s.flp.port = .guarded .hostErase ∨ s.flp.port = .suspended .hostErase → ∃ t, exec .flashTimeout s = .next t
      ∧ t.flp.port = .resetting ∧ t.flags.has .timeout = true ∧ t.flp.work = none ∧ t.lif.flashSlot =
        { s.lif.flashSlot with status := .failed, failure := .flashTimeout, cueIndex := none, imageFound := none }
      ∧ s.says t 0 (.serviceDone .flash t.lif.flashSlot))
  ∧ (∀ (s : State) (a n : Nat), s.flp.port = .reading (.loadRead a n) → s.seq.staleRead = false →
    ∃ t, exec .flashTimeout s = .next t ∧ t.flp.port = .resetting ∧ t.flags.has .timeout = true
      ∧ s.LoadFailed t .flashTimeout none (LoadPhase.label s.seq.load))
  ∧ (∀ (s : State), s.flp.port = .reading .directory → s.aud.copying = some .armLoad → s.aud.copyQueue = [] →
    ∃ t, exec .flashTimeout s = .next t ∧ t.flp.port = .resetting ∧ t.flags.has .timeout = true
      ∧ t.aud.clips = s.aud.clips ∧ s.LoadFailed t .flashTimeout none (LoadPhase.label s.seq.load))
  ∧ (∀ (s : State) (why : CopyFor), s.flp.port = .reading .directory → s.aud.copying = some why → why = .startUp ∨ why = .release →
    ∃ t, exec .flashTimeout s = .next t ∧ t.flp.port = .resetting ∧ t.flags.has .timeout = true
      ∧ t.aud.clips = Table.fill 64 none ∧ (why = .startUp → t.flp.settingsWork = some (.load true [])))
  ∧ (∀ (s : State) (o n : Nat) (startUp : Bool) (read : List Byte), s.flp.port = .reading (.settingsRead o n) →
    s.flp.settingsWork = some (.load startUp read) →
    ∃ t, exec .flashTimeout s = .next t ∧ t.flp.port = .resetting ∧ t.flags.has .timeout = true
      ∧ t.flp.settingsWork = none
      ∧ (startUp = true → t.cfg = Settings.default ∧ t.flp.image = .bad ∧ t.flags.has .settingsBad = true
        ∧ t.lif.starting = false)
      ∧ (startUp = false → t.cfg = s.cfg ∧ t.flp.image = s.flp.image ∧ t.groups = s.groups ∧ t.lif.settingsSlot =
        { s.lif.settingsSlot with status := .failed, failure := .flashTimeout, cueIndex := none, imageFound := none }
        ∧ s.says t 0 (.serviceDone .settings t.lif.settingsSlot)))
  ∧ (∀ s : State, (∃ p, s.flp.port = .programming (.settingsPage p)) ∨ s.flp.port = .erasing .settingsErase
      ∨ s.flp.port = .guarded .settingsErase ∨ s.flp.port = .suspended .settingsErase →
    ∃ t, exec .flashTimeout s = .next t ∧ t.flp.port = .resetting ∧ t.flags.has .timeout = true
      ∧ t.flp.settingsWork = none ∧ t.flp.image = .modified ∧ t.cfg = s.cfg ∧ t.lif.settingsSlot =
        { s.lif.settingsSlot with status := .failed, failure := .flashTimeout, cueIndex := none, imageFound := none }
      ∧ s.says t 0 (.serviceDone .settings t.lif.settingsSlot))
  ∧ ∀ s : State, s.flp.port = .free ∨ s.flp.port = .resetting → exec .flashTimeout s = .next s

/-- FLASH_READ, FLASH_WRITE and FLASH_ERASE: refused at the first condition of R164, R165 and R166 that holds, the locks last
and with "locked refusal"; accepted with the port free, the read or the operation starts at once at the region's device address
(R163 to R166, R172, R183).
The model's choices it rests on: that the read place is occupied until the earlier read's transaction has ended is log entry 75,
and what starts in the same event entry 17. -/
def Obligations.HostFlashRequestsAreJudged : Prop :=
  (∀ (s : State) (q : Request) (lo size : Nat), s.takes .flashRead q = true →
    (s.lif.readPlace.isSome = true → exec .flashRead s = .next (s.answered q .busy []))
    ∧ (s.lif.readPlace = none → s.flp.presence = .missing → exec .flashRead s = .next (s.answered q .noFlash []))
    ∧ (s.lif.readPlace = none → s.flp.presence ≠ .missing →
      (2 < u8 q.payload 0 → exec .flashRead s = .next (s.answered q .outOfRange []))
      ∧ ((u8 q.payload 0, lo, size) ∈ [(0, 0x0000000, 0x10000), (1, 0x0010000, 0x100000), (2, 0x0110000, 0xFEF0000)] →
        let offset := u32 q.payload 1
        let n := u16 q.payload 5
        (n = 0 ∨ 512 < n → exec .flashRead s = .next (s.answered q .outOfRange []))
        ∧ (0 < n → n ≤ 512 → size < offset + n → exec .flashRead s = .next (s.answered q .outOfRegion []))
        ∧ (0 < n → n ≤ 512 → offset + n ≤ size → s.flp.port = .free → s.flashQuiet = true →
          exec .flashRead s = .next { s with
            flp := { s.flp with port := .reading (.hostRead (lo + offset) n), turn := .internal }
            lif := ({ s.lif with inbox := s.lif.inbox.tail, readPlace := some q.tag }).kick }))))
  ∧ (∀ (s : State) (q : Request), s.flp.presence ≠ .missing →
    (s.takes .flashWrite q = true → 2 < u8 q.payload 0 → exec .flashWrite s = .next (s.answered q .outOfRange []))
    ∧ (s.takes .flashErase q = true → 2 < u8 q.payload 0 ∨ 1 < u8 q.payload 5 →
      exec .flashErase s = .next (s.answered q .outOfRange [])))
  ∧ ∀ (s : State) (q : Request) (lo size : Nat) (c : Instr) (n : Nat) (data : Option (List Byte)) (txn : Txn),
    (c = .flashWrite ∧ s.takes .flashWrite q = true ∧ n = q.payload.length - 5 ∧ data = some (q.payload.drop 5)
        ∧ txn = .hostProgram)
      ∨ (c = .flashErase ∧ s.takes .flashErase q = true ∧ (u8 q.payload 5, n) ∈ [(0, 4096), (1, 65536)] ∧ data = none
        ∧ txn = .hostErase) →
    (u8 q.payload 0, lo, size) ∈ [(0, 0x0000000, 0x10000), (1, 0x0010000, 0x100000), (2, 0x0110000, 0xFEF0000)] →
    let offset := u32 q.payload 1
    let fits := if c = .flashWrite then 1 ≤ n ∧ n ≤ 256 else True
    let placed := if c = .flashWrite then offset / 256 = (offset + n - 1) / 256 else offset % n = 0
    let locked := ∃ k ∈ s.flp.locks, lo + offset < k.hi ∧ k.lo < lo + offset + n
    (s.flp.presence = .missing → exec c s = .next (s.answered q .noFlash []))
    ∧ (s.flp.presence ≠ .missing →
      (¬fits → exec c s = .next (s.answered q .outOfRange []))
      ∧ (fits → size < offset + n → exec c s = .next (s.answered q .outOfRegion []))
      ∧ (fits → offset + n ≤ size → ¬placed → exec c s = .next (s.answered q .outOfRange []))
      ∧ (fits → offset + n ≤ size → placed → s.lif.settingsSlot.active = true →
        exec c s = .next (s.answered q .conflict []))
      ∧ (fits → offset + n ≤ size → placed → s.lif.settingsSlot.active = false → locked →
        exec c s = .next { s.answered q .locked [] with flags := s.flags.raise .lockedRefusal })
      ∧ (fits → offset + n ≤ size → placed → s.lif.settingsSlot.active = false → ¬locked → s.flp.port = .free →
        s.flashQuiet = true → ∃ t, exec c s = .next t ∧ t.flp.port = txn.port
          ∧ t.flp.work = some ⟨lo + offset, n, data⟩
          ∧ t.lif = ({ s.lif.answering q .accepted [] with
              flashSlot := ⟨.running, q.kind, q.tag, .none, none, none⟩ }).kick
          ∧ t = { s with flp := t.flp, lif := t.lif }))

/-! ## The show link and its requests (10) -/

/-- LINK_BYTE_RECEIVED, LINK_FRAME_RECEIVED, GAP_TIMEOUT and FRAME_SENT: bits by majority of three samples; an errored character
is dropped with its flags and ends the frame; a good byte starts, extends or ends the frame; a frame with a matching check joins
the inbox, or is answered BUSY, or is discarded; a frame sent frees its place (R180, R181, R184; log entries 1 and 31). What the
transmitter sends: a report with tag 0 and its kind and fields, an answer with its request's tag, the kind plus 0x80 and its
status, and with its fields after OK and ACCEPTED alone; each behind the start byte and the payload's length and before the
CRC-16 over all but the start byte; every enumeration is coded from 0 upward in the order of its list (R183, R185, R193).
The model's choices it rests on: the field of a gust above 65,535 dm/s is log entry 55. -/
def Obligations.LinkReceivesCharactersAndFrames : Prop :=
  (∀ (c : LinkChar) (i : Nat), (charBits c).getLsbD i = ((c.s1.getLsbD i && c.s2.getLsbD i)
      || (c.s1.getLsbD i && c.s3.getLsbD i) || (c.s2.getLsbD i && c.s3.getLsbD i)))
  ∧ (∀ (c : LinkChar) (i : Nat), i < 8 → (charByte c).getLsbD i = (charBits c).getLsbD (i + 1))
  ∧ (∀ (s : State) (c : LinkChar), s.completes c = false →
    let bad := parityBad c || framingBad c
    exec (.linkFrameReceived c) s = .next s
    ∧ (charStarts c = false → exec (.linkByteReceived c) s = .next s)
    ∧ (charStarts c = true → bad = true → exec (.linkByteReceived c) s = .next { s with
        lif := { s.lif with rx := .hunting }
        flags := (s.flags.raiseIf (parityBad c) .parity).raiseIf (framingBad c) .framing })
    ∧ (charStarts c = true → bad = false →
      (s.lif.rx = .hunting → exec (.linkByteReceived c) s = .next { s with
        lif := { s.lif with rx := if charByte c = 0xC3 then .inFrame [] else .hunting } })
      ∧ ∀ bs, s.lif.rx = .inFrame bs →
        let all := bs ++ [charByte c]
        ((all.length = 2 ∧ 1024 < u16 all 0) ∨ (2 ≤ all.length ∧ all.length = 6 + u16 all 0) →
          exec (.linkByteReceived c) s = .next { s with
            lif := { s.lif with rx := .hunting }, flags := s.flags.raise .badCrc })
        ∧ (¬((all.length = 2 ∧ 1024 < u16 all 0) ∨ (2 ≤ all.length ∧ all.length = 6 + u16 all 0)) →
          exec (.linkByteReceived c) s = .next { s with lif := { s.lif with rx := .inFrame all } })))
  ∧ (∀ (s : State) (c : LinkChar) (bs : List Byte), s.lif.rx = .inFrame bs → charStarts c = true →
    parityBad c = false → framingBad c = false →
    let all := bs ++ [charByte c]
    let n := u16 all 0
    let q : Request := ⟨all.getD 2 0, all.getD 3 0, (all.drop 4).take n⟩
    n ≤ 1024 → all.length = 6 + n → u16 all (4 + n) = (crc16 (all.take (4 + n))).toNat →
    exec (.linkByteReceived c) s = .next s
    ∧ (s.lif.inbox.length < 4 → exec (.linkFrameReceived c) s = .next { s with
        lif := ({ s.lif with rx := .hunting, inbox := s.lif.inbox ++ [q] }).kick })
    ∧ (4 ≤ s.lif.inbox.length → s.lif.busyUsed < 8 → exec (.linkFrameReceived c) s = .next { s with
        lif := ({ s.lif with
          rx := .hunting, answers := s.lif.answers ++ [Waiting.busy ⟨q.tag, q.kind, .busy, []⟩] }).kick
        flags := s.flags.raise .inboxBusy })
    ∧ (4 ≤ s.lif.inbox.length → 8 ≤ s.lif.busyUsed → exec (.linkFrameReceived c) s = .next { s with
        lif := ({ s.lif with rx := .hunting }).kick, flags := s.flags.raise .inboxBusy }))
  ∧ (∀ s : State, (s.lif.rx = .hunting → exec .gapTimeout s = .next s)
    ∧ ∀ bs, s.lif.rx = .inFrame bs → exec .gapTimeout s = .next { s with
        lif := { s.lif with rx := .hunting }, flags := s.flags.raise .gapTimeout })
  ∧ ∀ s : State, (s.lif.tx = none → exec .frameSent s = .next s)
    ∧ (s.lif.tx ≠ none →
      (∀ w rest, s.lif.answers = w :: rest → exec .frameSent s = .next { s with
        lif := { s.lif with tx := some (.answer w), answers := rest } })
      ∧ (∀ r rest, s.lif.answers = [] → s.lif.reports = r :: rest → exec .frameSent s = .next { s with
        lif := { s.lif with tx := some (.report r), reports := rest } })
      ∧ (s.lif.answers = [] → s.lif.reports = [] → exec .frameSent s = .next { s with
        lif := { s.lif with tx := none } }))
  ∧ (let framed (tag kind : Byte) (payload : List Byte) : List Byte :=
      let body := byte2 payload.length ++ [tag, kind] ++ payload
      [0xC3] ++ body ++ byte2 (crc16 body).toNat
    let yes (b : Bool) : List Byte := [if b = true then 1 else 0]
    let causes (k : Causes) : List Byte :=
      [(if k.estop = true then 1 else 0) + (if k.intrA = true then 2 else 0) + (if k.intrB = true then 4 else 0)]
    let time (n : Int) : List Byte := byte4 (BitVec.ofInt 32 n).toNat
    (∀ (a : Answer), let status := a.status = .ok ∨ a.status = .accepted
      let sent := framed a.tag (a.kind + 0x80) (byte1 a.status.code ++ (if status then a.fields else []))
      (Sending.answer (.reply a)).frame = sent ∧ (Sending.answer (.busy a)).frame = sent)
    ∧ (∀ r : Report, (Sending.report r).frame = match r with
      | .ready kind image present => framed 0 0xE0 (byte1 kind.code ++ byte1 image.code ++ yes present)
      | .showState st slot show_ reason => framed 0 0xE1 (byte1 st.code
          ++ (match slot with | some n => 1 :: byte1 n | none => [0, 0])
          ++ (match show_ with | some n => 1 :: time n | none => [0, 0, 0, 0, 0])
          ++ (match reason with | some x => 1 :: byte1 x.code | none => [0, 0]))
      | .mark marker cue show_ => framed 0 0xE2 (byte2 marker ++ byte2 cue ++ time show_)
      | .serviceDone slot k => framed 0 0xE3 (byte1 slot.code ++ byte1 k.status.code ++ [k.kind, k.tag]
          ++ byte1 k.failure.code ++ (match k.cueIndex with | some i => 1 :: byte2 i | none => [0, 0, 0])
          ++ (match k.imageFound with | some i => 1 :: byte1 i.code | none => [0, 0]))
      | .trip k added clock => framed 0 0xE4 (causes k ++ yes added ++ byte4 clock.toNat)
      | .groupState g left entered cause starved sent actual code => framed 0 0xE5 (byte1 g.val
          ++ (match left with | some i => 1 :: byte1 i.code | none => [0, 0])
          ++ byte1 entered.code ++ byte1 cause.code ++ yes starved ++ byte2 sent ++ byte2 actual
          ++ (match code with | some b => [1, b] | none => [0, 0]))
      | .validity channel valid counter fatal => framed 0 0xE6 (byte1 channel.val ++ [if valid = true then 0 else 1]
          ++ byte1 counter ++ yes fatal)
      | .site band gust level mm mode permit => framed 0 0xE7 (byte1 band
          ++ byte2 (if gust ≤ 65535 then gust else Config.gustField gust) ++ byte1 level.code ++ byte2 mm
          ++ byte1 mode.code ++ yes permit)))
  ∧ ([Status.ok, .accepted, .busy, .unknownKind, .badLength, .outOfRange, .wrongState, .showActive, .tripped, .halted].map
        Status.code = List.range 10
    ∧ [Status.levelDry, .inputActive, .locked, .outOfRegion, .noFlash, .delayPool, .duplicate, .slotOverlap, .conflict].map
        Status.code = List.range' 10 9
    ∧ [Failure.none, .badCheck, .badOrder, .badKind, .badGroup, .badFixture, .noClip, .laneFull, .conflict, .aborted,
        .tripped, .flashTimeout].map Failure.code = List.range 12
    ∧ [ShowState.idle, .loading, .armed, .running, .held, .stopping].map ShowState.code = List.range 6
    ∧ [EndReason.stop, .ended, .duration, .dry, .trip, .halt, .disarm, .load].map EndReason.code = List.range 8
    ∧ [Interlock.shut, .opening, .running, .closing, .fault, .lost].map Interlock.code = List.range 6
    ∧ [FaultCause.none, .strokeTimeout, .driveTrip, .switchConflict].map FaultCause.code = List.range 4
    ∧ [PollOutcome.good, .noReply, .badCheck, .wrongAddr, .badSeq].map PollOutcome.code = List.range 5
    ∧ [Valve.close, .openUp, .hold].map Valve.code = List.range 3
    ∧ [DriveState.ready, .run, .trip].map DriveState.code = List.range 3
    ∧ [LevelState.normal, .low, .dry].map LevelState.code = List.range 3
    ∧ [SiteMode.normal, .restricted, .tripped].map SiteMode.code = List.range 3
    ∧ [FadeClock.showClock, .siteClock].map FadeClock.code = List.range 2
    ∧ [LatchOrigin.fromShow, .direct, .house].map LatchOrigin.code = List.range 3
    ∧ [ServiceSlot.arm, .flash, .settings].map ServiceSlot.code = List.range 3
    ∧ [SlotStatus.idle, .queued, .running, .done, .failed].map SlotStatus.code = List.range 5
    ∧ [ImageState.blank, .bad, .loaded, .modified].map ImageState.code = List.range 4
    ∧ [ResetKind.powerOn, .pinReset, .release].map ResetKind.code = List.range 3
    ∧ [LoadOutcome.noLoad, .done, .failed].map LoadOutcome.code = List.range 3)

/-- Every request command: it waits while no reply place is free and while the oldest request is another's; taken, it is refused
in the order of LIF's checks, and nothing but the link changes. UNKNOWN_REQUEST refuses a kind the catalogue lacks. SET_REPORTS
replaces the enable set, and a report is made only where its category is enabled, and dropped, counted and flagged where sixteen
wait (R182, R183, R185; log entry 3).
The model's choices it rests on: which of DIRECT_CLIP's two commands takes a request, by saysStop (a request of the stop's
length that says STOP is the stop's, any other, of a wrong length or an unknown action too, is the play's), is log entry 37. -/
def Obligations.RequestsWaitOrAreRefused : Prop :=
  (∀ (c : Instr) (r : RequestRule) (mine : Request → Bool), (c, r, mine) ∈ requestRows → ∀ s : State,
    (s.lif.inbox = [] → exec c s = .next s)
    ∧ ∀ q, s.lif.inbox.head? = some q →
      (q.kind ≠ r.kind ∨ mine q = false ∨ 4 ≤ s.lif.placesUsed → exec c s = .next s)
      ∧ ∀ st, q.kind = r.kind → mine q = true → s.lif.placesUsed < 4 → s.linkRefusal r q.payload = some st →
        exec c s = .next (s.answered q st []))
  ∧ (∀ (s : State) (q : Request), s.lif.inbox.head? = some q →
    (q.kind ∉ requestKinds → s.lif.placesUsed < 4 → exec .unknownRequest s = .next (s.answered q .unknownKind []))
    ∧ (q.kind ∈ requestKinds ∨ 4 ≤ s.lif.placesUsed → exec .unknownRequest s = .next s))
  ∧ (∀ (s : State) (q : Request), s.takes .setReports q = true → exec .setReports s = .next { s with
      lif := ({ s.lif.answering q .ok [] with enable := (q.payload.getD 0 0).setWidth 6 }).kick })
  ∧ ∀ (s : State) (r : Report),
    let made := ∀ c, r.category = some c → s.lif.enable.getLsbD c.bit = true
    (¬made → s.report r = s)
    ∧ (made → s.lif.reports.length < 16 →
      s.report r = { s with lif := { s.lif with reports := s.lif.reports ++ [r] } })
    ∧ (made → 16 ≤ s.lif.reports.length → s.report r = { s with
        lif := { s.lif with dropped := min 65535 (s.lif.dropped + 1) }, flags := s.flags.raise .reportsDropped })

/-- The status requests answer OK with their fields, in the order and the sizes of the tables of Formats, and change nothing
else; a group or a fixture that does not exist is refused; an optional field is 1 and the field, or zeros (R28, R87, R140, R144,
R158, R186 to R188, R193).
The model's choices it rests on: the levels of a fixture, the unused point bytes, and the field of a gust above 65,535 dm/s are
log entries 30, 15 and 55; the fields of a reply that is not held are entry 61, the moment of the dry timer's value entry 62,
'flash present' before the identification has ended entry 65; that the request has left the inbox that is counted is entry 3. -/
def Obligations.StatusRequestsAnswer : Prop :=
  ∀ (s : State) (q : Request),
    let yes (b : Bool) : List Byte := [if b = true then 1 else 0]
    let two (q : Levels) : List Byte := byte2 q.r ++ byte2 q.g ++ byte2 q.b ++ byte2 q.w
    let time (t : FadeTime) : List Byte := match t with
      | .onShow n => byte4 (BitVec.ofInt 32 n).toNat
      | .onSite n => byte4 n.toNat
    let clock (t : FadeTime) : List Byte := match t with
      | .onShow _ => [0]
      | .onSite _ => [1]
    (s.takes .getIdent q = true → exec .getIdent s = .next (s.answered q .ok
      ([0x54, 0x45, 0x52, 0x47, 0x4F, 0x4C, 0x41, 0x4E] ++ [0x49, 0x4C, 0x42, 0x4F, 0x52, 0x41, 0x20, 0x20]
        ++ [0x46, 0x43, 0x32, 0x34, 0x20, 0x20, 0x20, 0x20] ++ [1, s.lif.bitRate.setWidth 8]
        ++ yes (decide (s.flp.presence = .present))
        ++ (match s.flp.ident with | some i => [1, i.1, i.2.1, i.2.2] | none => [0, 0, 0, 0])
        ++ byte1 s.lif.lastReset.code)))
    ∧ (s.takes .getStatus q = true → exec .getStatus s = .next (s.answered q .ok s.taken.statusFields)
      ∧ s.taken.statusFields.length = 60
      ∧ (let gust := s.sup.winds.foldl max 0
        let effective := if (s.sup.channels.get 1).valid = true then s.sup.measured else .low
        s.taken.statusFields =
        yes s.lif.halted ++ byte4 s.clock.toNat ++ yes (decide (s.flp.presence = .present)) ++ byte1 s.flp.image.code
        ++ byte1 s.seq.st.code ++ (if s.seq.st = .idle then [0, 0] else 1 :: byte1 s.seq.slot)
        ++ (match s.showTime with | some n => 1 :: byte4 (BitVec.ofInt 32 n).toNat | none => [0, 0, 0, 0, 0])
        ++ byte2 s.lgt.overtakes ++ byte1 s.sup.mode.code ++ yes s.sup.permit ++ byte1 s.sup.band
        ++ byte2 (if gust ≤ 65535 then gust else Config.gustField gust) ++ byte2 s.sup.calm ++ byte1 effective.code
        ++ byte1 s.sup.measured.code ++ byte2 s.sup.average ++ byte2 s.sup.level ++ byte4 s.cfg.feeder.budget
        ++ byte2 s.cfg.feeder.share ++ byte4 s.fda.cap ++ byte4 s.fda.load ++ byte2 s.fda.kL ++ byte4 s.fda.allowance
        ++ byte2 s.fda.k ++ byte1 s.lif.armSlot.status.code ++ byte1 s.lif.flashSlot.status.code
        ++ byte1 s.lif.settingsSlot.status.code ++ [s.lif.enable.setWidth 8] ++ byte2 s.lif.dropped
        ++ byte1 s.lif.inbox.tail.length ++ [s.flags.cluster]))
    ∧ (s.takes .getGroup q = true →
      (∀ g : Fin 24, u8 q.payload 0 = g.val → exec .getGroup s =
          .next { s.answered q .ok (s.groupFields g) with fresh := s.fresh + 1 } ∧ (s.groupFields g).length = 115
        ∧ (let x := s.groups.get g
          let r := s.cfg.groups.get g
          let point (l : List Point) (pos i : Nat) : List Byte := match l[i]? with
            | some p => byte2 p.h ++ byte2 p.v
            | none => (List.range 4).map fun j => Config.unusedPointByte s.fresh (pos + 4 * i + j)
          s.groupFields g =
            byte1 g.val ++ yes r.configured ++ byte1 r.address
            ++ byte1 r.curve.length ++ ((List.range 6).flatMap fun i => point r.curve 4 i)
            ++ byte1 r.leads.length ++ ((List.range 4).flatMap fun i => point r.leads 29 i)
            ++ byte2 r.offLead ++ byte2 r.maxHeight ++ byte4 r.rated ++ byte1 r.exposure ++ byte2 r.rampUp
            ++ byte2 r.rampDown ++ byte2 r.closeSpeed ++ byte2 r.wetSpeed ++ byte2 r.stroke
            ++ (match x.interlock with | some i => 1 :: byte1 i.code | none => [0, 0]) ++ byte1 x.cause.code
            ++ byte2 x.fade.start ++ byte2 x.fade.target ++ time x.fade.began ++ byte2 x.fade.dur ++ clock x.fade.began
            ++ byte2 (x.fade.height s.showTime s.clock)
            ++ byte2 x.figs.hc ++ byte2 x.figs.h1 ++ byte2 x.figs.h2 ++ byte2 x.figs.s ++ byte2 x.figs.k
            ++ byte2 x.figs.sp ++ byte2 x.sent ++ byte1 x.valve.code ++ yes x.starved
            ++ (match x.reply with
              | some d => byte2 d.actual ++ yes d.openSw ++ yes d.closedSw
                ++ (if d.drive = .trip then [1, 2, 1, d.code] else [0, 0, 0, 0])
              | none => [0, 0, 0, 0, 0, 0, 0, 0])
            ++ (match s.dbm.last.get (addressIndex r.address) with
              | some l => 1 :: (byte1 l.outcome.code ++ byte4 l.ended.toNat)
              | none => [0, 0, 0, 0, 0, 0])
            ++ (match x.computed with | some t => 1 :: byte4 t.toNat | none => [0, 0, 0, 0, 0])))
      ∧ (24 ≤ u8 q.payload 0 → exec .getGroup s = .next (s.answered q .outOfRange [])))
    ∧ (s.takes .getFixture q = true →
      (∀ f : Fin 96, u8 q.payload 0 = f.val → exec .getFixture s = .next (s.answered q .ok (s.fixtureFields f))
        ∧ (s.fixtureFields f).length = 71
        ∧ (let x := s.lgt.fixtures.get f
          let r := s.cfg.fixtures.get f
          let now := x.fade.levels s.showTime s.clock
          s.fixtureFields f =
            byte1 f.val ++ byte2 r.base ++ (match r.bound with | some g => byte1 g.val | none => [0xFF])
            ++ byte2 r.rated ++ [r.dryCap] ++ byte2 r.dryGrace ++ [r.house.r, r.house.g, r.house.b, r.house.w]
            ++ [r.rescue.r, r.rescue.g, r.rescue.b, r.rescue.w]
            ++ (if r.base = 0 then List.replicate 54 0
              else two x.fade.starts ++ two x.fade.targets ++ time x.fade.began ++ byte2 x.fade.dur
                ++ clock x.fade.began ++ two now
                ++ byte1 (now.r / 256) ++ byte1 (now.g / 256) ++ byte1 (now.b / 256) ++ byte1 (now.w / 256)
                ++ (match x.latch with
                  | some l => 1 :: ([l.colour.r, l.colour.g, l.colour.b, l.colour.w] ++ byte2 l.fade
                    ++ byte1 l.clock.code ++ byte1 l.origin.code)
                  | none => List.replicate 9 0)
                ++ (match x.dryStart with
                  | some d => 1 :: byte4 ((s.clock.toNat + 4294967296 - d.toNat) % 4294967296)
                  | none => [0, 0, 0, 0, 0])
                ++ yes x.capped ++ [x.out.r, x.out.g, x.out.b, x.out.w])))
      ∧ (96 ≤ u8 q.payload 0 → exec .getFixture s = .next (s.answered q .outOfRange [])))
    ∧ (s.takes .getChannels q = true → exec .getChannels s = .next (s.answered q .ok
      ((List.finRange 27).flatMap fun i =>
        let c := s.sup.channels.get i
        let k := s.cfg.counters.get i
        byte1 c.counter ++ byte1 k.limit ++ byte1 k.hold ++ [if c.valid = true then 0 else 1] ++ yes c.fatal
          ++ (match c.last with | some now => 1 :: byte4 now.toNat | none => [0, 0, 0, 0, 0]))))
    ∧ (s.takes .getTripLog q = true → exec .getTripLog s = .next (s.answered q .ok
      (byte1 s.sup.tripLog.length
        ++ (List.range 8).flatMap fun i => match s.sup.tripLog[i]? with
          | some r => [(if r.causes.estop = true then 1 else 0) + (if r.causes.intrA = true then 2 else 0)
              + (if r.causes.intrB = true then 4 else 0)] ++ byte4 r.clock.toNat
            ++ (match r.atShow with
              | some a => 1 :: (byte1 a.1 ++ byte4 (BitVec.ofInt 32 a.2).toNat)
              | none => [0, 0, 0, 0, 0, 0])
            ++ byte1 r.band ++ byte1 r.level.code
          | none => List.replicate 13 0)))
    ∧ (s.takes .getService q = true → exec .getService s = .next (s.answered q .ok
      ([s.lif.armSlot, s.lif.flashSlot, s.lif.settingsSlot].flatMap fun k =>
        byte1 k.status.code ++ [k.kind, k.tag] ++ byte1 k.failure.code
          ++ (match k.cueIndex with | some i => 1 :: byte2 i | none => [0, 0, 0])
          ++ (match k.imageFound with | some i => 1 :: byte1 i.code | none => [0, 0]))))
    ∧ (s.takes .getLoadResult q = true → exec .getLoadResult s = .next (s.answered q .ok
      (let r := s.seq.result
      byte1 r.outcome.code ++ byte1 r.failure.code ++ byte1 r.slot ++ r.label
        ++ (match r.cueIndex with | some i => 1 :: byte2 i | none => [0, 0, 0])
        ++ (match r.counts with
          | some k => 1 :: (byte2 k.cues ++ byte2 k.entries ++ byte2 k.clamps ++ byte2 k.compressed
              ++ byte2 k.overtaken ++ byte2 k.preroll)
          | none => List.replicate 13 0))))

/-- SET_ZONE, SET_WIND, SET_LEVEL, SET_DRIVE_BUS and SET_SHOW_OPTIONS: refused at the first condition of their tables; accepted,
the settings are replaced and the image MODIFIED; a changed delay clears every delay line, new wind settings the calm count, and
a changed announcement clip moves its lock (R60, R61, R110, R149, R153, R171, R172, R174, R189). A payload gives settings
exactly where every one is in its range and stands to the others as its rule asks (R60, R149, R153, R189).
The model's choices it rests on: the order of SET_DRIVE_BUS's refusals is log entry 44, a lock moved during start-up entry 64.
-/
def Obligations.OtherSettingsAreReplaced : Prop :=
  ((∀ (p : List Byte) (z : ZoneRecord), zoneOf p = some z ↔
      u8 p 1 = (match z.source with | .left => 0 | .right => 1 | .mono => 2) ∧ z.gain = u16 p 2 ∧ z.gain ≤ 1000
        ∧ z.delay = u8 p 4 ∧ z.delay ≤ 250)
    ∧ (∀ (p : List Byte) (w : WindSettings), windOf p = some w ↔
      (w.factor = u16 p 0 ∧ 1 ≤ w.factor ∧ w.factor ≤ 2000 ∧ w.plausible = u16 p 2 ∧ 1 ≤ w.plausible
        ∧ w.plausible ≤ 65535 ∧ w.still = u16 p 4 ∧ w.still ≤ 3600)
      ∧ (w.thresholds.length = 7
        ∧ (∀ i, i < 7 → w.thresholds.getD i 0 = u16 p (6 + 2 * i) ∧ 1 ≤ w.thresholds.getD i 0
          ∧ w.thresholds.getD i 0 ≤ 2000)
        ∧ (∀ i, i < 6 → w.thresholds.getD i 0 < w.thresholds.getD (i + 1) 0)
        ∧ w.hysteresis = u8 p 20 ∧ w.hysteresis ≤ 50 ∧ w.hysteresis < w.thresholds.getD 0 0)
      ∧ (w.calmHold = u16 p 21 ∧ 5 ≤ w.calmHold ∧ w.calmHold ≤ 300)
      ∧ (w.derate.length = 32
        ∧ (∀ i, i < 32 → w.derate.getD i 0 = u16 p (23 + 2 * i) ∧ w.derate.getD i 0 ≤ 1000)
        ∧ ∀ c b, c < 4 → b < 7 → w.derate.getD (8 * c + (b + 1)) 0 ≤ w.derate.getD (8 * c + b) 0))
    ∧ (∀ (p : List Byte) (l : LevelSettings), levelOf p = some l ↔
      l.span = u16 p 0 ∧ 500 ≤ l.span ∧ l.span ≤ 10000 ∧ l.low = u16 p 2 ∧ l.dry = u16 p 4 ∧ 0 < l.dry ∧ l.dry < l.low
        ∧ l.low < l.span ∧ l.lowCap = u16 p 6 ∧ l.lowCap ≤ 800)
    ∧ ∀ (p : List Byte) (o : ShowOptions), optionsOf p = some o ↔
      o.masterGain = u16 p 0 ∧ o.masterGain ≤ 1000 ∧ o.annClip = u8 p 2 ∧ o.annClip ≤ 64 ∧ o.gap = u8 p 3 ∧ o.gap ≤ 30
        ∧ o.stopFade = u16 p 4 ∧ o.stopFade ≤ 10000)
  ∧ ∀ (s : State) (q : Request),
    let done := (s.lif.answering q .ok []).kick
    (s.takes .setZone q = true →
      (4 ≤ u8 q.payload 0 → exec .setZone s = .next (s.answered q .outOfRange []))
      ∧ ∀ z : Fin 4, u8 q.payload 0 = z.val →
        (s.seq.st ≠ .idle → exec .setZone s = .next (s.answered q .showActive []))
        ∧ (s.seq.st = .idle → zoneOf q.payload = none → exec .setZone s = .next (s.answered q .outOfRange []))
        ∧ ∀ r, s.seq.st = .idle → zoneOf q.payload = some r →
          let zones := s.cfg.zones.set z r
          (24000 < ((List.finRange 4).map fun i => 48 * (zones.get i).delay).sum →
            exec .setZone s = .next (s.answered q .delayPool []))
          ∧ (((List.finRange 4).map fun i => 48 * (zones.get i).delay).sum ≤ 24000 → exec .setZone s = .next { s with
              cfg := { s.cfg with zones := zones }
              flp := s.markModified.flp
              lif := done
              aud := { s.aud with
                lines := (if r.delay = (s.cfg.zones.get z).delay then s.aud.lines
                  else Table.ofFn (fun i => List.replicate (48 * (zones.get i).delay) 0)) } }))
    ∧ (s.takes .setWind q = true →
      (s.seq.st ≠ .idle → exec .setWind s = .next (s.answered q .showActive []))
      ∧ (s.seq.st = .idle → windOf q.payload = none → exec .setWind s = .next (s.answered q .outOfRange []))
      ∧ ∀ w, s.seq.st = .idle → windOf q.payload = some w → exec .setWind s = .next { s with
          cfg := { s.cfg with wind := w }, flp := s.markModified.flp, lif := done, sup := { s.sup with calm := 0 } })
    ∧ (s.takes .setLevel q = true →
      (s.seq.st ≠ .idle → exec .setLevel s = .next (s.answered q .showActive []))
      ∧ (s.seq.st = .idle → levelOf q.payload = none → exec .setLevel s = .next (s.answered q .outOfRange []))
      ∧ ∀ l, s.seq.st = .idle → levelOf q.payload = some l → exec .setLevel s = .next { s with
          cfg := { s.cfg with level := l }, flp := s.markModified.flp, lif := done })
    ∧ (s.takes .setDriveBus q = true →
      let w := u8 q.payload 0
      (s.seq.st ≠ .idle → exec .setDriveBus s = .next (s.answered q .showActive []))
      ∧ (s.seq.st = .idle → w = 0 ∨ 10 < w → exec .setDriveBus s = .next (s.answered q .outOfRange []))
      ∧ (s.seq.st = .idle → 1 ≤ w → w ≤ 10 → exec .setDriveBus s = .next { s with
          cfg := { s.cfg with window := w }, flp := s.markModified.flp, lif := done }))
    ∧ (s.takes .setShowOptions q = true →
      (optionsOf q.payload = none → exec .setShowOptions s = .next (s.answered q .outOfRange []))
      ∧ ∀ o, optionsOf q.payload = some o →
        let held := s.cfg.options
        let ann := o.annClip ≠ held.annClip ∨ o.gap ≠ held.gap
        (s.seq.st ≠ .idle → ann ∨ o.stopFade ≠ held.stopFade →
          exec .setShowOptions s = .next (s.answered q .showActive []))
        ∧ (s.seq.st = .idle → s.sup.mode = .tripped → ann →
          exec .setShowOptions s = .next (s.answered q .tripped []))
        ∧ (¬(s.seq.st ≠ .idle ∧ (ann ∨ o.stopFade ≠ held.stopFade)) → ¬(s.sup.mode = .tripped ∧ ann) →
          ∃ t, exec .setShowOptions s = .next t ∧ t.cfg = { s.cfg with options := o } ∧ t.flp.image = .modified
            ∧ t.lif = done ∧ (o.annClip = held.annClip → t.flp = s.markModified.flp)
            ∧ (o.annClip ≠ held.annClip →
              (lookupClip s.aud.clips o.annClip = none → t.flp.annWaiting = none
                ∧ t.flp.locks = s.flp.locks.filter fun k => k.owner.ofShow)
              ∧ ∀ c, lookupClip s.aud.clips o.annClip = some c →
                let e := clipExtent c
                if s.flp.serviceMeets e = true then
                  t.flp.annWaiting = some e ∧ t.flp.locks = s.flp.locks.filter fun k => k.owner.ofShow
                else t.flp.annWaiting = none ∧ t.flp.locks =
                  (s.flp.locks.filter fun k => k.owner.ofShow) ++ [⟨.announcement, e.1, e.2⟩])
            ∧ t = { s with cfg := t.cfg, flp := t.flp, lif := t.lif }))

/-- DIRECT_CLIP: refused at the first condition of R67's table; a play gives the clip, PENDING from frame 0, to the buffer that
is not PLAYING, with none PLAYING to one that is PENDING, else to A; a stop empties both buffers at once (R49, R54, R67; log
entry 37). -/
def Obligations.DirectClipPlaysAndStops : Prop :=
  ∀ (s : State) (q : Request), s.takes .directClip q = true →
    (saysStop q = false →
      (s.seq.st ≠ .idle → exec .directClipPlay s = .next (s.answered q .showActive []))
      ∧ (s.seq.st = .idle → s.sup.mode = .tripped → exec .directClipPlay s = .next (s.answered q .tripped []))
      ∧ (s.seq.st = .idle → s.sup.mode ≠ .tripped →
        (u8 q.payload 0 ≠ 1 ∨ lookupClip s.aud.clips (u8 q.payload 1) = none →
          exec .directClipPlay s = .next (s.answered q .outOfRange []))
        ∧ ∀ c, u8 q.payload 0 = 1 → lookupClip s.aud.clips (u8 q.payload 1) = some c →
          ∃ t, exec .directClipPlay s = .next t ∧ s.OnlyAudio t ∧ t.aud.playing = s.aud.playing
            ∧ (∀ i, s.aud.playing = some i → s.aud.chooseBuf = i.other)
            ∧ (s.aud.playing = none → s.aud.chooseBuf = if s.aud.bufA = none ∧ s.aud.bufB ≠ none then .b else .a)
            ∧ (∃ st, t.aud.buf s.aud.chooseBuf = some st ∧ st.playing = false ∧ st.origin = .direct
              ∧ st.id = u8 q.payload 1 ∧ st.clip = c ∧ st.first = 0 ∧ st.read = 0 ∧ st.held = [])
            ∧ ((s.aud.buf s.aud.chooseBuf).isSome = true → t.flags.has .clipReplaced = true)))
    ∧ (saysStop q = true →
      (s.seq.st ≠ .idle → exec .directClipStop s = .next (s.answered q .showActive []))
      ∧ (s.seq.st = .idle → s.sup.mode = .tripped → exec .directClipStop s = .next (s.answered q .tripped []))
      ∧ (s.seq.st = .idle → s.sup.mode ≠ .tripped → ∃ t, exec .directClipStop s = .next t
        ∧ t.aud.bufA = none ∧ t.aud.bufB = none ∧ (∀ k, t.aud.chunk = some k → k.owner = none)
        ∧ t.aud = { s.aud with bufA := none, bufB := none, chunk := t.aud.chunk }
        ∧ t = { s with aud := t.aud, lif := (s.lif.answering q .ok []).kick }))

/-- HALT: the part is halted, the show IDLE (a load ABORTED), every group brought down as by a trip with its last figures kept,
the lights dark, AUD empty, PERMIT low; the site's trip stands (R43, R69, R89, R100, R141, R157, R190). RELEASE: refused when
not halted; taken, the clock, the show, the figures and the band are as at a reset, the working settings, the trip log, the trip
and the fatal channels stay, and each configured group enters CLOSING, or LOST with its channel still INVALID (R17, R89, R102,
R122, R162, R191). DIRECTORY_READ_DONE of the copy that RELEASE asks for: the clip table is settled, the announcement's lock
follows it, a site that is TRIPPED has its announcement restarted, READY is sent with the kind RELEASE, and PERMIT rises where
the start-up mark is set, the part is not halted and the site not TRIPPED (R14, R65, R157, R178, R191).
The model's choices it rests on: details of RELEASE are log entry 40, the READY report before PERMIT entry 47, and the
transmitter that takes it at once entry 22. -/
def Obligations.HaltAndRelease : Prop :=
  (∀ s : State, s.flp.port = .reading .directory → s.aud.copying = some .release → s.aud.copyQueue = [] →
    ∃ t, exec .directoryReadDone s = .next t
      ∧ t.aud.clips = settleDirectory (Memory.readBytes s.flash 0x110000 4096) ∧ t.aud.copying = none
      ∧ s.relocked t ∧ s.restartsAnnouncement t
      ∧ (t.sup.permit = true ↔ s.sup.permit = true
        ∨ (s.sup.startMark = true ∧ s.lif.halted = false ∧ s.sup.mode ≠ .tripped))
      ∧ (s.lif.reports.length < 16 →
        let ready : Report := .ready .release s.flp.image (decide (s.flp.presence = .present))
        ready ∈ t.lif.reports ∨ t.lif.tx = some (.report ready))
      ∧ t.sup.startMark = s.sup.startMark ∧ t.sup.channels = s.sup.channels ∧ t.flp.image = s.flp.image
      ∧ t.flp.settingsWork = s.flp.settingsWork ∧ t.cfg = s.cfg ∧ t.clock = s.clock ∧ t.seq = s.seq
      ∧ t.groups = s.groups ∧ t.dbm = s.dbm ∧ t.lgt = s.lgt ∧ t.fda = s.fda ∧ t.pins = s.pins ∧ t.flash = s.flash) ∧
  (∀ (s : State) (q : Request), s.takes .halt q = true → ∃ t, exec .halt s = .next t ∧ t.lif.halted = true
    ∧ t.seq.st = .idle ∧ t.seq.lanes = (if s.seq.st = .idle then s.seq.lanes else Lanes.empty)
    ∧ (s.seq.st = .loading → t.seq.result.outcome = .failed ∧ t.seq.result.failure = .aborted)
    ∧ (∀ g : Fin 24, t.groups.get g = s.downGroup g)
    ∧ (∀ f : Fin 96, (t.lgt.fixtures.get f).latch = none ∧ (t.lgt.fixtures.get f).fade.starts = Quad.fill 0
      ∧ (t.lgt.fixtures.get f).fade.targets = Quad.fill 0 ∧ (t.lgt.fixtures.get f).fade.dur = 0)
    ∧ t.aud.bufA = none ∧ t.aud.bufB = none ∧ t.aud.m = 960 ∧ t.aud.target = 960 ∧ t.aud.count = 0
    ∧ t.aud.counting = false ∧ t.sup.permit = false ∧ t.sup.dropTimer = none ∧ t.sup.causes = s.sup.causes
    ∧ t.sup.tripLog = s.sup.tripLog ∧ t.sup.channels = s.sup.channels ∧ t.cfg = s.cfg ∧ t.clock = s.clock
    ∧ t.dbm = s.dbm ∧ t.fda = s.fda ∧ t.pins = s.pins)
  ∧ ∀ (s : State) (q : Request) (inputs : Inputs), s.takes .release q = true →
    (s.lif.halted = false → exec (.release inputs) s = .next (s.answered q .wrongState []))
    ∧ (s.lif.halted = true → ∃ t, exec (.release inputs) s = .next t ∧ t.lif.halted = false
      ∧ t.lif.lastReset = .release ∧ t.clock = 0 ∧ t.cfg = s.cfg ∧ t.dbm = s.dbm ∧ t.pins = inputs
      ∧ t.seq.st = .idle ∧ t.seq.result = LoadResult.empty ∧ t.lgt = Lgt.reset
      ∧ (∀ g : Fin 24, t.fda.demand.get g = 0) ∧ t.fda.load = 0
      ∧ t.sup.band = 7 ∧ t.sup.gates = 0 ∧ t.sup.measured = .low ∧ t.sup.startMark = s.sup.startMark
      ∧ (∀ i : Fin 27, t.sup.channels.get i = if (s.sup.channels.get i).fatal = true then
          { s.sup.channels.get i with last := none } else ⟨0, true, false, none⟩)
      ∧ (∀ g : Fin 24, (t.groups.get g).interlock = (s.groups.get g).interlock.map fun _ =>
          if (s.sup.channels.get (driveChannel g)).fatal = true
            ∧ (s.sup.channels.get (driveChannel g)).valid = false then .lost else .closing)
      ∧ (∀ g : Fin 24, (t.groups.get g).sent = 0 ∧ (t.groups.get g).reply = none)
      ∧ (s.sup.mode = .tripped → t.sup.mode = .tripped ∧ t.sup.causes = s.sup.causes
        ∧ t.sup.tripLog = s.sup.tripLog)
      ∧ (s.sup.mode ≠ .tripped → inputs = ⟨false, false, false⟩ → t.sup.mode = .restricted
        ∧ t.sup.tripLog = s.sup.tripLog ∧ t.sup.permit = (decide (s.flp.presence = .missing) && s.sup.startMark))
      ∧ (s.sup.mode ≠ .tripped → inputs ≠ ⟨false, false, false⟩ → s.sup.causes = Causes.none →
        t.sup.mode = .tripped ∧ t.sup.permit = false ∧ t.sup.causes = ⟨inputs.estop, inputs.intrA, inputs.intrB⟩
        ∧ t.sup.tripLog = (⟨t.sup.causes, 0, none, 7, .low⟩ :: s.sup.tripLog).take 8))
end

