-- ==== Sys2Proof/Laws/State.lean ====
section
/-! SUPPORT. What each update of State leaves as it was: one lemma for each field it does not touch. -/

namespace Sys2Proof.Machine.State

variable (s : State)

/-! ### report -/

@[simp] theorem report_cfg (r : Report) : (s.report r).cfg = s.cfg := rfl
@[simp] theorem report_clock (r : Report) : (s.report r).clock = s.clock := rfl
@[simp] theorem report_seq (r : Report) : (s.report r).seq = s.seq := rfl
@[simp] theorem report_aud (r : Report) : (s.report r).aud = s.aud := rfl
@[simp] theorem report_groups (r : Report) : (s.report r).groups = s.groups := rfl
@[simp] theorem report_dbm (r : Report) : (s.report r).dbm = s.dbm := rfl
@[simp] theorem report_lgt (r : Report) : (s.report r).lgt = s.lgt := rfl
@[simp] theorem report_fda (r : Report) : (s.report r).fda = s.fda := rfl
@[simp] theorem report_sup (r : Report) : (s.report r).sup = s.sup := rfl
@[simp] theorem report_flp (r : Report) : (s.report r).flp = s.flp := rfl
@[simp] theorem report_flash (r : Report) : (s.report r).flash = s.flash := rfl
@[simp] theorem report_pins (r : Report) : (s.report r).pins = s.pins := rfl
@[simp] theorem report_fresh (r : Report) : (s.report r).fresh = s.fresh := rfl
@[simp] theorem report_pending (r : Report) : (s.report r).pending = s.pending := rfl

/-! ### flag -/

@[simp] theorem flag_cfg (f : Flag) : (s.flag f).cfg = s.cfg := rfl
@[simp] theorem flag_clock (f : Flag) : (s.flag f).clock = s.clock := rfl
@[simp] theorem flag_lif (f : Flag) : (s.flag f).lif = s.lif := rfl
@[simp] theorem flag_seq (f : Flag) : (s.flag f).seq = s.seq := rfl
@[simp] theorem flag_aud (f : Flag) : (s.flag f).aud = s.aud := rfl
@[simp] theorem flag_groups (f : Flag) : (s.flag f).groups = s.groups := rfl
@[simp] theorem flag_dbm (f : Flag) : (s.flag f).dbm = s.dbm := rfl
@[simp] theorem flag_lgt (f : Flag) : (s.flag f).lgt = s.lgt := rfl
@[simp] theorem flag_fda (f : Flag) : (s.flag f).fda = s.fda := rfl
@[simp] theorem flag_sup (f : Flag) : (s.flag f).sup = s.sup := rfl
@[simp] theorem flag_flp (f : Flag) : (s.flag f).flp = s.flp := rfl
@[simp] theorem flag_flash (f : Flag) : (s.flag f).flash = s.flash := rfl
@[simp] theorem flag_pins (f : Flag) : (s.flag f).pins = s.pins := rfl
@[simp] theorem flag_fresh (f : Flag) : (s.flag f).fresh = s.fresh := rfl
@[simp] theorem flag_pending (f : Flag) : (s.flag f).pending = s.pending := rfl

/-! ### flagIf -/

@[simp] theorem flagIf_cfg (c : Bool) (f : Flag) : (s.flagIf c f).cfg = s.cfg := rfl
@[simp] theorem flagIf_clock (c : Bool) (f : Flag) : (s.flagIf c f).clock = s.clock := rfl
@[simp] theorem flagIf_lif (c : Bool) (f : Flag) : (s.flagIf c f).lif = s.lif := rfl
@[simp] theorem flagIf_seq (c : Bool) (f : Flag) : (s.flagIf c f).seq = s.seq := rfl
@[simp] theorem flagIf_aud (c : Bool) (f : Flag) : (s.flagIf c f).aud = s.aud := rfl
@[simp] theorem flagIf_groups (c : Bool) (f : Flag) : (s.flagIf c f).groups = s.groups := rfl
@[simp] theorem flagIf_dbm (c : Bool) (f : Flag) : (s.flagIf c f).dbm = s.dbm := rfl
@[simp] theorem flagIf_lgt (c : Bool) (f : Flag) : (s.flagIf c f).lgt = s.lgt := rfl
@[simp] theorem flagIf_fda (c : Bool) (f : Flag) : (s.flagIf c f).fda = s.fda := rfl
@[simp] theorem flagIf_sup (c : Bool) (f : Flag) : (s.flagIf c f).sup = s.sup := rfl
@[simp] theorem flagIf_flp (c : Bool) (f : Flag) : (s.flagIf c f).flp = s.flp := rfl
@[simp] theorem flagIf_flash (c : Bool) (f : Flag) : (s.flagIf c f).flash = s.flash := rfl
@[simp] theorem flagIf_pins (c : Bool) (f : Flag) : (s.flagIf c f).pins = s.pins := rfl
@[simp] theorem flagIf_fresh (c : Bool) (f : Flag) : (s.flagIf c f).fresh = s.fresh := rfl
@[simp] theorem flagIf_pending (c : Bool) (f : Flag) : (s.flagIf c f).pending = s.pending := rfl

/-! ### reply -/

@[simp] theorem reply_cfg (t k : Byte) (st : Status) (fs : List Byte) : (s.reply t k st fs).cfg = s.cfg := rfl
@[simp] theorem reply_clock (t k : Byte) (st : Status) (fs : List Byte) : (s.reply t k st fs).clock = s.clock := rfl
@[simp] theorem reply_seq (t k : Byte) (st : Status) (fs : List Byte) : (s.reply t k st fs).seq = s.seq := rfl
@[simp] theorem reply_aud (t k : Byte) (st : Status) (fs : List Byte) : (s.reply t k st fs).aud = s.aud := rfl
@[simp] theorem reply_groups (t k : Byte) (st : Status) (fs : List Byte) : (s.reply t k st fs).groups = s.groups := rfl
@[simp] theorem reply_dbm (t k : Byte) (st : Status) (fs : List Byte) : (s.reply t k st fs).dbm = s.dbm := rfl
@[simp] theorem reply_lgt (t k : Byte) (st : Status) (fs : List Byte) : (s.reply t k st fs).lgt = s.lgt := rfl
@[simp] theorem reply_fda (t k : Byte) (st : Status) (fs : List Byte) : (s.reply t k st fs).fda = s.fda := rfl
@[simp] theorem reply_sup (t k : Byte) (st : Status) (fs : List Byte) : (s.reply t k st fs).sup = s.sup := rfl
@[simp] theorem reply_flags (t k : Byte) (st : Status) (fs : List Byte) : (s.reply t k st fs).flags = s.flags := rfl
@[simp] theorem reply_flp (t k : Byte) (st : Status) (fs : List Byte) : (s.reply t k st fs).flp = s.flp := rfl
@[simp] theorem reply_flash (t k : Byte) (st : Status) (fs : List Byte) : (s.reply t k st fs).flash = s.flash := rfl
@[simp] theorem reply_pins (t k : Byte) (st : Status) (fs : List Byte) : (s.reply t k st fs).pins = s.pins := rfl
@[simp] theorem reply_fresh (t k : Byte) (st : Status) (fs : List Byte) : (s.reply t k st fs).fresh = s.fresh := rfl
@[simp] theorem reply_pending (t k : Byte) (st : Status) (fs : List Byte) : (s.reply t k st fs).pending = s.pending := rfl

/-! ### kick -/

@[simp] theorem kick_cfg : (s.kick).cfg = s.cfg := rfl
@[simp] theorem kick_clock : (s.kick).clock = s.clock := rfl
@[simp] theorem kick_seq : (s.kick).seq = s.seq := rfl
@[simp] theorem kick_aud : (s.kick).aud = s.aud := rfl
@[simp] theorem kick_groups : (s.kick).groups = s.groups := rfl
@[simp] theorem kick_dbm : (s.kick).dbm = s.dbm := rfl
@[simp] theorem kick_lgt : (s.kick).lgt = s.lgt := rfl
@[simp] theorem kick_fda : (s.kick).fda = s.fda := rfl
@[simp] theorem kick_sup : (s.kick).sup = s.sup := rfl
@[simp] theorem kick_flags : (s.kick).flags = s.flags := rfl
@[simp] theorem kick_flp : (s.kick).flp = s.flp := rfl
@[simp] theorem kick_flash : (s.kick).flash = s.flash := rfl
@[simp] theorem kick_pins : (s.kick).pins = s.pins := rfl
@[simp] theorem kick_fresh : (s.kick).fresh = s.fresh := rfl
@[simp] theorem kick_pending : (s.kick).pending = s.pending := rfl

/-! ### tick -/

@[simp] theorem tick_cfg : (s.tick).cfg = s.cfg := rfl
@[simp] theorem tick_clock : (s.tick).clock = s.clock := rfl
@[simp] theorem tick_lif : (s.tick).lif = s.lif := rfl
@[simp] theorem tick_seq : (s.tick).seq = s.seq := rfl
@[simp] theorem tick_aud : (s.tick).aud = s.aud := rfl
@[simp] theorem tick_groups : (s.tick).groups = s.groups := rfl
@[simp] theorem tick_dbm : (s.tick).dbm = s.dbm := rfl
@[simp] theorem tick_lgt : (s.tick).lgt = s.lgt := rfl
@[simp] theorem tick_fda : (s.tick).fda = s.fda := rfl
@[simp] theorem tick_sup : (s.tick).sup = s.sup := rfl
@[simp] theorem tick_flags : (s.tick).flags = s.flags := rfl
@[simp] theorem tick_flp : (s.tick).flp = s.flp := rfl
@[simp] theorem tick_flash : (s.tick).flash = s.flash := rfl
@[simp] theorem tick_pins : (s.tick).pins = s.pins := rfl
@[simp] theorem tick_pending : (s.tick).pending = s.pending := rfl

/-! ### beginService -/

@[simp] theorem beginService_cfg (k : ServiceSlot) (st : SlotStatus) (kd tg : Byte) : (s.beginService k st kd tg).cfg = s.cfg := rfl
@[simp] theorem beginService_clock (k : ServiceSlot) (st : SlotStatus) (kd tg : Byte) : (s.beginService k st kd tg).clock = s.clock := rfl
@[simp] theorem beginService_seq (k : ServiceSlot) (st : SlotStatus) (kd tg : Byte) : (s.beginService k st kd tg).seq = s.seq := rfl
@[simp] theorem beginService_aud (k : ServiceSlot) (st : SlotStatus) (kd tg : Byte) : (s.beginService k st kd tg).aud = s.aud := rfl
@[simp] theorem beginService_groups (k : ServiceSlot) (st : SlotStatus) (kd tg : Byte) : (s.beginService k st kd tg).groups = s.groups := rfl
@[simp] theorem beginService_dbm (k : ServiceSlot) (st : SlotStatus) (kd tg : Byte) : (s.beginService k st kd tg).dbm = s.dbm := rfl
@[simp] theorem beginService_lgt (k : ServiceSlot) (st : SlotStatus) (kd tg : Byte) : (s.beginService k st kd tg).lgt = s.lgt := rfl
@[simp] theorem beginService_fda (k : ServiceSlot) (st : SlotStatus) (kd tg : Byte) : (s.beginService k st kd tg).fda = s.fda := rfl
@[simp] theorem beginService_sup (k : ServiceSlot) (st : SlotStatus) (kd tg : Byte) : (s.beginService k st kd tg).sup = s.sup := rfl
@[simp] theorem beginService_flags (k : ServiceSlot) (st : SlotStatus) (kd tg : Byte) : (s.beginService k st kd tg).flags = s.flags := rfl
@[simp] theorem beginService_flp (k : ServiceSlot) (st : SlotStatus) (kd tg : Byte) : (s.beginService k st kd tg).flp = s.flp := rfl
@[simp] theorem beginService_flash (k : ServiceSlot) (st : SlotStatus) (kd tg : Byte) : (s.beginService k st kd tg).flash = s.flash := rfl
@[simp] theorem beginService_pins (k : ServiceSlot) (st : SlotStatus) (kd tg : Byte) : (s.beginService k st kd tg).pins = s.pins := rfl
@[simp] theorem beginService_fresh (k : ServiceSlot) (st : SlotStatus) (kd tg : Byte) : (s.beginService k st kd tg).fresh = s.fresh := rfl
@[simp] theorem beginService_pending (k : ServiceSlot) (st : SlotStatus) (kd tg : Byte) : (s.beginService k st kd tg).pending = s.pending := rfl

/-! ### endService -/

@[simp] theorem endService_cfg (k : ServiceSlot) (f : Failure) (c : Option Nat) (i : Option ImageState) : (s.endService k f c i).cfg = s.cfg := rfl
@[simp] theorem endService_clock (k : ServiceSlot) (f : Failure) (c : Option Nat) (i : Option ImageState) : (s.endService k f c i).clock = s.clock := rfl
@[simp] theorem endService_seq (k : ServiceSlot) (f : Failure) (c : Option Nat) (i : Option ImageState) : (s.endService k f c i).seq = s.seq := rfl
@[simp] theorem endService_aud (k : ServiceSlot) (f : Failure) (c : Option Nat) (i : Option ImageState) : (s.endService k f c i).aud = s.aud := rfl
@[simp] theorem endService_groups (k : ServiceSlot) (f : Failure) (c : Option Nat) (i : Option ImageState) : (s.endService k f c i).groups = s.groups := rfl
@[simp] theorem endService_dbm (k : ServiceSlot) (f : Failure) (c : Option Nat) (i : Option ImageState) : (s.endService k f c i).dbm = s.dbm := rfl
@[simp] theorem endService_lgt (k : ServiceSlot) (f : Failure) (c : Option Nat) (i : Option ImageState) : (s.endService k f c i).lgt = s.lgt := rfl
@[simp] theorem endService_fda (k : ServiceSlot) (f : Failure) (c : Option Nat) (i : Option ImageState) : (s.endService k f c i).fda = s.fda := rfl
@[simp] theorem endService_sup (k : ServiceSlot) (f : Failure) (c : Option Nat) (i : Option ImageState) : (s.endService k f c i).sup = s.sup := rfl
@[simp] theorem endService_flp (k : ServiceSlot) (f : Failure) (c : Option Nat) (i : Option ImageState) : (s.endService k f c i).flp = s.flp := rfl
@[simp] theorem endService_flash (k : ServiceSlot) (f : Failure) (c : Option Nat) (i : Option ImageState) : (s.endService k f c i).flash = s.flash := rfl
@[simp] theorem endService_pins (k : ServiceSlot) (f : Failure) (c : Option Nat) (i : Option ImageState) : (s.endService k f c i).pins = s.pins := rfl
@[simp] theorem endService_fresh (k : ServiceSlot) (f : Failure) (c : Option Nat) (i : Option ImageState) : (s.endService k f c i).fresh = s.fresh := rfl
@[simp] theorem endService_pending (k : ServiceSlot) (f : Failure) (c : Option Nat) (i : Option ImageState) : (s.endService k f c i).pending = s.pending := rfl

/-! ### sayShow -/

@[simp] theorem sayShow_cfg (r : Option EndReason) : (s.sayShow r).cfg = s.cfg := rfl
@[simp] theorem sayShow_clock (r : Option EndReason) : (s.sayShow r).clock = s.clock := rfl
@[simp] theorem sayShow_seq (r : Option EndReason) : (s.sayShow r).seq = s.seq := rfl
@[simp] theorem sayShow_aud (r : Option EndReason) : (s.sayShow r).aud = s.aud := rfl
@[simp] theorem sayShow_groups (r : Option EndReason) : (s.sayShow r).groups = s.groups := rfl
@[simp] theorem sayShow_dbm (r : Option EndReason) : (s.sayShow r).dbm = s.dbm := rfl
@[simp] theorem sayShow_lgt (r : Option EndReason) : (s.sayShow r).lgt = s.lgt := rfl
@[simp] theorem sayShow_fda (r : Option EndReason) : (s.sayShow r).fda = s.fda := rfl
@[simp] theorem sayShow_sup (r : Option EndReason) : (s.sayShow r).sup = s.sup := rfl
@[simp] theorem sayShow_flp (r : Option EndReason) : (s.sayShow r).flp = s.flp := rfl
@[simp] theorem sayShow_flash (r : Option EndReason) : (s.sayShow r).flash = s.flash := rfl
@[simp] theorem sayShow_pins (r : Option EndReason) : (s.sayShow r).pins = s.pins := rfl
@[simp] theorem sayShow_fresh (r : Option EndReason) : (s.sayShow r).fresh = s.fresh := rfl
@[simp] theorem sayShow_pending (r : Option EndReason) : (s.sayShow r).pending = s.pending := rfl

/-! ### rescale -/

@[simp] theorem rescale_cfg : (s.rescale).cfg = s.cfg := rfl
@[simp] theorem rescale_clock : (s.rescale).clock = s.clock := rfl
@[simp] theorem rescale_lif : (s.rescale).lif = s.lif := rfl
@[simp] theorem rescale_seq : (s.rescale).seq = s.seq := rfl
@[simp] theorem rescale_aud : (s.rescale).aud = s.aud := rfl
@[simp] theorem rescale_groups : (s.rescale).groups = s.groups := rfl
@[simp] theorem rescale_dbm : (s.rescale).dbm = s.dbm := rfl
@[simp] theorem rescale_lgt : (s.rescale).lgt = s.lgt := rfl
@[simp] theorem rescale_sup : (s.rescale).sup = s.sup := rfl
@[simp] theorem rescale_flp : (s.rescale).flp = s.flp := rfl
@[simp] theorem rescale_flash : (s.rescale).flash = s.flash := rfl
@[simp] theorem rescale_pins : (s.rescale).pins = s.pins := rfl
@[simp] theorem rescale_fresh : (s.rescale).fresh = s.fresh := rfl
@[simp] theorem rescale_pending : (s.rescale).pending = s.pending := rfl

/-! ### refeed -/

@[simp] theorem refeed_cfg : (s.refeed).cfg = s.cfg := rfl
@[simp] theorem refeed_clock : (s.refeed).clock = s.clock := rfl
@[simp] theorem refeed_lif : (s.refeed).lif = s.lif := rfl
@[simp] theorem refeed_seq : (s.refeed).seq = s.seq := rfl
@[simp] theorem refeed_aud : (s.refeed).aud = s.aud := rfl
@[simp] theorem refeed_groups : (s.refeed).groups = s.groups := rfl
@[simp] theorem refeed_dbm : (s.refeed).dbm = s.dbm := rfl
@[simp] theorem refeed_lgt : (s.refeed).lgt = s.lgt := rfl
@[simp] theorem refeed_sup : (s.refeed).sup = s.sup := rfl
@[simp] theorem refeed_flp : (s.refeed).flp = s.flp := rfl
@[simp] theorem refeed_flash : (s.refeed).flash = s.flash := rfl
@[simp] theorem refeed_pins : (s.refeed).pins = s.pins := rfl
@[simp] theorem refeed_fresh : (s.refeed).fresh = s.fresh := rfl
@[simp] theorem refeed_pending : (s.refeed).pending = s.pending := rfl

/-! ### postLight -/

@[simp] theorem postLight_cfg (l : Nat) : (s.postLight l).cfg = s.cfg := rfl
@[simp] theorem postLight_clock (l : Nat) : (s.postLight l).clock = s.clock := rfl
@[simp] theorem postLight_lif (l : Nat) : (s.postLight l).lif = s.lif := rfl
@[simp] theorem postLight_seq (l : Nat) : (s.postLight l).seq = s.seq := rfl
@[simp] theorem postLight_aud (l : Nat) : (s.postLight l).aud = s.aud := rfl
@[simp] theorem postLight_groups (l : Nat) : (s.postLight l).groups = s.groups := rfl
@[simp] theorem postLight_dbm (l : Nat) : (s.postLight l).dbm = s.dbm := rfl
@[simp] theorem postLight_lgt (l : Nat) : (s.postLight l).lgt = s.lgt := rfl
@[simp] theorem postLight_sup (l : Nat) : (s.postLight l).sup = s.sup := rfl
@[simp] theorem postLight_flp (l : Nat) : (s.postLight l).flp = s.flp := rfl
@[simp] theorem postLight_flash (l : Nat) : (s.postLight l).flash = s.flash := rfl
@[simp] theorem postLight_pins (l : Nat) : (s.postLight l).pins = s.pins := rfl
@[simp] theorem postLight_fresh (l : Nat) : (s.postLight l).fresh = s.fresh := rfl
@[simp] theorem postLight_pending (l : Nat) : (s.postLight l).pending = s.pending := rfl

/-! ### startTxn -/

@[simp] theorem startTxn_cfg (t : Txn) : (s.startTxn t).cfg = s.cfg := rfl
@[simp] theorem startTxn_clock (t : Txn) : (s.startTxn t).clock = s.clock := rfl
@[simp] theorem startTxn_seq (t : Txn) : (s.startTxn t).seq = s.seq := rfl
@[simp] theorem startTxn_aud (t : Txn) : (s.startTxn t).aud = s.aud := rfl
@[simp] theorem startTxn_groups (t : Txn) : (s.startTxn t).groups = s.groups := rfl
@[simp] theorem startTxn_dbm (t : Txn) : (s.startTxn t).dbm = s.dbm := rfl
@[simp] theorem startTxn_lgt (t : Txn) : (s.startTxn t).lgt = s.lgt := rfl
@[simp] theorem startTxn_fda (t : Txn) : (s.startTxn t).fda = s.fda := rfl
@[simp] theorem startTxn_sup (t : Txn) : (s.startTxn t).sup = s.sup := rfl
@[simp] theorem startTxn_flags (t : Txn) : (s.startTxn t).flags = s.flags := rfl
@[simp] theorem startTxn_flash (t : Txn) : (s.startTxn t).flash = s.flash := rfl
@[simp] theorem startTxn_pins (t : Txn) : (s.startTxn t).pins = s.pins := rfl
@[simp] theorem startTxn_fresh (t : Txn) : (s.startTxn t).fresh = s.fresh := rfl
@[simp] theorem startTxn_pending (t : Txn) : (s.startTxn t).pending = s.pending := rfl

/-! ### suspend -/

@[simp] theorem suspend_cfg (t : Txn) : (s.suspend t).cfg = s.cfg := rfl
@[simp] theorem suspend_clock (t : Txn) : (s.suspend t).clock = s.clock := rfl
@[simp] theorem suspend_lif (t : Txn) : (s.suspend t).lif = s.lif := rfl
@[simp] theorem suspend_seq (t : Txn) : (s.suspend t).seq = s.seq := rfl
@[simp] theorem suspend_aud (t : Txn) : (s.suspend t).aud = s.aud := rfl
@[simp] theorem suspend_groups (t : Txn) : (s.suspend t).groups = s.groups := rfl
@[simp] theorem suspend_dbm (t : Txn) : (s.suspend t).dbm = s.dbm := rfl
@[simp] theorem suspend_lgt (t : Txn) : (s.suspend t).lgt = s.lgt := rfl
@[simp] theorem suspend_fda (t : Txn) : (s.suspend t).fda = s.fda := rfl
@[simp] theorem suspend_sup (t : Txn) : (s.suspend t).sup = s.sup := rfl
@[simp] theorem suspend_pins (t : Txn) : (s.suspend t).pins = s.pins := rfl
@[simp] theorem suspend_pending (t : Txn) : (s.suspend t).pending = s.pending := rfl

/-! ### unsuspended -/

@[simp] theorem unsuspended_cfg : s.unsuspended.cfg = s.cfg := rfl
@[simp] theorem unsuspended_clock : s.unsuspended.clock = s.clock := rfl
@[simp] theorem unsuspended_lif : s.unsuspended.lif = s.lif := rfl
@[simp] theorem unsuspended_seq : s.unsuspended.seq = s.seq := rfl
@[simp] theorem unsuspended_aud : s.unsuspended.aud = s.aud := rfl
@[simp] theorem unsuspended_groups : s.unsuspended.groups = s.groups := rfl
@[simp] theorem unsuspended_dbm : s.unsuspended.dbm = s.dbm := rfl
@[simp] theorem unsuspended_lgt : s.unsuspended.lgt = s.lgt := rfl
@[simp] theorem unsuspended_fda : s.unsuspended.fda = s.fda := rfl
@[simp] theorem unsuspended_sup : s.unsuspended.sup = s.sup := rfl
@[simp] theorem unsuspended_flp : s.unsuspended.flp = s.flp := rfl
@[simp] theorem unsuspended_flash : s.unsuspended.flash = s.flash := rfl
@[simp] theorem unsuspended_pins : s.unsuspended.pins = s.pins := rfl
@[simp] theorem unsuspended_fresh : s.unsuspended.fresh = s.fresh := rfl
@[simp] theorem unsuspended_pending : s.unsuspended.pending = s.pending := rfl

/-! ### handInternal -/

@[simp] theorem handInternal_cfg (t : Txn) : (s.handInternal t).cfg = s.cfg := rfl
@[simp] theorem handInternal_clock (t : Txn) : (s.handInternal t).clock = s.clock := rfl
@[simp] theorem handInternal_lif (t : Txn) : (s.handInternal t).lif = s.lif := rfl
@[simp] theorem handInternal_seq (t : Txn) : (s.handInternal t).seq = s.seq := rfl
@[simp] theorem handInternal_aud (t : Txn) : (s.handInternal t).aud = s.aud := rfl
@[simp] theorem handInternal_groups (t : Txn) : (s.handInternal t).groups = s.groups := rfl
@[simp] theorem handInternal_dbm (t : Txn) : (s.handInternal t).dbm = s.dbm := rfl
@[simp] theorem handInternal_lgt (t : Txn) : (s.handInternal t).lgt = s.lgt := rfl
@[simp] theorem handInternal_fda (t : Txn) : (s.handInternal t).fda = s.fda := rfl
@[simp] theorem handInternal_sup (t : Txn) : (s.handInternal t).sup = s.sup := rfl
@[simp] theorem handInternal_flags (t : Txn) : (s.handInternal t).flags = s.flags := rfl
@[simp] theorem handInternal_flash (t : Txn) : (s.handInternal t).flash = s.flash := rfl
@[simp] theorem handInternal_pins (t : Txn) : (s.handInternal t).pins = s.pins := rfl
@[simp] theorem handInternal_fresh (t : Txn) : (s.handInternal t).fresh = s.fresh := rfl
@[simp] theorem handInternal_pending (t : Txn) : (s.handInternal t).pending = s.pending := rfl

/-! ### handLif -/

@[simp] theorem handLif_cfg (t : Txn) : (s.handLif t).cfg = s.cfg := rfl
@[simp] theorem handLif_clock (t : Txn) : (s.handLif t).clock = s.clock := rfl
@[simp] theorem handLif_lif (t : Txn) : (s.handLif t).lif = s.lif := rfl
@[simp] theorem handLif_seq (t : Txn) : (s.handLif t).seq = s.seq := rfl
@[simp] theorem handLif_aud (t : Txn) : (s.handLif t).aud = s.aud := rfl
@[simp] theorem handLif_groups (t : Txn) : (s.handLif t).groups = s.groups := rfl
@[simp] theorem handLif_dbm (t : Txn) : (s.handLif t).dbm = s.dbm := rfl
@[simp] theorem handLif_lgt (t : Txn) : (s.handLif t).lgt = s.lgt := rfl
@[simp] theorem handLif_fda (t : Txn) : (s.handLif t).fda = s.fda := rfl
@[simp] theorem handLif_sup (t : Txn) : (s.handLif t).sup = s.sup := rfl
@[simp] theorem handLif_flags (t : Txn) : (s.handLif t).flags = s.flags := rfl
@[simp] theorem handLif_flash (t : Txn) : (s.handLif t).flash = s.flash := rfl
@[simp] theorem handLif_pins (t : Txn) : (s.handLif t).pins = s.pins := rfl
@[simp] theorem handLif_fresh (t : Txn) : (s.handLif t).fresh = s.fresh := rfl
@[simp] theorem handLif_pending (t : Txn) : (s.handLif t).pending = s.pending := rfl

/-! ### markModified -/

@[simp] theorem markModified_cfg : (s.markModified).cfg = s.cfg := rfl
@[simp] theorem markModified_clock : (s.markModified).clock = s.clock := rfl
@[simp] theorem markModified_lif : (s.markModified).lif = s.lif := rfl
@[simp] theorem markModified_seq : (s.markModified).seq = s.seq := rfl
@[simp] theorem markModified_aud : (s.markModified).aud = s.aud := rfl
@[simp] theorem markModified_groups : (s.markModified).groups = s.groups := rfl
@[simp] theorem markModified_dbm : (s.markModified).dbm = s.dbm := rfl
@[simp] theorem markModified_lgt : (s.markModified).lgt = s.lgt := rfl
@[simp] theorem markModified_fda : (s.markModified).fda = s.fda := rfl
@[simp] theorem markModified_sup : (s.markModified).sup = s.sup := rfl
@[simp] theorem markModified_flags : (s.markModified).flags = s.flags := rfl
@[simp] theorem markModified_flash : (s.markModified).flash = s.flash := rfl
@[simp] theorem markModified_pins : (s.markModified).pins = s.pins := rfl
@[simp] theorem markModified_fresh : (s.markModified).fresh = s.fresh := rfl
@[simp] theorem markModified_pending : (s.markModified).pending = s.pending := rfl

/-! ### giveClip -/

@[simp] theorem giveClip_cfg (o : Origin) (id : Nat) (c : Clip) (f : Nat) (st : Int) : (s.giveClip o id c f st).cfg = s.cfg := rfl
@[simp] theorem giveClip_clock (o : Origin) (id : Nat) (c : Clip) (f : Nat) (st : Int) : (s.giveClip o id c f st).clock = s.clock := rfl
@[simp] theorem giveClip_lif (o : Origin) (id : Nat) (c : Clip) (f : Nat) (st : Int) : (s.giveClip o id c f st).lif = s.lif := rfl
@[simp] theorem giveClip_seq (o : Origin) (id : Nat) (c : Clip) (f : Nat) (st : Int) : (s.giveClip o id c f st).seq = s.seq := rfl
@[simp] theorem giveClip_groups (o : Origin) (id : Nat) (c : Clip) (f : Nat) (st : Int) : (s.giveClip o id c f st).groups = s.groups := rfl
@[simp] theorem giveClip_dbm (o : Origin) (id : Nat) (c : Clip) (f : Nat) (st : Int) : (s.giveClip o id c f st).dbm = s.dbm := rfl
@[simp] theorem giveClip_lgt (o : Origin) (id : Nat) (c : Clip) (f : Nat) (st : Int) : (s.giveClip o id c f st).lgt = s.lgt := rfl
@[simp] theorem giveClip_fda (o : Origin) (id : Nat) (c : Clip) (f : Nat) (st : Int) : (s.giveClip o id c f st).fda = s.fda := rfl
@[simp] theorem giveClip_sup (o : Origin) (id : Nat) (c : Clip) (f : Nat) (st : Int) : (s.giveClip o id c f st).sup = s.sup := rfl
@[simp] theorem giveClip_flp (o : Origin) (id : Nat) (c : Clip) (f : Nat) (st : Int) : (s.giveClip o id c f st).flp = s.flp := rfl
@[simp] theorem giveClip_flash (o : Origin) (id : Nat) (c : Clip) (f : Nat) (st : Int) : (s.giveClip o id c f st).flash = s.flash := rfl
@[simp] theorem giveClip_pins (o : Origin) (id : Nat) (c : Clip) (f : Nat) (st : Int) : (s.giveClip o id c f st).pins = s.pins := rfl
@[simp] theorem giveClip_fresh (o : Origin) (id : Nat) (c : Clip) (f : Nat) (st : Int) : (s.giveClip o id c f st).fresh = s.fresh := rfl
@[simp] theorem giveClip_pending (o : Origin) (id : Nat) (c : Clip) (f : Nat) (st : Int) : (s.giveClip o id c f st).pending = s.pending := rfl

/-! ### restartIfTripped -/

@[simp] theorem restartIfTripped_cfg : (s.restartIfTripped).cfg = s.cfg := rfl
@[simp] theorem restartIfTripped_clock : (s.restartIfTripped).clock = s.clock := rfl
@[simp] theorem restartIfTripped_lif : (s.restartIfTripped).lif = s.lif := rfl
@[simp] theorem restartIfTripped_seq : (s.restartIfTripped).seq = s.seq := rfl
@[simp] theorem restartIfTripped_groups : (s.restartIfTripped).groups = s.groups := rfl
@[simp] theorem restartIfTripped_dbm : (s.restartIfTripped).dbm = s.dbm := rfl
@[simp] theorem restartIfTripped_lgt : (s.restartIfTripped).lgt = s.lgt := rfl
@[simp] theorem restartIfTripped_fda : (s.restartIfTripped).fda = s.fda := rfl
@[simp] theorem restartIfTripped_sup : (s.restartIfTripped).sup = s.sup := rfl
@[simp] theorem restartIfTripped_flags : (s.restartIfTripped).flags = s.flags := rfl
@[simp] theorem restartIfTripped_flp : (s.restartIfTripped).flp = s.flp := rfl
@[simp] theorem restartIfTripped_flash : (s.restartIfTripped).flash = s.flash := rfl
@[simp] theorem restartIfTripped_pins : (s.restartIfTripped).pins = s.pins := rfl
@[simp] theorem restartIfTripped_fresh : (s.restartIfTripped).fresh = s.fresh := rfl
@[simp] theorem restartIfTripped_pending : (s.restartIfTripped).pending = s.pending := rfl

/-! ### latchRange -/

@[simp] theorem latchRange_cfg (a b : Nat) (l : Latch) : (s.latchRange a b l).cfg = s.cfg := rfl
@[simp] theorem latchRange_clock (a b : Nat) (l : Latch) : (s.latchRange a b l).clock = s.clock := rfl
@[simp] theorem latchRange_lif (a b : Nat) (l : Latch) : (s.latchRange a b l).lif = s.lif := rfl
@[simp] theorem latchRange_seq (a b : Nat) (l : Latch) : (s.latchRange a b l).seq = s.seq := rfl
@[simp] theorem latchRange_aud (a b : Nat) (l : Latch) : (s.latchRange a b l).aud = s.aud := rfl
@[simp] theorem latchRange_groups (a b : Nat) (l : Latch) : (s.latchRange a b l).groups = s.groups := rfl
@[simp] theorem latchRange_dbm (a b : Nat) (l : Latch) : (s.latchRange a b l).dbm = s.dbm := rfl
@[simp] theorem latchRange_fda (a b : Nat) (l : Latch) : (s.latchRange a b l).fda = s.fda := rfl
@[simp] theorem latchRange_sup (a b : Nat) (l : Latch) : (s.latchRange a b l).sup = s.sup := rfl
@[simp] theorem latchRange_flp (a b : Nat) (l : Latch) : (s.latchRange a b l).flp = s.flp := rfl
@[simp] theorem latchRange_flash (a b : Nat) (l : Latch) : (s.latchRange a b l).flash = s.flash := rfl
@[simp] theorem latchRange_pins (a b : Nat) (l : Latch) : (s.latchRange a b l).pins = s.pins := rfl
@[simp] theorem latchRange_fresh (a b : Nat) (l : Latch) : (s.latchRange a b l).fresh = s.fresh := rfl
@[simp] theorem latchRange_pending (a b : Nat) (l : Latch) : (s.latchRange a b l).pending = s.pending := rfl

/-! ### showIdle -/

@[simp] theorem showIdle_cfg (r : EndReason) : (s.showIdle r).cfg = s.cfg := rfl
@[simp] theorem showIdle_clock (r : EndReason) : (s.showIdle r).clock = s.clock := rfl
@[simp] theorem showIdle_groups (r : EndReason) : (s.showIdle r).groups = s.groups := rfl
@[simp] theorem showIdle_dbm (r : EndReason) : (s.showIdle r).dbm = s.dbm := rfl
@[simp] theorem showIdle_lgt (r : EndReason) : (s.showIdle r).lgt = s.lgt := rfl
@[simp] theorem showIdle_fda (r : EndReason) : (s.showIdle r).fda = s.fda := rfl
@[simp] theorem showIdle_sup (r : EndReason) : (s.showIdle r).sup = s.sup := rfl
@[simp] theorem showIdle_flash (r : EndReason) : (s.showIdle r).flash = s.flash := rfl
@[simp] theorem showIdle_pins (r : EndReason) : (s.showIdle r).pins = s.pins := rfl
@[simp] theorem showIdle_fresh (r : EndReason) : (s.showIdle r).fresh = s.fresh := rfl
@[simp] theorem showIdle_pending (r : EndReason) : (s.showIdle r).pending = s.pending := rfl

/-! ### failLoad -/

@[simp] theorem failLoad_cfg (f : Failure) (c : Option Nat) (l : List Byte) (r : EndReason) : (s.failLoad f c l r).cfg = s.cfg := rfl
@[simp] theorem failLoad_clock (f : Failure) (c : Option Nat) (l : List Byte) (r : EndReason) : (s.failLoad f c l r).clock = s.clock := rfl
@[simp] theorem failLoad_groups (f : Failure) (c : Option Nat) (l : List Byte) (r : EndReason) : (s.failLoad f c l r).groups = s.groups := rfl
@[simp] theorem failLoad_dbm (f : Failure) (c : Option Nat) (l : List Byte) (r : EndReason) : (s.failLoad f c l r).dbm = s.dbm := rfl
@[simp] theorem failLoad_lgt (f : Failure) (c : Option Nat) (l : List Byte) (r : EndReason) : (s.failLoad f c l r).lgt = s.lgt := rfl
@[simp] theorem failLoad_fda (f : Failure) (c : Option Nat) (l : List Byte) (r : EndReason) : (s.failLoad f c l r).fda = s.fda := rfl
@[simp] theorem failLoad_sup (f : Failure) (c : Option Nat) (l : List Byte) (r : EndReason) : (s.failLoad f c l r).sup = s.sup := rfl
@[simp] theorem failLoad_flash (f : Failure) (c : Option Nat) (l : List Byte) (r : EndReason) : (s.failLoad f c l r).flash = s.flash := rfl
@[simp] theorem failLoad_pins (f : Failure) (c : Option Nat) (l : List Byte) (r : EndReason) : (s.failLoad f c l r).pins = s.pins := rfl
@[simp] theorem failLoad_fresh (f : Failure) (c : Option Nat) (l : List Byte) (r : EndReason) : (s.failLoad f c l r).fresh = s.fresh := rfl
@[simp] theorem failLoad_pending (f : Failure) (c : Option Nat) (l : List Byte) (r : EndReason) : (s.failLoad f c l r).pending = s.pending := rfl

/-! ### interruptLoad -/

@[simp] theorem interruptLoad_cfg (f : Failure) (r : EndReason) : (s.interruptLoad f r).cfg = s.cfg := rfl
@[simp] theorem interruptLoad_clock (f : Failure) (r : EndReason) : (s.interruptLoad f r).clock = s.clock := rfl
@[simp] theorem interruptLoad_groups (f : Failure) (r : EndReason) : (s.interruptLoad f r).groups = s.groups := rfl
@[simp] theorem interruptLoad_dbm (f : Failure) (r : EndReason) : (s.interruptLoad f r).dbm = s.dbm := rfl
@[simp] theorem interruptLoad_lgt (f : Failure) (r : EndReason) : (s.interruptLoad f r).lgt = s.lgt := rfl
@[simp] theorem interruptLoad_fda (f : Failure) (r : EndReason) : (s.interruptLoad f r).fda = s.fda := rfl
@[simp] theorem interruptLoad_sup (f : Failure) (r : EndReason) : (s.interruptLoad f r).sup = s.sup := rfl
@[simp] theorem interruptLoad_flash (f : Failure) (r : EndReason) : (s.interruptLoad f r).flash = s.flash := rfl
@[simp] theorem interruptLoad_pins (f : Failure) (r : EndReason) : (s.interruptLoad f r).pins = s.pins := rfl
@[simp] theorem interruptLoad_fresh (f : Failure) (r : EndReason) : (s.interruptLoad f r).fresh = s.fresh := rfl
@[simp] theorem interruptLoad_pending (f : Failure) (r : EndReason) : (s.interruptLoad f r).pending = s.pending := rfl

/-! ### armShow -/

@[simp] theorem armShow_cfg (h : ShowHeader) (cs : List Cue) (l : Lanes) (n : LoadCounts) : (s.armShow h cs l n).cfg = s.cfg := rfl
@[simp] theorem armShow_clock (h : ShowHeader) (cs : List Cue) (l : Lanes) (n : LoadCounts) : (s.armShow h cs l n).clock = s.clock := rfl
@[simp] theorem armShow_aud (h : ShowHeader) (cs : List Cue) (l : Lanes) (n : LoadCounts) : (s.armShow h cs l n).aud = s.aud := rfl
@[simp] theorem armShow_groups (h : ShowHeader) (cs : List Cue) (l : Lanes) (n : LoadCounts) : (s.armShow h cs l n).groups = s.groups := rfl
@[simp] theorem armShow_dbm (h : ShowHeader) (cs : List Cue) (l : Lanes) (n : LoadCounts) : (s.armShow h cs l n).dbm = s.dbm := rfl
@[simp] theorem armShow_lgt (h : ShowHeader) (cs : List Cue) (l : Lanes) (n : LoadCounts) : (s.armShow h cs l n).lgt = s.lgt := rfl
@[simp] theorem armShow_fda (h : ShowHeader) (cs : List Cue) (l : Lanes) (n : LoadCounts) : (s.armShow h cs l n).fda = s.fda := rfl
@[simp] theorem armShow_sup (h : ShowHeader) (cs : List Cue) (l : Lanes) (n : LoadCounts) : (s.armShow h cs l n).sup = s.sup := rfl
@[simp] theorem armShow_flash (h : ShowHeader) (cs : List Cue) (l : Lanes) (n : LoadCounts) : (s.armShow h cs l n).flash = s.flash := rfl
@[simp] theorem armShow_pins (h : ShowHeader) (cs : List Cue) (l : Lanes) (n : LoadCounts) : (s.armShow h cs l n).pins = s.pins := rfl
@[simp] theorem armShow_fresh (h : ShowHeader) (cs : List Cue) (l : Lanes) (n : LoadCounts) : (s.armShow h cs l n).fresh = s.fresh := rfl
@[simp] theorem armShow_pending (h : ShowHeader) (cs : List Cue) (l : Lanes) (n : LoadCounts) : (s.armShow h cs l n).pending = s.pending := rfl

/-! ### lowerPermit -/

@[simp] theorem lowerPermit_cfg : (s.lowerPermit).cfg = s.cfg := rfl
@[simp] theorem lowerPermit_clock : (s.lowerPermit).clock = s.clock := rfl
@[simp] theorem lowerPermit_lif : (s.lowerPermit).lif = s.lif := rfl
@[simp] theorem lowerPermit_seq : (s.lowerPermit).seq = s.seq := rfl
@[simp] theorem lowerPermit_aud : (s.lowerPermit).aud = s.aud := rfl
@[simp] theorem lowerPermit_groups : (s.lowerPermit).groups = s.groups := rfl
@[simp] theorem lowerPermit_dbm : (s.lowerPermit).dbm = s.dbm := rfl
@[simp] theorem lowerPermit_lgt : (s.lowerPermit).lgt = s.lgt := rfl
@[simp] theorem lowerPermit_fda : (s.lowerPermit).fda = s.fda := rfl
@[simp] theorem lowerPermit_flags : (s.lowerPermit).flags = s.flags := rfl
@[simp] theorem lowerPermit_flp : (s.lowerPermit).flp = s.flp := rfl
@[simp] theorem lowerPermit_flash : (s.lowerPermit).flash = s.flash := rfl
@[simp] theorem lowerPermit_pins : (s.lowerPermit).pins = s.pins := rfl
@[simp] theorem lowerPermit_fresh : (s.lowerPermit).fresh = s.fresh := rfl
@[simp] theorem lowerPermit_pending : (s.lowerPermit).pending = s.pending := rfl

/-! ### raisePermit -/

@[simp] theorem raisePermit_cfg : (s.raisePermit).cfg = s.cfg := rfl
@[simp] theorem raisePermit_clock : (s.raisePermit).clock = s.clock := rfl
@[simp] theorem raisePermit_lif : (s.raisePermit).lif = s.lif := rfl
@[simp] theorem raisePermit_seq : (s.raisePermit).seq = s.seq := rfl
@[simp] theorem raisePermit_aud : (s.raisePermit).aud = s.aud := rfl
@[simp] theorem raisePermit_groups : (s.raisePermit).groups = s.groups := rfl
@[simp] theorem raisePermit_dbm : (s.raisePermit).dbm = s.dbm := rfl
@[simp] theorem raisePermit_lgt : (s.raisePermit).lgt = s.lgt := rfl
@[simp] theorem raisePermit_fda : (s.raisePermit).fda = s.fda := rfl
@[simp] theorem raisePermit_flags : (s.raisePermit).flags = s.flags := rfl
@[simp] theorem raisePermit_flp : (s.raisePermit).flp = s.flp := rfl
@[simp] theorem raisePermit_flash : (s.raisePermit).flash = s.flash := rfl
@[simp] theorem raisePermit_pins : (s.raisePermit).pins = s.pins := rfl
@[simp] theorem raisePermit_fresh : (s.raisePermit).fresh = s.fresh := rfl
@[simp] theorem raisePermit_pending : (s.raisePermit).pending = s.pending := rfl

/-! ### withGroup -/

@[simp] theorem withGroup_cfg (g : Fin 24) (x : Group) : (s.withGroup g x).cfg = s.cfg := rfl
@[simp] theorem withGroup_clock (g : Fin 24) (x : Group) : (s.withGroup g x).clock = s.clock := rfl
@[simp] theorem withGroup_lif (g : Fin 24) (x : Group) : (s.withGroup g x).lif = s.lif := rfl
@[simp] theorem withGroup_seq (g : Fin 24) (x : Group) : (s.withGroup g x).seq = s.seq := rfl
@[simp] theorem withGroup_aud (g : Fin 24) (x : Group) : (s.withGroup g x).aud = s.aud := rfl
@[simp] theorem withGroup_dbm (g : Fin 24) (x : Group) : (s.withGroup g x).dbm = s.dbm := rfl
@[simp] theorem withGroup_lgt (g : Fin 24) (x : Group) : (s.withGroup g x).lgt = s.lgt := rfl
@[simp] theorem withGroup_fda (g : Fin 24) (x : Group) : (s.withGroup g x).fda = s.fda := rfl
@[simp] theorem withGroup_sup (g : Fin 24) (x : Group) : (s.withGroup g x).sup = s.sup := rfl
@[simp] theorem withGroup_flags (g : Fin 24) (x : Group) : (s.withGroup g x).flags = s.flags := rfl
@[simp] theorem withGroup_flp (g : Fin 24) (x : Group) : (s.withGroup g x).flp = s.flp := rfl
@[simp] theorem withGroup_flash (g : Fin 24) (x : Group) : (s.withGroup g x).flash = s.flash := rfl
@[simp] theorem withGroup_pins (g : Fin 24) (x : Group) : (s.withGroup g x).pins = s.pins := rfl
@[simp] theorem withGroup_fresh (g : Fin 24) (x : Group) : (s.withGroup g x).fresh = s.fresh := rfl
@[simp] theorem withGroup_pending (g : Fin 24) (x : Group) : (s.withGroup g x).pending = s.pending := rfl

/-! ### withChannel -/

@[simp] theorem withChannel_cfg (i : Fin 27) (c : Channel) : (s.withChannel i c).cfg = s.cfg := rfl
@[simp] theorem withChannel_clock (i : Fin 27) (c : Channel) : (s.withChannel i c).clock = s.clock := rfl
@[simp] theorem withChannel_lif (i : Fin 27) (c : Channel) : (s.withChannel i c).lif = s.lif := rfl
@[simp] theorem withChannel_seq (i : Fin 27) (c : Channel) : (s.withChannel i c).seq = s.seq := rfl
@[simp] theorem withChannel_aud (i : Fin 27) (c : Channel) : (s.withChannel i c).aud = s.aud := rfl
@[simp] theorem withChannel_groups (i : Fin 27) (c : Channel) : (s.withChannel i c).groups = s.groups := rfl
@[simp] theorem withChannel_dbm (i : Fin 27) (c : Channel) : (s.withChannel i c).dbm = s.dbm := rfl
@[simp] theorem withChannel_lgt (i : Fin 27) (c : Channel) : (s.withChannel i c).lgt = s.lgt := rfl
@[simp] theorem withChannel_fda (i : Fin 27) (c : Channel) : (s.withChannel i c).fda = s.fda := rfl
@[simp] theorem withChannel_flags (i : Fin 27) (c : Channel) : (s.withChannel i c).flags = s.flags := rfl
@[simp] theorem withChannel_flp (i : Fin 27) (c : Channel) : (s.withChannel i c).flp = s.flp := rfl
@[simp] theorem withChannel_flash (i : Fin 27) (c : Channel) : (s.withChannel i c).flash = s.flash := rfl
@[simp] theorem withChannel_pins (i : Fin 27) (c : Channel) : (s.withChannel i c).pins = s.pins := rfl
@[simp] theorem withChannel_fresh (i : Fin 27) (c : Channel) : (s.withChannel i c).fresh = s.fresh := rfl
@[simp] theorem withChannel_pending (i : Fin 27) (c : Channel) : (s.withChannel i c).pending = s.pending := rfl

/-! ### oweSite -/

@[simp] theorem oweSite_cfg (d : Bool) : (s.oweSite d).cfg = s.cfg := rfl
@[simp] theorem oweSite_clock (d : Bool) : (s.oweSite d).clock = s.clock := rfl
@[simp] theorem oweSite_lif (d : Bool) : (s.oweSite d).lif = s.lif := rfl
@[simp] theorem oweSite_seq (d : Bool) : (s.oweSite d).seq = s.seq := rfl
@[simp] theorem oweSite_aud (d : Bool) : (s.oweSite d).aud = s.aud := rfl
@[simp] theorem oweSite_groups (d : Bool) : (s.oweSite d).groups = s.groups := rfl
@[simp] theorem oweSite_dbm (d : Bool) : (s.oweSite d).dbm = s.dbm := rfl
@[simp] theorem oweSite_lgt (d : Bool) : (s.oweSite d).lgt = s.lgt := rfl
@[simp] theorem oweSite_fda (d : Bool) : (s.oweSite d).fda = s.fda := rfl
@[simp] theorem oweSite_flags (d : Bool) : (s.oweSite d).flags = s.flags := rfl
@[simp] theorem oweSite_flp (d : Bool) : (s.oweSite d).flp = s.flp := rfl
@[simp] theorem oweSite_flash (d : Bool) : (s.oweSite d).flash = s.flash := rfl
@[simp] theorem oweSite_pins (d : Bool) : (s.oweSite d).pins = s.pins := rfl
@[simp] theorem oweSite_fresh (d : Bool) : (s.oweSite d).fresh = s.fresh := rfl
@[simp] theorem oweSite_pending (d : Bool) : (s.oweSite d).pending = s.pending := rfl

/-! ### setBand -/

@[simp] theorem setBand_cfg (b : Nat) : (s.setBand b).cfg = s.cfg := rfl
@[simp] theorem setBand_clock (b : Nat) : (s.setBand b).clock = s.clock := rfl
@[simp] theorem setBand_lif (b : Nat) : (s.setBand b).lif = s.lif := rfl
@[simp] theorem setBand_seq (b : Nat) : (s.setBand b).seq = s.seq := rfl
@[simp] theorem setBand_aud (b : Nat) : (s.setBand b).aud = s.aud := rfl
@[simp] theorem setBand_groups (b : Nat) : (s.setBand b).groups = s.groups := rfl
@[simp] theorem setBand_dbm (b : Nat) : (s.setBand b).dbm = s.dbm := rfl
@[simp] theorem setBand_lgt (b : Nat) : (s.setBand b).lgt = s.lgt := rfl
@[simp] theorem setBand_fda (b : Nat) : (s.setBand b).fda = s.fda := rfl
@[simp] theorem setBand_flags (b : Nat) : (s.setBand b).flags = s.flags := rfl
@[simp] theorem setBand_flp (b : Nat) : (s.setBand b).flp = s.flp := rfl
@[simp] theorem setBand_flash (b : Nat) : (s.setBand b).flash = s.flash := rfl
@[simp] theorem setBand_pins (b : Nat) : (s.setBand b).pins = s.pins := rfl
@[simp] theorem setBand_fresh (b : Nat) : (s.setBand b).fresh = s.fresh := rfl
@[simp] theorem setBand_pending (b : Nat) : (s.setBand b).pending = s.pending := rfl

/-! ### zeroFades -/

@[simp] theorem zeroFades_cfg : (s.zeroFades).cfg = s.cfg := rfl
@[simp] theorem zeroFades_clock : (s.zeroFades).clock = s.clock := rfl
@[simp] theorem zeroFades_lif : (s.zeroFades).lif = s.lif := rfl
@[simp] theorem zeroFades_seq : (s.zeroFades).seq = s.seq := rfl
@[simp] theorem zeroFades_aud : (s.zeroFades).aud = s.aud := rfl
@[simp] theorem zeroFades_dbm : (s.zeroFades).dbm = s.dbm := rfl
@[simp] theorem zeroFades_lgt : (s.zeroFades).lgt = s.lgt := rfl
@[simp] theorem zeroFades_fda : (s.zeroFades).fda = s.fda := rfl
@[simp] theorem zeroFades_sup : (s.zeroFades).sup = s.sup := rfl
@[simp] theorem zeroFades_flags : (s.zeroFades).flags = s.flags := rfl
@[simp] theorem zeroFades_flp : (s.zeroFades).flp = s.flp := rfl
@[simp] theorem zeroFades_flash : (s.zeroFades).flash = s.flash := rfl
@[simp] theorem zeroFades_pins : (s.zeroFades).pins = s.pins := rfl
@[simp] theorem zeroFades_fresh : (s.zeroFades).fresh = s.fresh := rfl
@[simp] theorem zeroFades_pending : (s.zeroFades).pending = s.pending := rfl

/-! ### latchTrip -/

@[simp] theorem latchTrip_cfg (c : Causes) : (s.latchTrip c).cfg = s.cfg := rfl
@[simp] theorem latchTrip_clock (c : Causes) : (s.latchTrip c).clock = s.clock := rfl
@[simp] theorem latchTrip_seq (c : Causes) : (s.latchTrip c).seq = s.seq := rfl
@[simp] theorem latchTrip_aud (c : Causes) : (s.latchTrip c).aud = s.aud := rfl
@[simp] theorem latchTrip_groups (c : Causes) : (s.latchTrip c).groups = s.groups := rfl
@[simp] theorem latchTrip_dbm (c : Causes) : (s.latchTrip c).dbm = s.dbm := rfl
@[simp] theorem latchTrip_lgt (c : Causes) : (s.latchTrip c).lgt = s.lgt := rfl
@[simp] theorem latchTrip_fda (c : Causes) : (s.latchTrip c).fda = s.fda := rfl
@[simp] theorem latchTrip_flp (c : Causes) : (s.latchTrip c).flp = s.flp := rfl
@[simp] theorem latchTrip_flash (c : Causes) : (s.latchTrip c).flash = s.flash := rfl
@[simp] theorem latchTrip_pins (c : Causes) : (s.latchTrip c).pins = s.pins := rfl
@[simp] theorem latchTrip_fresh (c : Causes) : (s.latchTrip c).fresh = s.fresh := rfl
@[simp] theorem latchTrip_pending (c : Causes) : (s.latchTrip c).pending = s.pending := rfl

/-! ### clearTrip -/

@[simp] theorem clearTrip_cfg : (s.clearTrip).cfg = s.cfg := rfl
@[simp] theorem clearTrip_clock : (s.clearTrip).clock = s.clock := rfl
@[simp] theorem clearTrip_lif : (s.clearTrip).lif = s.lif := rfl
@[simp] theorem clearTrip_seq : (s.clearTrip).seq = s.seq := rfl
@[simp] theorem clearTrip_groups : (s.clearTrip).groups = s.groups := rfl
@[simp] theorem clearTrip_dbm : (s.clearTrip).dbm = s.dbm := rfl
@[simp] theorem clearTrip_fda : (s.clearTrip).fda = s.fda := rfl
@[simp] theorem clearTrip_flags : (s.clearTrip).flags = s.flags := rfl
@[simp] theorem clearTrip_flp : (s.clearTrip).flp = s.flp := rfl
@[simp] theorem clearTrip_flash : (s.clearTrip).flash = s.flash := rfl
@[simp] theorem clearTrip_pins : (s.clearTrip).pins = s.pins := rfl
@[simp] theorem clearTrip_fresh : (s.clearTrip).fresh = s.fresh := rfl
@[simp] theorem clearTrip_pending : (s.clearTrip).pending = s.pending := rfl

/-! ### withPort -/

@[simp] theorem withPort_cfg (p : Port) : (s.withPort p).cfg = s.cfg := rfl
@[simp] theorem withPort_clock (p : Port) : (s.withPort p).clock = s.clock := rfl
@[simp] theorem withPort_lif (p : Port) : (s.withPort p).lif = s.lif := rfl
@[simp] theorem withPort_seq (p : Port) : (s.withPort p).seq = s.seq := rfl
@[simp] theorem withPort_aud (p : Port) : (s.withPort p).aud = s.aud := rfl
@[simp] theorem withPort_groups (p : Port) : (s.withPort p).groups = s.groups := rfl
@[simp] theorem withPort_dbm (p : Port) : (s.withPort p).dbm = s.dbm := rfl
@[simp] theorem withPort_lgt (p : Port) : (s.withPort p).lgt = s.lgt := rfl
@[simp] theorem withPort_fda (p : Port) : (s.withPort p).fda = s.fda := rfl
@[simp] theorem withPort_sup (p : Port) : (s.withPort p).sup = s.sup := rfl
@[simp] theorem withPort_flags (p : Port) : (s.withPort p).flags = s.flags := rfl
@[simp] theorem withPort_flash (p : Port) : (s.withPort p).flash = s.flash := rfl
@[simp] theorem withPort_pins (p : Port) : (s.withPort p).pins = s.pins := rfl
@[simp] theorem withPort_fresh (p : Port) : (s.withPort p).fresh = s.fresh := rfl
@[simp] theorem withPort_pending (p : Port) : (s.withPort p).pending = s.pending := rfl

/-! ### cutProgram -/

@[simp] theorem cutProgram_cfg (t : Txn) : (s.cutProgram t).cfg = s.cfg := rfl
@[simp] theorem cutProgram_clock (t : Txn) : (s.cutProgram t).clock = s.clock := rfl
@[simp] theorem cutProgram_lif (t : Txn) : (s.cutProgram t).lif = s.lif := rfl
@[simp] theorem cutProgram_seq (t : Txn) : (s.cutProgram t).seq = s.seq := rfl
@[simp] theorem cutProgram_aud (t : Txn) : (s.cutProgram t).aud = s.aud := rfl
@[simp] theorem cutProgram_groups (t : Txn) : (s.cutProgram t).groups = s.groups := rfl
@[simp] theorem cutProgram_dbm (t : Txn) : (s.cutProgram t).dbm = s.dbm := rfl
@[simp] theorem cutProgram_lgt (t : Txn) : (s.cutProgram t).lgt = s.lgt := rfl
@[simp] theorem cutProgram_fda (t : Txn) : (s.cutProgram t).fda = s.fda := rfl
@[simp] theorem cutProgram_sup (t : Txn) : (s.cutProgram t).sup = s.sup := rfl
@[simp] theorem cutProgram_flags (t : Txn) : (s.cutProgram t).flags = s.flags := rfl
@[simp] theorem cutProgram_flp (t : Txn) : (s.cutProgram t).flp = s.flp := rfl
@[simp] theorem cutProgram_pins (t : Txn) : (s.cutProgram t).pins = s.pins := rfl
@[simp] theorem cutProgram_pending (t : Txn) : (s.cutProgram t).pending = s.pending := rfl

/-! ### cutErase -/

@[simp] theorem cutErase_cfg (t : Txn) : (s.cutErase t).cfg = s.cfg := rfl
@[simp] theorem cutErase_clock (t : Txn) : (s.cutErase t).clock = s.clock := rfl
@[simp] theorem cutErase_lif (t : Txn) : (s.cutErase t).lif = s.lif := rfl
@[simp] theorem cutErase_seq (t : Txn) : (s.cutErase t).seq = s.seq := rfl
@[simp] theorem cutErase_aud (t : Txn) : (s.cutErase t).aud = s.aud := rfl
@[simp] theorem cutErase_groups (t : Txn) : (s.cutErase t).groups = s.groups := rfl
@[simp] theorem cutErase_dbm (t : Txn) : (s.cutErase t).dbm = s.dbm := rfl
@[simp] theorem cutErase_lgt (t : Txn) : (s.cutErase t).lgt = s.lgt := rfl
@[simp] theorem cutErase_fda (t : Txn) : (s.cutErase t).fda = s.fda := rfl
@[simp] theorem cutErase_sup (t : Txn) : (s.cutErase t).sup = s.sup := rfl
@[simp] theorem cutErase_flags (t : Txn) : (s.cutErase t).flags = s.flags := rfl
@[simp] theorem cutErase_flp (t : Txn) : (s.cutErase t).flp = s.flp := rfl
@[simp] theorem cutErase_pins (t : Txn) : (s.cutErase t).pins = s.pins := rfl
@[simp] theorem cutErase_pending (t : Txn) : (s.cutErase t).pending = s.pending := rfl

/-! ### resetDevice -/

@[simp] theorem resetDevice_cfg : (s.resetDevice).cfg = s.cfg := rfl
@[simp] theorem resetDevice_clock : (s.resetDevice).clock = s.clock := rfl
@[simp] theorem resetDevice_lif : (s.resetDevice).lif = s.lif := rfl
@[simp] theorem resetDevice_seq : (s.resetDevice).seq = s.seq := rfl
@[simp] theorem resetDevice_aud : (s.resetDevice).aud = s.aud := rfl
@[simp] theorem resetDevice_groups : (s.resetDevice).groups = s.groups := rfl
@[simp] theorem resetDevice_dbm : (s.resetDevice).dbm = s.dbm := rfl
@[simp] theorem resetDevice_lgt : (s.resetDevice).lgt = s.lgt := rfl
@[simp] theorem resetDevice_fda : (s.resetDevice).fda = s.fda := rfl
@[simp] theorem resetDevice_sup : (s.resetDevice).sup = s.sup := rfl
@[simp] theorem resetDevice_flash : (s.resetDevice).flash = s.flash := rfl
@[simp] theorem resetDevice_pins : (s.resetDevice).pins = s.pins := rfl
@[simp] theorem resetDevice_fresh : (s.resetDevice).fresh = s.fresh := rfl
@[simp] theorem resetDevice_pending : (s.resetDevice).pending = s.pending := rfl

/-! ### withRx -/

@[simp] theorem withRx_cfg (r : Receiver) : (s.withRx r).cfg = s.cfg := rfl
@[simp] theorem withRx_clock (r : Receiver) : (s.withRx r).clock = s.clock := rfl
@[simp] theorem withRx_seq (r : Receiver) : (s.withRx r).seq = s.seq := rfl
@[simp] theorem withRx_aud (r : Receiver) : (s.withRx r).aud = s.aud := rfl
@[simp] theorem withRx_groups (r : Receiver) : (s.withRx r).groups = s.groups := rfl
@[simp] theorem withRx_dbm (r : Receiver) : (s.withRx r).dbm = s.dbm := rfl
@[simp] theorem withRx_lgt (r : Receiver) : (s.withRx r).lgt = s.lgt := rfl
@[simp] theorem withRx_fda (r : Receiver) : (s.withRx r).fda = s.fda := rfl
@[simp] theorem withRx_sup (r : Receiver) : (s.withRx r).sup = s.sup := rfl
@[simp] theorem withRx_flags (r : Receiver) : (s.withRx r).flags = s.flags := rfl
@[simp] theorem withRx_flp (r : Receiver) : (s.withRx r).flp = s.flp := rfl
@[simp] theorem withRx_flash (r : Receiver) : (s.withRx r).flash = s.flash := rfl
@[simp] theorem withRx_pins (r : Receiver) : (s.withRx r).pins = s.pins := rfl
@[simp] theorem withRx_fresh (r : Receiver) : (s.withRx r).fresh = s.fresh := rfl
@[simp] theorem withRx_pending (r : Receiver) : (s.withRx r).pending = s.pending := rfl

/-! ### answer -/

@[simp] theorem answer_cfg (q : Request) (st : Status) (fs : List Byte) : (s.answer q st fs).cfg = s.cfg := rfl
@[simp] theorem answer_clock (q : Request) (st : Status) (fs : List Byte) : (s.answer q st fs).clock = s.clock := rfl
@[simp] theorem answer_seq (q : Request) (st : Status) (fs : List Byte) : (s.answer q st fs).seq = s.seq := rfl
@[simp] theorem answer_aud (q : Request) (st : Status) (fs : List Byte) : (s.answer q st fs).aud = s.aud := rfl
@[simp] theorem answer_groups (q : Request) (st : Status) (fs : List Byte) : (s.answer q st fs).groups = s.groups := rfl
@[simp] theorem answer_dbm (q : Request) (st : Status) (fs : List Byte) : (s.answer q st fs).dbm = s.dbm := rfl
@[simp] theorem answer_lgt (q : Request) (st : Status) (fs : List Byte) : (s.answer q st fs).lgt = s.lgt := rfl
@[simp] theorem answer_fda (q : Request) (st : Status) (fs : List Byte) : (s.answer q st fs).fda = s.fda := rfl
@[simp] theorem answer_sup (q : Request) (st : Status) (fs : List Byte) : (s.answer q st fs).sup = s.sup := rfl
@[simp] theorem answer_flags (q : Request) (st : Status) (fs : List Byte) : (s.answer q st fs).flags = s.flags := rfl
@[simp] theorem answer_flp (q : Request) (st : Status) (fs : List Byte) : (s.answer q st fs).flp = s.flp := rfl
@[simp] theorem answer_flash (q : Request) (st : Status) (fs : List Byte) : (s.answer q st fs).flash = s.flash := rfl
@[simp] theorem answer_pins (q : Request) (st : Status) (fs : List Byte) : (s.answer q st fs).pins = s.pins := rfl
@[simp] theorem answer_fresh (q : Request) (st : Status) (fs : List Byte) : (s.answer q st fs).fresh = s.fresh := rfl
@[simp] theorem answer_pending (q : Request) (st : Status) (fs : List Byte) : (s.answer q st fs).pending = s.pending := rfl

/-! ### taken -/

@[simp] theorem taken_cfg : (s.taken).cfg = s.cfg := rfl
@[simp] theorem taken_clock : (s.taken).clock = s.clock := rfl
@[simp] theorem taken_seq : (s.taken).seq = s.seq := rfl
@[simp] theorem taken_aud : (s.taken).aud = s.aud := rfl
@[simp] theorem taken_groups : (s.taken).groups = s.groups := rfl
@[simp] theorem taken_dbm : (s.taken).dbm = s.dbm := rfl
@[simp] theorem taken_lgt : (s.taken).lgt = s.lgt := rfl
@[simp] theorem taken_fda : (s.taken).fda = s.fda := rfl
@[simp] theorem taken_sup : (s.taken).sup = s.sup := rfl
@[simp] theorem taken_flags : (s.taken).flags = s.flags := rfl
@[simp] theorem taken_flp : (s.taken).flp = s.flp := rfl
@[simp] theorem taken_flash : (s.taken).flash = s.flash := rfl
@[simp] theorem taken_pins : (s.taken).pins = s.pins := rfl
@[simp] theorem taken_fresh : (s.taken).fresh = s.fresh := rfl
@[simp] theorem taken_pending : (s.taken).pending = s.pending := rfl

/-! ### frameSent -/

@[simp] theorem frameSent_cfg : (s.frameSent).cfg = s.cfg := rfl
@[simp] theorem frameSent_clock : (s.frameSent).clock = s.clock := rfl
@[simp] theorem frameSent_seq : (s.frameSent).seq = s.seq := rfl
@[simp] theorem frameSent_aud : (s.frameSent).aud = s.aud := rfl
@[simp] theorem frameSent_groups : (s.frameSent).groups = s.groups := rfl
@[simp] theorem frameSent_dbm : (s.frameSent).dbm = s.dbm := rfl
@[simp] theorem frameSent_lgt : (s.frameSent).lgt = s.lgt := rfl
@[simp] theorem frameSent_fda : (s.frameSent).fda = s.fda := rfl
@[simp] theorem frameSent_sup : (s.frameSent).sup = s.sup := rfl
@[simp] theorem frameSent_flags : (s.frameSent).flags = s.flags := rfl
@[simp] theorem frameSent_flp : (s.frameSent).flp = s.flp := rfl
@[simp] theorem frameSent_flash : (s.frameSent).flash = s.flash := rfl
@[simp] theorem frameSent_pins : (s.frameSent).pins = s.pins := rfl
@[simp] theorem frameSent_fresh : (s.frameSent).fresh = s.fresh := rfl
@[simp] theorem frameSent_pending : (s.frameSent).pending = s.pending := rfl

/-! ### withPending -/

@[simp] theorem withPending_cfg (q : List Instr) : (s.withPending q).cfg = s.cfg := rfl
@[simp] theorem withPending_clock (q : List Instr) : (s.withPending q).clock = s.clock := rfl
@[simp] theorem withPending_lif (q : List Instr) : (s.withPending q).lif = s.lif := rfl
@[simp] theorem withPending_seq (q : List Instr) : (s.withPending q).seq = s.seq := rfl
@[simp] theorem withPending_aud (q : List Instr) : (s.withPending q).aud = s.aud := rfl
@[simp] theorem withPending_groups (q : List Instr) : (s.withPending q).groups = s.groups := rfl
@[simp] theorem withPending_dbm (q : List Instr) : (s.withPending q).dbm = s.dbm := rfl
@[simp] theorem withPending_lgt (q : List Instr) : (s.withPending q).lgt = s.lgt := rfl
@[simp] theorem withPending_fda (q : List Instr) : (s.withPending q).fda = s.fda := rfl
@[simp] theorem withPending_sup (q : List Instr) : (s.withPending q).sup = s.sup := rfl
@[simp] theorem withPending_flags (q : List Instr) : (s.withPending q).flags = s.flags := rfl
@[simp] theorem withPending_flp (q : List Instr) : (s.withPending q).flp = s.flp := rfl
@[simp] theorem withPending_flash (q : List Instr) : (s.withPending q).flash = s.flash := rfl
@[simp] theorem withPending_pins (q : List Instr) : (s.withPending q).pins = s.pins := rfl
@[simp] theorem withPending_fresh (q : List Instr) : (s.withPending q).fresh = s.fresh := rfl

/-! ### stopClips -/

@[simp] theorem stopClips_cfg : (s.stopClips).cfg = s.cfg := rfl
@[simp] theorem stopClips_clock : (s.stopClips).clock = s.clock := rfl
@[simp] theorem stopClips_lif : (s.stopClips).lif = s.lif := rfl
@[simp] theorem stopClips_seq : (s.stopClips).seq = s.seq := rfl
@[simp] theorem stopClips_groups : (s.stopClips).groups = s.groups := rfl
@[simp] theorem stopClips_dbm : (s.stopClips).dbm = s.dbm := rfl
@[simp] theorem stopClips_lgt : (s.stopClips).lgt = s.lgt := rfl
@[simp] theorem stopClips_fda : (s.stopClips).fda = s.fda := rfl
@[simp] theorem stopClips_sup : (s.stopClips).sup = s.sup := rfl
@[simp] theorem stopClips_flags : (s.stopClips).flags = s.flags := rfl
@[simp] theorem stopClips_flp : (s.stopClips).flp = s.flp := rfl
@[simp] theorem stopClips_flash : (s.stopClips).flash = s.flash := rfl
@[simp] theorem stopClips_pins : (s.stopClips).pins = s.pins := rfl
@[simp] theorem stopClips_fresh : (s.stopClips).fresh = s.fresh := rfl
@[simp] theorem stopClips_pending : (s.stopClips).pending = s.pending := rfl

/-! ### holdShow -/

@[simp] theorem holdShow_cfg : (s.holdShow).cfg = s.cfg := rfl
@[simp] theorem holdShow_clock : (s.holdShow).clock = s.clock := rfl
@[simp] theorem holdShow_groups : (s.holdShow).groups = s.groups := rfl
@[simp] theorem holdShow_dbm : (s.holdShow).dbm = s.dbm := rfl
@[simp] theorem holdShow_lgt : (s.holdShow).lgt = s.lgt := rfl
@[simp] theorem holdShow_fda : (s.holdShow).fda = s.fda := rfl
@[simp] theorem holdShow_sup : (s.holdShow).sup = s.sup := rfl
@[simp] theorem holdShow_flp : (s.holdShow).flp = s.flp := rfl
@[simp] theorem holdShow_flash : (s.holdShow).flash = s.flash := rfl
@[simp] theorem holdShow_pins : (s.holdShow).pins = s.pins := rfl
@[simp] theorem holdShow_fresh : (s.holdShow).fresh = s.fresh := rfl
@[simp] theorem holdShow_pending : (s.holdShow).pending = s.pending := rfl

/-! ### resumeShow -/

@[simp] theorem resumeShow_cfg : (s.resumeShow).cfg = s.cfg := rfl
@[simp] theorem resumeShow_clock : (s.resumeShow).clock = s.clock := rfl
@[simp] theorem resumeShow_groups : (s.resumeShow).groups = s.groups := rfl
@[simp] theorem resumeShow_dbm : (s.resumeShow).dbm = s.dbm := rfl
@[simp] theorem resumeShow_lgt : (s.resumeShow).lgt = s.lgt := rfl
@[simp] theorem resumeShow_fda : (s.resumeShow).fda = s.fda := rfl
@[simp] theorem resumeShow_sup : (s.resumeShow).sup = s.sup := rfl
@[simp] theorem resumeShow_flp : (s.resumeShow).flp = s.flp := rfl
@[simp] theorem resumeShow_flash : (s.resumeShow).flash = s.flash := rfl
@[simp] theorem resumeShow_pins : (s.resumeShow).pins = s.pins := rfl
@[simp] theorem resumeShow_fresh : (s.resumeShow).fresh = s.fresh := rfl
@[simp] theorem resumeShow_pending : (s.resumeShow).pending = s.pending := rfl

end Sys2Proof.Machine.State
end

