-- ==== Sys2Proof/Laws/Frames.lean ====
section
/-! SUPPORT. What each larger operation leaves as it was. -/

namespace Sys2Proof.Machine.State

variable (s : State)

/-- A fold whose every step keeps a field keeps it. -/
theorem foldl_field {α β : Type} (π : State → β) (f : State → α → State) (h : ∀ a e, π (f a e) = π a) (l : List α)
    (a : State) : π (l.foldl f a) = π a := by
  induction l generalizing a with
  | nil => rfl
  | cons e l ih => exact (ih _).trans (h a e)

/-! ### chooseTxn -/

@[simp] theorem chooseTxn_cfg : (s.chooseTxn).cfg = s.cfg := by
  unfold chooseTxn; (repeat' split) <;> simp
@[simp] theorem chooseTxn_clock : (s.chooseTxn).clock = s.clock := by
  unfold chooseTxn; (repeat' split) <;> simp
@[simp] theorem chooseTxn_seq : (s.chooseTxn).seq = s.seq := by
  unfold chooseTxn; (repeat' split) <;> simp
@[simp] theorem chooseTxn_aud : (s.chooseTxn).aud = s.aud := by
  unfold chooseTxn; (repeat' split) <;> simp
@[simp] theorem chooseTxn_groups : (s.chooseTxn).groups = s.groups := by
  unfold chooseTxn; (repeat' split) <;> simp
@[simp] theorem chooseTxn_dbm : (s.chooseTxn).dbm = s.dbm := by
  unfold chooseTxn; (repeat' split) <;> simp
@[simp] theorem chooseTxn_lgt : (s.chooseTxn).lgt = s.lgt := by
  unfold chooseTxn; (repeat' split) <;> simp
@[simp] theorem chooseTxn_fda : (s.chooseTxn).fda = s.fda := by
  unfold chooseTxn; (repeat' split) <;> simp
@[simp] theorem chooseTxn_sup : (s.chooseTxn).sup = s.sup := by
  unfold chooseTxn; (repeat' split) <;> simp
@[simp] theorem chooseTxn_flags : (s.chooseTxn).flags = s.flags := by
  unfold chooseTxn; (repeat' split) <;> simp
@[simp] theorem chooseTxn_flash : (s.chooseTxn).flash = s.flash := by
  unfold chooseTxn; (repeat' split) <;> simp
@[simp] theorem chooseTxn_pins : (s.chooseTxn).pins = s.pins := by
  unfold chooseTxn; (repeat' split) <;> simp
@[simp] theorem chooseTxn_fresh : (s.chooseTxn).fresh = s.fresh := by
  unfold chooseTxn; (repeat' split) <;> simp
@[simp] theorem chooseTxn_pending : (s.chooseTxn).pending = s.pending := by
  unfold chooseTxn; (repeat' split) <;> simp

/-! ### lampFrame -/

@[simp] theorem lampFrame_cfg : (s.lampFrame).cfg = s.cfg := by
  simp [lampFrame]
@[simp] theorem lampFrame_clock : (s.lampFrame).clock = s.clock := by
  simp [lampFrame]
@[simp] theorem lampFrame_lif : (s.lampFrame).lif = s.lif := by
  simp [lampFrame]
@[simp] theorem lampFrame_seq : (s.lampFrame).seq = s.seq := by
  simp [lampFrame]
@[simp] theorem lampFrame_aud : (s.lampFrame).aud = s.aud := by
  simp [lampFrame]
@[simp] theorem lampFrame_groups : (s.lampFrame).groups = s.groups := by
  simp [lampFrame]
@[simp] theorem lampFrame_dbm : (s.lampFrame).dbm = s.dbm := by
  simp [lampFrame]
@[simp] theorem lampFrame_sup : (s.lampFrame).sup = s.sup := by
  simp [lampFrame]
@[simp] theorem lampFrame_flp : (s.lampFrame).flp = s.flp := by
  simp [lampFrame]
@[simp] theorem lampFrame_flash : (s.lampFrame).flash = s.flash := by
  simp [lampFrame]
@[simp] theorem lampFrame_pins : (s.lampFrame).pins = s.pins := by
  simp [lampFrame]
@[simp] theorem lampFrame_pending : (s.lampFrame).pending = s.pending := by
  simp [lampFrame]

/-! ### arbitrate -/

@[simp] theorem arbitrate_cfg : (s.arbitrate).cfg = s.cfg := by
  unfold arbitrate; (repeat' split) <;> simp
@[simp] theorem arbitrate_clock : (s.arbitrate).clock = s.clock := by
  unfold arbitrate; (repeat' split) <;> simp
@[simp] theorem arbitrate_seq : (s.arbitrate).seq = s.seq := by
  unfold arbitrate; (repeat' split) <;> simp
@[simp] theorem arbitrate_aud : (s.arbitrate).aud = s.aud := by
  unfold arbitrate; (repeat' split) <;> simp
@[simp] theorem arbitrate_groups : (s.arbitrate).groups = s.groups := by
  unfold arbitrate; (repeat' split) <;> simp
@[simp] theorem arbitrate_dbm : (s.arbitrate).dbm = s.dbm := by
  unfold arbitrate; (repeat' split) <;> simp
@[simp] theorem arbitrate_lgt : (s.arbitrate).lgt = s.lgt := by
  unfold arbitrate; (repeat' split) <;> simp
@[simp] theorem arbitrate_fda : (s.arbitrate).fda = s.fda := by
  unfold arbitrate; (repeat' split) <;> simp
@[simp] theorem arbitrate_sup : (s.arbitrate).sup = s.sup := by
  unfold arbitrate; (repeat' split) <;> simp
@[simp] theorem arbitrate_pins : (s.arbitrate).pins = s.pins := by
  unfold arbitrate; (repeat' split) <;> simp
@[simp] theorem arbitrate_pending : (s.arbitrate).pending = s.pending := by
  unfold arbitrate; (repeat' split) <;> simp

/-! ### settleFlash -/

@[simp] theorem settleFlash_cfg : (s.settleFlash).cfg = s.cfg := by
  simp [settleFlash]
@[simp] theorem settleFlash_clock : (s.settleFlash).clock = s.clock := by
  simp [settleFlash]
@[simp] theorem settleFlash_seq : (s.settleFlash).seq = s.seq := by
  simp [settleFlash]
@[simp] theorem settleFlash_groups : (s.settleFlash).groups = s.groups := by
  simp [settleFlash]
@[simp] theorem settleFlash_dbm : (s.settleFlash).dbm = s.dbm := by
  simp [settleFlash]
@[simp] theorem settleFlash_lgt : (s.settleFlash).lgt = s.lgt := by
  simp [settleFlash]
@[simp] theorem settleFlash_fda : (s.settleFlash).fda = s.fda := by
  simp [settleFlash]
@[simp] theorem settleFlash_sup : (s.settleFlash).sup = s.sup := by
  simp [settleFlash]
@[simp] theorem settleFlash_pins : (s.settleFlash).pins = s.pins := by
  simp [settleFlash]
@[simp] theorem settleFlash_pending : (s.settleFlash).pending = s.pending := by
  simp [settleFlash]

/-! ### relockAnnouncement -/

@[simp] theorem relockAnnouncement_cfg : (s.relockAnnouncement).cfg = s.cfg := by
  unfold relockAnnouncement; dsimp only; (repeat' split) <;> simp
@[simp] theorem relockAnnouncement_clock : (s.relockAnnouncement).clock = s.clock := by
  unfold relockAnnouncement; dsimp only; (repeat' split) <;> simp
@[simp] theorem relockAnnouncement_lif : (s.relockAnnouncement).lif = s.lif := by
  unfold relockAnnouncement; dsimp only; (repeat' split) <;> simp
@[simp] theorem relockAnnouncement_seq : (s.relockAnnouncement).seq = s.seq := by
  unfold relockAnnouncement; dsimp only; (repeat' split) <;> simp
@[simp] theorem relockAnnouncement_aud : (s.relockAnnouncement).aud = s.aud := by
  unfold relockAnnouncement; dsimp only; (repeat' split) <;> simp
@[simp] theorem relockAnnouncement_groups : (s.relockAnnouncement).groups = s.groups := by
  unfold relockAnnouncement; dsimp only; (repeat' split) <;> simp
@[simp] theorem relockAnnouncement_dbm : (s.relockAnnouncement).dbm = s.dbm := by
  unfold relockAnnouncement; dsimp only; (repeat' split) <;> simp
@[simp] theorem relockAnnouncement_lgt : (s.relockAnnouncement).lgt = s.lgt := by
  unfold relockAnnouncement; dsimp only; (repeat' split) <;> simp
@[simp] theorem relockAnnouncement_fda : (s.relockAnnouncement).fda = s.fda := by
  unfold relockAnnouncement; dsimp only; (repeat' split) <;> simp
@[simp] theorem relockAnnouncement_sup : (s.relockAnnouncement).sup = s.sup := by
  unfold relockAnnouncement; dsimp only; (repeat' split) <;> simp
@[simp] theorem relockAnnouncement_flags : (s.relockAnnouncement).flags = s.flags := by
  unfold relockAnnouncement; dsimp only; (repeat' split) <;> simp
@[simp] theorem relockAnnouncement_flash : (s.relockAnnouncement).flash = s.flash := by
  unfold relockAnnouncement; dsimp only; (repeat' split) <;> simp
@[simp] theorem relockAnnouncement_pins : (s.relockAnnouncement).pins = s.pins := by
  unfold relockAnnouncement; dsimp only; (repeat' split) <;> simp
@[simp] theorem relockAnnouncement_fresh : (s.relockAnnouncement).fresh = s.fresh := by
  unfold relockAnnouncement; dsimp only; (repeat' split) <;> simp
@[simp] theorem relockAnnouncement_pending : (s.relockAnnouncement).pending = s.pending := by
  unfold relockAnnouncement; dsimp only; (repeat' split) <;> simp

/-! ### postDemand -/

@[simp] theorem postDemand_cfg (g : Fin 24) (v : Nat) : (s.postDemand g v).cfg = s.cfg := by
  unfold postDemand; (repeat' split) <;> simp
@[simp] theorem postDemand_clock (g : Fin 24) (v : Nat) : (s.postDemand g v).clock = s.clock := by
  unfold postDemand; (repeat' split) <;> simp
@[simp] theorem postDemand_lif (g : Fin 24) (v : Nat) : (s.postDemand g v).lif = s.lif := by
  unfold postDemand; (repeat' split) <;> simp
@[simp] theorem postDemand_seq (g : Fin 24) (v : Nat) : (s.postDemand g v).seq = s.seq := by
  unfold postDemand; (repeat' split) <;> simp
@[simp] theorem postDemand_aud (g : Fin 24) (v : Nat) : (s.postDemand g v).aud = s.aud := by
  unfold postDemand; (repeat' split) <;> simp
@[simp] theorem postDemand_groups (g : Fin 24) (v : Nat) : (s.postDemand g v).groups = s.groups := by
  unfold postDemand; (repeat' split) <;> simp
@[simp] theorem postDemand_dbm (g : Fin 24) (v : Nat) : (s.postDemand g v).dbm = s.dbm := by
  unfold postDemand; (repeat' split) <;> simp
@[simp] theorem postDemand_lgt (g : Fin 24) (v : Nat) : (s.postDemand g v).lgt = s.lgt := by
  unfold postDemand; (repeat' split) <;> simp
@[simp] theorem postDemand_sup (g : Fin 24) (v : Nat) : (s.postDemand g v).sup = s.sup := by
  unfold postDemand; (repeat' split) <;> simp
@[simp] theorem postDemand_flp (g : Fin 24) (v : Nat) : (s.postDemand g v).flp = s.flp := by
  unfold postDemand; (repeat' split) <;> simp
@[simp] theorem postDemand_flash (g : Fin 24) (v : Nat) : (s.postDemand g v).flash = s.flash := by
  unfold postDemand; (repeat' split) <;> simp
@[simp] theorem postDemand_pins (g : Fin 24) (v : Nat) : (s.postDemand g v).pins = s.pins := by
  unfold postDemand; (repeat' split) <;> simp
@[simp] theorem postDemand_fresh (g : Fin 24) (v : Nat) : (s.postDemand g v).fresh = s.fresh := by
  unfold postDemand; (repeat' split) <;> simp
@[simp] theorem postDemand_pending (g : Fin 24) (v : Nat) : (s.postDemand g v).pending = s.pending := by
  unfold postDemand; (repeat' split) <;> simp

/-! ### testStopping -/

@[simp] theorem testStopping_cfg : (s.testStopping).cfg = s.cfg := by
  unfold testStopping; (repeat' split) <;> simp
@[simp] theorem testStopping_clock : (s.testStopping).clock = s.clock := by
  unfold testStopping; (repeat' split) <;> simp
@[simp] theorem testStopping_groups : (s.testStopping).groups = s.groups := by
  unfold testStopping; (repeat' split) <;> simp
@[simp] theorem testStopping_dbm : (s.testStopping).dbm = s.dbm := by
  unfold testStopping; (repeat' split) <;> simp
@[simp] theorem testStopping_lgt : (s.testStopping).lgt = s.lgt := by
  unfold testStopping; (repeat' split) <;> simp
@[simp] theorem testStopping_fda : (s.testStopping).fda = s.fda := by
  unfold testStopping; (repeat' split) <;> simp
@[simp] theorem testStopping_sup : (s.testStopping).sup = s.sup := by
  unfold testStopping; (repeat' split) <;> simp
@[simp] theorem testStopping_flash : (s.testStopping).flash = s.flash := by
  unfold testStopping; (repeat' split) <;> simp
@[simp] theorem testStopping_pins : (s.testStopping).pins = s.pins := by
  unfold testStopping; (repeat' split) <;> simp
@[simp] theorem testStopping_fresh : (s.testStopping).fresh = s.fresh := by
  unfold testStopping; (repeat' split) <;> simp
@[simp] theorem testStopping_pending : (s.testStopping).pending = s.pending := by
  unfold testStopping; (repeat' split) <;> simp

/-! ### enterStopping -/

@[simp] theorem enterStopping_cfg (r : EndReason) : (s.enterStopping r).cfg = s.cfg := by
  simp [enterStopping]
@[simp] theorem enterStopping_clock (r : EndReason) : (s.enterStopping r).clock = s.clock := by
  simp [enterStopping]
@[simp] theorem enterStopping_dbm (r : EndReason) : (s.enterStopping r).dbm = s.dbm := by
  simp [enterStopping]
@[simp] theorem enterStopping_fda (r : EndReason) : (s.enterStopping r).fda = s.fda := by
  simp [enterStopping]
@[simp] theorem enterStopping_sup (r : EndReason) : (s.enterStopping r).sup = s.sup := by
  simp [enterStopping]
@[simp] theorem enterStopping_flash (r : EndReason) : (s.enterStopping r).flash = s.flash := by
  simp [enterStopping]
@[simp] theorem enterStopping_pins (r : EndReason) : (s.enterStopping r).pins = s.pins := by
  simp [enterStopping]
@[simp] theorem enterStopping_pending (r : EndReason) : (s.enterStopping r).pending = s.pending := by
  simp [enterStopping]

/-! ### abortShow -/

@[simp] theorem abortShow_cfg (f : Failure) (r : EndReason) : (s.abortShow f r).cfg = s.cfg := by
  unfold abortShow; (repeat' split) <;> simp
@[simp] theorem abortShow_clock (f : Failure) (r : EndReason) : (s.abortShow f r).clock = s.clock := by
  unfold abortShow; (repeat' split) <;> simp
@[simp] theorem abortShow_groups (f : Failure) (r : EndReason) : (s.abortShow f r).groups = s.groups := by
  unfold abortShow; (repeat' split) <;> simp
@[simp] theorem abortShow_dbm (f : Failure) (r : EndReason) : (s.abortShow f r).dbm = s.dbm := by
  unfold abortShow; (repeat' split) <;> simp
@[simp] theorem abortShow_lgt (f : Failure) (r : EndReason) : (s.abortShow f r).lgt = s.lgt := by
  unfold abortShow; (repeat' split) <;> simp
@[simp] theorem abortShow_fda (f : Failure) (r : EndReason) : (s.abortShow f r).fda = s.fda := by
  unfold abortShow; (repeat' split) <;> simp
@[simp] theorem abortShow_sup (f : Failure) (r : EndReason) : (s.abortShow f r).sup = s.sup := by
  unfold abortShow; (repeat' split) <;> simp
@[simp] theorem abortShow_flash (f : Failure) (r : EndReason) : (s.abortShow f r).flash = s.flash := by
  unfold abortShow; (repeat' split) <;> simp
@[simp] theorem abortShow_pins (f : Failure) (r : EndReason) : (s.abortShow f r).pins = s.pins := by
  unfold abortShow; (repeat' split) <;> simp
@[simp] theorem abortShow_fresh (f : Failure) (r : EndReason) : (s.abortShow f r).fresh = s.fresh := by
  unfold abortShow; (repeat' split) <;> simp
@[simp] theorem abortShow_pending (f : Failure) (r : EndReason) : (s.abortShow f r).pending = s.pending := by
  unfold abortShow; (repeat' split) <;> simp

/-! ### askDirectory -/

@[simp] theorem askDirectory_cfg (w : CopyFor) : (s.askDirectory w).cfg = s.cfg := by
  unfold askDirectory; (repeat' split) <;> simp
@[simp] theorem askDirectory_clock (w : CopyFor) : (s.askDirectory w).clock = s.clock := by
  unfold askDirectory; (repeat' split) <;> simp
@[simp] theorem askDirectory_lif (w : CopyFor) : (s.askDirectory w).lif = s.lif := by
  unfold askDirectory; (repeat' split) <;> simp
@[simp] theorem askDirectory_seq (w : CopyFor) : (s.askDirectory w).seq = s.seq := by
  unfold askDirectory; (repeat' split) <;> simp
@[simp] theorem askDirectory_groups (w : CopyFor) : (s.askDirectory w).groups = s.groups := by
  unfold askDirectory; (repeat' split) <;> simp
@[simp] theorem askDirectory_dbm (w : CopyFor) : (s.askDirectory w).dbm = s.dbm := by
  unfold askDirectory; (repeat' split) <;> simp
@[simp] theorem askDirectory_lgt (w : CopyFor) : (s.askDirectory w).lgt = s.lgt := by
  unfold askDirectory; (repeat' split) <;> simp
@[simp] theorem askDirectory_fda (w : CopyFor) : (s.askDirectory w).fda = s.fda := by
  unfold askDirectory; (repeat' split) <;> simp
@[simp] theorem askDirectory_sup (w : CopyFor) : (s.askDirectory w).sup = s.sup := by
  unfold askDirectory; (repeat' split) <;> simp
@[simp] theorem askDirectory_flags (w : CopyFor) : (s.askDirectory w).flags = s.flags := by
  unfold askDirectory; (repeat' split) <;> simp
@[simp] theorem askDirectory_flash (w : CopyFor) : (s.askDirectory w).flash = s.flash := by
  unfold askDirectory; (repeat' split) <;> simp
@[simp] theorem askDirectory_pins (w : CopyFor) : (s.askDirectory w).pins = s.pins := by
  unfold askDirectory; (repeat' split) <;> simp
@[simp] theorem askDirectory_fresh (w : CopyFor) : (s.askDirectory w).fresh = s.fresh := by
  unfold askDirectory; (repeat' split) <;> simp
@[simp] theorem askDirectory_pending (w : CopyFor) : (s.askDirectory w).pending = s.pending := by
  unfold askDirectory; (repeat' split) <;> simp

/-! ### nextDirectory -/

@[simp] theorem nextDirectory_cfg : (s.nextDirectory).cfg = s.cfg := by
  unfold nextDirectory; (repeat' split) <;> simp
@[simp] theorem nextDirectory_clock : (s.nextDirectory).clock = s.clock := by
  unfold nextDirectory; (repeat' split) <;> simp
@[simp] theorem nextDirectory_lif : (s.nextDirectory).lif = s.lif := by
  unfold nextDirectory; (repeat' split) <;> simp
@[simp] theorem nextDirectory_seq : (s.nextDirectory).seq = s.seq := by
  unfold nextDirectory; (repeat' split) <;> simp
@[simp] theorem nextDirectory_groups : (s.nextDirectory).groups = s.groups := by
  unfold nextDirectory; (repeat' split) <;> simp
@[simp] theorem nextDirectory_dbm : (s.nextDirectory).dbm = s.dbm := by
  unfold nextDirectory; (repeat' split) <;> simp
@[simp] theorem nextDirectory_lgt : (s.nextDirectory).lgt = s.lgt := by
  unfold nextDirectory; (repeat' split) <;> simp
@[simp] theorem nextDirectory_fda : (s.nextDirectory).fda = s.fda := by
  unfold nextDirectory; (repeat' split) <;> simp
@[simp] theorem nextDirectory_sup : (s.nextDirectory).sup = s.sup := by
  unfold nextDirectory; (repeat' split) <;> simp
@[simp] theorem nextDirectory_flags : (s.nextDirectory).flags = s.flags := by
  unfold nextDirectory; (repeat' split) <;> simp
@[simp] theorem nextDirectory_flash : (s.nextDirectory).flash = s.flash := by
  unfold nextDirectory; (repeat' split) <;> simp
@[simp] theorem nextDirectory_pins : (s.nextDirectory).pins = s.pins := by
  unfold nextDirectory; (repeat' split) <;> simp
@[simp] theorem nextDirectory_fresh : (s.nextDirectory).fresh = s.fresh := by
  unfold nextDirectory; (repeat' split) <;> simp
@[simp] theorem nextDirectory_pending : (s.nextDirectory).pending = s.pending := by
  unfold nextDirectory; (repeat' split) <;> simp

/-! ### finishLoad -/

@[simp] theorem finishLoad_cfg (h : ShowHeader) (rs : List Byte) : (s.finishLoad h rs).cfg = s.cfg := by
  unfold finishLoad; (repeat' (first | split | (dsimp only; split))) <;> simp
@[simp] theorem finishLoad_clock (h : ShowHeader) (rs : List Byte) : (s.finishLoad h rs).clock = s.clock := by
  unfold finishLoad; (repeat' (first | split | (dsimp only; split))) <;> simp
@[simp] theorem finishLoad_groups (h : ShowHeader) (rs : List Byte) : (s.finishLoad h rs).groups = s.groups := by
  unfold finishLoad; (repeat' (first | split | (dsimp only; split))) <;> simp
@[simp] theorem finishLoad_dbm (h : ShowHeader) (rs : List Byte) : (s.finishLoad h rs).dbm = s.dbm := by
  unfold finishLoad; (repeat' (first | split | (dsimp only; split))) <;> simp
@[simp] theorem finishLoad_lgt (h : ShowHeader) (rs : List Byte) : (s.finishLoad h rs).lgt = s.lgt := by
  unfold finishLoad; (repeat' (first | split | (dsimp only; split))) <;> simp
@[simp] theorem finishLoad_fda (h : ShowHeader) (rs : List Byte) : (s.finishLoad h rs).fda = s.fda := by
  unfold finishLoad; (repeat' (first | split | (dsimp only; split))) <;> simp
@[simp] theorem finishLoad_sup (h : ShowHeader) (rs : List Byte) : (s.finishLoad h rs).sup = s.sup := by
  unfold finishLoad; (repeat' (first | split | (dsimp only; split))) <;> simp
@[simp] theorem finishLoad_flash (h : ShowHeader) (rs : List Byte) : (s.finishLoad h rs).flash = s.flash := by
  unfold finishLoad; (repeat' (first | split | (dsimp only; split))) <;> simp
@[simp] theorem finishLoad_pins (h : ShowHeader) (rs : List Byte) : (s.finishLoad h rs).pins = s.pins := by
  unfold finishLoad; (repeat' (first | split | (dsimp only; split))) <;> simp
@[simp] theorem finishLoad_fresh (h : ShowHeader) (rs : List Byte) : (s.finishLoad h rs).fresh = s.fresh := by
  unfold finishLoad; (repeat' (first | split | (dsimp only; split))) <;> simp
@[simp] theorem finishLoad_pending (h : ShowHeader) (rs : List Byte) : (s.finishLoad h rs).pending = s.pending := by
  unfold finishLoad; (repeat' (first | split | (dsimp only; split))) <;> simp

/-! ### beginLoad -/

@[simp] theorem beginLoad_cfg (n : Nat) (t : Byte) : (s.beginLoad n t).cfg = s.cfg := by
  unfold beginLoad; (repeat' split) <;> simp
@[simp] theorem beginLoad_clock (n : Nat) (t : Byte) : (s.beginLoad n t).clock = s.clock := by
  unfold beginLoad; (repeat' split) <;> simp
@[simp] theorem beginLoad_groups (n : Nat) (t : Byte) : (s.beginLoad n t).groups = s.groups := by
  unfold beginLoad; (repeat' split) <;> simp
@[simp] theorem beginLoad_dbm (n : Nat) (t : Byte) : (s.beginLoad n t).dbm = s.dbm := by
  unfold beginLoad; (repeat' split) <;> simp
@[simp] theorem beginLoad_lgt (n : Nat) (t : Byte) : (s.beginLoad n t).lgt = s.lgt := by
  unfold beginLoad; (repeat' split) <;> simp
@[simp] theorem beginLoad_fda (n : Nat) (t : Byte) : (s.beginLoad n t).fda = s.fda := by
  unfold beginLoad; (repeat' split) <;> simp
@[simp] theorem beginLoad_sup (n : Nat) (t : Byte) : (s.beginLoad n t).sup = s.sup := by
  unfold beginLoad; (repeat' split) <;> simp
@[simp] theorem beginLoad_flash (n : Nat) (t : Byte) : (s.beginLoad n t).flash = s.flash := by
  unfold beginLoad; (repeat' split) <;> simp
@[simp] theorem beginLoad_pins (n : Nat) (t : Byte) : (s.beginLoad n t).pins = s.pins := by
  unfold beginLoad; (repeat' split) <;> simp
@[simp] theorem beginLoad_fresh (n : Nat) (t : Byte) : (s.beginLoad n t).fresh = s.fresh := by
  unfold beginLoad; (repeat' split) <;> simp
@[simp] theorem beginLoad_pending (n : Nat) (t : Byte) : (s.beginLoad n t).pending = s.pending := by
  unfold beginLoad; (repeat' split) <;> simp

/-! ### loadRead -/

@[simp] theorem loadRead_cfg (bs : List Byte) : (s.loadRead bs).cfg = s.cfg := by
  unfold loadRead; (repeat' (first | split | (dsimp only; split))) <;> simp
@[simp] theorem loadRead_clock (bs : List Byte) : (s.loadRead bs).clock = s.clock := by
  unfold loadRead; (repeat' (first | split | (dsimp only; split))) <;> simp
@[simp] theorem loadRead_groups (bs : List Byte) : (s.loadRead bs).groups = s.groups := by
  unfold loadRead; (repeat' (first | split | (dsimp only; split))) <;> simp
@[simp] theorem loadRead_dbm (bs : List Byte) : (s.loadRead bs).dbm = s.dbm := by
  unfold loadRead; (repeat' (first | split | (dsimp only; split))) <;> simp
@[simp] theorem loadRead_lgt (bs : List Byte) : (s.loadRead bs).lgt = s.lgt := by
  unfold loadRead; (repeat' (first | split | (dsimp only; split))) <;> simp
@[simp] theorem loadRead_fda (bs : List Byte) : (s.loadRead bs).fda = s.fda := by
  unfold loadRead; (repeat' (first | split | (dsimp only; split))) <;> simp
@[simp] theorem loadRead_sup (bs : List Byte) : (s.loadRead bs).sup = s.sup := by
  unfold loadRead; (repeat' (first | split | (dsimp only; split))) <;> simp
@[simp] theorem loadRead_flash (bs : List Byte) : (s.loadRead bs).flash = s.flash := by
  unfold loadRead; (repeat' (first | split | (dsimp only; split))) <;> simp
@[simp] theorem loadRead_pins (bs : List Byte) : (s.loadRead bs).pins = s.pins := by
  unfold loadRead; (repeat' (first | split | (dsimp only; split))) <;> simp
@[simp] theorem loadRead_fresh (bs : List Byte) : (s.loadRead bs).fresh = s.fresh := by
  unfold loadRead; (repeat' (first | split | (dsimp only; split))) <;> simp
@[simp] theorem loadRead_pending (bs : List Byte) : (s.loadRead bs).pending = s.pending := by
  unfold loadRead; (repeat' (first | split | (dsimp only; split))) <;> simp

/-! ### loadReadFailed -/

@[simp] theorem loadReadFailed_cfg : (s.loadReadFailed).cfg = s.cfg := by
  unfold loadReadFailed; (repeat' split) <;> simp
@[simp] theorem loadReadFailed_clock : (s.loadReadFailed).clock = s.clock := by
  unfold loadReadFailed; (repeat' split) <;> simp
@[simp] theorem loadReadFailed_groups : (s.loadReadFailed).groups = s.groups := by
  unfold loadReadFailed; (repeat' split) <;> simp
@[simp] theorem loadReadFailed_dbm : (s.loadReadFailed).dbm = s.dbm := by
  unfold loadReadFailed; (repeat' split) <;> simp
@[simp] theorem loadReadFailed_lgt : (s.loadReadFailed).lgt = s.lgt := by
  unfold loadReadFailed; (repeat' split) <;> simp
@[simp] theorem loadReadFailed_fda : (s.loadReadFailed).fda = s.fda := by
  unfold loadReadFailed; (repeat' split) <;> simp
@[simp] theorem loadReadFailed_sup : (s.loadReadFailed).sup = s.sup := by
  unfold loadReadFailed; (repeat' split) <;> simp
@[simp] theorem loadReadFailed_flash : (s.loadReadFailed).flash = s.flash := by
  unfold loadReadFailed; (repeat' split) <;> simp
@[simp] theorem loadReadFailed_pins : (s.loadReadFailed).pins = s.pins := by
  unfold loadReadFailed; (repeat' split) <;> simp
@[simp] theorem loadReadFailed_fresh : (s.loadReadFailed).fresh = s.fresh := by
  unfold loadReadFailed; (repeat' split) <;> simp
@[simp] theorem loadReadFailed_pending : (s.loadReadFailed).pending = s.pending := by
  unfold loadReadFailed; (repeat' split) <;> simp

/-! ### dispatchClip -/

@[simp] theorem dispatchClip_cfg (e : ClipEntry) : (s.dispatchClip e).cfg = s.cfg := by
  unfold dispatchClip; (repeat' split) <;> simp
@[simp] theorem dispatchClip_clock (e : ClipEntry) : (s.dispatchClip e).clock = s.clock := by
  unfold dispatchClip; (repeat' split) <;> simp
@[simp] theorem dispatchClip_lif (e : ClipEntry) : (s.dispatchClip e).lif = s.lif := by
  unfold dispatchClip; (repeat' split) <;> simp
@[simp] theorem dispatchClip_seq (e : ClipEntry) : (s.dispatchClip e).seq = s.seq := by
  unfold dispatchClip; (repeat' split) <;> simp
@[simp] theorem dispatchClip_groups (e : ClipEntry) : (s.dispatchClip e).groups = s.groups := by
  unfold dispatchClip; (repeat' split) <;> simp
@[simp] theorem dispatchClip_dbm (e : ClipEntry) : (s.dispatchClip e).dbm = s.dbm := by
  unfold dispatchClip; (repeat' split) <;> simp
@[simp] theorem dispatchClip_lgt (e : ClipEntry) : (s.dispatchClip e).lgt = s.lgt := by
  unfold dispatchClip; (repeat' split) <;> simp
@[simp] theorem dispatchClip_fda (e : ClipEntry) : (s.dispatchClip e).fda = s.fda := by
  unfold dispatchClip; (repeat' split) <;> simp
@[simp] theorem dispatchClip_sup (e : ClipEntry) : (s.dispatchClip e).sup = s.sup := by
  unfold dispatchClip; (repeat' split) <;> simp
@[simp] theorem dispatchClip_flp (e : ClipEntry) : (s.dispatchClip e).flp = s.flp := by
  unfold dispatchClip; (repeat' split) <;> simp
@[simp] theorem dispatchClip_flash (e : ClipEntry) : (s.dispatchClip e).flash = s.flash := by
  unfold dispatchClip; (repeat' split) <;> simp
@[simp] theorem dispatchClip_pins (e : ClipEntry) : (s.dispatchClip e).pins = s.pins := by
  unfold dispatchClip; (repeat' split) <;> simp
@[simp] theorem dispatchClip_fresh (e : ClipEntry) : (s.dispatchClip e).fresh = s.fresh := by
  unfold dispatchClip; (repeat' split) <;> simp
@[simp] theorem dispatchClip_pending (e : ClipEntry) : (s.dispatchClip e).pending = s.pending := by
  unfold dispatchClip; (repeat' split) <;> simp

/-! ### dispatchMark -/

@[simp] theorem dispatchMark_cfg (t : Int) (e : MarkEntry) : (s.dispatchMark t e).cfg = s.cfg := by
  unfold dispatchMark; (repeat' split) <;> simp
@[simp] theorem dispatchMark_clock (t : Int) (e : MarkEntry) : (s.dispatchMark t e).clock = s.clock := by
  unfold dispatchMark; (repeat' split) <;> simp
@[simp] theorem dispatchMark_seq (t : Int) (e : MarkEntry) : (s.dispatchMark t e).seq = s.seq := by
  unfold dispatchMark; (repeat' split) <;> simp
@[simp] theorem dispatchMark_aud (t : Int) (e : MarkEntry) : (s.dispatchMark t e).aud = s.aud := by
  unfold dispatchMark; (repeat' split) <;> simp
@[simp] theorem dispatchMark_groups (t : Int) (e : MarkEntry) : (s.dispatchMark t e).groups = s.groups := by
  unfold dispatchMark; (repeat' split) <;> simp
@[simp] theorem dispatchMark_dbm (t : Int) (e : MarkEntry) : (s.dispatchMark t e).dbm = s.dbm := by
  unfold dispatchMark; (repeat' split) <;> simp
@[simp] theorem dispatchMark_lgt (t : Int) (e : MarkEntry) : (s.dispatchMark t e).lgt = s.lgt := by
  unfold dispatchMark; (repeat' split) <;> simp
@[simp] theorem dispatchMark_fda (t : Int) (e : MarkEntry) : (s.dispatchMark t e).fda = s.fda := by
  unfold dispatchMark; (repeat' split) <;> simp
@[simp] theorem dispatchMark_sup (t : Int) (e : MarkEntry) : (s.dispatchMark t e).sup = s.sup := by
  unfold dispatchMark; (repeat' split) <;> simp
@[simp] theorem dispatchMark_flp (t : Int) (e : MarkEntry) : (s.dispatchMark t e).flp = s.flp := by
  unfold dispatchMark; (repeat' split) <;> simp
@[simp] theorem dispatchMark_flash (t : Int) (e : MarkEntry) : (s.dispatchMark t e).flash = s.flash := by
  unfold dispatchMark; (repeat' split) <;> simp
@[simp] theorem dispatchMark_pins (t : Int) (e : MarkEntry) : (s.dispatchMark t e).pins = s.pins := by
  unfold dispatchMark; (repeat' split) <;> simp
@[simp] theorem dispatchMark_fresh (t : Int) (e : MarkEntry) : (s.dispatchMark t e).fresh = s.fresh := by
  unfold dispatchMark; (repeat' split) <;> simp
@[simp] theorem dispatchMark_pending (t : Int) (e : MarkEntry) : (s.dispatchMark t e).pending = s.pending := by
  unfold dispatchMark; (repeat' split) <;> simp

/-! ### deliver -/

@[simp] theorem deliver_cfg (t : Int) : (s.deliver t).cfg = s.cfg := by
  simp only [deliver]
  refine foldl_field State.cfg _ (fun a e => by simp) _ _ |>.trans ?_
  refine foldl_field State.cfg _ (fun a e => by simp) _ _ |>.trans ?_
  refine foldl_field State.cfg _ (fun a e => by simp) _ _ |>.trans ?_
  rfl
@[simp] theorem deliver_clock (t : Int) : (s.deliver t).clock = s.clock := by
  simp only [deliver]
  refine foldl_field State.clock _ (fun a e => by simp) _ _ |>.trans ?_
  refine foldl_field State.clock _ (fun a e => by simp) _ _ |>.trans ?_
  refine foldl_field State.clock _ (fun a e => by simp) _ _ |>.trans ?_
  rfl
@[simp] theorem deliver_dbm (t : Int) : (s.deliver t).dbm = s.dbm := by
  simp only [deliver]
  refine foldl_field State.dbm _ (fun a e => by simp) _ _ |>.trans ?_
  refine foldl_field State.dbm _ (fun a e => by simp) _ _ |>.trans ?_
  refine foldl_field State.dbm _ (fun a e => by simp) _ _ |>.trans ?_
  rfl
@[simp] theorem deliver_fda (t : Int) : (s.deliver t).fda = s.fda := by
  simp only [deliver]
  refine foldl_field State.fda _ (fun a e => by simp) _ _ |>.trans ?_
  refine foldl_field State.fda _ (fun a e => by simp) _ _ |>.trans ?_
  refine foldl_field State.fda _ (fun a e => by simp) _ _ |>.trans ?_
  rfl
@[simp] theorem deliver_sup (t : Int) : (s.deliver t).sup = s.sup := by
  simp only [deliver]
  refine foldl_field State.sup _ (fun a e => by simp) _ _ |>.trans ?_
  refine foldl_field State.sup _ (fun a e => by simp) _ _ |>.trans ?_
  refine foldl_field State.sup _ (fun a e => by simp) _ _ |>.trans ?_
  rfl
@[simp] theorem deliver_flp (t : Int) : (s.deliver t).flp = s.flp := by
  simp only [deliver]
  refine foldl_field State.flp _ (fun a e => by simp) _ _ |>.trans ?_
  refine foldl_field State.flp _ (fun a e => by simp) _ _ |>.trans ?_
  refine foldl_field State.flp _ (fun a e => by simp) _ _ |>.trans ?_
  rfl
@[simp] theorem deliver_flash (t : Int) : (s.deliver t).flash = s.flash := by
  simp only [deliver]
  refine foldl_field State.flash _ (fun a e => by simp) _ _ |>.trans ?_
  refine foldl_field State.flash _ (fun a e => by simp) _ _ |>.trans ?_
  refine foldl_field State.flash _ (fun a e => by simp) _ _ |>.trans ?_
  rfl
@[simp] theorem deliver_pins (t : Int) : (s.deliver t).pins = s.pins := by
  simp only [deliver]
  refine foldl_field State.pins _ (fun a e => by simp) _ _ |>.trans ?_
  refine foldl_field State.pins _ (fun a e => by simp) _ _ |>.trans ?_
  refine foldl_field State.pins _ (fun a e => by simp) _ _ |>.trans ?_
  rfl
@[simp] theorem deliver_fresh (t : Int) : (s.deliver t).fresh = s.fresh := by
  simp only [deliver]
  refine foldl_field State.fresh _ (fun a e => by simp) _ _ |>.trans ?_
  refine foldl_field State.fresh _ (fun a e => by simp) _ _ |>.trans ?_
  refine foldl_field State.fresh _ (fun a e => by simp) _ _ |>.trans ?_
  rfl
@[simp] theorem deliver_pending (t : Int) : (s.deliver t).pending = s.pending := by
  simp only [deliver]
  refine foldl_field State.pending _ (fun a e => by simp) _ _ |>.trans ?_
  refine foldl_field State.pending _ (fun a e => by simp) _ _ |>.trans ?_
  refine foldl_field State.pending _ (fun a e => by simp) _ _ |>.trans ?_
  rfl

/-! ### dispatchEvent -/

@[simp] theorem dispatchEvent_cfg (t : Int) : (s.dispatchEvent t).cfg = s.cfg := by
  unfold dispatchEvent; (repeat' split) <;> simp
@[simp] theorem dispatchEvent_clock (t : Int) : (s.dispatchEvent t).clock = s.clock := by
  unfold dispatchEvent; (repeat' split) <;> simp
@[simp] theorem dispatchEvent_dbm (t : Int) : (s.dispatchEvent t).dbm = s.dbm := by
  unfold dispatchEvent; (repeat' split) <;> simp
@[simp] theorem dispatchEvent_fda (t : Int) : (s.dispatchEvent t).fda = s.fda := by
  unfold dispatchEvent; (repeat' split) <;> simp
@[simp] theorem dispatchEvent_sup (t : Int) : (s.dispatchEvent t).sup = s.sup := by
  unfold dispatchEvent; (repeat' split) <;> simp
@[simp] theorem dispatchEvent_flash (t : Int) : (s.dispatchEvent t).flash = s.flash := by
  unfold dispatchEvent; (repeat' split) <;> simp
@[simp] theorem dispatchEvent_pins (t : Int) : (s.dispatchEvent t).pins = s.pins := by
  unfold dispatchEvent; (repeat' split) <;> simp
@[simp] theorem dispatchEvent_pending (t : Int) : (s.dispatchEvent t).pending = s.pending := by
  unfold dispatchEvent; (repeat' split) <;> simp

/-! ### startShow -/

@[simp] theorem startShow_cfg : (s.startShow).cfg = s.cfg := by
  simp [startShow]
@[simp] theorem startShow_clock : (s.startShow).clock = s.clock := by
  simp [startShow]
@[simp] theorem startShow_dbm : (s.startShow).dbm = s.dbm := by
  simp [startShow]
@[simp] theorem startShow_fda : (s.startShow).fda = s.fda := by
  simp [startShow]
@[simp] theorem startShow_sup : (s.startShow).sup = s.sup := by
  simp [startShow]
@[simp] theorem startShow_flash : (s.startShow).flash = s.flash := by
  simp [startShow]
@[simp] theorem startShow_pins : (s.startShow).pins = s.pins := by
  simp [startShow]
@[simp] theorem startShow_pending : (s.startShow).pending = s.pending := by
  simp [startShow]

/-! ### judgeDrop -/

@[simp] theorem judgeDrop_cfg : (s.judgeDrop).cfg = s.cfg := by
  unfold judgeDrop; (repeat' split) <;> simp
@[simp] theorem judgeDrop_clock : (s.judgeDrop).clock = s.clock := by
  unfold judgeDrop; (repeat' split) <;> simp
@[simp] theorem judgeDrop_lif : (s.judgeDrop).lif = s.lif := by
  unfold judgeDrop; (repeat' split) <;> simp
@[simp] theorem judgeDrop_seq : (s.judgeDrop).seq = s.seq := by
  unfold judgeDrop; (repeat' split) <;> simp
@[simp] theorem judgeDrop_aud : (s.judgeDrop).aud = s.aud := by
  unfold judgeDrop; (repeat' split) <;> simp
@[simp] theorem judgeDrop_groups : (s.judgeDrop).groups = s.groups := by
  unfold judgeDrop; (repeat' split) <;> simp
@[simp] theorem judgeDrop_dbm : (s.judgeDrop).dbm = s.dbm := by
  unfold judgeDrop; (repeat' split) <;> simp
@[simp] theorem judgeDrop_lgt : (s.judgeDrop).lgt = s.lgt := by
  unfold judgeDrop; (repeat' split) <;> simp
@[simp] theorem judgeDrop_fda : (s.judgeDrop).fda = s.fda := by
  unfold judgeDrop; (repeat' split) <;> simp
@[simp] theorem judgeDrop_flags : (s.judgeDrop).flags = s.flags := by
  unfold judgeDrop; (repeat' split) <;> simp
@[simp] theorem judgeDrop_flp : (s.judgeDrop).flp = s.flp := by
  unfold judgeDrop; (repeat' split) <;> simp
@[simp] theorem judgeDrop_flash : (s.judgeDrop).flash = s.flash := by
  unfold judgeDrop; (repeat' split) <;> simp
@[simp] theorem judgeDrop_pins : (s.judgeDrop).pins = s.pins := by
  unfold judgeDrop; (repeat' split) <;> simp
@[simp] theorem judgeDrop_fresh : (s.judgeDrop).fresh = s.fresh := by
  unfold judgeDrop; (repeat' split) <;> simp
@[simp] theorem judgeDrop_pending : (s.judgeDrop).pending = s.pending := by
  unfold judgeDrop; (repeat' split) <;> simp

/-! ### settleSite -/

@[simp] theorem settleSite_cfg : (s.settleSite).cfg = s.cfg := by
  unfold settleSite; (repeat' split) <;> simp
@[simp] theorem settleSite_clock : (s.settleSite).clock = s.clock := by
  unfold settleSite; (repeat' split) <;> simp
@[simp] theorem settleSite_seq : (s.settleSite).seq = s.seq := by
  unfold settleSite; (repeat' split) <;> simp
@[simp] theorem settleSite_aud : (s.settleSite).aud = s.aud := by
  unfold settleSite; (repeat' split) <;> simp
@[simp] theorem settleSite_groups : (s.settleSite).groups = s.groups := by
  unfold settleSite; (repeat' split) <;> simp
@[simp] theorem settleSite_dbm : (s.settleSite).dbm = s.dbm := by
  unfold settleSite; (repeat' split) <;> simp
@[simp] theorem settleSite_lgt : (s.settleSite).lgt = s.lgt := by
  unfold settleSite; (repeat' split) <;> simp
@[simp] theorem settleSite_fda : (s.settleSite).fda = s.fda := by
  unfold settleSite; (repeat' split) <;> simp
@[simp] theorem settleSite_flp : (s.settleSite).flp = s.flp := by
  unfold settleSite; (repeat' split) <;> simp
@[simp] theorem settleSite_flash : (s.settleSite).flash = s.flash := by
  unfold settleSite; (repeat' split) <;> simp
@[simp] theorem settleSite_pins : (s.settleSite).pins = s.pins := by
  unfold settleSite; (repeat' split) <;> simp
@[simp] theorem settleSite_fresh : (s.settleSite).fresh = s.fresh := by
  unfold settleSite; (repeat' split) <;> simp
@[simp] theorem settleSite_pending : (s.settleSite).pending = s.pending := by
  unfold settleSite; (repeat' split) <;> simp

/-! ### sayGroup -/

@[simp] theorem sayGroup_cfg (g : Fin 24) (l : Option Interlock) (c : Option Byte) : (s.sayGroup g l c).cfg = s.cfg := by
  unfold sayGroup; (repeat' split) <;> simp
@[simp] theorem sayGroup_clock (g : Fin 24) (l : Option Interlock) (c : Option Byte) : (s.sayGroup g l c).clock = s.clock := by
  unfold sayGroup; (repeat' split) <;> simp
@[simp] theorem sayGroup_seq (g : Fin 24) (l : Option Interlock) (c : Option Byte) : (s.sayGroup g l c).seq = s.seq := by
  unfold sayGroup; (repeat' split) <;> simp
@[simp] theorem sayGroup_aud (g : Fin 24) (l : Option Interlock) (c : Option Byte) : (s.sayGroup g l c).aud = s.aud := by
  unfold sayGroup; (repeat' split) <;> simp
@[simp] theorem sayGroup_groups (g : Fin 24) (l : Option Interlock) (c : Option Byte) : (s.sayGroup g l c).groups = s.groups := by
  unfold sayGroup; (repeat' split) <;> simp
@[simp] theorem sayGroup_dbm (g : Fin 24) (l : Option Interlock) (c : Option Byte) : (s.sayGroup g l c).dbm = s.dbm := by
  unfold sayGroup; (repeat' split) <;> simp
@[simp] theorem sayGroup_lgt (g : Fin 24) (l : Option Interlock) (c : Option Byte) : (s.sayGroup g l c).lgt = s.lgt := by
  unfold sayGroup; (repeat' split) <;> simp
@[simp] theorem sayGroup_fda (g : Fin 24) (l : Option Interlock) (c : Option Byte) : (s.sayGroup g l c).fda = s.fda := by
  unfold sayGroup; (repeat' split) <;> simp
@[simp] theorem sayGroup_sup (g : Fin 24) (l : Option Interlock) (c : Option Byte) : (s.sayGroup g l c).sup = s.sup := by
  unfold sayGroup; (repeat' split) <;> simp
@[simp] theorem sayGroup_flp (g : Fin 24) (l : Option Interlock) (c : Option Byte) : (s.sayGroup g l c).flp = s.flp := by
  unfold sayGroup; (repeat' split) <;> simp
@[simp] theorem sayGroup_flash (g : Fin 24) (l : Option Interlock) (c : Option Byte) : (s.sayGroup g l c).flash = s.flash := by
  unfold sayGroup; (repeat' split) <;> simp
@[simp] theorem sayGroup_pins (g : Fin 24) (l : Option Interlock) (c : Option Byte) : (s.sayGroup g l c).pins = s.pins := by
  unfold sayGroup; (repeat' split) <;> simp
@[simp] theorem sayGroup_fresh (g : Fin 24) (l : Option Interlock) (c : Option Byte) : (s.sayGroup g l c).fresh = s.fresh := by
  unfold sayGroup; (repeat' split) <;> simp
@[simp] theorem sayGroup_pending (g : Fin 24) (l : Option Interlock) (c : Option Byte) : (s.sayGroup g l c).pending = s.pending := by
  unfold sayGroup; (repeat' split) <;> simp

/-! ### offerChange -/

@[simp] theorem offerChange_cfg : (s.offerChange).cfg = s.cfg := by
  simp [offerChange]
@[simp] theorem offerChange_clock : (s.offerChange).clock = s.clock := by
  simp [offerChange]
@[simp] theorem offerChange_groups : (s.offerChange).groups = s.groups := by
  simp [offerChange]
@[simp] theorem offerChange_dbm : (s.offerChange).dbm = s.dbm := by
  simp [offerChange]
@[simp] theorem offerChange_lgt : (s.offerChange).lgt = s.lgt := by
  simp [offerChange]
@[simp] theorem offerChange_fda : (s.offerChange).fda = s.fda := by
  simp [offerChange]
@[simp] theorem offerChange_flash : (s.offerChange).flash = s.flash := by
  simp [offerChange]
@[simp] theorem offerChange_pins : (s.offerChange).pins = s.pins := by
  simp [offerChange]
@[simp] theorem offerChange_fresh : (s.offerChange).fresh = s.fresh := by
  simp [offerChange]
@[simp] theorem offerChange_pending : (s.offerChange).pending = s.pending := by
  simp [offerChange]

/-! ### postAtChange -/

@[simp] theorem postAtChange_cfg (g : Fin 24) (a b : Interlock) : (s.postAtChange g a b).cfg = s.cfg := by
  unfold postAtChange; (repeat' split) <;> simp
@[simp] theorem postAtChange_clock (g : Fin 24) (a b : Interlock) : (s.postAtChange g a b).clock = s.clock := by
  unfold postAtChange; (repeat' split) <;> simp
@[simp] theorem postAtChange_lif (g : Fin 24) (a b : Interlock) : (s.postAtChange g a b).lif = s.lif := by
  unfold postAtChange; (repeat' split) <;> simp
@[simp] theorem postAtChange_seq (g : Fin 24) (a b : Interlock) : (s.postAtChange g a b).seq = s.seq := by
  unfold postAtChange; (repeat' split) <;> simp
@[simp] theorem postAtChange_aud (g : Fin 24) (a b : Interlock) : (s.postAtChange g a b).aud = s.aud := by
  unfold postAtChange; (repeat' split) <;> simp
@[simp] theorem postAtChange_groups (g : Fin 24) (a b : Interlock) : (s.postAtChange g a b).groups = s.groups := by
  unfold postAtChange; (repeat' split) <;> simp
@[simp] theorem postAtChange_dbm (g : Fin 24) (a b : Interlock) : (s.postAtChange g a b).dbm = s.dbm := by
  unfold postAtChange; (repeat' split) <;> simp
@[simp] theorem postAtChange_lgt (g : Fin 24) (a b : Interlock) : (s.postAtChange g a b).lgt = s.lgt := by
  unfold postAtChange; (repeat' split) <;> simp
@[simp] theorem postAtChange_sup (g : Fin 24) (a b : Interlock) : (s.postAtChange g a b).sup = s.sup := by
  unfold postAtChange; (repeat' split) <;> simp
@[simp] theorem postAtChange_flp (g : Fin 24) (a b : Interlock) : (s.postAtChange g a b).flp = s.flp := by
  unfold postAtChange; (repeat' split) <;> simp
@[simp] theorem postAtChange_flash (g : Fin 24) (a b : Interlock) : (s.postAtChange g a b).flash = s.flash := by
  unfold postAtChange; (repeat' split) <;> simp
@[simp] theorem postAtChange_pins (g : Fin 24) (a b : Interlock) : (s.postAtChange g a b).pins = s.pins := by
  unfold postAtChange; (repeat' split) <;> simp
@[simp] theorem postAtChange_fresh (g : Fin 24) (a b : Interlock) : (s.postAtChange g a b).fresh = s.fresh := by
  unfold postAtChange; (repeat' split) <;> simp
@[simp] theorem postAtChange_pending (g : Fin 24) (a b : Interlock) : (s.postAtChange g a b).pending = s.pending := by
  unfold postAtChange; (repeat' split) <;> simp

/-! ### changeInterlock -/

@[simp] theorem changeInterlock_cfg (g : Fin 24) (a b : Interlock) (c : FaultCause) (d : Option Byte) : (s.changeInterlock g a b c d).cfg = s.cfg := by
  simp [changeInterlock]
@[simp] theorem changeInterlock_clock (g : Fin 24) (a b : Interlock) (c : FaultCause) (d : Option Byte) : (s.changeInterlock g a b c d).clock = s.clock := by
  simp [changeInterlock]
@[simp] theorem changeInterlock_dbm (g : Fin 24) (a b : Interlock) (c : FaultCause) (d : Option Byte) : (s.changeInterlock g a b c d).dbm = s.dbm := by
  simp [changeInterlock]
@[simp] theorem changeInterlock_lgt (g : Fin 24) (a b : Interlock) (c : FaultCause) (d : Option Byte) : (s.changeInterlock g a b c d).lgt = s.lgt := by
  simp [changeInterlock]
@[simp] theorem changeInterlock_flash (g : Fin 24) (a b : Interlock) (c : FaultCause) (d : Option Byte) : (s.changeInterlock g a b c d).flash = s.flash := by
  simp [changeInterlock]
@[simp] theorem changeInterlock_pins (g : Fin 24) (a b : Interlock) (c : FaultCause) (d : Option Byte) : (s.changeInterlock g a b c d).pins = s.pins := by
  simp [changeInterlock]
@[simp] theorem changeInterlock_fresh (g : Fin 24) (a b : Interlock) (c : FaultCause) (d : Option Byte) : (s.changeInterlock g a b c d).fresh = s.fresh := by
  simp [changeInterlock]
@[simp] theorem changeInterlock_pending (g : Fin 24) (a b : Interlock) (c : FaultCause) (d : Option Byte) : (s.changeInterlock g a b c d).pending = s.pending := by
  simp [changeInterlock]

/-! ### computePoll -/

@[simp] theorem computePoll_cfg (g : Fin 24) : (s.computePoll g).cfg = s.cfg := by
  unfold computePoll; (repeat' (first | split | (dsimp only; split))) <;> simp
@[simp] theorem computePoll_clock (g : Fin 24) : (s.computePoll g).clock = s.clock := by
  unfold computePoll; (repeat' (first | split | (dsimp only; split))) <;> simp
@[simp] theorem computePoll_dbm (g : Fin 24) : (s.computePoll g).dbm = s.dbm := by
  unfold computePoll; (repeat' (first | split | (dsimp only; split))) <;> simp
@[simp] theorem computePoll_lgt (g : Fin 24) : (s.computePoll g).lgt = s.lgt := by
  unfold computePoll; (repeat' (first | split | (dsimp only; split))) <;> simp
@[simp] theorem computePoll_flash (g : Fin 24) : (s.computePoll g).flash = s.flash := by
  unfold computePoll; (repeat' (first | split | (dsimp only; split))) <;> simp
@[simp] theorem computePoll_pins (g : Fin 24) : (s.computePoll g).pins = s.pins := by
  unfold computePoll; (repeat' (first | split | (dsimp only; split))) <;> simp
@[simp] theorem computePoll_fresh (g : Fin 24) : (s.computePoll g).fresh = s.fresh := by
  unfold computePoll; (repeat' (first | split | (dsimp only; split))) <;> simp
@[simp] theorem computePoll_pending (g : Fin 24) : (s.computePoll g).pending = s.pending := by
  unfold computePoll; (repeat' (first | split | (dsimp only; split))) <;> simp

/-! ### takeReply -/

@[simp] theorem takeReply_cfg (g : Fin 24) (r : DriveReply) : (s.takeReply g r).cfg = s.cfg := by
  unfold takeReply; (repeat' split) <;> simp
@[simp] theorem takeReply_clock (g : Fin 24) (r : DriveReply) : (s.takeReply g r).clock = s.clock := by
  unfold takeReply; (repeat' split) <;> simp
@[simp] theorem takeReply_dbm (g : Fin 24) (r : DriveReply) : (s.takeReply g r).dbm = s.dbm := by
  unfold takeReply; (repeat' split) <;> simp
@[simp] theorem takeReply_lgt (g : Fin 24) (r : DriveReply) : (s.takeReply g r).lgt = s.lgt := by
  unfold takeReply; (repeat' split) <;> simp
@[simp] theorem takeReply_flash (g : Fin 24) (r : DriveReply) : (s.takeReply g r).flash = s.flash := by
  unfold takeReply; (repeat' split) <;> simp
@[simp] theorem takeReply_pins (g : Fin 24) (r : DriveReply) : (s.takeReply g r).pins = s.pins := by
  unfold takeReply; (repeat' split) <;> simp
@[simp] theorem takeReply_fresh (g : Fin 24) (r : DriveReply) : (s.takeReply g r).fresh = s.fresh := by
  unfold takeReply; (repeat' split) <;> simp
@[simp] theorem takeReply_pending (g : Fin 24) (r : DriveReply) : (s.takeReply g r).pending = s.pending := by
  unfold takeReply; (repeat' split) <;> simp

/-! ### strokeExpire -/

@[simp] theorem strokeExpire_cfg (g : Fin 24) : (s.strokeExpire g).cfg = s.cfg := by
  unfold strokeExpire; (repeat' split) <;> simp
@[simp] theorem strokeExpire_clock (g : Fin 24) : (s.strokeExpire g).clock = s.clock := by
  unfold strokeExpire; (repeat' split) <;> simp
@[simp] theorem strokeExpire_dbm (g : Fin 24) : (s.strokeExpire g).dbm = s.dbm := by
  unfold strokeExpire; (repeat' split) <;> simp
@[simp] theorem strokeExpire_lgt (g : Fin 24) : (s.strokeExpire g).lgt = s.lgt := by
  unfold strokeExpire; (repeat' split) <;> simp
@[simp] theorem strokeExpire_flash (g : Fin 24) : (s.strokeExpire g).flash = s.flash := by
  unfold strokeExpire; (repeat' split) <;> simp
@[simp] theorem strokeExpire_pins (g : Fin 24) : (s.strokeExpire g).pins = s.pins := by
  unfold strokeExpire; (repeat' split) <;> simp
@[simp] theorem strokeExpire_fresh (g : Fin 24) : (s.strokeExpire g).fresh = s.fresh := by
  unfold strokeExpire; (repeat' split) <;> simp
@[simp] theorem strokeExpire_pending (g : Fin 24) : (s.strokeExpire g).pending = s.pending := by
  unfold strokeExpire; (repeat' split) <;> simp

/-! ### loseGroup -/

@[simp] theorem loseGroup_cfg (g : Fin 24) : (s.loseGroup g).cfg = s.cfg := by
  unfold loseGroup; (repeat' split) <;> simp
@[simp] theorem loseGroup_clock (g : Fin 24) : (s.loseGroup g).clock = s.clock := by
  unfold loseGroup; (repeat' split) <;> simp
@[simp] theorem loseGroup_dbm (g : Fin 24) : (s.loseGroup g).dbm = s.dbm := by
  unfold loseGroup; (repeat' split) <;> simp
@[simp] theorem loseGroup_lgt (g : Fin 24) : (s.loseGroup g).lgt = s.lgt := by
  unfold loseGroup; (repeat' split) <;> simp
@[simp] theorem loseGroup_flash (g : Fin 24) : (s.loseGroup g).flash = s.flash := by
  unfold loseGroup; (repeat' split) <;> simp
@[simp] theorem loseGroup_pins (g : Fin 24) : (s.loseGroup g).pins = s.pins := by
  unfold loseGroup; (repeat' split) <;> simp
@[simp] theorem loseGroup_fresh (g : Fin 24) : (s.loseGroup g).fresh = s.fresh := by
  unfold loseGroup; (repeat' split) <;> simp
@[simp] theorem loseGroup_pending (g : Fin 24) : (s.loseGroup g).pending = s.pending := by
  unfold loseGroup; (repeat' split) <;> simp

/-! ### findGroup -/

@[simp] theorem findGroup_cfg (g : Fin 24) : (s.findGroup g).cfg = s.cfg := by
  unfold findGroup; (repeat' split) <;> simp
@[simp] theorem findGroup_clock (g : Fin 24) : (s.findGroup g).clock = s.clock := by
  unfold findGroup; (repeat' split) <;> simp
@[simp] theorem findGroup_dbm (g : Fin 24) : (s.findGroup g).dbm = s.dbm := by
  unfold findGroup; (repeat' split) <;> simp
@[simp] theorem findGroup_lgt (g : Fin 24) : (s.findGroup g).lgt = s.lgt := by
  unfold findGroup; (repeat' split) <;> simp
@[simp] theorem findGroup_flash (g : Fin 24) : (s.findGroup g).flash = s.flash := by
  unfold findGroup; (repeat' split) <;> simp
@[simp] theorem findGroup_pins (g : Fin 24) : (s.findGroup g).pins = s.pins := by
  unfold findGroup; (repeat' split) <;> simp
@[simp] theorem findGroup_fresh (g : Fin 24) : (s.findGroup g).fresh = s.fresh := by
  unfold findGroup; (repeat' split) <;> simp
@[simp] theorem findGroup_pending (g : Fin 24) : (s.findGroup g).pending = s.pending := by
  unfold findGroup; (repeat' split) <;> simp

/-! ### bringDown -/

@[simp] theorem bringDown_cfg (g : Fin 24) : (s.bringDown g).cfg = s.cfg := by
  unfold bringDown; (repeat' split) <;> simp
@[simp] theorem bringDown_clock (g : Fin 24) : (s.bringDown g).clock = s.clock := by
  unfold bringDown; (repeat' split) <;> simp
@[simp] theorem bringDown_dbm (g : Fin 24) : (s.bringDown g).dbm = s.dbm := by
  unfold bringDown; (repeat' split) <;> simp
@[simp] theorem bringDown_lgt (g : Fin 24) : (s.bringDown g).lgt = s.lgt := by
  unfold bringDown; (repeat' split) <;> simp
@[simp] theorem bringDown_flash (g : Fin 24) : (s.bringDown g).flash = s.flash := by
  unfold bringDown; (repeat' split) <;> simp
@[simp] theorem bringDown_pins (g : Fin 24) : (s.bringDown g).pins = s.pins := by
  unfold bringDown; (repeat' split) <;> simp
@[simp] theorem bringDown_fresh (g : Fin 24) : (s.bringDown g).fresh = s.fresh := by
  unfold bringDown; (repeat' split) <;> simp
@[simp] theorem bringDown_pending (g : Fin 24) : (s.bringDown g).pending = s.pending := by
  unfold bringDown; (repeat' split) <;> simp

/-! ### waterDown -/

@[simp] theorem waterDown_cfg : (s.waterDown).cfg = s.cfg := foldl_field State.cfg _ (fun a e => by simp) _ _
@[simp] theorem waterDown_clock : (s.waterDown).clock = s.clock := foldl_field State.clock _ (fun a e => by simp) _ _
@[simp] theorem waterDown_dbm : (s.waterDown).dbm = s.dbm := foldl_field State.dbm _ (fun a e => by simp) _ _
@[simp] theorem waterDown_lgt : (s.waterDown).lgt = s.lgt := foldl_field State.lgt _ (fun a e => by simp) _ _
@[simp] theorem waterDown_flash : (s.waterDown).flash = s.flash := foldl_field State.flash _ (fun a e => by simp) _ _
@[simp] theorem waterDown_pins : (s.waterDown).pins = s.pins := foldl_field State.pins _ (fun a e => by simp) _ _
@[simp] theorem waterDown_fresh : (s.waterDown).fresh = s.fresh := foldl_field State.fresh _ (fun a e => by simp) _ _
@[simp] theorem waterDown_pending : (s.waterDown).pending = s.pending := foldl_field State.pending _ (fun a e => by simp) _ _

/-! ### configure -/

@[simp] theorem configure_cfg (g : Fin 24) (l : Option Interlock) : (s.configure g l).cfg = s.cfg := by
  simp [configure]
@[simp] theorem configure_clock (g : Fin 24) (l : Option Interlock) : (s.configure g l).clock = s.clock := by
  simp [configure]
@[simp] theorem configure_dbm (g : Fin 24) (l : Option Interlock) : (s.configure g l).dbm = s.dbm := by
  simp [configure]
@[simp] theorem configure_lgt (g : Fin 24) (l : Option Interlock) : (s.configure g l).lgt = s.lgt := by
  simp [configure]
@[simp] theorem configure_flash (g : Fin 24) (l : Option Interlock) : (s.configure g l).flash = s.flash := by
  simp [configure]
@[simp] theorem configure_pins (g : Fin 24) (l : Option Interlock) : (s.configure g l).pins = s.pins := by
  simp [configure]
@[simp] theorem configure_fresh (g : Fin 24) (l : Option Interlock) : (s.configure g l).fresh = s.fresh := by
  simp [configure]
@[simp] theorem configure_pending (g : Fin 24) (l : Option Interlock) : (s.configure g l).pending = s.pending := by
  simp [configure]

/-! ### unconfigure -/

@[simp] theorem unconfigure_cfg (g : Fin 24) : (s.unconfigure g).cfg = s.cfg := by
  simp [unconfigure]
@[simp] theorem unconfigure_clock (g : Fin 24) : (s.unconfigure g).clock = s.clock := by
  simp [unconfigure]
@[simp] theorem unconfigure_lif (g : Fin 24) : (s.unconfigure g).lif = s.lif := by
  simp [unconfigure]
@[simp] theorem unconfigure_seq (g : Fin 24) : (s.unconfigure g).seq = s.seq := by
  simp [unconfigure]
@[simp] theorem unconfigure_aud (g : Fin 24) : (s.unconfigure g).aud = s.aud := by
  simp [unconfigure]
@[simp] theorem unconfigure_dbm (g : Fin 24) : (s.unconfigure g).dbm = s.dbm := by
  simp [unconfigure]
@[simp] theorem unconfigure_lgt (g : Fin 24) : (s.unconfigure g).lgt = s.lgt := by
  simp [unconfigure]
@[simp] theorem unconfigure_sup (g : Fin 24) : (s.unconfigure g).sup = s.sup := by
  simp [unconfigure]
@[simp] theorem unconfigure_flp (g : Fin 24) : (s.unconfigure g).flp = s.flp := by
  simp [unconfigure]
@[simp] theorem unconfigure_flash (g : Fin 24) : (s.unconfigure g).flash = s.flash := by
  simp [unconfigure]
@[simp] theorem unconfigure_pins (g : Fin 24) : (s.unconfigure g).pins = s.pins := by
  simp [unconfigure]
@[simp] theorem unconfigure_fresh (g : Fin 24) : (s.unconfigure g).fresh = s.fresh := by
  simp [unconfigure]
@[simp] theorem unconfigure_pending (g : Fin 24) : (s.unconfigure g).pending = s.pending := by
  simp [unconfigure]

/-! ### regroup -/

@[simp] theorem regroup_cfg (g : Fin 24) (o : GroupRecord) : (s.regroup g o).cfg = s.cfg := by
  unfold regroup; (repeat' split) <;> simp
@[simp] theorem regroup_clock (g : Fin 24) (o : GroupRecord) : (s.regroup g o).clock = s.clock := by
  unfold regroup; (repeat' split) <;> simp
@[simp] theorem regroup_lgt (g : Fin 24) (o : GroupRecord) : (s.regroup g o).lgt = s.lgt := by
  unfold regroup; (repeat' split) <;> simp
@[simp] theorem regroup_flash (g : Fin 24) (o : GroupRecord) : (s.regroup g o).flash = s.flash := by
  unfold regroup; (repeat' split) <;> simp
@[simp] theorem regroup_pins (g : Fin 24) (o : GroupRecord) : (s.regroup g o).pins = s.pins := by
  unfold regroup; (repeat' split) <;> simp
@[simp] theorem regroup_fresh (g : Fin 24) (o : GroupRecord) : (s.regroup g o).fresh = s.fresh := by
  unfold regroup; (repeat' split) <;> simp
@[simp] theorem regroup_pending (g : Fin 24) (o : GroupRecord) : (s.regroup g o).pending = s.pending := by
  unfold regroup; (repeat' split) <;> simp

/-! ### enterDry -/

@[simp] theorem enterDry_cfg : (s.enterDry).cfg = s.cfg := by
  unfold enterDry; (repeat' split) <;> simp
@[simp] theorem enterDry_clock : (s.enterDry).clock = s.clock := by
  unfold enterDry; (repeat' split) <;> simp
@[simp] theorem enterDry_dbm : (s.enterDry).dbm = s.dbm := by
  unfold enterDry; (repeat' split) <;> simp
@[simp] theorem enterDry_fda : (s.enterDry).fda = s.fda := by
  unfold enterDry; (repeat' split) <;> simp
@[simp] theorem enterDry_sup : (s.enterDry).sup = s.sup := by
  unfold enterDry; (repeat' split) <;> simp
@[simp] theorem enterDry_flash : (s.enterDry).flash = s.flash := by
  unfold enterDry; (repeat' split) <;> simp
@[simp] theorem enterDry_pins : (s.enterDry).pins = s.pins := by
  unfold enterDry; (repeat' split) <;> simp
@[simp] theorem enterDry_pending : (s.enterDry).pending = s.pending := by
  unfold enterDry; (repeat' split) <;> simp

/-! ### levelMoved -/

@[simp] theorem levelMoved_cfg (b : LevelState) : (s.levelMoved b).cfg = s.cfg := by
  unfold levelMoved; (repeat' split) <;> simp
@[simp] theorem levelMoved_clock (b : LevelState) : (s.levelMoved b).clock = s.clock := by
  unfold levelMoved; (repeat' split) <;> simp
@[simp] theorem levelMoved_dbm (b : LevelState) : (s.levelMoved b).dbm = s.dbm := by
  unfold levelMoved; (repeat' split) <;> simp
@[simp] theorem levelMoved_fda (b : LevelState) : (s.levelMoved b).fda = s.fda := by
  unfold levelMoved; (repeat' split) <;> simp
@[simp] theorem levelMoved_flash (b : LevelState) : (s.levelMoved b).flash = s.flash := by
  unfold levelMoved; (repeat' split) <;> simp
@[simp] theorem levelMoved_pins (b : LevelState) : (s.levelMoved b).pins = s.pins := by
  unfold levelMoved; (repeat' split) <;> simp
@[simp] theorem levelMoved_pending (b : LevelState) : (s.levelMoved b).pending = s.pending := by
  unfold levelMoved; (repeat' split) <;> simp

/-! ### validityActs -/

@[simp] theorem validityActs_cfg (i : Fin 27) (b : LevelState) : (s.validityActs i b).cfg = s.cfg := by
  unfold validityActs; (repeat' (first | split | (dsimp only; split))) <;> simp
@[simp] theorem validityActs_clock (i : Fin 27) (b : LevelState) : (s.validityActs i b).clock = s.clock := by
  unfold validityActs; (repeat' (first | split | (dsimp only; split))) <;> simp
@[simp] theorem validityActs_dbm (i : Fin 27) (b : LevelState) : (s.validityActs i b).dbm = s.dbm := by
  unfold validityActs; (repeat' (first | split | (dsimp only; split))) <;> simp
@[simp] theorem validityActs_flash (i : Fin 27) (b : LevelState) : (s.validityActs i b).flash = s.flash := by
  unfold validityActs; (repeat' (first | split | (dsimp only; split))) <;> simp
@[simp] theorem validityActs_pins (i : Fin 27) (b : LevelState) : (s.validityActs i b).pins = s.pins := by
  unfold validityActs; (repeat' (first | split | (dsimp only; split))) <;> simp
@[simp] theorem validityActs_pending (i : Fin 27) (b : LevelState) : (s.validityActs i b).pending = s.pending := by
  unfold validityActs; (repeat' (first | split | (dsimp only; split))) <;> simp

/-! ### moveChannel -/

@[simp] theorem moveChannel_cfg (i : Fin 27) (c : Channel) : (s.moveChannel i c).cfg = s.cfg := by
  unfold moveChannel; (repeat' split) <;> simp
@[simp] theorem moveChannel_clock (i : Fin 27) (c : Channel) : (s.moveChannel i c).clock = s.clock := by
  unfold moveChannel; (repeat' split) <;> simp
@[simp] theorem moveChannel_dbm (i : Fin 27) (c : Channel) : (s.moveChannel i c).dbm = s.dbm := by
  unfold moveChannel; (repeat' split) <;> simp
@[simp] theorem moveChannel_flash (i : Fin 27) (c : Channel) : (s.moveChannel i c).flash = s.flash := by
  unfold moveChannel; (repeat' split) <;> simp
@[simp] theorem moveChannel_pins (i : Fin 27) (c : Channel) : (s.moveChannel i c).pins = s.pins := by
  unfold moveChannel; (repeat' split) <;> simp
@[simp] theorem moveChannel_pending (i : Fin 27) (c : Channel) : (s.moveChannel i c).pending = s.pending := by
  unfold moveChannel; (repeat' split) <;> simp

/-! ### evaluate -/

@[simp] theorem evaluate_cfg (i : Fin 27) (e : Evaluation) : (s.evaluate i e).cfg = s.cfg := by
  simp [evaluate]
@[simp] theorem evaluate_clock (i : Fin 27) (e : Evaluation) : (s.evaluate i e).clock = s.clock := by
  simp [evaluate]
@[simp] theorem evaluate_dbm (i : Fin 27) (e : Evaluation) : (s.evaluate i e).dbm = s.dbm := by
  simp [evaluate]
@[simp] theorem evaluate_flash (i : Fin 27) (e : Evaluation) : (s.evaluate i e).flash = s.flash := by
  simp [evaluate]
@[simp] theorem evaluate_pins (i : Fin 27) (e : Evaluation) : (s.evaluate i e).pins = s.pins := by
  simp [evaluate]
@[simp] theorem evaluate_pending (i : Fin 27) (e : Evaluation) : (s.evaluate i e).pending = s.pending := by
  simp [evaluate]

/-! ### resetChannel -/

@[simp] theorem resetChannel_cfg (i : Fin 27) : (s.resetChannel i).cfg = s.cfg := by
  unfold resetChannel; (repeat' (first | split | (dsimp only; split))) <;> simp
@[simp] theorem resetChannel_clock (i : Fin 27) : (s.resetChannel i).clock = s.clock := by
  unfold resetChannel; (repeat' (first | split | (dsimp only; split))) <;> simp
@[simp] theorem resetChannel_dbm (i : Fin 27) : (s.resetChannel i).dbm = s.dbm := by
  unfold resetChannel; (repeat' (first | split | (dsimp only; split))) <;> simp
@[simp] theorem resetChannel_flash (i : Fin 27) : (s.resetChannel i).flash = s.flash := by
  unfold resetChannel; (repeat' (first | split | (dsimp only; split))) <;> simp
@[simp] theorem resetChannel_pins (i : Fin 27) : (s.resetChannel i).pins = s.pins := by
  unfold resetChannel; (repeat' (first | split | (dsimp only; split))) <;> simp
@[simp] theorem resetChannel_pending (i : Fin 27) : (s.resetChannel i).pending = s.pending := by
  unfold resetChannel; (repeat' (first | split | (dsimp only; split))) <;> simp

/-! ### judgeBand -/

@[simp] theorem judgeBand_cfg : (s.judgeBand).cfg = s.cfg := by
  unfold judgeBand; (repeat' (first | split | (dsimp only; split))) <;> simp
@[simp] theorem judgeBand_clock : (s.judgeBand).clock = s.clock := by
  unfold judgeBand; (repeat' (first | split | (dsimp only; split))) <;> simp
@[simp] theorem judgeBand_lif : (s.judgeBand).lif = s.lif := by
  unfold judgeBand; (repeat' (first | split | (dsimp only; split))) <;> simp
@[simp] theorem judgeBand_seq : (s.judgeBand).seq = s.seq := by
  unfold judgeBand; (repeat' (first | split | (dsimp only; split))) <;> simp
@[simp] theorem judgeBand_aud : (s.judgeBand).aud = s.aud := by
  unfold judgeBand; (repeat' (first | split | (dsimp only; split))) <;> simp
@[simp] theorem judgeBand_groups : (s.judgeBand).groups = s.groups := by
  unfold judgeBand; (repeat' (first | split | (dsimp only; split))) <;> simp
@[simp] theorem judgeBand_dbm : (s.judgeBand).dbm = s.dbm := by
  unfold judgeBand; (repeat' (first | split | (dsimp only; split))) <;> simp
@[simp] theorem judgeBand_lgt : (s.judgeBand).lgt = s.lgt := by
  unfold judgeBand; (repeat' (first | split | (dsimp only; split))) <;> simp
@[simp] theorem judgeBand_fda : (s.judgeBand).fda = s.fda := by
  unfold judgeBand; (repeat' (first | split | (dsimp only; split))) <;> simp
@[simp] theorem judgeBand_flags : (s.judgeBand).flags = s.flags := by
  unfold judgeBand; (repeat' (first | split | (dsimp only; split))) <;> simp
@[simp] theorem judgeBand_flp : (s.judgeBand).flp = s.flp := by
  unfold judgeBand; (repeat' (first | split | (dsimp only; split))) <;> simp
@[simp] theorem judgeBand_flash : (s.judgeBand).flash = s.flash := by
  unfold judgeBand; (repeat' (first | split | (dsimp only; split))) <;> simp
@[simp] theorem judgeBand_pins : (s.judgeBand).pins = s.pins := by
  unfold judgeBand; (repeat' (first | split | (dsimp only; split))) <;> simp
@[simp] theorem judgeBand_fresh : (s.judgeBand).fresh = s.fresh := by
  unfold judgeBand; (repeat' (first | split | (dsimp only; split))) <;> simp
@[simp] theorem judgeBand_pending : (s.judgeBand).pending = s.pending := by
  unfold judgeBand; (repeat' (first | split | (dsimp only; split))) <;> simp

/-! ### gateBand -/

@[simp] theorem gateBand_cfg (t w : Bool) : (s.gateBand t w).cfg = s.cfg := by
  unfold gateBand; (repeat' split) <;> simp
@[simp] theorem gateBand_clock (t w : Bool) : (s.gateBand t w).clock = s.clock := by
  unfold gateBand; (repeat' split) <;> simp
@[simp] theorem gateBand_lif (t w : Bool) : (s.gateBand t w).lif = s.lif := by
  unfold gateBand; (repeat' split) <;> simp
@[simp] theorem gateBand_seq (t w : Bool) : (s.gateBand t w).seq = s.seq := by
  unfold gateBand; (repeat' split) <;> simp
@[simp] theorem gateBand_aud (t w : Bool) : (s.gateBand t w).aud = s.aud := by
  unfold gateBand; (repeat' split) <;> simp
@[simp] theorem gateBand_groups (t w : Bool) : (s.gateBand t w).groups = s.groups := by
  unfold gateBand; (repeat' split) <;> simp
@[simp] theorem gateBand_dbm (t w : Bool) : (s.gateBand t w).dbm = s.dbm := by
  unfold gateBand; (repeat' split) <;> simp
@[simp] theorem gateBand_lgt (t w : Bool) : (s.gateBand t w).lgt = s.lgt := by
  unfold gateBand; (repeat' split) <;> simp
@[simp] theorem gateBand_fda (t w : Bool) : (s.gateBand t w).fda = s.fda := by
  unfold gateBand; (repeat' split) <;> simp
@[simp] theorem gateBand_flags (t w : Bool) : (s.gateBand t w).flags = s.flags := by
  unfold gateBand; (repeat' split) <;> simp
@[simp] theorem gateBand_flp (t w : Bool) : (s.gateBand t w).flp = s.flp := by
  unfold gateBand; (repeat' split) <;> simp
@[simp] theorem gateBand_flash (t w : Bool) : (s.gateBand t w).flash = s.flash := by
  unfold gateBand; (repeat' split) <;> simp
@[simp] theorem gateBand_pins (t w : Bool) : (s.gateBand t w).pins = s.pins := by
  unfold gateBand; (repeat' split) <;> simp
@[simp] theorem gateBand_fresh (t w : Bool) : (s.gateBand t w).fresh = s.fresh := by
  unfold gateBand; (repeat' split) <;> simp
@[simp] theorem gateBand_pending (t w : Bool) : (s.gateBand t w).pending = s.pending := by
  unfold gateBand; (repeat' split) <;> simp

/-! ### windGate -/

@[simp] theorem windGate_cfg : (s.windGate).cfg = s.cfg := by
  simp [windGate]
@[simp] theorem windGate_clock : (s.windGate).clock = s.clock := by
  simp [windGate]
@[simp] theorem windGate_dbm : (s.windGate).dbm = s.dbm := by
  simp [windGate]
@[simp] theorem windGate_flash : (s.windGate).flash = s.flash := by
  simp [windGate]
@[simp] theorem windGate_pins : (s.windGate).pins = s.pins := by
  simp [windGate]
@[simp] theorem windGate_pending : (s.windGate).pending = s.pending := by
  simp [windGate]

/-! ### levelSample -/

@[simp] theorem levelSample_cfg (r : BitVec 12) : (s.levelSample r).cfg = s.cfg := by
  unfold levelSample; (repeat' (first | split | (dsimp only; split))) <;> simp
@[simp] theorem levelSample_clock (r : BitVec 12) : (s.levelSample r).clock = s.clock := by
  unfold levelSample; (repeat' (first | split | (dsimp only; split))) <;> simp
@[simp] theorem levelSample_dbm (r : BitVec 12) : (s.levelSample r).dbm = s.dbm := by
  unfold levelSample; (repeat' (first | split | (dsimp only; split))) <;> simp
@[simp] theorem levelSample_flash (r : BitVec 12) : (s.levelSample r).flash = s.flash := by
  unfold levelSample; (repeat' (first | split | (dsimp only; split))) <;> simp
@[simp] theorem levelSample_pins (r : BitVec 12) : (s.levelSample r).pins = s.pins := by
  unfold levelSample; (repeat' (first | split | (dsimp only; split))) <;> simp
@[simp] theorem levelSample_pending (r : BitVec 12) : (s.levelSample r).pending = s.pending := by
  unfold levelSample; (repeat' (first | split | (dsimp only; split))) <;> simp

/-! ### tripActs -/

@[simp] theorem tripActs_cfg : (s.tripActs).cfg = s.cfg := by
  unfold tripActs; (repeat' (first | split | (dsimp only; split))) <;> simp
@[simp] theorem tripActs_clock : (s.tripActs).clock = s.clock := by
  unfold tripActs; (repeat' (first | split | (dsimp only; split))) <;> simp
@[simp] theorem tripActs_dbm : (s.tripActs).dbm = s.dbm := by
  unfold tripActs; (repeat' (first | split | (dsimp only; split))) <;> simp
@[simp] theorem tripActs_flash : (s.tripActs).flash = s.flash := by
  unfold tripActs; (repeat' (first | split | (dsimp only; split))) <;> simp
@[simp] theorem tripActs_pins : (s.tripActs).pins = s.pins := by
  unfold tripActs; (repeat' (first | split | (dsimp only; split))) <;> simp
@[simp] theorem tripActs_fresh : (s.tripActs).fresh = s.fresh := by
  unfold tripActs; (repeat' (first | split | (dsimp only; split))) <;> simp
@[simp] theorem tripActs_pending : (s.tripActs).pending = s.pending := by
  unfold tripActs; (repeat' (first | split | (dsimp only; split))) <;> simp

/-! ### latchCause -/

@[simp] theorem latchCause_cfg (c : Causes) : (s.latchCause c).cfg = s.cfg := by
  unfold latchCause; (repeat' split) <;> simp
@[simp] theorem latchCause_clock (c : Causes) : (s.latchCause c).clock = s.clock := by
  unfold latchCause; (repeat' split) <;> simp
@[simp] theorem latchCause_dbm (c : Causes) : (s.latchCause c).dbm = s.dbm := by
  unfold latchCause; (repeat' split) <;> simp
@[simp] theorem latchCause_flash (c : Causes) : (s.latchCause c).flash = s.flash := by
  unfold latchCause; (repeat' split) <;> simp
@[simp] theorem latchCause_pins (c : Causes) : (s.latchCause c).pins = s.pins := by
  unfold latchCause; (repeat' split) <;> simp
@[simp] theorem latchCause_fresh (c : Causes) : (s.latchCause c).fresh = s.fresh := by
  unfold latchCause; (repeat' split) <;> simp
@[simp] theorem latchCause_pending (c : Causes) : (s.latchCause c).pending = s.pending := by
  unfold latchCause; (repeat' split) <;> simp

/-! ### judgeInputs -/

@[simp] theorem judgeInputs_cfg (i : Inputs) : (s.judgeInputs i).cfg = s.cfg := by
  unfold judgeInputs; (repeat' split) <;> simp
@[simp] theorem judgeInputs_clock (i : Inputs) : (s.judgeInputs i).clock = s.clock := by
  unfold judgeInputs; (repeat' split) <;> simp
@[simp] theorem judgeInputs_dbm (i : Inputs) : (s.judgeInputs i).dbm = s.dbm := by
  unfold judgeInputs; (repeat' split) <;> simp
@[simp] theorem judgeInputs_flash (i : Inputs) : (s.judgeInputs i).flash = s.flash := by
  unfold judgeInputs; (repeat' split) <;> simp
@[simp] theorem judgeInputs_pins (i : Inputs) : (s.judgeInputs i).pins = s.pins := by
  unfold judgeInputs; (repeat' split) <;> simp
@[simp] theorem judgeInputs_fresh (i : Inputs) : (s.judgeInputs i).fresh = s.fresh := by
  unfold judgeInputs; (repeat' split) <;> simp
@[simp] theorem judgeInputs_pending (i : Inputs) : (s.judgeInputs i).pending = s.pending := by
  unfold judgeInputs; (repeat' split) <;> simp

/-! ### checkBudget -/

@[simp] theorem checkBudget_cfg : (s.checkBudget).cfg = s.cfg := by
  unfold checkBudget; (repeat' split) <;> simp
@[simp] theorem checkBudget_clock : (s.checkBudget).clock = s.clock := by
  unfold checkBudget; (repeat' split) <;> simp
@[simp] theorem checkBudget_lif : (s.checkBudget).lif = s.lif := by
  unfold checkBudget; (repeat' split) <;> simp
@[simp] theorem checkBudget_seq : (s.checkBudget).seq = s.seq := by
  unfold checkBudget; (repeat' split) <;> simp
@[simp] theorem checkBudget_aud : (s.checkBudget).aud = s.aud := by
  unfold checkBudget; (repeat' split) <;> simp
@[simp] theorem checkBudget_groups : (s.checkBudget).groups = s.groups := by
  unfold checkBudget; (repeat' split) <;> simp
@[simp] theorem checkBudget_lgt : (s.checkBudget).lgt = s.lgt := by
  unfold checkBudget; (repeat' split) <;> simp
@[simp] theorem checkBudget_fda : (s.checkBudget).fda = s.fda := by
  unfold checkBudget; (repeat' split) <;> simp
@[simp] theorem checkBudget_sup : (s.checkBudget).sup = s.sup := by
  unfold checkBudget; (repeat' split) <;> simp
@[simp] theorem checkBudget_flp : (s.checkBudget).flp = s.flp := by
  unfold checkBudget; (repeat' split) <;> simp
@[simp] theorem checkBudget_flash : (s.checkBudget).flash = s.flash := by
  unfold checkBudget; (repeat' split) <;> simp
@[simp] theorem checkBudget_pins : (s.checkBudget).pins = s.pins := by
  unfold checkBudget; (repeat' split) <;> simp
@[simp] theorem checkBudget_fresh : (s.checkBudget).fresh = s.fresh := by
  unfold checkBudget; (repeat' split) <;> simp
@[simp] theorem checkBudget_pending : (s.checkBudget).pending = s.pending := by
  unfold checkBudget; (repeat' split) <;> simp

/-! ### driveCycle -/

@[simp] theorem driveCycle_cfg : (s.driveCycle).cfg = s.cfg := by
  simp [driveCycle]
@[simp] theorem driveCycle_clock : (s.driveCycle).clock = s.clock := by
  simp [driveCycle]
@[simp] theorem driveCycle_lif : (s.driveCycle).lif = s.lif := by
  simp [driveCycle]
@[simp] theorem driveCycle_seq : (s.driveCycle).seq = s.seq := by
  simp [driveCycle]
@[simp] theorem driveCycle_aud : (s.driveCycle).aud = s.aud := by
  simp [driveCycle]
@[simp] theorem driveCycle_groups : (s.driveCycle).groups = s.groups := by
  simp [driveCycle]
@[simp] theorem driveCycle_lgt : (s.driveCycle).lgt = s.lgt := by
  simp [driveCycle]
@[simp] theorem driveCycle_fda : (s.driveCycle).fda = s.fda := by
  simp [driveCycle]
@[simp] theorem driveCycle_sup : (s.driveCycle).sup = s.sup := by
  simp [driveCycle]
@[simp] theorem driveCycle_flp : (s.driveCycle).flp = s.flp := by
  simp [driveCycle]
@[simp] theorem driveCycle_flash : (s.driveCycle).flash = s.flash := by
  simp [driveCycle]
@[simp] theorem driveCycle_pins : (s.driveCycle).pins = s.pins := by
  simp [driveCycle]
@[simp] theorem driveCycle_fresh : (s.driveCycle).fresh = s.fresh := by
  simp [driveCycle]
@[simp] theorem driveCycle_pending : (s.driveCycle).pending = s.pending := by
  simp [driveCycle]

/-! ### sendPoll -/

@[simp] theorem sendPoll_cfg (e : Due) (l : List Due) (u : Nat) : (s.sendPoll e l u).cfg = s.cfg := by
  simp [sendPoll]
@[simp] theorem sendPoll_clock (e : Due) (l : List Due) (u : Nat) : (s.sendPoll e l u).clock = s.clock := by
  simp [sendPoll]
@[simp] theorem sendPoll_lgt (e : Due) (l : List Due) (u : Nat) : (s.sendPoll e l u).lgt = s.lgt := by
  simp [sendPoll]
@[simp] theorem sendPoll_flash (e : Due) (l : List Due) (u : Nat) : (s.sendPoll e l u).flash = s.flash := by
  simp [sendPoll]
@[simp] theorem sendPoll_pins (e : Due) (l : List Due) (u : Nat) : (s.sendPoll e l u).pins = s.pins := by
  simp [sendPoll]
@[simp] theorem sendPoll_fresh (e : Due) (l : List Due) (u : Nat) : (s.sendPoll e l u).fresh = s.fresh := by
  simp [sendPoll]
@[simp] theorem sendPoll_pending (e : Due) (l : List Due) (u : Nat) : (s.sendPoll e l u).pending = s.pending := by
  simp [sendPoll]

/-! ### deliverGood -/

@[simp] theorem deliverGood_cfg (g : Fin 24) (r : DriveReply) : (s.deliverGood g r).cfg = s.cfg := by
  unfold deliverGood; (repeat' split) <;> simp
@[simp] theorem deliverGood_clock (g : Fin 24) (r : DriveReply) : (s.deliverGood g r).clock = s.clock := by
  unfold deliverGood; (repeat' split) <;> simp
@[simp] theorem deliverGood_dbm (g : Fin 24) (r : DriveReply) : (s.deliverGood g r).dbm = s.dbm := by
  unfold deliverGood; (repeat' split) <;> simp
@[simp] theorem deliverGood_flash (g : Fin 24) (r : DriveReply) : (s.deliverGood g r).flash = s.flash := by
  unfold deliverGood; (repeat' split) <;> simp
@[simp] theorem deliverGood_pins (g : Fin 24) (r : DriveReply) : (s.deliverGood g r).pins = s.pins := by
  unfold deliverGood; (repeat' split) <;> simp
@[simp] theorem deliverGood_pending (g : Fin 24) (r : DriveReply) : (s.deliverGood g r).pending = s.pending := by
  unfold deliverGood; (repeat' split) <;> simp

/-! ### deliverOutcome -/

@[simp] theorem deliverOutcome_cfg (e : Due) (o : PollOutcome) (r : DriveReply) : (s.deliverOutcome e o r).cfg = s.cfg := by
  unfold deliverOutcome; (repeat' split) <;> simp
@[simp] theorem deliverOutcome_clock (e : Due) (o : PollOutcome) (r : DriveReply) : (s.deliverOutcome e o r).clock = s.clock := by
  unfold deliverOutcome; (repeat' split) <;> simp
@[simp] theorem deliverOutcome_dbm (e : Due) (o : PollOutcome) (r : DriveReply) : (s.deliverOutcome e o r).dbm = s.dbm := by
  unfold deliverOutcome; (repeat' split) <;> simp
@[simp] theorem deliverOutcome_flash (e : Due) (o : PollOutcome) (r : DriveReply) : (s.deliverOutcome e o r).flash = s.flash := by
  unfold deliverOutcome; (repeat' split) <;> simp
@[simp] theorem deliverOutcome_pins (e : Due) (o : PollOutcome) (r : DriveReply) : (s.deliverOutcome e o r).pins = s.pins := by
  unfold deliverOutcome; (repeat' split) <;> simp
@[simp] theorem deliverOutcome_pending (e : Due) (o : PollOutcome) (r : DriveReply) : (s.deliverOutcome e o r).pending = s.pending := by
  unfold deliverOutcome; (repeat' split) <;> simp

/-! ### endPoll -/

@[simp] theorem endPoll_cfg (p : Poll) (o : PollOutcome) (r : DriveReply) (u : Nat) : (s.endPoll p o r u).cfg = s.cfg := by
  simp [endPoll]
@[simp] theorem endPoll_clock (p : Poll) (o : PollOutcome) (r : DriveReply) (u : Nat) : (s.endPoll p o r u).clock = s.clock := by
  simp [endPoll]
@[simp] theorem endPoll_flash (p : Poll) (o : PollOutcome) (r : DriveReply) (u : Nat) : (s.endPoll p o r u).flash = s.flash := by
  simp [endPoll]
@[simp] theorem endPoll_pins (p : Poll) (o : PollOutcome) (r : DriveReply) (u : Nat) : (s.endPoll p o r u).pins = s.pins := by
  simp [endPoll]
@[simp] theorem endPoll_pending (p : Poll) (o : PollOutcome) (r : DriveReply) (u : Nat) : (s.endPoll p o r u).pending = s.pending := by
  simp [endPoll]

/-! ### jamLine -/

@[simp] theorem jamLine_cfg (e : Due) (l : List Due) : (s.jamLine e l).cfg = s.cfg := (foldl_field State.cfg _ (fun a e => by simp) _ _).trans rfl
@[simp] theorem jamLine_clock (e : Due) (l : List Due) : (s.jamLine e l).clock = s.clock := (foldl_field State.clock _ (fun a e => by simp) _ _).trans rfl
@[simp] theorem jamLine_flash (e : Due) (l : List Due) : (s.jamLine e l).flash = s.flash := (foldl_field State.flash _ (fun a e => by simp) _ _).trans rfl
@[simp] theorem jamLine_pins (e : Due) (l : List Due) : (s.jamLine e l).pins = s.pins := (foldl_field State.pins _ (fun a e => by simp) _ _).trans rfl
@[simp] theorem jamLine_pending (e : Due) (l : List Due) : (s.jamLine e l).pending = s.pending := (foldl_field State.pending _ (fun a e => by simp) _ _).trans rfl

/-! ### takeSettings -/

@[simp] theorem takeSettings_clock (c : Settings) : (s.takeSettings c).clock = s.clock := by
  simp only [takeSettings, eachChannel, eachGroup, restartIfTripped_clock, relockAnnouncement_clock, refeed_clock]
  refine (foldl_field State.clock _ (fun a e => by simp) _ _).trans ?_
  exact (foldl_field State.clock _ (fun a e => by simp) _ _).trans rfl
@[simp] theorem takeSettings_flash (c : Settings) : (s.takeSettings c).flash = s.flash := by
  simp only [takeSettings, eachChannel, eachGroup, restartIfTripped_flash, relockAnnouncement_flash, refeed_flash]
  refine (foldl_field State.flash _ (fun a e => by simp) _ _).trans ?_
  exact (foldl_field State.flash _ (fun a e => by simp) _ _).trans rfl
@[simp] theorem takeSettings_pins (c : Settings) : (s.takeSettings c).pins = s.pins := by
  simp only [takeSettings, eachChannel, eachGroup, restartIfTripped_pins, relockAnnouncement_pins, refeed_pins]
  refine (foldl_field State.pins _ (fun a e => by simp) _ _).trans ?_
  exact (foldl_field State.pins _ (fun a e => by simp) _ _).trans rfl
@[simp] theorem takeSettings_pending (c : Settings) : (s.takeSettings c).pending = s.pending := by
  simp only [takeSettings, eachChannel, eachGroup, restartIfTripped_pending, relockAnnouncement_pending, refeed_pending]
  refine (foldl_field State.pending _ (fun a e => by simp) _ _).trans ?_
  exact (foldl_field State.pending _ (fun a e => by simp) _ _).trans rfl

/-! ### settingsLoaded -/

@[simp] theorem settingsLoaded_clock (i : ImageState) (c : Settings) : (s.settingsLoaded i c).clock = s.clock := by
  simp [settingsLoaded]
@[simp] theorem settingsLoaded_flash (i : ImageState) (c : Settings) : (s.settingsLoaded i c).flash = s.flash := by
  simp [settingsLoaded]
@[simp] theorem settingsLoaded_pins (i : ImageState) (c : Settings) : (s.settingsLoaded i c).pins = s.pins := by
  simp [settingsLoaded]
@[simp] theorem settingsLoaded_pending (i : ImageState) (c : Settings) : (s.settingsLoaded i c).pending = s.pending := by
  simp [settingsLoaded]

/-! ### startUpReady -/

@[simp] theorem startUpReady_cfg : (s.startUpReady).cfg = s.cfg := by
  simp [startUpReady]
@[simp] theorem startUpReady_clock : (s.startUpReady).clock = s.clock := by
  simp [startUpReady]
@[simp] theorem startUpReady_seq : (s.startUpReady).seq = s.seq := by
  simp [startUpReady]
@[simp] theorem startUpReady_aud : (s.startUpReady).aud = s.aud := by
  simp [startUpReady]
@[simp] theorem startUpReady_groups : (s.startUpReady).groups = s.groups := by
  simp [startUpReady]
@[simp] theorem startUpReady_dbm : (s.startUpReady).dbm = s.dbm := by
  simp [startUpReady]
@[simp] theorem startUpReady_lgt : (s.startUpReady).lgt = s.lgt := by
  simp [startUpReady]
@[simp] theorem startUpReady_fda : (s.startUpReady).fda = s.fda := by
  simp [startUpReady]
@[simp] theorem startUpReady_sup : (s.startUpReady).sup = s.sup := by
  simp [startUpReady]
@[simp] theorem startUpReady_flash : (s.startUpReady).flash = s.flash := by
  simp [startUpReady]
@[simp] theorem startUpReady_pins : (s.startUpReady).pins = s.pins := by
  simp [startUpReady]
@[simp] theorem startUpReady_fresh : (s.startUpReady).fresh = s.fresh := by
  simp [startUpReady]
@[simp] theorem startUpReady_pending : (s.startUpReady).pending = s.pending := by
  simp [startUpReady]

/-! ### releaseReady -/

@[simp] theorem releaseReady_cfg : (s.releaseReady).cfg = s.cfg := by
  simp [releaseReady]
@[simp] theorem releaseReady_clock : (s.releaseReady).clock = s.clock := by
  simp [releaseReady]
@[simp] theorem releaseReady_seq : (s.releaseReady).seq = s.seq := by
  simp [releaseReady]
@[simp] theorem releaseReady_aud : (s.releaseReady).aud = s.aud := by
  simp [releaseReady]
@[simp] theorem releaseReady_groups : (s.releaseReady).groups = s.groups := by
  simp [releaseReady]
@[simp] theorem releaseReady_dbm : (s.releaseReady).dbm = s.dbm := by
  simp [releaseReady]
@[simp] theorem releaseReady_lgt : (s.releaseReady).lgt = s.lgt := by
  simp [releaseReady]
@[simp] theorem releaseReady_fda : (s.releaseReady).fda = s.fda := by
  simp [releaseReady]
@[simp] theorem releaseReady_flash : (s.releaseReady).flash = s.flash := by
  simp [releaseReady]
@[simp] theorem releaseReady_pins : (s.releaseReady).pins = s.pins := by
  simp [releaseReady]
@[simp] theorem releaseReady_fresh : (s.releaseReady).fresh = s.fresh := by
  simp [releaseReady]
@[simp] theorem releaseReady_pending : (s.releaseReady).pending = s.pending := by
  simp [releaseReady]

/-! ### startWithoutFlash -/

@[simp] theorem startWithoutFlash_clock : (s.startWithoutFlash).clock = s.clock := by
  simp [startWithoutFlash]
@[simp] theorem startWithoutFlash_flash : (s.startWithoutFlash).flash = s.flash := by
  simp [startWithoutFlash]
@[simp] theorem startWithoutFlash_pins : (s.startWithoutFlash).pins = s.pins := by
  simp [startWithoutFlash]
@[simp] theorem startWithoutFlash_pending : (s.startWithoutFlash).pending = s.pending := by
  simp [startWithoutFlash]

/-! ### identified -/

@[simp] theorem identified_clock (a : Option DeviceIdent) : (s.identified a).clock = s.clock := by
  unfold identified; (repeat' split) <;> simp
@[simp] theorem identified_flash (a : Option DeviceIdent) : (s.identified a).flash = s.flash := by
  unfold identified; (repeat' split) <;> simp
@[simp] theorem identified_pins (a : Option DeviceIdent) : (s.identified a).pins = s.pins := by
  unfold identified; (repeat' split) <;> simp
@[simp] theorem identified_pending (a : Option DeviceIdent) : (s.identified a).pending = s.pending := by
  unfold identified; (repeat' split) <;> simp

/-! ### askSettings -/

@[simp] theorem askSettings_cfg (b : Bool) (r : List Byte) : (s.askSettings b r).cfg = s.cfg := by
  simp [askSettings]
@[simp] theorem askSettings_clock (b : Bool) (r : List Byte) : (s.askSettings b r).clock = s.clock := by
  simp [askSettings]
@[simp] theorem askSettings_lif (b : Bool) (r : List Byte) : (s.askSettings b r).lif = s.lif := by
  simp [askSettings]
@[simp] theorem askSettings_seq (b : Bool) (r : List Byte) : (s.askSettings b r).seq = s.seq := by
  simp [askSettings]
@[simp] theorem askSettings_aud (b : Bool) (r : List Byte) : (s.askSettings b r).aud = s.aud := by
  simp [askSettings]
@[simp] theorem askSettings_groups (b : Bool) (r : List Byte) : (s.askSettings b r).groups = s.groups := by
  simp [askSettings]
@[simp] theorem askSettings_dbm (b : Bool) (r : List Byte) : (s.askSettings b r).dbm = s.dbm := by
  simp [askSettings]
@[simp] theorem askSettings_lgt (b : Bool) (r : List Byte) : (s.askSettings b r).lgt = s.lgt := by
  simp [askSettings]
@[simp] theorem askSettings_fda (b : Bool) (r : List Byte) : (s.askSettings b r).fda = s.fda := by
  simp [askSettings]
@[simp] theorem askSettings_sup (b : Bool) (r : List Byte) : (s.askSettings b r).sup = s.sup := by
  simp [askSettings]
@[simp] theorem askSettings_flags (b : Bool) (r : List Byte) : (s.askSettings b r).flags = s.flags := by
  simp [askSettings]
@[simp] theorem askSettings_flash (b : Bool) (r : List Byte) : (s.askSettings b r).flash = s.flash := by
  simp [askSettings]
@[simp] theorem askSettings_pins (b : Bool) (r : List Byte) : (s.askSettings b r).pins = s.pins := by
  simp [askSettings]
@[simp] theorem askSettings_fresh (b : Bool) (r : List Byte) : (s.askSettings b r).fresh = s.fresh := by
  simp [askSettings]
@[simp] theorem askSettings_pending (b : Bool) (r : List Byte) : (s.askSettings b r).pending = s.pending := by
  simp [askSettings]

/-! ### reloadFound -/

@[simp] theorem reloadFound_clock (i : ImageState) (c : Settings) : (s.reloadFound i c).clock = s.clock := by
  unfold reloadFound; (repeat' split) <;> simp
@[simp] theorem reloadFound_flash (i : ImageState) (c : Settings) : (s.reloadFound i c).flash = s.flash := by
  unfold reloadFound; (repeat' split) <;> simp
@[simp] theorem reloadFound_pins (i : ImageState) (c : Settings) : (s.reloadFound i c).pins = s.pins := by
  unfold reloadFound; (repeat' split) <;> simp
@[simp] theorem reloadFound_pending (i : ImageState) (c : Settings) : (s.reloadFound i c).pending = s.pending := by
  unfold reloadFound; (repeat' split) <;> simp

/-! ### imageFound -/

@[simp] theorem imageFound_clock (b : Bool) (i : ImageState) (c : Settings) : (s.imageFound b i c).clock = s.clock := by
  unfold imageFound; (repeat' split) <;> simp
@[simp] theorem imageFound_flash (b : Bool) (i : ImageState) (c : Settings) : (s.imageFound b i c).flash = s.flash := by
  unfold imageFound; (repeat' split) <;> simp
@[simp] theorem imageFound_pins (b : Bool) (i : ImageState) (c : Settings) : (s.imageFound b i c).pins = s.pins := by
  unfold imageFound; (repeat' split) <;> simp
@[simp] theorem imageFound_pending (b : Bool) (i : ImageState) (c : Settings) : (s.imageFound b i c).pending = s.pending := by
  unfold imageFound; (repeat' split) <;> simp

/-! ### settingsRead -/

@[simp] theorem settingsRead_clock (r : List Byte) : (s.settingsRead r).clock = s.clock := by
  unfold settingsRead; (repeat' split) <;> simp
@[simp] theorem settingsRead_flash (r : List Byte) : (s.settingsRead r).flash = s.flash := by
  unfold settingsRead; (repeat' split) <;> simp
@[simp] theorem settingsRead_pins (r : List Byte) : (s.settingsRead r).pins = s.pins := by
  unfold settingsRead; (repeat' split) <;> simp
@[simp] theorem settingsRead_pending (r : List Byte) : (s.settingsRead r).pending = s.pending := by
  unfold settingsRead; (repeat' split) <;> simp

/-! ### settingsReadFailed -/

@[simp] theorem settingsReadFailed_clock : (s.settingsReadFailed).clock = s.clock := by
  unfold settingsReadFailed; (repeat' split) <;> simp
@[simp] theorem settingsReadFailed_flash : (s.settingsReadFailed).flash = s.flash := by
  unfold settingsReadFailed; (repeat' split) <;> simp
@[simp] theorem settingsReadFailed_pins : (s.settingsReadFailed).pins = s.pins := by
  unfold settingsReadFailed; (repeat' split) <;> simp
@[simp] theorem settingsReadFailed_pending : (s.settingsReadFailed).pending = s.pending := by
  unfold settingsReadFailed; (repeat' split) <;> simp

/-! ### saveOn -/

@[simp] theorem saveOn_cfg (i : List Byte) (b : Bool) (p : Nat) : (s.saveOn i b p).cfg = s.cfg := by
  unfold saveOn; (repeat' split) <;> simp
@[simp] theorem saveOn_clock (i : List Byte) (b : Bool) (p : Nat) : (s.saveOn i b p).clock = s.clock := by
  unfold saveOn; (repeat' split) <;> simp
@[simp] theorem saveOn_seq (i : List Byte) (b : Bool) (p : Nat) : (s.saveOn i b p).seq = s.seq := by
  unfold saveOn; (repeat' split) <;> simp
@[simp] theorem saveOn_aud (i : List Byte) (b : Bool) (p : Nat) : (s.saveOn i b p).aud = s.aud := by
  unfold saveOn; (repeat' split) <;> simp
@[simp] theorem saveOn_groups (i : List Byte) (b : Bool) (p : Nat) : (s.saveOn i b p).groups = s.groups := by
  unfold saveOn; (repeat' split) <;> simp
@[simp] theorem saveOn_dbm (i : List Byte) (b : Bool) (p : Nat) : (s.saveOn i b p).dbm = s.dbm := by
  unfold saveOn; (repeat' split) <;> simp
@[simp] theorem saveOn_lgt (i : List Byte) (b : Bool) (p : Nat) : (s.saveOn i b p).lgt = s.lgt := by
  unfold saveOn; (repeat' split) <;> simp
@[simp] theorem saveOn_fda (i : List Byte) (b : Bool) (p : Nat) : (s.saveOn i b p).fda = s.fda := by
  unfold saveOn; (repeat' split) <;> simp
@[simp] theorem saveOn_sup (i : List Byte) (b : Bool) (p : Nat) : (s.saveOn i b p).sup = s.sup := by
  unfold saveOn; (repeat' split) <;> simp
@[simp] theorem saveOn_flash (i : List Byte) (b : Bool) (p : Nat) : (s.saveOn i b p).flash = s.flash := by
  unfold saveOn; (repeat' split) <;> simp
@[simp] theorem saveOn_pins (i : List Byte) (b : Bool) (p : Nat) : (s.saveOn i b p).pins = s.pins := by
  unfold saveOn; (repeat' split) <;> simp
@[simp] theorem saveOn_fresh (i : List Byte) (b : Bool) (p : Nat) : (s.saveOn i b p).fresh = s.fresh := by
  unfold saveOn; (repeat' split) <;> simp
@[simp] theorem saveOn_pending (i : List Byte) (b : Bool) (p : Nat) : (s.saveOn i b p).pending = s.pending := by
  unfold saveOn; (repeat' split) <;> simp

/-! ### saveStep -/

@[simp] theorem saveStep_cfg (n : Nat) : (s.saveStep n).cfg = s.cfg := by
  unfold saveStep; (repeat' split) <;> simp
@[simp] theorem saveStep_clock (n : Nat) : (s.saveStep n).clock = s.clock := by
  unfold saveStep; (repeat' split) <;> simp
@[simp] theorem saveStep_seq (n : Nat) : (s.saveStep n).seq = s.seq := by
  unfold saveStep; (repeat' split) <;> simp
@[simp] theorem saveStep_aud (n : Nat) : (s.saveStep n).aud = s.aud := by
  unfold saveStep; (repeat' split) <;> simp
@[simp] theorem saveStep_groups (n : Nat) : (s.saveStep n).groups = s.groups := by
  unfold saveStep; (repeat' split) <;> simp
@[simp] theorem saveStep_dbm (n : Nat) : (s.saveStep n).dbm = s.dbm := by
  unfold saveStep; (repeat' split) <;> simp
@[simp] theorem saveStep_lgt (n : Nat) : (s.saveStep n).lgt = s.lgt := by
  unfold saveStep; (repeat' split) <;> simp
@[simp] theorem saveStep_fda (n : Nat) : (s.saveStep n).fda = s.fda := by
  unfold saveStep; (repeat' split) <;> simp
@[simp] theorem saveStep_sup (n : Nat) : (s.saveStep n).sup = s.sup := by
  unfold saveStep; (repeat' split) <;> simp
@[simp] theorem saveStep_flash (n : Nat) : (s.saveStep n).flash = s.flash := by
  unfold saveStep; (repeat' split) <;> simp
@[simp] theorem saveStep_pins (n : Nat) : (s.saveStep n).pins = s.pins := by
  unfold saveStep; (repeat' split) <;> simp
@[simp] theorem saveStep_fresh (n : Nat) : (s.saveStep n).fresh = s.fresh := by
  unfold saveStep; (repeat' split) <;> simp
@[simp] theorem saveStep_pending (n : Nat) : (s.saveStep n).pending = s.pending := by
  unfold saveStep; (repeat' split) <;> simp

/-! ### saveFailed -/

@[simp] theorem saveFailed_cfg : (s.saveFailed).cfg = s.cfg := by
  simp [saveFailed]
@[simp] theorem saveFailed_clock : (s.saveFailed).clock = s.clock := by
  simp [saveFailed]
@[simp] theorem saveFailed_seq : (s.saveFailed).seq = s.seq := by
  simp [saveFailed]
@[simp] theorem saveFailed_aud : (s.saveFailed).aud = s.aud := by
  simp [saveFailed]
@[simp] theorem saveFailed_groups : (s.saveFailed).groups = s.groups := by
  simp [saveFailed]
@[simp] theorem saveFailed_dbm : (s.saveFailed).dbm = s.dbm := by
  simp [saveFailed]
@[simp] theorem saveFailed_lgt : (s.saveFailed).lgt = s.lgt := by
  simp [saveFailed]
@[simp] theorem saveFailed_fda : (s.saveFailed).fda = s.fda := by
  simp [saveFailed]
@[simp] theorem saveFailed_sup : (s.saveFailed).sup = s.sup := by
  simp [saveFailed]
@[simp] theorem saveFailed_flash : (s.saveFailed).flash = s.flash := by
  simp [saveFailed]
@[simp] theorem saveFailed_pins : (s.saveFailed).pins = s.pins := by
  simp [saveFailed]
@[simp] theorem saveFailed_fresh : (s.saveFailed).fresh = s.fresh := by
  simp [saveFailed]
@[simp] theorem saveFailed_pending : (s.saveFailed).pending = s.pending := by
  simp [saveFailed]

/-! ### withClips -/

@[simp] theorem withClips_cfg (t : Table 64 (Option Clip)) : (s.withClips t).cfg = s.cfg := by
  simp [withClips]
@[simp] theorem withClips_clock (t : Table 64 (Option Clip)) : (s.withClips t).clock = s.clock := by
  simp [withClips]
@[simp] theorem withClips_lif (t : Table 64 (Option Clip)) : (s.withClips t).lif = s.lif := by
  simp [withClips]
@[simp] theorem withClips_seq (t : Table 64 (Option Clip)) : (s.withClips t).seq = s.seq := by
  simp [withClips]
@[simp] theorem withClips_groups (t : Table 64 (Option Clip)) : (s.withClips t).groups = s.groups := by
  simp [withClips]
@[simp] theorem withClips_dbm (t : Table 64 (Option Clip)) : (s.withClips t).dbm = s.dbm := by
  simp [withClips]
@[simp] theorem withClips_lgt (t : Table 64 (Option Clip)) : (s.withClips t).lgt = s.lgt := by
  simp [withClips]
@[simp] theorem withClips_fda (t : Table 64 (Option Clip)) : (s.withClips t).fda = s.fda := by
  simp [withClips]
@[simp] theorem withClips_sup (t : Table 64 (Option Clip)) : (s.withClips t).sup = s.sup := by
  simp [withClips]
@[simp] theorem withClips_flags (t : Table 64 (Option Clip)) : (s.withClips t).flags = s.flags := by
  simp [withClips]
@[simp] theorem withClips_flash (t : Table 64 (Option Clip)) : (s.withClips t).flash = s.flash := by
  simp [withClips]
@[simp] theorem withClips_pins (t : Table 64 (Option Clip)) : (s.withClips t).pins = s.pins := by
  simp [withClips]
@[simp] theorem withClips_fresh (t : Table 64 (Option Clip)) : (s.withClips t).fresh = s.fresh := by
  simp [withClips]
@[simp] theorem withClips_pending (t : Table 64 (Option Clip)) : (s.withClips t).pending = s.pending := by
  simp [withClips]

/-! ### afterCopy -/

@[simp] theorem afterCopy_cfg (w : CopyFor) : (s.afterCopy w).cfg = s.cfg := by
  unfold afterCopy; (repeat' split) <;> simp
@[simp] theorem afterCopy_clock (w : CopyFor) : (s.afterCopy w).clock = s.clock := by
  unfold afterCopy; (repeat' split) <;> simp
@[simp] theorem afterCopy_groups (w : CopyFor) : (s.afterCopy w).groups = s.groups := by
  unfold afterCopy; (repeat' split) <;> simp
@[simp] theorem afterCopy_dbm (w : CopyFor) : (s.afterCopy w).dbm = s.dbm := by
  unfold afterCopy; (repeat' split) <;> simp
@[simp] theorem afterCopy_lgt (w : CopyFor) : (s.afterCopy w).lgt = s.lgt := by
  unfold afterCopy; (repeat' split) <;> simp
@[simp] theorem afterCopy_fda (w : CopyFor) : (s.afterCopy w).fda = s.fda := by
  unfold afterCopy; (repeat' split) <;> simp
@[simp] theorem afterCopy_flash (w : CopyFor) : (s.afterCopy w).flash = s.flash := by
  unfold afterCopy; (repeat' split) <;> simp
@[simp] theorem afterCopy_pins (w : CopyFor) : (s.afterCopy w).pins = s.pins := by
  unfold afterCopy; (repeat' split) <;> simp
@[simp] theorem afterCopy_fresh (w : CopyFor) : (s.afterCopy w).fresh = s.fresh := by
  unfold afterCopy; (repeat' split) <;> simp
@[simp] theorem afterCopy_pending (w : CopyFor) : (s.afterCopy w).pending = s.pending := by
  unfold afterCopy; (repeat' split) <;> simp

/-! ### directoryRead -/

@[simp] theorem directoryRead_cfg (l : List Byte) : (s.directoryRead l).cfg = s.cfg := by
  unfold directoryRead; (repeat' split) <;> simp
@[simp] theorem directoryRead_clock (l : List Byte) : (s.directoryRead l).clock = s.clock := by
  unfold directoryRead; (repeat' split) <;> simp
@[simp] theorem directoryRead_groups (l : List Byte) : (s.directoryRead l).groups = s.groups := by
  unfold directoryRead; (repeat' split) <;> simp
@[simp] theorem directoryRead_dbm (l : List Byte) : (s.directoryRead l).dbm = s.dbm := by
  unfold directoryRead; (repeat' split) <;> simp
@[simp] theorem directoryRead_lgt (l : List Byte) : (s.directoryRead l).lgt = s.lgt := by
  unfold directoryRead; (repeat' split) <;> simp
@[simp] theorem directoryRead_fda (l : List Byte) : (s.directoryRead l).fda = s.fda := by
  unfold directoryRead; (repeat' split) <;> simp
@[simp] theorem directoryRead_flash (l : List Byte) : (s.directoryRead l).flash = s.flash := by
  unfold directoryRead; (repeat' split) <;> simp
@[simp] theorem directoryRead_pins (l : List Byte) : (s.directoryRead l).pins = s.pins := by
  unfold directoryRead; (repeat' split) <;> simp
@[simp] theorem directoryRead_fresh (l : List Byte) : (s.directoryRead l).fresh = s.fresh := by
  unfold directoryRead; (repeat' split) <;> simp
@[simp] theorem directoryRead_pending (l : List Byte) : (s.directoryRead l).pending = s.pending := by
  unfold directoryRead; (repeat' split) <;> simp

/-! ### directoryFailed -/

@[simp] theorem directoryFailed_cfg : (s.directoryFailed).cfg = s.cfg := by
  unfold directoryFailed; (repeat' split) <;> simp
@[simp] theorem directoryFailed_clock : (s.directoryFailed).clock = s.clock := by
  unfold directoryFailed; (repeat' split) <;> simp
@[simp] theorem directoryFailed_groups : (s.directoryFailed).groups = s.groups := by
  unfold directoryFailed; (repeat' split) <;> simp
@[simp] theorem directoryFailed_dbm : (s.directoryFailed).dbm = s.dbm := by
  unfold directoryFailed; (repeat' split) <;> simp
@[simp] theorem directoryFailed_lgt : (s.directoryFailed).lgt = s.lgt := by
  unfold directoryFailed; (repeat' split) <;> simp
@[simp] theorem directoryFailed_fda : (s.directoryFailed).fda = s.fda := by
  unfold directoryFailed; (repeat' split) <;> simp
@[simp] theorem directoryFailed_flash : (s.directoryFailed).flash = s.flash := by
  unfold directoryFailed; (repeat' split) <;> simp
@[simp] theorem directoryFailed_pins : (s.directoryFailed).pins = s.pins := by
  unfold directoryFailed; (repeat' split) <;> simp
@[simp] theorem directoryFailed_fresh : (s.directoryFailed).fresh = s.fresh := by
  unfold directoryFailed; (repeat' split) <;> simp
@[simp] theorem directoryFailed_pending : (s.directoryFailed).pending = s.pending := by
  unfold directoryFailed; (repeat' split) <;> simp

/-! ### answerRead -/

@[simp] theorem answerRead_cfg (o : ReadOutcome) (l : List Byte) : (s.answerRead o l).cfg = s.cfg := by
  unfold answerRead; (repeat' split) <;> simp
@[simp] theorem answerRead_clock (o : ReadOutcome) (l : List Byte) : (s.answerRead o l).clock = s.clock := by
  unfold answerRead; (repeat' split) <;> simp
@[simp] theorem answerRead_seq (o : ReadOutcome) (l : List Byte) : (s.answerRead o l).seq = s.seq := by
  unfold answerRead; (repeat' split) <;> simp
@[simp] theorem answerRead_aud (o : ReadOutcome) (l : List Byte) : (s.answerRead o l).aud = s.aud := by
  unfold answerRead; (repeat' split) <;> simp
@[simp] theorem answerRead_groups (o : ReadOutcome) (l : List Byte) : (s.answerRead o l).groups = s.groups := by
  unfold answerRead; (repeat' split) <;> simp
@[simp] theorem answerRead_dbm (o : ReadOutcome) (l : List Byte) : (s.answerRead o l).dbm = s.dbm := by
  unfold answerRead; (repeat' split) <;> simp
@[simp] theorem answerRead_lgt (o : ReadOutcome) (l : List Byte) : (s.answerRead o l).lgt = s.lgt := by
  unfold answerRead; (repeat' split) <;> simp
@[simp] theorem answerRead_fda (o : ReadOutcome) (l : List Byte) : (s.answerRead o l).fda = s.fda := by
  unfold answerRead; (repeat' split) <;> simp
@[simp] theorem answerRead_sup (o : ReadOutcome) (l : List Byte) : (s.answerRead o l).sup = s.sup := by
  unfold answerRead; (repeat' split) <;> simp
@[simp] theorem answerRead_flags (o : ReadOutcome) (l : List Byte) : (s.answerRead o l).flags = s.flags := by
  unfold answerRead; (repeat' split) <;> simp
@[simp] theorem answerRead_flp (o : ReadOutcome) (l : List Byte) : (s.answerRead o l).flp = s.flp := by
  unfold answerRead; (repeat' split) <;> simp
@[simp] theorem answerRead_flash (o : ReadOutcome) (l : List Byte) : (s.answerRead o l).flash = s.flash := by
  unfold answerRead; (repeat' split) <;> simp
@[simp] theorem answerRead_pins (o : ReadOutcome) (l : List Byte) : (s.answerRead o l).pins = s.pins := by
  unfold answerRead; (repeat' split) <;> simp
@[simp] theorem answerRead_fresh (o : ReadOutcome) (l : List Byte) : (s.answerRead o l).fresh = s.fresh := by
  unfold answerRead; (repeat' split) <;> simp
@[simp] theorem answerRead_pending (o : ReadOutcome) (l : List Byte) : (s.answerRead o l).pending = s.pending := by
  unfold answerRead; (repeat' split) <;> simp

/-! ### endFlash -/

@[simp] theorem endFlash_cfg (f : Failure) : (s.endFlash f).cfg = s.cfg := by
  simp [endFlash]
@[simp] theorem endFlash_clock (f : Failure) : (s.endFlash f).clock = s.clock := by
  simp [endFlash]
@[simp] theorem endFlash_seq (f : Failure) : (s.endFlash f).seq = s.seq := by
  simp [endFlash]
@[simp] theorem endFlash_aud (f : Failure) : (s.endFlash f).aud = s.aud := by
  simp [endFlash]
@[simp] theorem endFlash_groups (f : Failure) : (s.endFlash f).groups = s.groups := by
  simp [endFlash]
@[simp] theorem endFlash_dbm (f : Failure) : (s.endFlash f).dbm = s.dbm := by
  simp [endFlash]
@[simp] theorem endFlash_lgt (f : Failure) : (s.endFlash f).lgt = s.lgt := by
  simp [endFlash]
@[simp] theorem endFlash_fda (f : Failure) : (s.endFlash f).fda = s.fda := by
  simp [endFlash]
@[simp] theorem endFlash_sup (f : Failure) : (s.endFlash f).sup = s.sup := by
  simp [endFlash]
@[simp] theorem endFlash_flash (f : Failure) : (s.endFlash f).flash = s.flash := by
  simp [endFlash]
@[simp] theorem endFlash_pins (f : Failure) : (s.endFlash f).pins = s.pins := by
  simp [endFlash]
@[simp] theorem endFlash_fresh (f : Failure) : (s.endFlash f).fresh = s.fresh := by
  simp [endFlash]
@[simp] theorem endFlash_pending (f : Failure) : (s.endFlash f).pending = s.pending := by
  simp [endFlash]

/-! ### timedOut -/

@[simp] theorem timedOut_clock (t : Txn) : (s.timedOut t).clock = s.clock := by
  unfold timedOut; (repeat' split) <;> simp
@[simp] theorem timedOut_flash (t : Txn) : (s.timedOut t).flash = s.flash := by
  unfold timedOut; (repeat' split) <;> simp
@[simp] theorem timedOut_pins (t : Txn) : (s.timedOut t).pins = s.pins := by
  unfold timedOut; (repeat' split) <;> simp
@[simp] theorem timedOut_pending (t : Txn) : (s.timedOut t).pending = s.pending := by
  unfold timedOut; (repeat' split) <;> simp

/-! ### settle -/

@[simp] theorem settle_cfg : (s.settle).cfg = s.cfg := by
  simp [settle]
@[simp] theorem settle_clock : (s.settle).clock = s.clock := by
  simp [settle]
@[simp] theorem settle_seq : (s.settle).seq = s.seq := by
  simp [settle]
@[simp] theorem settle_groups : (s.settle).groups = s.groups := by
  simp [settle]
@[simp] theorem settle_dbm : (s.settle).dbm = s.dbm := by
  simp [settle]
@[simp] theorem settle_lgt : (s.settle).lgt = s.lgt := by
  simp [settle]
@[simp] theorem settle_fda : (s.settle).fda = s.fda := by
  simp [settle]
@[simp] theorem settle_pins : (s.settle).pins = s.pins := by
  simp [settle]
@[simp] theorem settle_pending : (s.settle).pending = s.pending := by
  simp [settle]

/-! ### frameIn -/

@[simp] theorem frameIn_cfg (q : Request) : (s.frameIn q).cfg = s.cfg := by
  unfold frameIn; (repeat' split) <;> simp
@[simp] theorem frameIn_clock (q : Request) : (s.frameIn q).clock = s.clock := by
  unfold frameIn; (repeat' split) <;> simp
@[simp] theorem frameIn_seq (q : Request) : (s.frameIn q).seq = s.seq := by
  unfold frameIn; (repeat' split) <;> simp
@[simp] theorem frameIn_aud (q : Request) : (s.frameIn q).aud = s.aud := by
  unfold frameIn; (repeat' split) <;> simp
@[simp] theorem frameIn_groups (q : Request) : (s.frameIn q).groups = s.groups := by
  unfold frameIn; (repeat' split) <;> simp
@[simp] theorem frameIn_dbm (q : Request) : (s.frameIn q).dbm = s.dbm := by
  unfold frameIn; (repeat' split) <;> simp
@[simp] theorem frameIn_lgt (q : Request) : (s.frameIn q).lgt = s.lgt := by
  unfold frameIn; (repeat' split) <;> simp
@[simp] theorem frameIn_fda (q : Request) : (s.frameIn q).fda = s.fda := by
  unfold frameIn; (repeat' split) <;> simp
@[simp] theorem frameIn_sup (q : Request) : (s.frameIn q).sup = s.sup := by
  unfold frameIn; (repeat' split) <;> simp
@[simp] theorem frameIn_flp (q : Request) : (s.frameIn q).flp = s.flp := by
  unfold frameIn; (repeat' split) <;> simp
@[simp] theorem frameIn_flash (q : Request) : (s.frameIn q).flash = s.flash := by
  unfold frameIn; (repeat' split) <;> simp
@[simp] theorem frameIn_pins (q : Request) : (s.frameIn q).pins = s.pins := by
  unfold frameIn; (repeat' split) <;> simp
@[simp] theorem frameIn_fresh (q : Request) : (s.frameIn q).fresh = s.fresh := by
  unfold frameIn; (repeat' split) <;> simp
@[simp] theorem frameIn_pending (q : Request) : (s.frameIn q).pending = s.pending := by
  unfold frameIn; (repeat' split) <;> simp

/-! ### takeByte -/

@[simp] theorem takeByte_cfg (d : Byte) : (s.takeByte d).cfg = s.cfg := by
  unfold takeByte; (repeat' (first | split | (dsimp only; split))) <;> simp
@[simp] theorem takeByte_clock (d : Byte) : (s.takeByte d).clock = s.clock := by
  unfold takeByte; (repeat' (first | split | (dsimp only; split))) <;> simp
@[simp] theorem takeByte_seq (d : Byte) : (s.takeByte d).seq = s.seq := by
  unfold takeByte; (repeat' (first | split | (dsimp only; split))) <;> simp
@[simp] theorem takeByte_aud (d : Byte) : (s.takeByte d).aud = s.aud := by
  unfold takeByte; (repeat' (first | split | (dsimp only; split))) <;> simp
@[simp] theorem takeByte_groups (d : Byte) : (s.takeByte d).groups = s.groups := by
  unfold takeByte; (repeat' (first | split | (dsimp only; split))) <;> simp
@[simp] theorem takeByte_dbm (d : Byte) : (s.takeByte d).dbm = s.dbm := by
  unfold takeByte; (repeat' (first | split | (dsimp only; split))) <;> simp
@[simp] theorem takeByte_lgt (d : Byte) : (s.takeByte d).lgt = s.lgt := by
  unfold takeByte; (repeat' (first | split | (dsimp only; split))) <;> simp
@[simp] theorem takeByte_fda (d : Byte) : (s.takeByte d).fda = s.fda := by
  unfold takeByte; (repeat' (first | split | (dsimp only; split))) <;> simp
@[simp] theorem takeByte_sup (d : Byte) : (s.takeByte d).sup = s.sup := by
  unfold takeByte; (repeat' (first | split | (dsimp only; split))) <;> simp
@[simp] theorem takeByte_flp (d : Byte) : (s.takeByte d).flp = s.flp := by
  unfold takeByte; (repeat' (first | split | (dsimp only; split))) <;> simp
@[simp] theorem takeByte_flash (d : Byte) : (s.takeByte d).flash = s.flash := by
  unfold takeByte; (repeat' (first | split | (dsimp only; split))) <;> simp
@[simp] theorem takeByte_pins (d : Byte) : (s.takeByte d).pins = s.pins := by
  unfold takeByte; (repeat' (first | split | (dsimp only; split))) <;> simp
@[simp] theorem takeByte_fresh (d : Byte) : (s.takeByte d).fresh = s.fresh := by
  unfold takeByte; (repeat' (first | split | (dsimp only; split))) <;> simp
@[simp] theorem takeByte_pending (d : Byte) : (s.takeByte d).pending = s.pending := by
  unfold takeByte; (repeat' (first | split | (dsimp only; split))) <;> simp

/-! ### receive -/

@[simp] theorem receive_cfg (c : LinkChar) : (s.receive c).cfg = s.cfg := by
  unfold receive; (repeat' split) <;> simp
@[simp] theorem receive_clock (c : LinkChar) : (s.receive c).clock = s.clock := by
  unfold receive; (repeat' split) <;> simp
@[simp] theorem receive_seq (c : LinkChar) : (s.receive c).seq = s.seq := by
  unfold receive; (repeat' split) <;> simp
@[simp] theorem receive_aud (c : LinkChar) : (s.receive c).aud = s.aud := by
  unfold receive; (repeat' split) <;> simp
@[simp] theorem receive_groups (c : LinkChar) : (s.receive c).groups = s.groups := by
  unfold receive; (repeat' split) <;> simp
@[simp] theorem receive_dbm (c : LinkChar) : (s.receive c).dbm = s.dbm := by
  unfold receive; (repeat' split) <;> simp
@[simp] theorem receive_lgt (c : LinkChar) : (s.receive c).lgt = s.lgt := by
  unfold receive; (repeat' split) <;> simp
@[simp] theorem receive_fda (c : LinkChar) : (s.receive c).fda = s.fda := by
  unfold receive; (repeat' split) <;> simp
@[simp] theorem receive_sup (c : LinkChar) : (s.receive c).sup = s.sup := by
  unfold receive; (repeat' split) <;> simp
@[simp] theorem receive_flp (c : LinkChar) : (s.receive c).flp = s.flp := by
  unfold receive; (repeat' split) <;> simp
@[simp] theorem receive_flash (c : LinkChar) : (s.receive c).flash = s.flash := by
  unfold receive; (repeat' split) <;> simp
@[simp] theorem receive_pins (c : LinkChar) : (s.receive c).pins = s.pins := by
  unfold receive; (repeat' split) <;> simp
@[simp] theorem receive_fresh (c : LinkChar) : (s.receive c).fresh = s.fresh := by
  unfold receive; (repeat' split) <;> simp
@[simp] theorem receive_pending (c : LinkChar) : (s.receive c).pending = s.pending := by
  unfold receive; (repeat' split) <;> simp

end Sys2Proof.Machine.State
end

