-- ==== Sys2Proof/Laws/Memory.lean ====
section
/-! SUPPORT. The flash device's memory: what each operation leaves at an address, and that each keeps the canonical form. -/

namespace Sys2Proof.Machine.Memory

/-! ## Canonical form -/

theorem wfFrom_mono {lo lo' : Nat} {m : Memory} (h : wfFrom lo m = true) (hle : lo' ≤ lo) : wfFrom lo' m = true := by
  cases m with
  | nil => rfl
  | cons c m =>
    obtain ⟨a, b⟩ := c
    simp only [wfFrom, Bool.and_eq_true, decide_eq_true_eq] at h ⊢
    exact ⟨⟨le_trans hle h.1.1, h.1.2⟩, h.2⟩

/-- Below where a canonical memory begins every byte reads as erased. -/
theorem read_below {lo x : Nat} {m : Memory} (h : wfFrom lo m = true) (hx : x < lo) : read m x = erasedByte := by
  induction m generalizing lo with
  | nil => rfl
  | cons c m ih =>
    obtain ⟨a, b⟩ := c
    simp only [wfFrom, Bool.and_eq_true, decide_eq_true_eq] at h
    have hne : a ≠ x := by omega
    simp only [read, hne, if_false]
    exact ih h.2 (by omega)

theorem write_wfFrom {lo x : Nat} {v : Byte} {m : Memory} (h : wfFrom lo m = true) (hx : lo ≤ x) :
    wfFrom lo (write m x v) = true := by
  induction m generalizing lo with
  | nil => by_cases hv : v = erasedByte <;> simp [write, wfFrom, hv, hx]
  | cons c m ih =>
    obtain ⟨a, b⟩ := c
    simp only [wfFrom, Bool.and_eq_true, decide_eq_true_eq] at h
    simp only [write]
    split_ifs with h1 h2 h3 h4
    · simp [wfFrom, h]
    · simp only [wfFrom, Bool.and_eq_true, decide_eq_true_eq]
      exact ⟨⟨hx, h2⟩, ⟨by omega, h.1.2⟩, h.2⟩
    · exact wfFrom_mono h.2 (by omega)
    · simp only [wfFrom, Bool.and_eq_true, decide_eq_true_eq]
      exact ⟨⟨h.1.1, h4⟩, h.2⟩
    · simp only [wfFrom, Bool.and_eq_true, decide_eq_true_eq]
      exact ⟨⟨h.1.1, h.1.2⟩, ih h.2 (by omega)⟩

/-- A write keeps the canonical form. -/
theorem write_wf {m : Memory} (x : Nat) (v : Byte) (h : wf m = true) : wf (write m x v) = true :=
  write_wfFrom h (Nat.zero_le _)

/-- What a write leaves at an address. -/
theorem read_write {lo : Nat} {m : Memory} (h : wfFrom lo m = true) (x : Nat) (v : Byte) (y : Nat) :
    read (write m x v) y = if y = x then v else read m y := by
  induction m generalizing lo with
  | nil =>
    by_cases hv : v = erasedByte
    · subst hv; simp [write, read]
    · by_cases hy : x = y
      · subst hy; simp [write, read, hv]
      · have : y ≠ x := fun e => hy e.symm
        simp [write, read, hv, hy, this]
  | cons c m ih =>
    obtain ⟨a, b⟩ := c
    simp only [wfFrom, Bool.and_eq_true, decide_eq_true_eq] at h
    simp only [write]
    split_ifs with h1 h2 h3 h4 h5 h6 h7
    · subst h3
      have hne : a ≠ y := by omega
      simp only [read, hne, if_false, h2]
      exact read_below h.2 (by omega)
    · rfl
    · subst h4; simp [read]
    · have : x ≠ y := fun e => h4 e.symm
      simp [read, this]
    · subst h5 h7 h6; exact read_below h.2 (by omega)
    · subst h5
      have : x ≠ y := fun e => h7 e.symm
      simp [read, this]
    · rename_i h8; subst h5 h8; simp [read]
    · rename_i h8
      subst h5
      have : x ≠ y := fun e => h8 e.symm
      simp [read, this]
    · rename_i h8
      subst h8
      have hne : a ≠ y := fun e => h5 e.symm
      simp only [read, hne, if_false]
      rw [ih h.2]; simp
    · rename_i h8
      simp only [read]
      rw [ih h.2]; simp [h8]

/-- A page program keeps the canonical form. -/
theorem program_wf {m : Memory} (a : Nat) (ds : List Byte) (h : wf m = true) : wf (program m a ds) = true := by
  induction ds generalizing m a with
  | nil => exact h
  | cons d ds ih => exact ih _ (write_wf _ _ h)

/-- A page program leaves every byte outside its extent as it was. -/
theorem read_program_outside {m : Memory} (a : Nat) (ds : List Byte) (x : Nat) (h : wf m = true)
    (hx : x < a ∨ a + ds.length ≤ x) : read (program m a ds) x = read m x := by
  induction ds generalizing m a with
  | nil => rfl
  | cons d ds ih =>
    simp only [List.length_cons] at hx
    simp only [program]
    rw [ih _ (write_wf _ _ h) (by omega), read_write h]
    have : x ≠ a := by omega
    simp [this]

/-- A page program makes each byte of its extent the AND of the byte held and the byte written. -/
theorem read_program_inside {m : Memory} (a : Nat) (ds : List Byte) (i : Nat) (h : wf m = true) (hi : i < ds.length) :
    read (program m a ds) (a + i) = read m (a + i) &&& ds[i] := by
  induction ds generalizing m a i with
  | nil => simp at hi
  | cons d ds ih =>
    simp only [program]
    cases i with
    | zero =>
      rw [read_program_outside _ _ _ (write_wf _ _ h) (by omega), read_write h]
      simp
    | succ i =>
      have e : a + (i + 1) = (a + 1) + i := by omega
      rw [e, ih _ i (write_wf _ _ h) (by simpa using hi), read_write h]
      have : a + 1 + i ≠ a := by omega
      simp [this]

theorem filter_wfFrom {lo : Nat} {m : Memory} (p : Host.Cell → Bool) (h : wfFrom lo m = true) :
    wfFrom lo (List.filter p m) = true := by
  induction m generalizing lo with
  | nil => rfl
  | cons c m ih =>
    obtain ⟨a, b⟩ := c
    simp only [wfFrom, Bool.and_eq_true, decide_eq_true_eq] at h
    rw [List.filter_cons]
    split
    · simp only [wfFrom, Bool.and_eq_true, decide_eq_true_eq]
      exact ⟨⟨h.1.1, h.1.2⟩, ih h.2⟩
    · exact wfFrom_mono (ih h.2) (by omega)

/-- An erase keeps the canonical form. -/
theorem erase_wf {m : Memory} (a n : Nat) (h : wf m = true) : wf (erase m a n) = true := filter_wfFrom _ h

/-- What an erase leaves at an address. -/
theorem read_erase (m : Memory) (a n x : Nat) :
    read (erase m a n) x = if a ≤ x ∧ x < a + n then erasedByte else read m x := by
  induction m with
  | nil => simp [erase, read]
  | cons c m ih =>
    obtain ⟨b, v⟩ := c
    have e : erase ((b, v) :: m) a n
        = if (!(decide (a ≤ b) && decide (b < a + n))) = true then (b, v) :: erase m a n else erase m a n := by
      simp only [erase, List.filter_cons]
    rw [e]
    by_cases hb : a ≤ b ∧ b < a + n
    · simp only [hb, decide_true, Bool.and_self, Bool.not_true, Bool.false_eq_true, if_false]
      rw [ih]
      by_cases hx : a ≤ x ∧ x < a + n
      · simp [hx]
      · have hne : b ≠ x := by rintro rfl; exact hx hb
        simp [hx, read, hne]
    · have : (!(decide (a ≤ b) && decide (b < a + n))) = true := by
        simp only [Bool.not_eq_true', Bool.and_eq_false_iff, decide_eq_false_iff_not]
        tauto
      simp only [this, if_true, read]
      rw [ih]
      by_cases hbx : b = x
      · subst hbx; simp [hb]
      · simp [hbx]

theorem partErase_wfFrom {lo : Nat} {m : Memory} (a n : Nat) (mask : Nat → Byte) (h : wfFrom lo m = true) :
    wfFrom lo (partErase m a n mask) = true := by
  induction m generalizing lo with
  | nil => rfl
  | cons c m ih =>
    obtain ⟨b, v⟩ := c
    simp only [wfFrom, Bool.and_eq_true, decide_eq_true_eq] at h
    simp only [partErase, List.filterMap_cons]
    have tail : wfFrom (b + 1) (partErase m a n mask) = true := ih h.2
    split
    · exact wfFrom_mono tail (by omega)
    · rename_i c' heq
      split_ifs at heq with h1 h2
      · cases heq
        simp only [wfFrom, Bool.and_eq_true, decide_eq_true_eq]
        exact ⟨⟨h.1.1, h2⟩, tail⟩
      · cases heq
        simp only [wfFrom, Bool.and_eq_true, decide_eq_true_eq]
        exact ⟨⟨h.1.1, h.1.2⟩, tail⟩

/-- A suspended or cut-off erase keeps the canonical form. -/
theorem partErase_wf {m : Memory} (a n : Nat) (mask : Nat → Byte) (h : wf m = true) :
    wf (partErase m a n mask) = true := partErase_wfFrom a n mask h

/-- A cut-off page program keeps the canonical form. -/
theorem partProgram_wf {m : Memory} (a : Nat) (ds : List Byte) (mask : Nat → Byte) (h : wf m = true) :
    wf (partProgram m a ds mask) = true := by
  induction ds generalizing m a with
  | nil => exact h
  | cons d ds ih => exact ih _ (write_wf _ _ h)

end Sys2Proof.Machine.Memory
end

