-- ==== Sys2Proof/Laws/Table.lean ====
section
/-! SUPPORT. Tables: reading an entry of a filled, replaced or mapped table. -/

namespace Sys2Proof.Table

variable {n : Nat} {α β : Type}

@[simp] theorem get_fill (a : α) (i : Fin n) : (fill n a).get i = a := by simp [fill, get]

@[simp] theorem get_ofFn (f : Fin n → α) (i : Fin n) : (ofFn f).get i = f i := by simp [ofFn, get]

@[simp] theorem get_set_self (t : Table n α) (i : Fin n) (a : α) : (t.set i a).get i = a := by simp [set, get]

theorem get_set_ne (t : Table n α) {i j : Fin n} (a : α) (h : i ≠ j) : (t.set i a).get j = t.get j := by
  have : i.val ≠ j.val := fun e => h (Fin.ext e)
  simp [set, get, this]

theorem get_set (t : Table n α) (i j : Fin n) (a : α) : (t.set i a).get j = if i = j then a else t.get j := by
  by_cases h : i = j
  · subst h; simp
  · simp [h, get_set_ne]

@[simp] theorem get_mapIdx (f : Fin n → α → β) (t : Table n α) (i : Fin n) : (t.mapIdx f).get i = f i (t.get i) := by
  simp [mapIdx]

@[simp] theorem get_map (f : α → β) (t : Table n α) (i : Fin n) : (t.map f).get i = f (t.get i) := by simp [map]

theorem get_modify (t : Table n α) (i j : Fin n) (f : α → α) :
    (t.modify i f).get j = if i = j then f (t.get i) else t.get j := by simp [modify, get_set]

/-- Tables with the same entries are the same table. -/
theorem ext_get {t u : Table n α} (h : ∀ i, t.get i = u.get i) : t = u := by
  cases t with
  | mk a ha =>
    cases u with
    | mk b hb =>
      have : a = b := List.ext_getElem (by rw [ha, hb]) fun k h1 _ => h ⟨k, by rw [← ha]; exact h1⟩
      subst this; rfl

/-- Every cell satisfies a test when every entry does. -/
theorem all_cells (t : Table n α) (p : α → Bool) : t.cells.all p = true ↔ ∀ i, p (t.get i) = true := by
  rw [List.all_eq_true]
  constructor
  · intro h i
    exact h _ (List.getElem_mem _)
  · intro h a ha
    obtain ⟨k, hk, rfl⟩ := List.getElem_of_mem ha
    exact h ⟨k, by rw [← t.len]; exact hk⟩

/-- Some cell satisfies a test when some entry does. -/
theorem any_cells (t : Table n α) (p : α → Bool) : t.cells.any p = true ↔ ∃ i, p (t.get i) = true := by
  rw [List.any_eq_true]
  constructor
  · rintro ⟨a, ha, hp⟩
    obtain ⟨k, hk, rfl⟩ := List.getElem_of_mem ha
    exact ⟨⟨k, by rw [← t.len]; exact hk⟩, hp⟩
  · rintro ⟨i, hi⟩
    exact ⟨_, List.getElem_mem _, hi⟩

end Sys2Proof.Table
end

