-- ==== Sys2Proof/Laws/Ops.lean ====
section
/-! SUPPORT. What the shared operations do, once: tables of points, a request at the link, stroke timers, the site judged at the
end of a step, the arbiter, reports, the records of a settings image, demand posts. -/

namespace Sys2Proof.Machine

/-! ## The monad of judgements -/

/-- A condition that does not hold lets the judgement go on. -/
@[simp] theorem refuseIf_false (st : Status) : refuseIf false st = .ok () := rfl

/-- A condition that holds refuses. -/
@[simp] theorem refuseIf_true (st : Status) : refuseIf true st = .error st := rfl

/-- A part that is there is passed on. -/
@[simp] theorem need_some {α : Type} (a : α) (st : Status) : need (some a) st = .ok a := rfl

/-- A part that is missing refuses. -/
@[simp] theorem need_none {α : Type} (st : Status) : need (none : Option α) st = .error st := rfl

/-- A refused judgement answers its status. -/
@[simp] theorem judged_error {α : Type} (s : State) (q : Request) (st : Status) (act : α → State) :
    s.judged q (.error st) act = s.answer q st [] := rfl

/-- A judgement that passes is acted on. -/
@[simp] theorem judged_ok {α : Type} (s : State) (q : Request) (a : α) (act : α → State) :
    s.judged q (.ok a) act = act a := rfl

/-- A number below the bound is its own index. -/
theorem indexOf_lt {n k : Nat} (h : k < n) : indexOf n k = some ⟨k, h⟩ := by simp [indexOf, h]

/-- A number at or above the bound is no index. -/
theorem indexOf_ge {n k : Nat} (h : n ≤ k) : indexOf n k = none := by simp [indexOf, Nat.not_lt.mpr h]

/-! ## Payloads -/

/-- A list is a chain exactly where every two neighbours stand in the relation. -/
theorem chain_iff {α : Type} (r : α → α → Bool) (l : List α) :
    chain r l = true ↔ ∀ i a b, l[i]? = some a → l[i + 1]? = some b → r a b = true := by
  induction l with
  | nil => simp [chain]
  | cons x rest ih =>
      cases rest with
      | nil => simp [chain]
      | cons y tail =>
          rw [chain, Bool.and_eq_true, ih]
          constructor
          · rintro ⟨h0, h⟩ i a b ha hb
            cases i with
            | zero => simp at ha hb; subst ha; subst hb; exact h0
            | succ i => exact h i a b (by simpa using ha) (by simpa using hb)
          · intro h
            exact ⟨h 0 x y rfl rfl, fun i a b ha hb => h (i + 1) a b (by simpa using ha) (by simpa using hb)⟩

/-- A number within bounds. -/
theorem within_iff (lo hi n : Nat) : within lo hi n = true ↔ lo ≤ n ∧ n ≤ hi := by simp [within]

/-! ## Tables of points -/

/-- At or below its first point a table reads the first point's value. -/
theorem interp_first (pts : List Point) (p : Point) (x : Int) (h : pts.head? = some p) (hx : x ≤ p.h) :
    interp pts x = p.v := by
  cases pts with
  | nil => cases h
  | cons a rest => cases h; simp [interp, hx]

/-- Read from one of its points on, a rising table gives its last point's value at or above that point. -/
theorem interpFrom_last (rest : List Point) (a p : Point) (x : Int) (rising : (a :: rest).Pairwise fun u v => u.h < v.h)
    (h : (a :: rest).getLast? = some p) (hx : p.h ≤ x) : interpFrom x a rest = p.v := by
  induction rest generalizing a with
  | nil => cases h; rfl
  | cons q rest ih =>
      have later : (q :: rest).getLast? = some p := by simpa using h
      have hq : q.h ≤ p.h := by
        rcases List.mem_cons.mp (List.mem_of_getLast? later) with e | e
        · rw [e]
        · exact Nat.le_of_lt ((List.pairwise_cons.mp (List.pairwise_cons.mp rising).2).1 p e)
      rw [interpFrom, if_neg (by omega)]
      exact ih q (List.pairwise_cons.mp rising).2 later

/-- At or above its last point a rising table reads the last point's value. -/
theorem interp_last (pts : List Point) (p : Point) (x : Int) (rising : pts.Pairwise fun u v => u.h < v.h)
    (h : pts.getLast? = some p) (hx : p.h ≤ x) : interp pts x = p.v := by
  cases pts with
  | nil => cases h
  | cons a rest =>
      have line := interpFrom_last rest a p x rising h hx
      rw [interp]
      split
      · cases rest with
        | nil => cases h; rfl
        | cons q rest =>
            have := (List.pairwise_cons.mp rising).1 p (List.mem_of_getLast? (by simpa using h))
            omega
      · exact line

/-- Read from one of its points on, a rising table gives the floor of the line between two later neighbours. -/
theorem interpFrom_between (rest : List Point) (a p q : Point) (i : Nat) (x : Int)
    (rising : (a :: rest).Pairwise fun u v => u.h < v.h) (hp : (a :: rest)[i]? = some p)
    (hq : (a :: rest)[i + 1]? = some q) (hpx : p.h ≤ x) (hxq : x < q.h) :
    interpFrom x a rest = p.v + Int.fdiv ((x - p.h) * ((q.v : Int) - p.v)) ((q.h : Int) - p.h) := by
  induction rest generalizing a i with
  | nil => simp at hq
  | cons b rest ih =>
      have tail := (List.pairwise_cons.mp rising).2
      cases i with
      | zero =>
          simp at hp hq
          subst hp; subst hq
          have := (List.pairwise_cons.mp rising).1 b List.mem_cons_self
          rw [interpFrom, if_pos hxq, Int.fdiv_eq_ediv_of_nonneg _ (by omega)]
      | succ i =>
          have hp' : (b :: rest)[i]? = some p := by simpa using hp
          have hb : b.h ≤ p.h := by
            rcases List.mem_cons.mp (List.mem_of_getElem? hp') with e | e
            · rw [e]
            · exact Nat.le_of_lt ((List.pairwise_cons.mp tail).1 p e)
          rw [interpFrom, if_neg (by omega)]
          exact ih b i tail hp' (by simpa using hq)

/-- Between two neighbouring points a rising table reads the floor of the line through them (R24, R80). -/
theorem interp_between (pts : List Point) (p q : Point) (i : Nat) (x : Int)
    (rising : pts.Pairwise fun u v => u.h < v.h) (hp : pts[i]? = some p) (hq : pts[i + 1]? = some q) (hpx : p.h ≤ x)
    (hxq : x < q.h) :
    interp pts x = p.v + Int.fdiv ((x - p.h) * ((q.v : Int) - p.v)) ((q.h : Int) - p.h) := by
  cases pts with
  | nil => simp at hp
  | cons a rest =>
      have line := interpFrom_between rest a p q i x rising hp hq hpx hxq
      rw [interp]
      split
      · rename_i hxa
        cases i with
        | zero =>
            simp at hp; subst hp
            have : x = (a.h : Int) := by omega
            simp [this]
        | succ i =>
            have := (List.pairwise_cons.mp rising).1 p (List.mem_of_getElem? (by simpa using hp))
            omega
      · exact line

/-! ## Requests -/

/-- LIF's own judgement and the status it refuses with say the same. -/
theorem linkJudge_eq (s : State) (r : RequestRule) (p : List Byte) :
    s.linkJudge r p = match s.linkRefusal r p with | some st => .error st | none => .ok () := by
  unfold State.linkJudge State.linkRefusal
  cases h1 : within r.least r.most p.length
  · simp [refuseIf, bind, Except.bind]
  · cases h2 : s.lif.halted <;> cases h3 : r.takenHalted <;> cases h4 : s.lif.starting <;> cases h5 : r.waitsReady <;>
      cases h6 : (r.slot.any fun k => (s.lif.slot k).active) <;> simp [refuseIf, bind, Except.bind]

/-- With an empty inbox a request command does nothing. -/
theorem serve_empty (s : State) (r : RequestRule) (mine : Request → Bool) (owner : State → Request → State)
    (h : s.lif.inbox = []) : s.serve r mine owner = s := by simp [State.serve, h]

/-- A request command leaves a request that is not its own, and any request while no reply place is free. -/
theorem serve_waits (s : State) (r : RequestRule) (mine : Request → Bool) (owner : State → Request → State) (q : Request)
    (h : s.lif.inbox.head? = some q) (hn : q.kind ≠ r.kind ∨ mine q = false ∨ 4 ≤ s.lif.placesUsed) :
    s.serve r mine owner = s := by
  unfold State.serve
  cases hb : s.lif.inbox with
  | nil => rfl
  | cons a rest =>
      have ha : a = q := by simpa [hb] using h
      subst ha
      have : ¬(a.kind = r.kind ∧ mine a = true ∧ s.lif.placesUsed < 4) := by
        rintro ⟨h1, h2, h3⟩
        rcases hn with hn | hn | hn
        · exact hn h1
        · simp [hn] at h2
        · omega
      simp [this]

/-- A request that LIF takes goes to its owner, and the transmitter then acts. -/
theorem serve_takes (s : State) (r : RequestRule) (mine : Request → Bool) (owner : State → Request → State) (q : Request)
    (h : s.takes r q = true) (hm : mine q = true) : s.serve r mine owner = (owner s.taken q).kick := by
  simp only [State.takes, Bool.and_eq_true, decide_eq_true_eq] at h
  obtain ⟨⟨⟨⟨⟨⟨hq, hk⟩, hp⟩, hw⟩, hh⟩, hs⟩, hslot⟩ := h
  have hr : s.linkRefusal r q.payload = none := by
    unfold State.linkRefusal
    cases h0 : r.slot with
    | none => cases h1 : s.lif.halted <;> cases h2 : r.takenHalted <;> cases h3 : s.lif.starting <;>
        cases h4 : r.waitsReady <;> simp_all
    | some k => cases h1 : s.lif.halted <;> cases h2 : r.takenHalted <;> cases h3 : s.lif.starting <;>
        cases h4 : r.waitsReady <;> simp_all
  unfold State.serve
  cases hb : s.lif.inbox with
  | nil => simp [hb] at hq
  | cons a rest =>
      have ha : a = q := by simpa [hb] using hq
      subst ha
      simp [hk, hm, hp, linkJudge_eq, hr]

/-- A request that LIF itself refuses is answered, and nothing but the link changes. -/
theorem serve_refused (s : State) (r : RequestRule) (mine : Request → Bool) (owner : State → Request → State) (q : Request)
    (st : Status) (h : s.lif.inbox.head? = some q) (hk : q.kind = r.kind) (hm : mine q = true)
    (hp : s.lif.placesUsed < 4) (hr : s.linkRefusal r q.payload = some st) :
    s.serve r mine owner = s.answered q st [] := by
  unfold State.serve
  cases hb : s.lif.inbox with
  | nil => simp [hb] at h
  | cons a rest =>
      have ha : a = q := by simpa [hb] using h
      subst ha
      simp [hk, hm, hp, linkJudge_eq, hr, State.answered, State.kick, State.answer, State.reply, State.taken,
        Lif.answering]

/-- An answer given to a taken request, and the transmitter's act after it. -/
theorem answer_taken_kick (s : State) (q : Request) (st : Status) (fields : List Byte) :
    (s.taken.answer q st fields).kick = s.answered q st fields := rfl

/-! ## Flags and interlock changes -/

/-- A flag made clear is clear. -/
theorem lower_has (fs : Flags) (f : Flag) : (fs.lower f).has f = false := by
  cases f <;> simp [Flags.lower, Flags.has, Flags.read, Flags.write, Flag.bank, Flag.bit, Flag.mask]

/-- A bank that has been written reads as written. -/
@[simp] theorem read_write (fs : Flags) (b : Bank) (v : Byte) : (fs.write b v).read b = v := by cases b <;> rfl

/-- Of two writes of a bank the second stands. -/
@[simp] theorem write_write (fs : Flags) (b : Bank) (v w : Byte) : (fs.write b v).write b w = fs.write b w := by
  cases b <;> rfl

/-- Writing what a bank holds changes nothing. -/
@[simp] theorem write_read (fs : Flags) (b : Bank) : fs.write b (fs.read b) = fs := by cases b <;> rfl

/-- A bit that is clear in a byte: set and cleared again, the byte is as it was. -/
theorem set_clear (b : Byte) (n : Nat) (h : b.getLsbD n = false) :
    (b ||| (1 : Byte) <<< n) &&& ~~~((1 : Byte) <<< n) = b := by
  ext i hi
  simp only [BitVec.getElem_and, BitVec.getElem_or, BitVec.getElem_not, BitVec.getElem_shiftLeft]
  by_cases he : i = n
  · subst he
    have : b[i] = false := by simpa [BitVec.getLsbD_eq_getElem hi] using h
    simp [this]
  · by_cases hin : i < n
    · simp [hin]
    · have : i - n ≠ 0 := by omega
      simp [hin, this]

/-- A clear flag that is set and made clear again leaves the banks as they were. -/
theorem lower_raise (fs : Flags) (f : Flag) (h : fs.has f = false) : (fs.raise f).lower f = fs := by
  have e := set_clear (fs.read f.bank) f.bit h
  unfold Flags.lower Flags.raise Flag.mask
  rw [read_write, write_write, e, write_read]

/-- An entry into CLOSING from FAULT or LOST has the next command start from 0. -/
theorem c0AtChange_barred (left : Interlock) (c0 : Nat) (h : left.barred = true) : c0AtChange left .closing c0 = 0 := by
  simp [c0AtChange, h]

/-- Any other change keeps the speed that the next command starts from. -/
theorem c0AtChange_other (left into : Interlock) (c0 : Nat) (h : into ≠ .closing ∨ left.barred = false) :
    c0AtChange left into c0 = c0 := by
  rcases h with h | h <;> simp [c0AtChange, h]

/-- An interlock change is offered to SUP: in an intrusion trip with every configured group down PERMIT goes low and the timer stops,
otherwise both stand. -/
theorem offerChange_permit (s : State) :
    (s.offerChange).sup.permit = (s.sup.permit && !s.dropCalled)
      ∧ (s.offerChange).sup.dropTimer = if s.dropCalled = true then none else s.sup.dropTimer := by
  have h : s.testStopping.dropCalled = s.dropCalled := by
    simp [State.dropCalled, State.isTripped, State.groupsDown, State.testStopping_sup, State.testStopping_groups]
  unfold State.offerChange State.judgeDrop
  rw [h]
  cases hc : s.dropCalled <;> simp [State.lowerPermit]

/-! ## Stroke timers (R96) -/

/-- An interlock change writes its one group. -/
theorem changeInterlock_groups (s : State) (g : Fin 24) (left into : Interlock) (cause : FaultCause) (code : Option Byte) :
    (s.changeInterlock g left into cause code).groups = s.groups.set g
      { s.groups.get g with
        interlock := some into, cause := cause, stroke := into.timer s.clock (s.groupRecord g).stroke
        c0 := c0AtChange left into (s.groups.get g).c0 } := by
  simp [State.changeInterlock, State.withGroup]

/-- The timer of an entry runs only where the entry is into OPENING or CLOSING. -/
theorem timer_isSome (i : Interlock) (now : Tick) (n : Nat) (h : (i.timer now n).isSome = true) :
    some i = some .opening ∨ some i = some Interlock.closing := by
  cases i <;> simp_all [Interlock.timer]

/-- An interlock change leaves every stroke timer in OPENING and CLOSING. -/
theorem changeInterlock_strokesFit (s : State) (g : Fin 24) (left into : Interlock) (cause : FaultCause)
    (code : Option Byte) (h : s.strokesFit) : (s.changeInterlock g left into cause code).strokesFit := by
  intro k
  rw [changeInterlock_groups, Sys2Proof.Table.get_set]
  split
  · exact timer_isSome into _ _
  · exact h k

/-- A poll keeps the timer of a state that stays, and starts that of one entered. -/
theorem polledGroup_stroke (s : State) (g : Fin 24) (i : Interlock) (k : Nat) (hi : (s.groups.get g).interlock = some i)
    (held : (s.groups.get g).stroke.isSome = true →
      (s.groups.get g).interlock = some .opening ∨ (s.groups.get g).interlock = some .closing) :
    (s.polledGroup g i k).stroke.isSome = true →
      (s.polledGroup g i k).interlock = some .opening ∨ (s.polledGroup g i k).interlock = some .closing := by
  have kept (j : Interlock) (now : Tick) (n : Nat) :
      (if j = i then (s.groups.get g).stroke else j.timer now n).isSome = true →
        some j = some .opening ∨ some j = some Interlock.closing := by
    split
    · rename_i stays; rw [stays, ← hi]; exact held
    · exact timer_isSome j now n
  exact kept _ _ _

/-- A poll's computation leaves every stroke timer in OPENING and CLOSING. -/
theorem computePoll_strokesFit (s : State) (g : Fin 24) (h : s.strokesFit) : (s.computePoll g).strokesFit := by
  cases hi : (s.groups.get g).interlock with
  | none => simpa only [State.computePoll, hi] using h
  | some i =>
    intro k
    have groups : ∃ n, (s.computePoll g).groups = s.groups.set g (s.polledGroup g i n) := by
      refine ⟨(s.postDemand g (demandSpeed i ((s.groupRecord g).speedAt (s.stage3 g)))).fda.k, ?_⟩
      unfold State.computePoll
      simp only [hi]
      split <;> split <;> simp [State.withGroup]
    obtain ⟨n, groups⟩ := groups
    rw [groups, Sys2Proof.Table.get_set]
    split
    · exact polledGroup_stroke s g i n hi (h g)
    · exact h k

/-- Where stroke timers run only in OPENING and CLOSING, a timer that has run out is that of a group in one of them, so that its
expiry moves the group. -/
theorem strokeDue_moves (s : State) (g : Fin 24) (h : s.strokesFit) (due : s.strokeDue g = true) :
    (s.groups.get g).interlock = some .opening ∨ (s.groups.get g).interlock = some .closing := by
  apply h g
  unfold State.strokeDue at due
  cases hs : (s.groups.get g).stroke with
  | none => simp [hs] at due
  | some timer => rfl

/-! ## The end of a step at the site -/

/-- The effective level state in plain words. -/
theorem levelNow_eq (s : State) : s.levelNow = s.sup.effective := rfl

/-- The end of a step leaves SUP's figures with the mode judged and the mark cleared. -/
theorem settleSite_sup (s : State) : (s.settleSite).sup = s.supSettled := by
  unfold State.settleSite; split <;> rfl

/-- The end of a step sets the condition flags that are present, and leaves the other flags of the SITE bank. -/
theorem settleSite_siteBank (s : State) : (s.settleSite).flags.site = s.flags.site ||| s.supSettled.presentMask := by
  unfold State.settleSite State.report Flags.raiseIf
  dsimp only
  (repeat' split) <;> rfl

/-- A flag of the SITE bank after the end of a step is set where it was, or where its condition is present. -/
theorem settleSite_has (s : State) (f : Flag) (h : f.bank = .site) :
    (s.settleSite).flags.has f = (s.flags.has f || s.supSettled.presentMask.getLsbD f.bit) := by
  simp [Flags.has, h, Flags.read, settleSite_siteBank]

/-- The three condition flags of the SITE bank that are present, by their conditions. -/
theorem presentMask_bits (u : Sup) :
    u.presentMask.getLsbD Flag.windForced.bit = u.forced
      ∧ u.presentMask.getLsbD Flag.levelLow.bit = decide (u.effective = .low)
      ∧ u.presentMask.getLsbD Flag.levelDry.bit = decide (u.effective = .dry) := by
  unfold Sup.presentMask
  cases u.forced <;> cases u.effective <;> decide

/-- The condition flags of the LIGHT bank that are present, by their conditions. -/
theorem lightPresentMask_eq (l : Lgt) (kL : Nat) : l.presentMask kL =
    ((if ∃ f : Fin 96, (l.fixtures.get f).capped = true then 0x01 else 0) ||| (if kL < 1000 then 0x02 else 0)) := by
  have h := Sys2Proof.Table.any_cells l.fixtures (·.capped)
  unfold Lgt.presentMask
  simp only [h]
  rfl

/-- The condition flags of the SITE bank that are present, by their conditions. -/
theorem sitePresentMask_eq (s : State) : s.sup.presentMask =
    ((if s.sup.gates < 3 ∨ (s.sup.channels.get 0).valid = false then 0x01 else 0)
      ||| (if s.levelNow = .low then 0x02 else 0) ||| (if s.levelNow = .dry then 0x04 else 0)) := by
  have h : s.sup.forced = true ↔ s.sup.gates < 3 ∨ (s.sup.channels.get 0).valid = false := by simp [Sup.forced]
  unfold Sup.presentMask
  simp only [h]
  rfl

/-- A channel makes the site RESTRICTED where one of four is INVALID. -/
theorem channelDown_iff (s : State) : s.channelDown = true ↔
    (s.sup.channels.get 0).valid = false ∨ (s.sup.channels.get 1).valid = false ∨ (s.sup.channels.get 26).valid = false
      ∨ ∃ g : Fin 24, (s.cfg.groups.get g).configured = true ∧ (s.sup.channels.get (driveChannel g)).valid = false := by
  simp [State.channelDown, State.groupRecord, or_assoc]

/-- At the end of a step the site is judged, whatever the step did. -/
theorem settleSite_siteJudged (s : State) : (s.settleSite).siteJudged := by
  have bits := presentMask_bits s.supSettled
  have hm : (s.settleSite).sup.mode = s.judgedMode := by rw [settleSite_sup]; rfl
  have hl : (s.settleSite).levelNow = s.sup.effective := by rw [levelNow_eq, settleSite_sup]; rfl
  have hch : (s.settleSite).sup.channels = s.sup.channels := by rw [settleSite_sup]; rfl
  have hb : (s.settleSite).sup.band = s.sup.band := by rw [settleSite_sup]; rfl
  have hg : (s.settleSite).sup.gates = s.sup.gates := by rw [settleSite_sup]; rfl
  have hcfg : (s.settleSite).cfg = s.cfg := State.settleSite_cfg s
  have hf : s.supSettled.forced = s.sup.forced := rfl
  have he : s.supSettled.effective = s.sup.effective := rfl
  refine ⟨?_, ?_, ?_, ?_⟩
  · have down := channelDown_iff s
    rw [hm, hl, hch, hb, hcfg]
    unfold State.judgedMode
    intro ht
    split at ht
    · exact absurd rfl ht
    · rename_i hn
      rw [if_neg hn]
      exact ⟨fun h => if_pos (h.imp_right (Or.imp_right down.mpr)),
        fun h => if_neg fun k => h (k.imp_right (Or.imp_right down.mp))⟩
  · rw [hg, hch, settleSite_has s .windForced rfl, bits.1, hf]
    rintro (h | h) <;> simp [Sup.forced, h]
  · rw [hl, settleSite_has s .levelLow rfl, bits.2.1, he]
    intro h; simp [h]
  · rw [hl, settleSite_has s .levelDry rfl, bits.2.2, he]
    intro h; simp [h]

/-! ## The outcome of a poll -/

/-- A bad outcome scores the channel of a configured group, at whatever address the group now is. -/
theorem deliverOutcome_bad (s : State) (e : Due) (o : PollOutcome) (rep : DriveReply) (h : o ≠ .good)
    (hc : (s.groupRecord e.group).configured = true) :
    s.deliverOutcome e o rep = s.evaluate (driveChannel e.group) o.score := by simp [State.deliverOutcome, h, hc]

/-- A good reply of a drive that is still its group's is delivered. -/
theorem deliverOutcome_good (s : State) (e : Due) (rep : DriveReply) (h : s.belongs e = true) :
    s.deliverOutcome e .good rep = s.deliverGood e.group rep := by simp [State.deliverOutcome, h]

/-- A good reply of a drive that is its group's no more is discarded. -/
theorem deliverOutcome_moved (s : State) (e : Due) (rep : DriveReply) (h : s.belongs e = false) :
    s.deliverOutcome e .good rep = s := by simp [State.deliverOutcome, h]

/-- An outcome of an unconfigured group's drive is discarded. -/
theorem deliverOutcome_unconfigured (s : State) (e : Due) (o : PollOutcome) (rep : DriveReply)
    (h : (s.groupRecord e.group).configured = false) : s.deliverOutcome e o rep = s := by
  simp [State.deliverOutcome, State.belongs, h]

/-! ## The arbiter and the transmitter -/

/-- AUD with a read outstanding seeks nothing. -/
theorem seek_busy (a : Aud) (h : a.chunk.isSome = true) : a.seek = a := by
  unfold Aud.seek
  cases hc : a.chunk with
  | none => simp [hc] at h
  | some c => rfl

/-- A FREE port with a refill waiting reads it. -/
theorem settleFlash_refill (s : State) (h : s.aud.chunk.isSome = true) (hp : s.flp.port = .free) :
    s.settleFlash = s.startTxn .audChunk := by
  simp [State.settleFlash, seek_busy _ h, State.arbitrate, hp, State.chooseTxn, h]


/-- With no read outstanding and no buffer asking, AUD seeks nothing. -/
theorem seek_quiet (a : Aud) (h : a.seeker = none) : a.seek = a := by
  unfold Aud.seek
  cases hc : a.chunk <;> simp [h]

/-- With nothing waiting a FREE port stays FREE. -/
theorem settleFlash_free (s : State) (h : s.flashQuiet = true) (hp : s.flp.port = .free) : s.settleFlash = s := by
  simp only [State.flashQuiet, Bool.and_eq_true, decide_eq_true_eq] at h
  obtain ⟨⟨⟨hc, hs⟩, hi⟩, hl⟩ := h
  simp [State.settleFlash, seek_quiet _ hs, State.arbitrate, hp, State.chooseTxn, hc, hi, hl]

/-- A busy transmitter takes nothing. -/
theorem kick_busy (l : Lif) (h : l.tx.isSome = true) : l.kick = l := by
  cases ht : l.tx with
  | none => simp [ht] at h
  | some x => simp [Lif.kick, ht]

/-- A free transmitter with nothing waiting stays free. -/
theorem kick_idle (l : Lif) (h : l.answers = []) (hr : l.reports = []) : l.kick = l := by
  cases ht : l.tx <;> simp [Lif.kick, ht, h, hr]

/-- A report of a category that is not enabled is not made. -/
theorem report_disabled (s : State) (r : Report) (h : s.lif.makes r = false) : s.report r = s := by
  simp [State.report, Lif.withReport, Lif.drops, h, Flags.raiseIf]

/-- A report of a category that is enabled finds its place in a queue that has room. -/
theorem report_queued (s : State) (r : Report) (h : s.lif.makes r = true) (room : s.lif.reports.length < 16) :
    (s.report r).lif.reports = s.lif.reports ++ [r] := by
  simp [State.report, Lif.withReport, h, Nat.not_le.mpr room]

/-- A report once queued stays queued, whatever report follows. -/
theorem report_keeps (s : State) (r x : Report) (h : x ∈ s.lif.reports) : x ∈ (s.report r).lif.reports := by
  simp only [State.report, Lif.withReport]
  split
  · split
    · exact h
    · simp [h]
  · exact h

/-- A queued report waits on or is being sent when the transmitter has acted. -/
theorem kick_keeps (l : Lif) (x : Report) (h : x ∈ l.reports) : x ∈ l.kick.reports ∨ l.kick.tx = some (.report x) := by
  unfold Lif.kick
  split
  · exact .inl h
  · split
    · exact .inl h
    · split
      · rename_i hr
        rw [hr] at h
        rcases List.mem_cons.mp h with rfl | h
        · exact .inr rfl
        · exact .inl h
      · exact .inl h

/-! ## Fields and stored records -/

/-- A number below 256 is read back from its byte. -/
theorem u8_byte1 (n : Nat) (l : List Byte) (h : n < 256) : u8 (byte1 n ++ l) 0 = n := by
  simp [u8, byte1]; omega

/-- A number below 65,536 is read back from its two bytes. -/
theorem u16_byte2 (n : Nat) (l : List Byte) (h : n < 65536) : u16 (byte2 n ++ l) 0 = n := by
  simp [u16, u8, byte2]; omega

/-- A number below 2^32 is read back from its four bytes. -/
theorem u32_byte4 (n : Nat) (l : List Byte) (h : n < 4294967296) : u32 (byte4 n ++ l) 0 = n := by
  simp [u32, u16, u8, byte4]; omega

/-- A field behind others is read where it begins. -/
theorem u8_append (l m : List Byte) (i : Nat) : u8 (l ++ m) (l.length + i) = u8 m i := by
  simp [u8, List.getD_eq_getElem?_getD, List.getElem?_append_right]

/-- A record that a load knows is read whole, and the reading goes on behind it. -/
theorem readRecords_record (fuel used table index count : Nat) (content rest : List Byte) (acc : List ImageRecord)
    (known : imageTable table = some (content.length, count)) (short : content.length < 65536)
    (suits : indexOk table index count content = true) (small : table < 256 ∧ index < 256) :
    readRecords (fuel + 1) (recordBytes table index content ++ rest) used acc =
      readRecords fuel rest (used + 4 + content.length) (⟨table, index, content⟩ :: acc) := by
  have ht : u8 (recordBytes table index content ++ rest) 0 = table := by
    simp [recordBytes, u8, byte1]; omega
  have hi : u8 (recordBytes table index content ++ rest) 1 = index := by
    simp [recordBytes, u8, byte1]; omega
  have hl : u16 (recordBytes table index content ++ rest) 2 = content.length := by
    simp [recordBytes, u16, u8, byte1, byte2]; omega
  have hd : (recordBytes table index content ++ rest).drop 4 = content ++ rest := by
    simp [recordBytes, byte1, byte2]
  have hlen : (recordBytes table index content ++ rest).length = 4 + content.length + rest.length := by
    simp [recordBytes, byte1, byte2]; omega
  have hd' : (recordBytes table index content ++ rest).drop (4 + content.length) = rest := by
    rw [← List.drop_drop, hd]; simp
  have h0 : table ≠ 0 := by rintro rfl; simp [imageTable] at known
  have htake : (content ++ rest).take content.length = content := by simp
  rw [readRecords]
  simp only [ht, hi, hl, hd, hd', hlen, known, h0, false_and, if_false, htake, suits, ne_eq, not_true_eq_false, if_true]
  rw [if_neg (by omega), if_neg (by omega)]

/-! ## Demand posts -/

/-- A post of the speed held changes nothing; any other is held, with the water scale recomputed from the demands as they then stand
(R118). -/
theorem State.postDemand_fda (s : State) (g : Fin 24) (speed : Nat) :
    (s.fda.demand.get g = speed → s.postDemand g speed = s)
      ∧ (s.fda.demand.get g ≠ speed →
        (s.postDemand g speed).fda.demand = s.fda.demand.set g speed
          ∧ (s.postDemand g speed).fda.allowance = s.fda.allowance
          ∧ (s.postDemand g speed).fda.k =
            waterScale (s.postDemand g speed).loads (s.postDemand g speed).fda.allowance) := by
  unfold State.postDemand
  refine ⟨fun h => if_pos h, fun h => ?_⟩
  rw [if_neg h]
  exact ⟨rfl, rfl, rfl⟩

end Sys2Proof.Machine
end

