-- ==== Sys2Proof/Laws/PerInstr.lean ====
section
/-! SUPPORT. One lemma for each command: it is well formed exactly when its times are within their bounds. -/

namespace Sys2Proof.Laws

/-- A command is well formed exactly when its quiet wait is within 5,000 µs and its reply time within 10,000 µs (R105, R107,
R110). -/
def Bounds.Statement (i : Instr) : Prop :=
  i.wellFormed = true ↔
    (∀ quietUs, i = .pollSent quietUs → quietUs ≤ 5000)
      ∧ ∀ bytes framing replyUs, i = .driveReply bytes framing replyUs → replyUs ≤ 10000

theorem Bounds.powerOn (inputs : Inputs) (straps : BitVec 2) : Bounds.Statement (.powerOn inputs straps) := by
  simp [Bounds.Statement, Instr.wellFormed]

theorem Bounds.pinReset (inputs : Inputs) (straps : BitVec 2) : Bounds.Statement (.pinReset inputs straps) := by
  simp [Bounds.Statement, Instr.wellFormed]

theorem Bounds.identificationDone (answer : Option DeviceIdent) : Bounds.Statement (.identificationDone answer) := by
  simp [Bounds.Statement, Instr.wellFormed]

theorem Bounds.estopActive : Bounds.Statement (.estopActive) := by
  simp [Bounds.Statement, Instr.wellFormed]

theorem Bounds.intrusionActive (loop : IntrusionLoop) : Bounds.Statement (.intrusionActive loop) := by
  simp [Bounds.Statement, Instr.wellFormed]

theorem Bounds.anemoPulse : Bounds.Statement (.anemoPulse) := by
  simp [Bounds.Statement, Instr.wellFormed]

theorem Bounds.windGate : Bounds.Statement (.windGate) := by
  simp [Bounds.Statement, Instr.wellFormed]

theorem Bounds.levelSample (reading : BitVec 12) : Bounds.Statement (.levelSample reading) := by
  simp [Bounds.Statement, Instr.wellFormed]

theorem Bounds.intrusionDropTimer : Bounds.Statement (.intrusionDropTimer) := by
  simp [Bounds.Statement, Instr.wellFormed]

theorem Bounds.driveCycle : Bounds.Statement (.driveCycle) := by
  simp [Bounds.Statement, Instr.wellFormed]

theorem Bounds.pollSent (quietUs : Nat) : Bounds.Statement (.pollSent quietUs) := by
  simp [Bounds.Statement, Instr.wellFormed]

theorem Bounds.lineJammed : Bounds.Statement (.lineJammed) := by
  simp [Bounds.Statement, Instr.wellFormed]

theorem Bounds.driveReply (bytes : ReplyBytes) (framingError : Bool) (replyUs : Nat) : Bounds.Statement (.driveReply bytes framingError replyUs) := by
  simp [Bounds.Statement, Instr.wellFormed]

theorem Bounds.replyWindowExpiry : Bounds.Statement (.replyWindowExpiry) := by
  simp [Bounds.Statement, Instr.wellFormed]

theorem Bounds.strokeTimeout (g : Fin 24) : Bounds.Statement (.strokeTimeout g) := by
  simp [Bounds.Statement, Instr.wellFormed]

theorem Bounds.lampFrame : Bounds.Statement (.lampFrame) := by
  simp [Bounds.Statement, Instr.wellFormed]

theorem Bounds.audioFrame : Bounds.Statement (.audioFrame) := by
  simp [Bounds.Statement, Instr.wellFormed]

theorem Bounds.showMillisecond : Bounds.Statement (.showMillisecond) := by
  simp [Bounds.Statement, Instr.wellFormed]

theorem Bounds.showClipStart : Bounds.Statement (.showClipStart) := by
  simp [Bounds.Statement, Instr.wellFormed]

theorem Bounds.clipStartWhenReady : Bounds.Statement (.clipStartWhenReady) := by
  simp [Bounds.Statement, Instr.wellFormed]

theorem Bounds.clipEnd : Bounds.Statement (.clipEnd) := by
  simp [Bounds.Statement, Instr.wellFormed]

theorem Bounds.announcementGapEnd : Bounds.Statement (.announcementGapEnd) := by
  simp [Bounds.Statement, Instr.wellFormed]

theorem Bounds.muteComplete : Bounds.Statement (.muteComplete) := by
  simp [Bounds.Statement, Instr.wellFormed]

theorem Bounds.stopFadeEnd : Bounds.Statement (.stopFadeEnd) := by
  simp [Bounds.Statement, Instr.wellFormed]

theorem Bounds.audioWindowEnd : Bounds.Statement (.audioWindowEnd) := by
  simp [Bounds.Statement, Instr.wellFormed]

theorem Bounds.chunkArrival (outcome : ReadOutcome) : Bounds.Statement (.chunkArrival outcome) := by
  simp [Bounds.Statement, Instr.wellFormed]

theorem Bounds.suspendGuardEnd : Bounds.Statement (.suspendGuardEnd) := by
  simp [Bounds.Statement, Instr.wellFormed]

theorem Bounds.flashTimeout : Bounds.Statement (.flashTimeout) := by
  simp [Bounds.Statement, Instr.wellFormed]

theorem Bounds.deviceResetComplete : Bounds.Statement (.deviceResetComplete) := by
  simp [Bounds.Statement, Instr.wellFormed]

theorem Bounds.loadReadDone : Bounds.Statement (.loadReadDone) := by
  simp [Bounds.Statement, Instr.wellFormed]

theorem Bounds.directoryReadDone : Bounds.Statement (.directoryReadDone) := by
  simp [Bounds.Statement, Instr.wellFormed]

theorem Bounds.settingsReadDone : Bounds.Statement (.settingsReadDone) := by
  simp [Bounds.Statement, Instr.wellFormed]

theorem Bounds.flashReadDone (outcome : ReadOutcome) : Bounds.Statement (.flashReadDone outcome) := by
  simp [Bounds.Statement, Instr.wellFormed]

theorem Bounds.programDone : Bounds.Statement (.programDone) := by
  simp [Bounds.Statement, Instr.wellFormed]

theorem Bounds.eraseDone : Bounds.Statement (.eraseDone) := by
  simp [Bounds.Statement, Instr.wellFormed]

theorem Bounds.linkFrameReceived (c : LinkChar) : Bounds.Statement (.linkFrameReceived c) := by
  simp [Bounds.Statement, Instr.wellFormed]

theorem Bounds.gapTimeout : Bounds.Statement (.gapTimeout) := by
  simp [Bounds.Statement, Instr.wellFormed]

theorem Bounds.frameSent : Bounds.Statement (.frameSent) := by
  simp [Bounds.Statement, Instr.wellFormed]

theorem Bounds.unknownRequest : Bounds.Statement (.unknownRequest) := by
  simp [Bounds.Statement, Instr.wellFormed]

theorem Bounds.getIdent : Bounds.Statement (.getIdent) := by
  simp [Bounds.Statement, Instr.wellFormed]

theorem Bounds.getStatus : Bounds.Statement (.getStatus) := by
  simp [Bounds.Statement, Instr.wellFormed]

theorem Bounds.getGroup : Bounds.Statement (.getGroup) := by
  simp [Bounds.Statement, Instr.wellFormed]

theorem Bounds.getFixture : Bounds.Statement (.getFixture) := by
  simp [Bounds.Statement, Instr.wellFormed]

theorem Bounds.getChannels : Bounds.Statement (.getChannels) := by
  simp [Bounds.Statement, Instr.wellFormed]

theorem Bounds.readFlags : Bounds.Statement (.readFlags) := by
  simp [Bounds.Statement, Instr.wellFormed]

theorem Bounds.getTripLog : Bounds.Statement (.getTripLog) := by
  simp [Bounds.Statement, Instr.wellFormed]

theorem Bounds.getService : Bounds.Statement (.getService) := by
  simp [Bounds.Statement, Instr.wellFormed]

theorem Bounds.getLoadResult : Bounds.Statement (.getLoadResult) := by
  simp [Bounds.Statement, Instr.wellFormed]

theorem Bounds.setGroup : Bounds.Statement (.setGroup) := by
  simp [Bounds.Statement, Instr.wellFormed]

theorem Bounds.setFixture : Bounds.Statement (.setFixture) := by
  simp [Bounds.Statement, Instr.wellFormed]

theorem Bounds.setZone : Bounds.Statement (.setZone) := by
  simp [Bounds.Statement, Instr.wellFormed]

theorem Bounds.setWind : Bounds.Statement (.setWind) := by
  simp [Bounds.Statement, Instr.wellFormed]

theorem Bounds.setLevel : Bounds.Statement (.setLevel) := by
  simp [Bounds.Statement, Instr.wellFormed]

theorem Bounds.setFeeder : Bounds.Statement (.setFeeder) := by
  simp [Bounds.Statement, Instr.wellFormed]

theorem Bounds.setCounter : Bounds.Statement (.setCounter) := by
  simp [Bounds.Statement, Instr.wellFormed]

theorem Bounds.setDriveBus : Bounds.Statement (.setDriveBus) := by
  simp [Bounds.Statement, Instr.wellFormed]

theorem Bounds.setShowOptions : Bounds.Statement (.setShowOptions) := by
  simp [Bounds.Statement, Instr.wellFormed]

theorem Bounds.setReports : Bounds.Statement (.setReports) := by
  simp [Bounds.Statement, Instr.wellFormed]

theorem Bounds.arm : Bounds.Statement (.arm) := by
  simp [Bounds.Statement, Instr.wellFormed]

theorem Bounds.disarm : Bounds.Statement (.disarm) := by
  simp [Bounds.Statement, Instr.wellFormed]

theorem Bounds.start : Bounds.Statement (.start) := by
  simp [Bounds.Statement, Instr.wellFormed]

theorem Bounds.hold : Bounds.Statement (.hold) := by
  simp [Bounds.Statement, Instr.wellFormed]

theorem Bounds.resume : Bounds.Statement (.resume) := by
  simp [Bounds.Statement, Instr.wellFormed]

theorem Bounds.stop : Bounds.Statement (.stop) := by
  simp [Bounds.Statement, Instr.wellFormed]

theorem Bounds.directJet : Bounds.Statement (.directJet) := by
  simp [Bounds.Statement, Instr.wellFormed]

theorem Bounds.directLight : Bounds.Statement (.directLight) := by
  simp [Bounds.Statement, Instr.wellFormed]

theorem Bounds.directClipPlay : Bounds.Statement (.directClipPlay) := by
  simp [Bounds.Statement, Instr.wellFormed]

theorem Bounds.directClipStop : Bounds.Statement (.directClipStop) := by
  simp [Bounds.Statement, Instr.wellFormed]

theorem Bounds.clearTrip (inputs : Inputs) : Bounds.Statement (.clearTrip inputs) := by
  simp [Bounds.Statement, Instr.wellFormed]

theorem Bounds.clearGroupFault : Bounds.Statement (.clearGroupFault) := by
  simp [Bounds.Statement, Instr.wellFormed]

theorem Bounds.flashRead : Bounds.Statement (.flashRead) := by
  simp [Bounds.Statement, Instr.wellFormed]

theorem Bounds.flashWrite : Bounds.Statement (.flashWrite) := by
  simp [Bounds.Statement, Instr.wellFormed]

theorem Bounds.flashErase : Bounds.Statement (.flashErase) := by
  simp [Bounds.Statement, Instr.wellFormed]

theorem Bounds.saveSettings : Bounds.Statement (.saveSettings) := by
  simp [Bounds.Statement, Instr.wellFormed]

theorem Bounds.reloadSettings : Bounds.Statement (.reloadSettings) := by
  simp [Bounds.Statement, Instr.wellFormed]

theorem Bounds.halt : Bounds.Statement (.halt) := by
  simp [Bounds.Statement, Instr.wellFormed]

theorem Bounds.release (inputs : Inputs) : Bounds.Statement (.release inputs) := by
  simp [Bounds.Statement, Instr.wellFormed]

theorem Bounds.linkByteReceived (c : LinkChar) : Bounds.Statement (.linkByteReceived c) := by
  simp [Bounds.Statement, Instr.wellFormed]

theorem Bounds.siteClockTick : Bounds.Statement (.siteClockTick) := by
  simp [Bounds.Statement, Instr.wellFormed]

end Sys2Proof.Laws
end

