-- ==== Sys2Proof/Tests/Slice0.lean ====
section
/-! SUPPORT. The model's own tests: ill-formed commands, one small check a command, and for each statement with hypotheses a state
and operands that meet them. -/

namespace Sys2Proof.Tests

set_option Elab.async false

/-! ## Well-formed commands -/

theorem test_pollSent_late_is_ill_formed : (Instr.pollSent 5001).wellFormed = false := by decide
theorem test_pollSent_in_time_is_well_formed : (Instr.pollSent 5000).wellFormed = true := by decide
theorem test_driveReply_late_is_ill_formed : (Instr.driveReply ⟨0, 0, 0, 0, 0, 0⟩ false 10001).wellFormed = false := by
  decide
theorem test_driveReply_in_time_is_well_formed : (Instr.driveReply ⟨0, 0, 0, 0, 0, 0⟩ false 10000).wellFormed = true := by
  decide

end Sys2Proof.Tests

namespace Sys2Proof.Machine

/-! ## Small states -/

/-- The state after a command. -/
def after (c : Instr) (s : State) : State :=
  match exec c s with
  | .next t => t
  | .fault _ => s
  | .refused _ => s

/-- The part after start-up, idle, with a free flash port and PERMIT high. -/
def ready : State :=
  { State.reset with
    lif := { Lif.reset with starting := false, settingsSlot := SlotRecord.empty }
    flp := { Flp.reset with port := .free, presence := .present }
    sup := { Sup.reset with startMark := true, permit := true } }

/-- A request of a kind with a payload. -/
def ask (kind : Byte) (payload : List Byte) : Request := ⟨7, kind, payload⟩

/-- The state with one request in the inbox. -/
def State.asking (s : State) (q : Request) : State := { s with lif := { s.lif with inbox := [q] } }

/-- The state in a show state. -/
def State.inShow (s : State) (x : ShowState) : State := { s with seq := { s.seq with st := x } }

/-- The state with the site TRIPPED by an intrusion. -/
def State.trippedNow (s : State) : State := { s with sup := { s.sup with mode := .tripped, causes := ⟨false, true, false⟩ } }

/-- The state with a measured level. -/
def State.atLevel (s : State) (l : LevelState) : State := { s with sup := { s.sup with measured := l } }

/-- The state with a port state. -/
def State.atPort (s : State) (p : Port) : State := { s with flp := { s.flp with port := p } }

/-- The default record of G0, configured. -/
def record0 : GroupRecord := { GroupRecord.default 0 with configured := true }

/-- The state with G0 configured and in an interlock state. -/
def State.group0 (s : State) (i : Interlock) : State :=
  { s with
    cfg := { s.cfg with groups := s.cfg.groups.set 0 record0 }
    groups := s.groups.set 0 { Group.reset with interlock := some i } }

/-- The state with fixture 0 assigned to slots 1 to 4. -/
def State.fixture0 (s : State) : State :=
  { s with cfg := { s.cfg with fixtures := s.cfg.fixtures.set 0 { FixtureRecord.default with base := 1, rated := 100 } } }

/-- The state with a last sent speed of G0, which its next command starts from. -/
def State.withSent0 (s : State) (speed : Nat) : State :=
  { s with groups := s.groups.modify 0 fun x => { x with sent := speed, c0 := speed } }

/-- The state with the DRIVE channel of G0. -/
def State.drive0 (s : State) (c : Channel) : State :=
  { s with sup := { s.sup with channels := s.sup.channels.set 2 c } }

/-- The state with a FLASH service of an extent. -/
def State.working (s : State) (w : FlashWork) : State := { s with flp := { s.flp with work := some w } }

/-- G0's drive at the head of the schedule. -/
def State.due0 (s : State) : State := { s with dbm := { s.dbm with schedule := [⟨1, 0⟩] } }

/-- G0's drive polled with sequence number 0. -/
def State.polled0 (s : State) : State := { s with dbm := { s.dbm with poll := some ⟨⟨1, 0⟩, 0, 100⟩ } }

/-- A clip of one chunk. -/
def clip1 : Clip := ⟨4096, 1024, 1000⟩

/-- The state with clip 1 in the clip table. -/
def State.withClip1 (s : State) : State := { s with aud := { s.aud with clips := s.aud.clips.set 0 (some clip1) } }

/-- The state with a flash device's bytes. -/
def State.holding (s : State) (m : Memory) : State := { s with flash := m }

/-- Bytes at an address, as flash contents. -/
def bytesAt : Nat → List Byte → Memory
  | _, [] => []
  | a, b :: bs => if b = 0xFF then bytesAt (a + 1) bs else (a, b) :: bytesAt (a + 1) bs

/-- A 16-byte MARK cue at a time below 256 ms. -/
def markCue (time : Byte) : List Byte := [time, 0, 0, 0, 4, 9, 0, 0, 0, 0, 0, 0, 0, 0, 0, 0]

/-- An END cue. -/
def endCue (time : Byte) : List Byte := [time, 0, 0, 0, 5, 0, 0, 0, 0, 0, 0, 0, 0, 0, 0, 0]

/-- The header of a show of one cue and 100 ms in slot 0 with the check of the cue. -/
def header1 : List Byte :=
  [1, 0, 1, 0, 100, 0, 0, 0] ++ List.replicate 16 65 ++ byte4 (crc32 (markCue 10)).toNat

end Sys2Proof.Machine

namespace Sys2Proof.Tests

set_option Elab.async false

open Sys2Proof.Machine

/-! ## Check values (11 section 11.2) -/

/-- The characters 1 to 9. -/
def digits : List Byte := [0x31, 0x32, 0x33, 0x34, 0x35, 0x36, 0x37, 0x38, 0x39]

theorem test_check_values : crc8 digits = 0xF4 ∧ crc16 digits = 0x29B1 ∧ crc32 digits = 0xCBF43926 := by decide +kernel

/-! ## The machine and what steps keep -/

theorem test_witness_StepRunsFrontCommand :
    (ready.withPending [.siteClockTick, .anemoPulse]).pending = [.siteClockTick, .anemoPulse]
      ∧ step (ready.withPending [.siteClockTick, .anemoPulse])
        = exec .siteClockTick (ready.withPending [.anemoPulse]) := ⟨rfl, rfl⟩

theorem test_witness_StepKeepsFlashCanonical :
    Memory.wf (ready.holding [(5, 1), (9, 2)]).flash = true
      ∧ ∃ t, step ((ready.holding [(5, 1), (9, 2)]).withPending [.siteClockTick]) = .next t := ⟨by decide, _, rfl⟩

theorem test_witness_StepKeepsChannelsAndSettingsLawful :
    ready.channelsLawful ∧ ready.cfg.fit ∧ ∃ t, step (ready.withPending [.windGate]) = .next t :=
  ⟨by unfold State.channelsLawful; decide +kernel, by unfold Settings.fit Settings.sound; decide +kernel, _, rfl⟩

theorem test_witness_StepKeepsPermitSafe :
    ready.permitSafe ∧ ready.sup.permit = true ∧ ∃ t, step (ready.withPending [.estopActive]) = .next t :=
  ⟨by unfold State.permitSafe; decide +kernel, rfl, _, rfl⟩

theorem test_witness_StepKeepsPermitSafe_site :
    State.reset.siteJudged ∧ ∃ t, step (State.reset.withPending [.windGate]) = .next t :=
  ⟨by unfold State.siteJudged; decide +kernel, _, rfl⟩

theorem test_witness_StepKeepsQueuesFit :
    (ready.asking (ask 0x01 [])).queuesFit ∧ ∃ t, step ((ready.asking (ask 0x01 [])).withPending [.getIdent]) = .next t :=
  ⟨by unfold State.queuesFit; decide +kernel, _, rfl⟩

theorem test_witness_StepKeepsInterlocksFit :
    (ready.group0 .running).interlocksFit
      ∧ ∃ t, step ((ready.group0 .running).withPending [.siteClockTick]) = .next t :=
  ⟨by unfold State.interlocksFit; decide +kernel, _, rfl⟩

theorem test_witness_StepKeepsInterlocksFit_waters :
    (((ready.group0 .running).trippedNow).withSent0 700).watersClosing
      ∧ (((ready.group0 .running).trippedNow).withSent0 700).rampsFit
      ∧ ∃ t, step ((((ready.group0 .running).trippedNow).withSent0 700).withPending [.siteClockTick]) = .next t :=
  ⟨by unfold State.watersClosing; decide +kernel, by unfold State.rampsFit; decide +kernel, _, rfl⟩

/-- A page program in progress at address 0x110100. -/
def programming : State :=
  { (ready.atPort (.programming .hostProgram)).holding [(0x110100, 0xF0)] with
    flp := { (ready.atPort (.programming .hostProgram)).flp with work := some ⟨0x110100, 2, some [0x3C, 0x0F]⟩ } }

theorem test_witness_FlashChangesOnlyWhereWorked :
    (∃ t, exec .programDone programming = .next t) ∧ inExtent programming.workExtent 0x1100FF = false
      ∧ inExtent programming.workExtent 0x110102 = false ∧ inExtent programming.workExtent 0x110101 = true
      ∧ inExtent (after .programDone programming).workExtent 0x110101 = false :=
  ⟨⟨_, rfl⟩, by decide +kernel, by decide +kernel, by decide +kernel, by decide +kernel⟩

/-- The same program beside a locked show slot. -/
def besideLock : State := { programming with flp := { programming.flp with locks := [⟨.showSlot, 0x10000, 0x30000⟩] } }

theorem test_witness_FlashChangesOnlyWhereWorked_locks :
    besideLock.locksClear ∧ besideLock.savesFit ∧ (⟨.showSlot, 0x10000, 0x30000⟩ : Lock) ∈ besideLock.flp.locks
      ∧ inExtent besideLock.workExtent 0x10000 = false ∧ inExtent besideLock.workExtent 0x2FFFF = false
      ∧ ∃ t, step (besideLock.withPending [.programDone]) = .next t :=
  ⟨And.intro (by decide +kernel) (And.intro (fun _ h => by injection h)
      (fun _ _ hw hd => by injection hw with hw; subst hw; injection hd with hd; subst hd; rfl)),
    And.intro (fun _ _ h => by injection h) ⟨rfl, rfl⟩,
    by decide, by decide +kernel, by decide +kernel, _, rfl⟩

/-! ## Loading -/

/-- A directory entry of clip id 3 with a start offset, and its trailing bytes. -/
def entry3 (start : Nat) : List Byte := [3, 0] ++ byte4 start ++ byte4 1000 ++ byte2 800 ++ List.replicate 52 0

theorem test_witness_DirectoryGivesLowestValidEntry :
    entryOf (entry3 4096) 0 = some (3, ⟨4096, 1000, 800⟩) ∧ entryOf (entry3 6000) 0 = none
      ∧ (settleDirectory (entry3 6000 ++ entry3 8192 ++ entry3 4096)).get 2 = some ⟨8192, 1000, 800⟩ := by
  decide +kernel

theorem test_witness_LoadedCuesAreInOrder :
    checkCues Settings.default (Table.fill 64 none) 100 [markCue 10, markCue 10, endCue 100] 0 0 false [] 0
      = .good [⟨10, .mark 9⟩, ⟨10, .mark 9⟩, ⟨100, .ended⟩] 0
    ∧ checkCues Settings.default (Table.fill 64 none) 100 [endCue 10, markCue 10] 0 0 false [] 0 = .bad .badOrder 1 := by
  decide +kernel

/-- What checking a list of cues up to 100 ms comes to, with G0 configured, fixture 0 assigned and clip 1 in the table. -/
def checked (records : List (List Byte)) : Checked :=
  checkCues ((ready.group0 .shut).fixture0).cfg (ready.withClip1).aud.clips 100 records 0 0 false [] 0

/-- A cue at 10 ms of a kind with its fields. -/
def cueOf (kind : Byte) (fields : List Byte) : List Byte :=
  [10, 0, 0, 0, kind] ++ fields ++ List.replicate (11 - fields.length) 0

theorem test_witness_LoadedCuesAreInOrder_bad :
    checked [markCue 101] = .bad .badOrder 0 ∧ checked [markCue 100, markCue 99] = .bad .badOrder 1
    ∧ checked [endCue 10, cueOf 6 []] = .bad .badOrder 1
    ∧ checked [cueOf 0 []] = .bad .badKind 0 ∧ checked [cueOf 6 []] = .bad .badKind 0
    ∧ checked [cueOf 1 [0, 0, 0]] = .bad .badGroup 0 ∧ checked [cueOf 1 [3, 0, 0]] = .bad .badGroup 0
    ∧ checked [cueOf 2 [1, 0]] = .bad .badFixture 0 ∧ checked [cueOf 2 [0, 96]] = .bad .badFixture 0
    ∧ checked [cueOf 2 [0, 1]] = .bad .badFixture 0
    ∧ checked [cueOf 3 [0]] = .bad .noClip 0 ∧ checked [cueOf 3 [65]] = .bad .noClip 0
    ∧ checked [cueOf 3 [1, 1, 0, 4]] = .bad .noClip 0
    ∧ checked [cueOf 1 [1, 0, 0], cueOf 2 [0, 0], cueOf 3 [1, 1, 255, 3], cueOf 4 [], cueOf 3 [2]] = .bad .noClip 4 := by
  decide +kernel

/-- G0 with the lead table of 02 section 2.4.1. -/
def record5 : GroupRecord := { record0 with leads := [⟨100, 1200⟩, ⟨300, 1800⟩, ⟨600, 2600⟩] }

/-- Settings with that record for G0, and fixture 0 assigned. -/
def cueSettings : Settings :=
  { (ready.fixture0).cfg with groups := Settings.default.groups.set 0 record5 }

/-- A JET cue of G0 and a LIGHT cue of fixture 0. -/
def jetCue (time height fade : Nat) : List Byte := byte4 time ++ [1, 1, 0, 0] ++ byte2 height ++ byte2 fade ++ [0, 0, 0, 0]
def lightCue (time fade : Nat) : List Byte := byte4 time ++ [2, 0, 0, 1, 2, 3, 4] ++ byte2 fade ++ [0, 0, 0]

/-- The two jet entries of 02 section 2.4.1, the second above its clamp, and a light between them. -/
def exampleCues : List Cue :=
  [⟨10000, .jet 1 100 0⟩, ⟨10000, .light 0 0 ⟨1, 2, 3, 4⟩ 30000⟩, ⟨10300, .jet 1 800 30000⟩, ⟨10300, .clip 1 5⟩]

/-- R24's falling segment and its ends: 3,000 up to 200 dm, 2,833 at 250 dm, 2,000 from 500 dm on. -/
theorem test_witness_LoadedCuesAreInOrder_leads :
    let leads : List Point := [⟨200, 3000⟩, ⟨500, 2000⟩]
    leads.Pairwise (fun p q => p.h < q.h) ∧ leadsOk leads = true ∧ leadsOk record5.leads = true
      ∧ interp leads 1 = 3000 ∧ interp leads 200 = 3000 ∧ interp leads 201 = 2996 ∧ interp leads 250 = 2833
      ∧ interp leads 499 = 2003 ∧ interp leads 500 = 2000 ∧ interp leads 800 = 2000
      ∧ GroupRecord.leadOf { record5 with leads := leads, offLead := 700 } 0 = 700
      ∧ GroupRecord.leadOf { record5 with leads := leads, offLead := 700 } 250 = 2833 := by decide +kernel

theorem test_witness_LoadedCuesAreInOrder_jets :
    checkCues cueSettings (ready.withClip1).aud.clips 20000
        [jetCue 10000 100 0, lightCue 10000 30001, jetCue 10300 801 30001,
          byte4 10300 ++ [3, 1, 1] ++ byte4 5 ++ [0, 0, 0, 0, 0]] 0 0 false [] 0 = .good exampleCues 3
    ∧ jetLane record5 0 exampleCues = [⟨0, 10000, 100, 0, 8800⟩, ⟨2, 10300, 800, 30000, 8800⟩]
    ∧ (buildLanes cueSettings exampleCues).lights.entries = [⟨1, 10000, 0, 0, ⟨1, 2, 3, 4⟩, 30000⟩]
    ∧ (buildLanes cueSettings exampleCues).clips.entries = [⟨3, 10300, 1, 5⟩]
    ∧ loadCounts cueSettings exampleCues (buildLanes cueSettings exampleCues) 3 = ⟨4, 4, 3, 1, 1, 0⟩
    ∧ prerollOf cueSettings (buildLanes cueSettings [⟨0, .jet 1 600 0⟩]) = 2600
    ∧ prerollOf cueSettings (buildLanes cueSettings [⟨0, .clip 1 0⟩]) = 200
    ∧ laneFullAt (List.replicate 342 ⟨0, .jet 0xFFFFFF 1 0⟩) 0 0 = some 341
    ∧ laneFullAt exampleCues 0 0 = none := by decide +kernel

theorem test_witness_ArmIsJudgedAndBeginsLoading :
    (ready.asking (ask 0x20 [8])).takes .arm (ask 0x20 [8]) = true
    ∧ (after .arm (ready.asking (ask 0x20 [8]))) = (ready.asking (ask 0x20 [8])).answered (ask 0x20 [8]) .outOfRange []
    ∧ (let s := ready.asking (ask 0x20 [7]);
      s.takes .arm (ask 0x20 [7]) = true ∧ s.seq.st = .idle ∧ s.sup.mode ≠ .tripped ∧ s.sup.effective ≠ .dry
        ∧ s.flp.presence ≠ .missing ∧ s.seq.staleRead = false ∧ s.flp.port = .free ∧ s.flashQuiet = true
        ∧ s.flp.serviceMeets (slotExtent 7) = false
        ∧ (after .arm s).flp.port = .reading (.loadRead 0xF0000 28)
        ∧ (after .arm s).flp.locks = [⟨.showSlot, 0xF0000, 0x110000⟩]
        ∧ (after .arm s).lif.armSlot = ⟨.running, 0x20, 7, .none, none, none⟩) := by decide +kernel

theorem test_witness_ArmIsJudgedAndBeginsLoading_busy :
    (let s := ((ready.asking (ask 0x20 [0])).atPort (.programming .hostProgram)).working ⟨0x2FFFF, 1, some [0]⟩;
      s.takes .arm (ask 0x20 [0]) = true ∧ s.flp.serviceMeets (slotExtent 0) = true
        ∧ (after .arm s).seq.result.failure = .conflict ∧ (after .arm s).flp.work = s.flp.work)
    ∧ (let s := ((ready.asking (ask 0x20 [0])).atPort (.programming .hostProgram)).working ⟨0x30000, 1, some [0]⟩;
      s.takes .arm (ask 0x20 [0]) = true ∧ s.flp.serviceMeets (slotExtent 0) = false
        ∧ (after .arm s).flp.port = .programming .hostProgram
        ∧ (after .arm s).flp.internalQ = [.loadRead 0x10000 28] ∧ (after .arm s).seq.load = some .header)
    ∧ (let s := (ready.asking (ask 0x20 [0])).atPort (.reading (.loadRead 0x30000 28));
      let s : State := { s with seq := { s.seq with staleRead := true } };
      s.takes .arm (ask 0x20 [0]) = true ∧ (after .arm s).seq.load = some .headerDeferred
        ∧ (after .arm s).flp.internalQ = []
        ∧ (after .loadReadDone (after .arm s)).flp.port = .reading (.loadRead 0x10000 28)
        ∧ (after .loadReadDone s).flp.port = .free ∧ (after .loadReadDone s).seq.staleRead = false) := by
  decide +kernel

/-- A load whose header read is at the port. -/
def loading : State :=
  { ready.holding (bytesAt 0x10000 header1) with
    seq := { Seq.reset with st := .loading, slot := 0, load := some .header }
    flp := { (ready.atPort (.reading (.loadRead 0x10000 28))).flp with locks := [⟨.showSlot, 0x10000, 0x30000⟩] }
    lif := { ready.lif with armSlot := ⟨.running, 0x20, 7, .none, none, none⟩ } }

/-- The same load at its cue read. -/
def loadingCues (cue : List Byte) : State :=
  { loading with
    flash := bytesAt 0x1001C cue
    seq := { loading.seq with load := some (.cues (headerOf header1) []) }
    flp := { loading.flp with port := .reading (.loadRead 0x1001C 16) } }

theorem test_witness_LoadReadGoesOnOrFails :
    (loading.flp.port = .reading (.loadRead 0x10000 28) ∧ loading.seq.staleRead = false ∧ loading.flashQuiet = true
      ∧ loading.seq.load = some .header
      ∧ (headerOf (Memory.readBytes loading.flash 0x10000 28)).ok loading.seq.slot = true
      ∧ (after .loadReadDone loading).flp.port = .reading (.loadRead 0x1001C 16))
    ∧ (headerOf (Memory.readBytes (loading.holding []).flash 0x10000 28)).ok 0 = false
    ∧ (after .loadReadDone (loading.holding [])).seq.result.failure = .badCheck := by decide +kernel

theorem test_witness_LoadReadGoesOnOrFails_cues :
    ((loadingCues (markCue 10)).flashQuiet = true ∧ (loadingCues (markCue 10)).aud.copying = none
      ∧ 16 * (headerOf header1).cueCount ≤ (Memory.readBytes (loadingCues (markCue 10)).flash 0x1001C 16).length
      ∧ (crc32 (Memory.readBytes (loadingCues (markCue 10)).flash 0x1001C 16)).toNat = (headerOf header1).check
      ∧ (after .loadReadDone (loadingCues (markCue 10))).flp.port = .reading .directory)
    ∧ (crc32 (Memory.readBytes (loadingCues (markCue 11)).flash 0x1001C 16)).toNat ≠ (headerOf header1).check
    ∧ (after .loadReadDone (loadingCues (markCue 11))).seq.result.failure = .badCheck := by decide +kernel

theorem test_witness_LoadReadGoesOnOrFails_more :
    (let s : State := { loadingCues (markCue 10) with
        seq := { loading.seq with load := some (.cues { headerOf header1 with cueCount := 300 } []) } };
      s.flashQuiet = true ∧ (Memory.readBytes s.flash 0x1001C 16).length < 16 * 300
        ∧ (after .loadReadDone s).flp.port = .reading (.loadRead 0x1002C 4096)) := by decide +kernel

/-- The same load at its directory copy. -/
def loadingDirectory (cue : List Byte) : State :=
  { loading with
    seq := { loading.seq with load := some (.directory (headerOf header1) cue) }
    aud := { loading.aud with copying := some .armLoad }
    flp := { loading.flp with port := .reading .directory } }

theorem test_witness_DirectoryReadEndsLoad :
    (let s := loadingDirectory (markCue 10);
      s.flp.port = .reading .directory ∧ s.aud.copying = some .armLoad ∧ s.aud.copyQueue = []
        ∧ s.flashQuiet = true ∧ (after .directoryReadDone s).seq.st = .armed
        ∧ (after .directoryReadDone s).lif.armSlot.status = .done)
    ∧ (after .directoryReadDone (loadingDirectory (markCue 101))).seq.result.failure = .badOrder
    ∧ (after .directoryReadDone (loadingDirectory (markCue 101))).seq.result.cueIndex = some 0 := by decide +kernel

/-- A load of one CLIP cue at its directory copy, its clip in the directory, an erase of a sector QUEUED. -/
def loadingClip (sector : Nat) : State :=
  let s := (loadingDirectory (byte4 10 ++ [3, 1, 1] ++ byte4 5 ++ [0, 0, 0, 0, 0])).working ⟨sector, 4096, none⟩;
  { s with
    flash := bytesAt 0x110000 ([1, 0] ++ byte4 4096 ++ byte4 1000 ++ byte2 800 ++ List.replicate 52 0)
    flp := { s.flp with lifQ := [.hostErase] } }

theorem test_witness_DirectoryReadEndsLoad_queued :
    (after .directoryReadDone (loadingClip 0x111000)).seq.result.failure = .conflict
    ∧ (after .directoryReadDone (loadingClip 0x112000)).seq.st = .armed := by decide +kernel

/-- A directory copy of a user at the port, with clip 1 in the directory and set as the announcement, others waiting behind it. -/
def copying (why : CopyFor) (waiting : List CopyFor) : State :=
  let s := ready.atPort (.reading .directory);
  { s with
    flash := bytesAt 0x110000 ([1, 0] ++ byte4 4096 ++ byte4 1024 ++ byte2 1000 ++ List.replicate 52 0)
    aud := { s.aud with copying := some why, copyQueue := waiting }
    cfg := { s.cfg with options := { s.cfg.options with annClip := 1 } } }

theorem test_witness_DirectoryReadEndsLoad_interrupted :
    (let s := copying .staleLoad [];
      let t := after .directoryReadDone s;
      s.flashQuiet = true ∧ lookupClip t.aud.clips 1 = some clip1 ∧ t.flp.port = .free ∧ t.aud.copying = none
        ∧ t.flp.locks = [⟨.announcement, 0x111000, 0x112000⟩])
    ∧ (let s := (copying .staleLoad [.armLoad]).working ⟨0x111000, 4096, none⟩;
      let t := after .directoryReadDone s;
      t.flp.port = .reading .directory ∧ t.aud.copying = some .armLoad ∧ t.flp.locks = []
        ∧ t.flp.annWaiting = some (0x111000, 0x112000)) := by decide +kernel

/-! ## Running -/

theorem test_witness_DisarmHoldResumeChangeTheShow :
    (let s := (ready.inShow .armed).asking (ask 0x21 []);
      s.takes .disarm (ask 0x21 []) = true ∧ (after .disarm s).seq.st = .idle)
    ∧ (ready.asking (ask 0x21 [])).seq.st ≠ .armed
    ∧ (let s := (ready.inShow .running).asking (ask 0x23 []);
      s.takes .hold (ask 0x23 []) = true ∧ (after .hold s).seq.st = .held)
    ∧ (let s := (ready.inShow .held).asking (ask 0x24 []);
      s.takes .resume (ask 0x24 []) = true ∧ (after .resume s).seq.st = .running) := by decide +kernel

/-- An armed show of one second with a preroll of 200 ms. -/
def armed : State := { ready with seq := { Seq.reset with st := .armed, duration := 1000, preroll := 200 } }

theorem test_witness_StartRunsTheShow :
    (let s := (armed.atLevel .normal).asking (ask 0x22 []);
      s.takes .start (ask 0x22 []) = true ∧ s.seq.st = .armed ∧ s.sup.effective ≠ .dry
        ∧ s.seq.lanes.endsAt (-(s.seq.preroll : Int)) = false ∧ -(s.seq.preroll : Int) < s.seq.duration
        ∧ (s.seq.lanes.jets.get 0).due (·.dispatch) (-(s.seq.preroll : Int)) = []
        ∧ (after .start s).seq.st = .running ∧ (after .start s).showTime = some (-200))
    ∧ ((armed.atLevel .dry).asking (ask 0x22 [])).sup.effective = .dry := by decide +kernel

theorem test_witness_StartRunsTheShow_ends :
    (let s := (armed.atLevel .normal).asking (ask 0x22 []);
      let ending : State := { s with seq := { s.seq with
        preroll := 0, lanes := { Lanes.empty with marks := ⟨[⟨0, 0, none⟩], 0⟩ } } };
      let past : State := { s with seq := { s.seq with preroll := 0, duration := 0 } };
      let atOnce : State := { past with cfg := { past.cfg with options := { past.cfg.options with stopFade := 0 } } };
      s.lif.enable.getLsbD Category.showCat.bit = true ∧ s.lif.reports.length < 16
        ∧ (after .start s).lif.reports = [.showState .running (some 0) (some (-200)) none]
        ∧ ending.takes .start (ask 0x22 []) = true ∧ ending.seq.lanes.endsAt (-(ending.seq.preroll : Int)) = true
        ∧ (after .start ending).seq.stopping = some ⟨.ended, 0, 3000⟩
        ∧ past.seq.lanes.endsAt 0 = false ∧ (past.seq.duration : Int) ≤ -(past.seq.preroll : Int)
        ∧ (after .start past).seq.stopping = some ⟨.duration, 0, 3000⟩ ∧ atOnce.groupsDown = true
        ∧ (after .start atOnce).seq.st = .idle) := by decide +kernel

/-- A running show at show time 0 with a millisecond due, and two entries due for G0. -/
def running : State :=
  { (ready.group0 .running) with
    seq := { Seq.reset with
      st := .running, duration := 1000,
      lanes := { Lanes.empty with jets := Lanes.empty.jets.set 0 ⟨[⟨0, 0, 100, 50, -5⟩, ⟨1, 0, 300, 0, 0⟩], 0⟩ } }
    aud := { Aud.reset with counting := true, msDue := true } }

theorem test_witness_MillisecondDispatchesDueEntries :
    running.seq.st = .running ∧ running.aud.msDue = true ∧ running.showTime = some 0
      ∧ running.seq.lanes.endsAt 0 = false ∧ (0 : Int) < running.seq.duration
      ∧ ((after .showMillisecond running).groups.get 0).fade = ⟨0, 300, .onShow 0, 0⟩
      ∧ ((after .showMillisecond running).seq.lanes.jets.get 0).cursor = 2 := by decide +kernel

/-- The same show with two colours for fixture 0, two clips and a marker due. -/
def runningAll : State :=
  { running with
    seq := { running.seq with lanes := { running.seq.lanes with
      lights := ⟨[⟨0, 0, 0, 0, ⟨1, 1, 1, 1⟩, 5⟩, ⟨1, 0, 0, 0, ⟨2, 2, 2, 2⟩, 6⟩, ⟨2, 1, 0, 0, ⟨3, 3, 3, 3⟩, 7⟩], 0⟩
      clips := ⟨[⟨3, 100, 1, 0⟩, ⟨4, 200, 1, 9⟩, ⟨5, 201, 1, 0⟩], 0⟩
      marks := ⟨[⟨6, 0, some 77⟩, ⟨7, 1, some 78⟩], 0⟩ } }
    lgt := latchedBy .fromShow
    aud := { running.withClip1.aud with msDue := true } }
where
  /-- LGT with a colour of an origin waiting at fixture 0. -/
  latchedBy (o : LatchOrigin) : Lgt :=
    { Lgt.reset with fixtures := Lgt.reset.fixtures.modify 0 fun x => x.withLatch (some ⟨⟨9, 9, 9, 9⟩, 0, .showClock, o⟩) }

theorem test_witness_MillisecondDispatchesDueEntries_lanes :
    runningAll.seq.lanes.endsAt 0 = false ∧ runningAll.showTime = some 0 ∧ runningAll.lif.reports.length + 1 ≤ 16
      ∧ runningAll.lif.enable.getLsbD Category.mark.bit = true
      ∧ ((after .showMillisecond runningAll).lgt.fixtures.get 0).latch = some ⟨⟨2, 2, 2, 2⟩, 6, .showClock, .fromShow⟩
      ∧ (after .showMillisecond runningAll).lgt.overtakes = 2
      ∧ ((after .showMillisecond runningAll).aud.bufA.map fun x => (x.start, x.first, x.playing)) = some (9600, 9, false)
      ∧ (after .showMillisecond runningAll).flags.showBank = 0x18
      ∧ (after .showMillisecond runningAll).lif.tx = some (.report (.mark 77 6 0))
      ∧ (after .showMillisecond runningAll).lif.reports = [] := by decide +kernel

theorem test_witness_StoppingIsEnteredAndEnds :
    (let s := running.asking (ask 0x25 []);
      0 < s.cfg.options.stopFade ∧ s.takes .stop (ask 0x25 []) = true ∧ s.seq.st = .running
        ∧ (after .stop s).seq.st = .stopping)
    ∧ (let s : State := { running with seq := { running.seq with lanes := { Lanes.empty with marks := ⟨[⟨0, 0, none⟩], 0⟩ } } };
      s.seq.lanes.endsAt 0 = true ∧ (after .showMillisecond s).seq.stopping = some ⟨.ended, 0, 3000⟩)
    ∧ (let s : State := { running with seq := { running.seq with duration := 0 } };
      (s.seq.duration : Int) ≤ 0 ∧ (after .showMillisecond s).seq.stopping = some ⟨.duration, 0, 3000⟩)
    ∧ (let s : State := { (ready.inShow .stopping) with
          seq := { (ready.inShow .stopping).seq with stopping := some ⟨.stop, -3000, 3000⟩ }
          aud := { Aud.reset with counting := true, msDue := true } };
      s.showTime = some 0 ∧ (-3000 : Int) + 3000 ≤ 0 ∧ s.groupsDown = true
        ∧ (after .showMillisecond s).seq.st = .idle) := by decide +kernel

theorem test_witness_StoppingIsEnteredAndEnds_other :
    (let s := loading.asking (ask 0x25 []);
      s.takes .stop (ask 0x25 []) = true ∧ s.seq.load = some .header
        ∧ (after .stop s).seq.result.failure = .aborted ∧ (after .stop s).seq.staleRead = true)
    ∧ (let s := (loadingDirectory (markCue 10)).asking (ask 0x25 []);
      s.takes .stop (ask 0x25 []) = true ∧ (after .stop s).aud.copying = some .staleLoad
        ∧ (after .stop s).seq.staleRead = false)
    ∧ (let s := (ready.inShow .stopping).asking (ask 0x25 []);
      after .stop s = s.answered (ask 0x25 []) .wrongState [])
    ∧ (let s := { running.asking (ask 0x25 []) with groups := ready.groups };
      let s : State := { s with cfg := { s.cfg with options := { s.cfg.options with stopFade := 0 } } };
      s.groupsDown = true ∧ s.takes .stop (ask 0x25 []) = true ∧ (after .stop s).seq.st = .idle
        ∧ (after .stop s).aud.stopFade = none) := by decide +kernel

/-! ## Music -/

/-- Buffer A with clip 1 of an origin. -/
def stream (origin : Origin) (playing : Bool) (held : List HeldFrame) : Stream :=
  ⟨playing, origin, 1, clip1, 0, 0, 0, held.length, held⟩

/-- The state with buffer A. -/
def withBufA (s : State) (st : Stream) : State := { s with aud := { s.aud with bufA := some st } }

theorem test_witness_AudioFrameMixesAndScoresItsWindow :
    (let s := withBufA ready (stream .direct true [.good 1000 500]);
      s.aud.counting = false ∧ s.aud.playing = some .a ∧ s.aud.rundown = none
        ∧ (after .audioFrame s).aud.out.get 0 = 750 ∧ (after .audioFrame s).aud.winUnderruns = 0)
    ∧ (let s := withBufA ready (stream .direct true [.failed]);
      (after .audioFrame s).aud.out.get 0 = 0 ∧ (after .audioFrame s).aud.winUnderruns = 1)
    ∧ (let s : State := { ready with aud := { Aud.reset with counting := true, count := 47 } };
      s.aud.count < 4294967295 ∧ (after .audioFrame s).aud.msDue = true)
    ∧ (let s : State := { ready with aud := { Aud.reset with lines := Table.fill 4 [3] } };
      (after .audioFrame s).aud.out.get 1 = 3 ∧ (after .audioFrame s).aud.lines.get 1 = [0]) := by decide +kernel

theorem test_witness_AudioFrameMixesAndScoresItsWindow_ramps :
    (let s := withBufA ready (stream .direct true [.good 1000 500, .good 2000 1000]);
      let s : State := { s with aud := { s.aud with rundown := some 1, target := 0, m := 481 } };
      (after .audioFrame s).aud.rundown = some 2 ∧ (after .audioFrame s).aud.m = 480
        ∧ (after .audioFrame s).aud.out.get 0 = 750 ∧ (after .audioFrame s).aud.winNote = false
        ∧ (after .audioFrame { s with aud := { s.aud with m := 1 } }).aud.rundown = some 1)
    ∧ (let s := withBufA ready (stream .direct true [.good 1000 500]);
      let s : State := { s with aud := { s.aud with counting := true, stopFade := some ⟨960, 10, 5⟩ } };
      (after .audioFrame s).aud.out.get 0 = 375 ∧ (after .audioFrame s).aud.stopFade = some ⟨960, 10, 6⟩)
    ∧ (after .audioFrame { ready with aud := { Aud.reset with gapLeft := some 3 } }).aud.gapLeft = some 2
    ∧ (after .audioFrame { ready with aud := { Aud.reset with gapLeft := some 0 } }).aud.gapLeft = some 0 := by
  decide +kernel

theorem test_witness_BuffersStartAndEnd :
    (let s := withBufA ready (stream .fromShow false []);
      let s : State := { s with aud := { s.aud with counting := true } };
      s.aud.atStart .a = true ∧ (after .showClipStart s).aud.playing = some .a)
    ∧ (let s : State := { ready with aud := { Aud.reset with
        counting := true, bufA := some (stream .direct true []), bufB := some (stream .fromShow false []) } };
      s.aud.atStart .a = false ∧ s.aud.atStart .b = true ∧ (after .showClipStart s).aud.bufA = none)
    ∧ (let s := withBufA ready (stream .direct false (List.replicate 1024 .failed));
      s.aud.readyToStart .a = true ∧ (after .clipStartWhenReady s).aud.playing = some .a)
    ∧ (let s : State := { ready with aud := { Aud.reset with
        bufB := some (stream .direct false (List.replicate 1024 .failed)) } };
      s.aud.readyToStart .a = false ∧ s.aud.readyToStart .b = true) := by decide +kernel

theorem test_witness_BuffersStartAndEnd_cuts :
    (let s : State := { ready with aud := { Aud.reset with
        counting := true, bufA := some (stream .fromShow false []), bufB := some (stream .direct true [])
        chunk := some ⟨some .b, 0x111000, 0, 2⟩ } };
      s.aud.atStart .a = true ∧ (after .showClipStart s).aud.playing = some .a
        ∧ (after .showClipStart s).aud.bufB = none
        ∧ (after .showClipStart s).aud.chunk = some ⟨none, 0x111000, 0, 2⟩)
    ∧ (let s := withBufA ready.withClip1 { stream .announcement true [] with read := 1024 };
      let s : State := { s with cfg := { s.cfg with options := { s.cfg.options with annClip := 1 } } };
      s.aud.playing = some .a ∧ (after .clipEnd s).aud.playing = none
        ∧ (after .clipEnd s).aud.bufA.map (fun x => (x.origin, x.read)) = some (.announcement, 0)) := by decide +kernel

theorem test_witness_BuffersStartAndEnd_ends :
    (let s := withBufA ready { stream .direct true [] with read := 1024 };
      s.aud.playing = some .a ∧ (after .clipEnd s).aud.bufA = none)
    ∧ (let s := withBufA ready { stream .announcement true [] with read := 1024 };
      (after .clipEnd s).aud.gapLeft = some 240000)
    ∧ (let s : State := { ready with aud := { Aud.reset with gapLeft := some 0 } };
      (after .announcementGapEnd s).aud.gapLeft = none)
    ∧ (let s : State := { ready.withClip1 with
        aud := { ready.withClip1.aud with muting := true, m := 0, target := 0 }
        cfg := { Settings.default with options := { Settings.default.options with annClip := 1 } } };
      s.aud.muteOver = true ∧ (after .muteComplete s).aud.bufA.isSome = true ∧ (after .muteComplete s).aud.m = 960)
    ∧ ready.aud.muteOver = false ∧ ready.aud.fadeOver = false ∧ (∀ i ∈ [BufId.a, .b], ready.aud.atStart i = false)
    ∧ (∀ i ∈ [BufId.a, .b], ready.aud.readyToStart i = false) ∧ ready.aud.gapLeft ≠ some 0
    ∧ (withBufA ready (stream .announcement false (List.replicate 1023 .failed))).aud.readyToStart .a = false
    ∧ (let s := withBufA ready { stream .announcement false [.failed] with read := 1023 };
      s.aud.readyToStart .a = true
        ∧ ({ s.aud with gapLeft := some 1 } : Aud).readyToStart .a = false
        ∧ ({ s.aud with gapLeft := some 0 } : Aud).readyToStart .a = true)
    ∧ (let s := withBufA ready (stream .fromShow true []);
      let s : State := { s with aud := { s.aud with stopFade := some ⟨960, 10, 10⟩ } };
      s.aud.fadeOver = true ∧ (after .stopFadeEnd s).aud.bufA = none) := by decide +kernel

theorem test_witness_AudioFrameMixesAndScoresItsWindow_window :
    (let s : State := { ready with aud := { Aud.reset with winFrames := 4800, winUnderruns := 2, winNote := true } };
      4800 ≤ s.aud.winFrames ∧ s.aud.winNote = true
        ∧ ((after .audioWindowEnd s).sup.channels.get 26).counter = 2
        ∧ (after .audioWindowEnd s).aud.winFrames = 0)
    ∧ (let s : State := { ready with aud := { Aud.reset with winFrames := 4800 } };
      s.aud.winNote = false ∧ (after .audioWindowEnd s).sup = s.sup) := by decide +kernel

/-! ## Water and the drive bus -/

theorem test_witness_DerateAndCapsLimitHeight :
    ready.cfg.wind.derate.getD (8 * (ready.groupRecord 0).exposure + ready.sup.band) 0 = 1000
      ∧ ready.cfg.wind.rowOk (ready.groupRecord 0).exposure = true ∧ ready.stage3 0 = 0
      ∧ ready.trippedNow.stage3 0 = 0 := by decide +kernel

theorem test_witness_DerateAndCapsLimitHeight_fade :
    (let faded (b : FadeTime) (dur : Nat) : State :=
        { ready.group0 .running with
          groups := ready.groups.set 0 { Group.reset with fade := ⟨100, 700, b, dur⟩ }, clock := 500 };
      (faded (.onSite 0) 1000).stage1 0 = 400 ∧ (faded (.onSite 0) 500).stage1 0 = 700
        ∧ (faded (.onSite 0xFFFFFFFF) 1000).stage1 0 = 400 ∧ (faded (.onSite 500) 0).stage1 0 = 700
        ∧ (faded (.onShow 0) 1000).showTime = none ∧ (faded (.onShow 0) 1000).stage1 0 = 700) := by decide +kernel

/-- The curve of R80's example. -/
def curve80 : List Point := [⟨50, 300⟩, ⟨200, 550⟩, ⟨400, 780⟩, ⟨600, 1000⟩]

theorem test_witness_CurveGivesSpeed :
    curveOk curve80 = true ∧ curve80.head? = some ⟨50, 300⟩ ∧ curve80.getLast? = some ⟨600, 1000⟩
      ∧ curve80[1]? = some ⟨200, 550⟩ ∧ curve80[2]? = some ⟨400, 780⟩
      ∧ ({ record0 with curve := curve80 } : GroupRecord).speedAt 50 = 300
      ∧ ({ record0 with curve := curve80 } : GroupRecord).speedAt 199 = 548
      ∧ ({ record0 with curve := curve80 } : GroupRecord).speedAt 276 = 637
      ∧ ({ record0 with curve := curve80 } : GroupRecord).speedAt 600 = 1000 := by decide +kernel

/-- G0 in an interlock state and due, its fade at a height, the level NORMAL, the last sent speed given. -/
def dueAt (i : Interlock) (height sent : Nat) : State :=
  let s := ((ready.group0 i).due0).atLevel .normal;
  { s with groups := s.groups.modify 0 fun x => { x with fade := ⟨height, height, .onSite 0, 0⟩, sent := sent, c0 := sent } }

theorem test_witness_PollComputesAndSends :
    (let s := dueAt .running 400 0;
      s.dbm.poll = none ∧ s.dbm.schedule = [⟨1, 0⟩] ∧ (s.groups.get 0).interlock = some .running
        ∧ ((after (.pollSent 5000) s).groups.get 0).figs = ⟨400, 400, 400, 571, 1000, 571⟩
        ∧ (after (.pollSent 5000) s).fda.demand.get 0 = 571
        ∧ (after (.pollSent 5000) s).dbm.poll = some ⟨⟨1, 0⟩, 0, 5000⟩
        ∧ after (.pollSent 5001) s = s) := by decide +kernel

theorem test_witness_RampMovesTheCommand_premise : (dueAt .running 400 600).rampsFit := by
  unfold State.rampsFit
  decide +kernel

theorem test_witness_RampMovesTheCommand :
    ((after (.pollSent 0) (dueAt .running 400 0)).groups.get 0).sent = 10
    ∧ ((after (.pollSent 0) (dueAt .running 400 600)).groups.get 0).sent = 580
    ∧ ((after (.pollSent 0) (dueAt .running 400 571)).groups.get 0).sent = 571
    ∧ ((after (.pollSent 0) (dueAt .running 400 600).trippedNow).groups.get 0).sent = 550
    ∧ ((after (.pollSent 0) (dueAt .closing 0 600)).groups.get 0).sent = 150
    ∧ ((after (.pollSent 0) (dueAt .shut 0 0)).groups.get 0).sent = 0
    ∧ (after (.pollSent 0) (dueAt .running 400 571)).dbm.busOut.take 4 = [1, 0x50, 0x3B, 2] := by decide +kernel

theorem test_witness_PollMovesTheInterlock :
    ((after (.pollSent 0) (dueAt .shut 400 0)).groups.get 0).interlock = some .opening
    ∧ ((after (.pollSent 0) (dueAt .shut 400 0)).groups.get 0).stroke = some ⟨0, 3000⟩
    ∧ ((after (.pollSent 0) (dueAt .shut 0 0)).groups.get 0).interlock = some .shut
    ∧ ((after (.pollSent 0) (dueAt .running 0 170)).groups.get 0).interlock = some .closing
    ∧ ((after (.pollSent 0) (dueAt .running 0 171)).groups.get 0).interlock = some .running
    ∧ ((after (.pollSent 0) (dueAt .running 400 300).trippedNow).groups.get 0).valve = .hold
    ∧ ((after (.pollSent 0) (dueAt .opening 400 0)).groups.get 0).valve = .openUp
    ∧ ((after (.pollSent 0) (dueAt .fault 400 0)).groups.get 0).valve = .close
    ∧ ((after (.pollSent 0) (dueAt .lost 400 0)).fda.demand.get 0) = 0 := by decide +kernel

/-- A reply from drive 1 with sequence number 0: a status byte, an actual speed of 300. -/
def replyWith (status : Byte) : ReplyBytes := ⟨1, status, 44, 1, 5, crc8 [1, status, 44, 1, 5]⟩

theorem test_witness_GoodReplyMovesTheInterlock :
    (let s := (ready.group0 .opening).polled0;
      s.dbm.poll = some ⟨⟨1, 0⟩, 0, 100⟩ ∧ 2000 ≤ 1000 * s.dbm.cycleWindow
        ∧ judgeReply ⟨⟨1, 0⟩, 0, 100⟩ (replyWith 0x10) false = .good
        ∧ (s.groupRecord 0).configured = true ∧ (s.groupRecord 0).address = 1
        ∧ (s.groups.get 0).interlock = some .opening ∧ (s.sup.channels.get (driveChannel 0)).valid = true
        ∧ replyFields (replyWith 0x10) = ⟨300, true, false, .ready, 5⟩
        ∧ replyFields (replyWith 0x80) = ⟨300, false, false, .trip, 5⟩
        ∧ replyFields (replyWith 0xC0) = ⟨300, false, false, .trip, 5⟩) := by decide +kernel

theorem test_witness_GoodReplyMovesTheInterlock_clauses :
    judgeReply ⟨⟨1, 0⟩, 0, 100⟩ (replyWith 0x80) false = .good
      ∧ judgeReply ⟨⟨1, 0⟩, 0, 100⟩ (replyWith 0x30) false = .good
      ∧ judgeReply ⟨⟨1, 0⟩, 0, 100⟩ (replyWith 0x20) false = .good
      ∧ (replyFields (replyWith 0x30)).openSw = true ∧ (replyFields (replyWith 0x30)).closedSw = true
      ∧ (((ready.group0 .closing).polled0).groups.get 0).interlock = some .closing
      ∧ (((ready.group0 .fault).polled0).groups.get 0).interlock = some .fault := by decide +kernel

theorem test_witness_GoodReplyMovesTheInterlock_recovery :
    (let s := ((ready.group0 .lost).polled0).drive0 ⟨6, false, false, none⟩;
      (s.groups.get 0).interlock = some .lost ∧ (s.sup.channels.get (driveChannel 0)).valid = false
        ∧ ((s.sup.channels.get (driveChannel 0)).evaluated (s.cfg.counters.get (driveChannel 0)) s.clock .good).valid
          = true)
    ∧ (let s := ((ready.group0 .lost).polled0).drive0 ⟨10, false, false, none⟩;
      ((s.sup.channels.get (driveChannel 0)).evaluated (s.cfg.counters.get (driveChannel 0)) s.clock .good).valid = false)
    := by decide +kernel

theorem test_witness_BadOutcomeScoresTheDrive :
    (let p : Poll := ⟨⟨1, 0⟩, 0, 100⟩;
      judgeReply p (replyWith 0) true = .badCheck ∧ judgeReply p ⟨1, 0, 0, 0, 0, 1⟩ false = .badCheck
        ∧ judgeReply p ⟨2, 0, 0, 0, 0, crc8 [2, 0, 0, 0, 0]⟩ false = .wrongAddr
        ∧ judgeReply p (replyWith 1) false = .badSeq ∧ judgeReply p (replyWith 0) false = .good)
    ∧ (let s := (ready.group0 .running).polled0;
      ((after .replyWindowExpiry s).sup.channels.get (driveChannel 0)).counter = 2
        ∧ (after .replyWindowExpiry s).dbm.accountUs = 2500
        ∧ ((after (.driveReply ⟨2, 0, 0, 0, 0, crc8 [2, 0, 0, 0, 0]⟩ false 300) s).groups.get 0).interlock = some .lost
        ∧ ((after (.driveReply ⟨2, 0, 0, 0, 0, crc8 [2, 0, 0, 0, 0]⟩ false 300) s).sup.channels.get 2)
          = ⟨255, false, true, some 0⟩) := by decide +kernel

theorem test_witness_BadOutcomeScoresTheDrive_moved :
    (let s := (ready.group0 .closing).polled0;
      let s : State := { s with cfg := { s.cfg with groups := s.cfg.groups.set 0 { record0 with address := 2 } } };
      (s.groupRecord 0).address = 2 ∧ (s.groupRecord 0).configured = true
        ∧ (after .replyWindowExpiry s).sup.channels.get 2 = ⟨2, true, false, some 0⟩
        ∧ (after .replyWindowExpiry s).dbm.last.get 0 = some ⟨.noReply, 0⟩
        ∧ (after (.driveReply (replyWith 0x20) false 300) s).sup.channels.get 2 = Channel.reset
        ∧ (after (.driveReply (replyWith 0x20) false 300) s).dbm.last.get 0 = some ⟨.good, 0⟩)
    ∧ (let s := (ready.group0 .closing).polled0;
      let s : State := { s with cfg := ready.cfg, groups := ready.groups };
      (s.groupRecord 0).configured = false ∧ (after .replyWindowExpiry s).sup.channels.get 2 = Channel.reset) := by
  decide +kernel

/-- A show in STOPPING at show time 0 with a stop fade begun 3 s before, and G0 CLOSING with its stroke timer run out, one error
from being lost. -/
def lastClosing (fade : Nat) : State :=
  let s := (ready.group0 .closing).drive0 ⟨5, true, false, none⟩;
  { s with
    seq := { Seq.reset with st := .stopping, stopping := some ⟨.stop, -3000, fade⟩ }
    aud := { Aud.reset with counting := true }
    groups := s.groups.modify 0 fun x => { x with stroke := some ⟨0, 0⟩ } }

/-- The same groups in an intrusion trip with its drop timer running. -/
def lastTripped : State :=
  let s := { lastClosing 0 with seq := Seq.reset }.trippedNow;
  { s with sup := { s.sup with dropTimer := some 0 } }

/-- The four commands that may bring the last group down. -/
theorem test_mayBringDown (s : State) :
    s.mayBringDown (.driveReply (replyWith 0) true 300) 4 ∧ s.mayBringDown .replyWindowExpiry 3
      ∧ s.mayBringDown .lineJammed (2 * s.dbm.schedule.length + 1) ∧ s.mayBringDown (.strokeTimeout 0) 2 :=
  ⟨.inl ⟨_, _, _, rfl, rfl⟩, .inr (.inl ⟨rfl, rfl⟩), .inr (.inr (.inl ⟨rfl, rfl⟩)), .inr (.inr (.inr ⟨_, rfl, rfl⟩))⟩

/-- The states that the commands which may bring the last group down are tried on hold their stroke timers as every step keeps
them, and a step of them goes on. -/
theorem test_witness_StepKeepsInterlocksFit_strokes :
    (lastClosing 3000).strokesFit ∧ (lastClosing 3001).strokesFit ∧ (lastClosing 3000).due0.strokesFit
      ∧ (lastClosing 3000).polled0.strokesFit ∧ lastTripped.strokesFit ∧ lastTripped.due0.strokesFit
      ∧ lastTripped.polled0.strokesFit ∧ (lastTripped.polled0.drive0 ⟨0, true, false, none⟩).strokesFit
      ∧ ((lastClosing 3000).groups.get 0).stroke.isSome = true
      ∧ ∃ t, step ((lastClosing 3000).withPending [.strokeTimeout 0]) = .next t := by
  refine ⟨?_, ?_, ?_, ?_, ?_, ?_, ?_, ?_, rfl, _, rfl⟩ <;> unfold State.strokesFit <;> decide +kernel

/-- The same show with G0 in FAULT and no stroke timer: nothing is left to bring down. -/
def lastFaulted : State :=
  let s := lastClosing 3000;
  { s with groups := s.groups.modify 0 fun x => { x with interlock := some .fault, stroke := none } }

theorem test_witness_StoppingIsEnteredAndEnds_unmoved :
    lastFaulted.strokesFit ∧ lastFaulted.groupsDown = true ∧ (after (.strokeTimeout 0) lastFaulted).seq = lastFaulted.seq
      ∧ ((after .replyWindowExpiry (lastClosing 3000).polled0).groups.get 0).interlock = some .lost
      ∧ (let t := after .replyWindowExpiry ((lastClosing 3000).polled0.drive0 ⟨0, true, false, none⟩);
        (t.groups.get 0).interlock = some .closing ∧ t.seq.st = .stopping) :=
  ⟨by unfold State.strokesFit; decide +kernel, by decide +kernel⟩

theorem test_witness_StoppingIsEnteredAndEnds_changes :
    (let t := after (.strokeTimeout 0) (lastClosing 3000);
      (lastClosing 3000).showTime = some 0 ∧ (t.groups.get 0).interlock = some .fault ∧ t.groupsDown = true
        ∧ (lastClosing 3000).lif.enable.getLsbD Category.showCat.bit = true ∧ t.seq.st = .idle
        ∧ .showState .idle none none (some .stop) ∈ t.lif.reports)
    ∧ (after (.strokeTimeout 0) (lastClosing 3001)).groupsDown = true
    ∧ (after (.strokeTimeout 0) (lastClosing 3001)).seq.st = .stopping
    ∧ (after .lineJammed (lastClosing 3000).due0).seq.st = .idle
    ∧ (after .replyWindowExpiry (lastClosing 3000).polled0).seq.st = .idle
    ∧ (after (.driveReply (replyWith 0) true 300) (lastClosing 3000).polled0).seq.st = .idle := by decide +kernel

theorem test_witness_TripInputsTripTheSite_changes :
    (let t := after (.strokeTimeout 0) lastTripped;
      lastTripped.sup.mode = .tripped ∧ lastTripped.sup.causes.estop = false ∧ lastTripped.sup.permit = true
        ∧ lastTripped.groupsDown = false ∧ t.groupsDown = true ∧ t.sup.permit = false ∧ t.sup.dropTimer = none
        ∧ lastTripped.lif.enable.getLsbD Category.site.bit = true
        ∧ t.lif.reports = [.site 7 0 .low 0 .tripped false])
    ∧ (after .lineJammed lastTripped.due0).sup.permit = false
    ∧ (after .replyWindowExpiry lastTripped.polled0).sup.permit = false
    ∧ (after (.driveReply (replyWith 0) true 300) lastTripped.polled0).sup.permit = false
    ∧ (let t := after .replyWindowExpiry (lastTripped.polled0.drive0 ⟨0, true, false, none⟩);
      t.groupsDown = false ∧ t.sup.permit = true ∧ t.sup.dropTimer = some 0) := by decide +kernel

/-- The state with G1 configured at address 31 and SHUT. -/
def withG1 (s : State) : State :=
  { s with
    cfg := { s.cfg with groups := s.cfg.groups.set 1 { record0 with address := 31 } }
    groups := s.groups.set 1 { Group.reset with interlock := some .shut } }

theorem test_witness_CycleKeepsItsBudgetAndAbandonsJams_order :
    scheduleFrom (withG1 (ready.group0 .shut)).cfg.groups 1 = [⟨1, 0⟩, ⟨31, 1⟩]
    ∧ scheduleFrom (withG1 (ready.group0 .shut)).cfg.groups 2 = [⟨31, 1⟩, ⟨1, 0⟩]
    ∧ (let s := ((ready.group0 .running).due0).drive0 ⟨4, true, false, none⟩;
      ((after .lineJammed s).groups.get 0).interlock = some .lost
        ∧ (after .lineJammed s).flags.has .groupLost = true) := by decide +kernel

theorem test_witness_CycleKeepsItsBudgetAndAbandonsJams :
    (ready.group0 .shut).cfg.window ≤ 10
    ∧ (after .driveCycle (ready.group0 .shut)).dbm.schedule = [⟨1, 0⟩]
    ∧ (1 ≤ (ready.group0 .shut).dbm.rotation ∧ addressTaken (ready.group0 .shut).cfg.groups 0 1 = false)
    ∧ (let s : State := { (ready.group0 .shut).polled0 with
          dbm := { ((ready.group0 .shut).polled0).dbm with schedule := [⟨9, 0⟩], accountUs := 40100 } };
      (after .replyWindowExpiry s).dbm.schedule = [⟨9, 0⟩])
    ∧ (let s : State := { (ready.group0 .shut).polled0 with
          dbm := { ((ready.group0 .shut).polled0).dbm with schedule := [⟨9, 0⟩], accountUs := 40101 } };
      (after .replyWindowExpiry s).dbm.schedule = [] ∧ (after .replyWindowExpiry s).dbm.rotation = 9
        ∧ (after (.driveReply (replyWith 0) true 1999) s).dbm.schedule = [⟨9, 0⟩]
        ∧ (after (.driveReply (replyWith 0) true 2000) s).dbm.schedule = [])
    ∧ (let s := (ready.group0 .shut).due0;
      s.dbm.poll = none ∧ (s.dbm.schedule.map (·.group)).Nodup
        ∧ ((after .lineJammed s).sup.channels.get 2).counter = 2
        ∧ (after .lineJammed s).flags.has .busFault = true) := by decide +kernel

/-- G0 in a state with its stroke timer, the site clock given. -/
def stroking (i : Interlock) (clock : Tick) : State :=
  let s := ready.group0 i;
  { s with groups := s.groups.modify 0 fun x => { x with stroke := some ⟨0, 3000⟩ }, clock := clock }

theorem test_witness_FaultsAreEnteredAndCleared :
    (after (.strokeTimeout 0) (stroking .opening 2999) = stroking .opening 2999)
    ∧ ((after (.strokeTimeout 0) (stroking .opening 3000)).groups.get 0).interlock = some .fault
    ∧ ((stroking .opening 3000).lif.enable.getLsbD Category.water.bit = true
      ∧ (after (.strokeTimeout 0) (stroking .opening 3000)).lif.tx
        = some (.report (.groupState 0 (some .opening) .fault .strokeTimeout false 0 0 none)))
    ∧ (let s := ((ready.group0 .fault).withSent0 700).asking (ask 0x31 [0]);
      (s.groups.get 0).c0 = 700 ∧ ((after .clearGroupFault s).groups.get 0).sent = 700
        ∧ ((after .clearGroupFault s).groups.get 0).c0 = 0
        ∧ ((after (.pollSent 0) { after .clearGroupFault s with dbm := (s.due0).dbm }).groups.get 0).sent = 0)
    ∧ (let s := (ready.group0 .fault).asking (ask 0x31 [0]);
      s.takes .clearGroupFault (ask 0x31 [0]) = true ∧ (s.groupRecord 0).configured = true
        ∧ (s.groups.get 0).interlock = some .fault
        ∧ ((after .clearGroupFault s).groups.get 0).interlock = some .closing)
    ∧ (ready.asking (ask 0x31 [24])).takes .clearGroupFault (ask 0x31 [24]) = true
    ∧ after .clearGroupFault ((ready.group0 .shut).asking (ask 0x31 [0]))
      = ((ready.group0 .shut).asking (ask 0x31 [0])).answered (ask 0x31 [0]) .wrongState [] := by decide +kernel

/-- The SET_GROUP payload of record0 for G0. -/
def group0Payload : List Byte := GroupRecord.bytes 0 record0 fun _ => 0

/-- The payload of the same record unconfigured. -/
def bare0Payload : List Byte := GroupRecord.bytes 0 { record0 with configured := false } fun _ => 0

theorem test_witness_SetGroupReplacesTheRecord :
    (let s := ready.asking (ask 0x10 group0Payload);
      s.takes .setGroup (ask 0x10 group0Payload) = true ∧ groupOf group0Payload = some record0
        ∧ addressTaken s.cfg.groups 0 record0.address = false
        ∧ ((after .setGroup s).groups.get 0).interlock = some .closing)
    ∧ (let s := (ready.group0 .shut).asking (ask 0x10 bare0Payload);
      (after .setGroup s).groups.get 0 = Group.reset)
    ∧ (let s := (ready.group0 .opening).asking (ask 0x10 bare0Payload);
      after .setGroup s = s.answered (ask 0x10 bare0Payload) .wrongState [])
    ∧ groupOf (24 :: List.replicate 63 0) = none
    ∧ (ready.asking (ask 0x10 (24 :: List.replicate 63 0))).takes .setGroup (ask 0x10 (24 :: List.replicate 63 0)) = true
    := by decide +kernel

theorem test_witness_SetGroupReplacesTheRecord_ranges :
    groupOf (group0Payload.set 2 31) = some { record0 with address := 31 } ∧ groupOf (group0Payload.set 2 32) = none
    ∧ groupOf (group0Payload.set 2 0) = none ∧ groupOf (group0Payload.set 3 7) = none
    ∧ groupOf (group0Payload.set 28 1) = none ∧ groupOf (group0Payload.set 53 4) = none
    ∧ addressTaken (ready.group0 .shut).cfg.groups 1 1 = true ∧ addressTaken (ready.group0 .shut).cfg.groups 0 1 = false
    := by decide +kernel

/-- A DIRECT_JET of G0. -/
def jet0 (height fade : Nat) : Request := ask 0x28 ([1, 0, 0] ++ byte2 height ++ byte2 fade)

theorem test_witness_DirectJetWritesFades :
    (let s := ((ready.group0 .shut).atLevel .normal).asking (jet0 900 30001);
      s.takes .directJet (jet0 900 30001) = true ∧ s.sup.effective ≠ .dry
        ∧ ((after .directJet s).groups.get 0).fade = ⟨0, 800, .onSite 0, 30000⟩
        ∧ (after .directJet s).lif.tx = some (.answer (.reply ⟨7, 0x28, .ok, [1, 0, 0, 1]⟩)))
    ∧ (let s := ((ready.group0 .shut).atLevel .dry).asking (jet0 800 30000);
      after .directJet s = s.answered (jet0 800 30000) .levelDry [])
    ∧ (let s := ready.asking (jet0 800 30000);
      after .directJet s = s.answered (jet0 800 30000) .outOfRange []) := by decide +kernel

/-! ## Feeder and light -/

theorem test_witness_WaterScaleIsTheGreatestThatFits :
    scaledDemand [(10000, 1000)] 1000 ≤ 10000 ∧ waterScale [(10000, 1000)] 10000 = 1000
      ∧ waterScale [(10000, 1000)] 9999 = 995 ∧ waterScale [(10000, 1000)] 0 = 45 := by decide +kernel

/-- A SET_FEEDER. -/
def feederRequest (b share : Nat) : Request := ask 0x15 (byte4 b ++ byte2 share)

theorem test_witness_SetFeederRecomputes :
    (let s := ready.asking (feederRequest 4000000 1000);
      s.takes .setFeeder (feederRequest 4000000 1000) = true ∧ u32 (feederRequest 4000000 1000).payload 0 = 4000000
        ∧ u16 (feederRequest 4000000 1000).payload 4 = 1000 ∧ (after .setFeeder s).fda.cap = 4000000)
    ∧ (let s := ready.asking (feederRequest 4000001 0);
      after .setFeeder s = s.answered (feederRequest 4000001 0) .outOfRange []) := by decide +kernel

/-- Fixture 0 with a DIRECT colour waiting. -/
def latched0 : State :=
  { ready.fixture0 with lgt := { Lgt.reset with
      fixtures := Lgt.reset.fixtures.modify 0 fun x => x.withLatch (some ⟨⟨200, 100, 0, 255⟩, 0, .siteClock, .direct⟩) } }

theorem test_witness_LampFixtureFollowsItsSteps :
    (latched0.cfg.fixtures.get 0).assigned = true
      ∧ (latched0.lgt.fixtures.get 0).latch = some ⟨⟨200, 100, 0, 255⟩, 0, .siteClock, .direct⟩
      ∧ (latched0.lampFixture 0).fade.targets = ⟨51400, 25700, 0, 65535⟩
      ∧ (latched0.lampFixture 0).out = ⟨200, 100, 0, 255⟩
      ∧ (latched0.trippedNow.lampFixture 0).out = ⟨255, 255, 255, 255⟩ := by decide +kernel

theorem test_witness_LightScaleKeepsTheCap :
    (let s : State := { latched0 with fda := { Fda.reset with cap := 27 } };
      (s.cfg.fixtures.get 0).assigned = true ∧ (after .lampFrame s).fda.load = 54
        ∧ (after .lampFrame s).fda.kL = 500
        ∧ (after .lampFrame s).lgt.lampOut = [0, 100, 50, 0, 127])
    ∧ (after .lampFrame latched0).fda.kL = 1000
    ∧ (after .lampFrame { latched0 with fda := { Fda.reset with cap := 0 } }).fda.kL = 0 := by decide +kernel

theorem test_witness_LampFramePostsAndSends :
    (latched0.cfg.fixtures.get 0).assigned = true
      ∧ slotTaken latched0.cfg.fixtures 0 (latched0.cfg.fixtures.get 0) = false
      ∧ (after .lampFrame latched0).lgt.lampOut = [0, 200, 100, 0, 255]
      ∧ (let s : State := { latched0 with cfg := { latched0.cfg with
            fixtures := latched0.cfg.fixtures.set 1 { FixtureRecord.default with base := 6 } } };
        (after .lampFrame s).lgt.lampOut = [0, 200, 100, 0, 255, 0, 0, 0, 0, 0])
      ∧ (after .lampFrame ready).lgt.lampOut = [0] := by decide +kernel

/-- A SET_FIXTURE of fixture 0. -/
def fixtureRequest (base : Nat) : Request :=
  ask 0x11 (FixtureRecord.bytes 0 { FixtureRecord.default with base := base })

theorem test_witness_SetFixtureReplacesTheRecord :
    (let s := ready.asking (fixtureRequest 509);
      s.takes .setFixture (fixtureRequest 509) = true
        ∧ fixtureOf (fixtureRequest 509).payload = some { FixtureRecord.default with base := 509 }
        ∧ slotTaken s.cfg.fixtures 0 { FixtureRecord.default with base := 509 } = false)
    ∧ fixtureOf (fixtureRequest 510).payload = none
    ∧ slotTaken (ready.fixture0).cfg.fixtures 1 { FixtureRecord.default with base := 4 } = true
    ∧ slotTaken (ready.fixture0).cfg.fixtures 1 { FixtureRecord.default with base := 5 } = false
    ∧ (ready.asking (ask 0x11 (96 :: List.replicate 16 0))).takes .setFixture (ask 0x11 (96 :: List.replicate 16 0))
      = true := by decide +kernel

/-- A DIRECT_LIGHT. -/
def lightRequest (first last : Byte) : Request := ask 0x29 ([first, last, 1, 2, 3, 4] ++ byte2 30000)

theorem test_witness_DirectLightWritesLatches :
    (let s := ready.fixture0.asking (lightRequest 0 0);
      s.takes .directLight (lightRequest 0 0) = true
        ∧ ((after .directLight s).lgt.fixtures.get 0).latch = some ⟨⟨1, 2, 3, 4⟩, 30000, .siteClock, .direct⟩)
    ∧ (let s := ready.fixture0.asking (lightRequest 0 1);
      after .directLight s = s.answered (lightRequest 0 1) .outOfRange [])
    ∧ (let s := ready.fixture0.asking (lightRequest 1 0);
      after .directLight s = s.answered (lightRequest 1 0) .outOfRange []) := by decide +kernel

/-! ## Site supervision -/

theorem test_witness_EvaluationMovesTheCounter :
    (let k : CounterSettings := ⟨6, 4⟩;
      Channel.lawful ⟨4, true, false, none⟩ k = true ∧ Channel.lawful ⟨255, false, true, none⟩ k = true
        ∧ (Channel.evaluated ⟨3, true, false, none⟩ k 9 .error) = ⟨5, true, false, some 9⟩
        ∧ (Channel.evaluated ⟨4, true, false, none⟩ k 9 .error) = ⟨10, false, false, some 9⟩
        ∧ (Channel.evaluated ⟨6, false, false, none⟩ k 9 .good) = ⟨5, true, false, some 9⟩
        ∧ (Channel.evaluated ⟨7, false, false, none⟩ k 9 .good) = ⟨6, false, false, some 9⟩
        ∧ (Channel.evaluated ⟨0, true, false, none⟩ k 9 .good) = ⟨0, true, false, some 9⟩) := by decide +kernel

theorem test_witness_PulseAndTickCount :
    State.reset.pending = [] ∧ (after .siteClockTick { ready with clock := 0xFFFFFFFF }).clock = 0
      ∧ (after .anemoPulse { ready with sup := { ready.sup with anemo := 0xFFFF } }).sup.anemo = 0 := by decide +kernel

/-- Three gates passed at a gust, with a band. -/
def windy (band gust : Nat) : State :=
  { ready with sup := { ready.sup with gates := 3, band := band, winds := [gust, gust], anemo := 1 } }

theorem test_witness_WindGateJudgesTheBand :
    ((windy 0 40).sup.channels.get 0).valid = true ∧ (after .windGate (windy 0 40)).sup.band = 2
    ∧ (after .windGate (windy 2 40)).sup.band = 2
    ∧ (after .windGate (windy 3 49)).sup.calm = 1
    ∧ (after .windGate (windy 3 50)).sup.calm = 0
    ∧ (let s : State := { windy 3 49 with sup := { (windy 3 49).sup with calm := 29 } };
      (after .windGate s).sup.band = 2 ∧ (after .windGate s).sup.calm = 0)
    ∧ (let s : State := { windy 7 20 with sup := { (windy 7 20).sup with gates := 2 } };
      (after .windGate s).sup.band = 1)
    ∧ (let s : State := { windy 1 20 with sup := { (windy 1 20).sup with
          anemo := 1001, channels := (windy 1 20).sup.channels.set 0 ⟨2, true, false, none⟩ } };
      (after .windGate s).sup.band = 7) := by decide +kernel

theorem test_witness_WindGateJudgesTheBand_recovery :
    (let s : State := { windy 7 20 with sup := { (windy 7 20).sup with
        calm := 3, channels := (windy 7 20).sup.channels.set 0 ⟨3, false, false, none⟩ } };
      ((after .windGate s).sup.channels.get 0).valid = true ∧ (after .windGate s).sup.band = 7
        ∧ (after .windGate s).sup.calm = 0
        ∧ (after .windGate { s with sup := { s.sup with gates := 2 } }).sup.band = 1
        ∧ (after .windGate { s with sup := { s.sup with
            channels := s.sup.channels.set 0 ⟨4, false, false, none⟩ } }).sup.band = 7) := by decide +kernel

theorem test_witness_WindGateJudgesTheBand_reports :
    (let s : State := { windy 0 0 with sup := { (windy 0 0).sup with
        anemo := 1001, channels := (windy 0 0).sup.channels.set 0 ⟨2, true, false, none⟩ } };
      let t := after .windGate s;
      s.lif.enable.getLsbD Category.site.bit = true ∧ s.lif.reports.length + 1 < 16
        ∧ t.lif.tx = some (.report (.validity 0 false 5 false))
        ∧ t.lif.reports = [.site 7 1001 .low 0 .restricted true] ∧ t.flags.has .windForced = true)
    ∧ (let s := (windy 0 0).atLevel .normal;
      let t := after .windGate s;
      s.sup.mode = .restricted ∧ t.sup.mode = .normal ∧ t.lif.tx = some (.report (.site 0 1 .normal 0 .normal true)))
    := by decide +kernel

/-- Three samples of a current entered and a measured level. -/
def sampled (current : Nat) (l : LevelState) : State :=
  { ready.atLevel l with sup := { (ready.atLevel l).sup with currents := [current, current, current] } }

theorem test_witness_LevelSampleJudgesTheLevel :
    (after (.levelSample 4095) (sampled 20000 .normal)).sup.currents = [20000, 20000, 20000]
    ∧ (after (.levelSample 4095) (sampled 20000 .normal)).sup.channels.get 1 = ⟨2, true, false, some 0⟩
    ∧ (after (.levelSample 656) (sampled 4004 .low)).sup.level = 1
    ∧ (after (.levelSample 656) (sampled 4004 .low)).sup.measured = .dry
    ∧ (after (.levelSample 656) (sampled 4004 .normal)).sup.measured = .dry
    ∧ (after (.levelSample 3276) (sampled 20000 .dry)).sup.measured = .normal
    ∧ (after (.levelSample 3276) ready).sup.measured = .low
    ∧ running.sup.channels.get 1 = Channel.reset ∧ running.seq.st = .running ∧ 0 < running.cfg.options.stopFade
    ∧ (after (.levelSample 589) (sampled 20000 .low)).sup.currents.length = 3
    ∧ (after (.levelSample 590) (sampled 20000 .low)).sup.currents.length = 4 := by decide +kernel

theorem test_witness_LevelSampleJudgesTheLevel_reports :
    (let t := after (.levelSample 656) (sampled 4004 .normal);
      t.flags.has .levelDry = true ∧ t.lif.tx = some (.report (.site 7 0 .dry 1 .restricted true)))
    ∧ (let s0 := sampled 20000 .normal;
      let s : State := { s0 with sup := { s0.sup with channels := s0.sup.channels.set 1 ⟨8, true, false, none⟩ } };
      let t := after (.levelSample 0) s;
      s.lif.enable.getLsbD Category.site.bit = true ∧ t.lif.tx = some (.report (.validity 1 false 20 false))
        ∧ t.lif.reports = [.site 7 0 .low 0 .restricted true] ∧ t.flags.has .levelLow = true) := by decide +kernel

theorem test_witness_LevelSampleJudgesTheLevel_recovery :
    (let s0 := { running with sup := (sampled 4004 .dry).sup };
      let s : State := { s0 with sup := { s0.sup with channels := s0.sup.channels.set 1 ⟨10, false, false, none⟩ } };
      (s.sup.channels.get 1).valid = false ∧ s.sup.measured = .dry
        ∧ ((s.sup.channels.get 1).evaluated (s.cfg.counters.get 1) s.clock .good).valid = true
        ∧ (after (.levelSample 0) s).seq = s.seq) := by decide +kernel

theorem test_witness_TripInputsTripTheSite :
    ready.sup.mode ≠ .tripped ∧ ready.sup.causes = Causes.none
      ∧ (after .estopActive ready).sup.permit = false
      ∧ (after (.intrusionActive .intrA) (ready.group0 .opening)).sup.permit = true
      ∧ ((after (.intrusionActive .intrA) (ready.group0 .opening)).groups.get 0).interlock = some .closing
      ∧ (after (.intrusionActive .intrB) ready).sup.permit = false
      ∧ (after .estopActive ready).aud.m = 960 ∧ (after .estopActive ready).aud.muting = false
      ∧ (after .estopActive ready.withClip1).aud.bufA = none
      ∧ (let s := withBufA ready (stream .direct true [.good 1 1]);
        s.lif.halted = false ∧ s.aud.playing = some .a ∧ s.aud.factor ≠ 0
          ∧ (after .estopActive s).aud.muting = true ∧ (after .estopActive s).aud.target = 0
          ∧ (after .estopActive s).aud.m = 960 ∧ (after .estopActive s).aud.playing = some .a)
      ∧ (let s := running;
        s.seq.st ≠ .idle ∧ (after .estopActive s).aud.counting = false)
      ∧ (let s : State := { ready.withClip1 with cfg := { ready.cfg with options := { ready.cfg.options with annClip := 1 } } };
        (after .estopActive s).aud.bufA.map (·.clip) = some clip1)
      ∧ ready.trippedNow.sup.mode = .tripped
      ∧ (after .estopActive ready.trippedNow).sup.causes = ⟨true, true, false⟩
      ∧ (after (.intrusionActive .intrB) ready.trippedNow).sup.causes = ⟨false, true, true⟩ := by decide +kernel

theorem test_witness_TripInputsTripTheSite_timer :
    (ready.sup.dropTimer = none ∧ after .intrusionDropTimer ready = ready)
    ∧ (let s : State := { ready.trippedNow with sup := { ready.trippedNow.sup with dropTimer := some 0 }, clock := 9999 };
      s.sup.dropTimer = some 0 ∧ after .intrusionDropTimer s = s)
    ∧ (let s : State := { ready.trippedNow with sup := { ready.trippedNow.sup with dropTimer := some 0 }, clock := 10000 };
      (after .intrusionDropTimer s).sup.permit = false) := by decide +kernel

theorem test_witness_ClearTripEndsTheTrip :
    (let s := ready.trippedNow.asking (ask 0x30 []);
      s.takes .clearTrip (ask 0x30 []) = true ∧ s.sup.mode = .tripped
        ∧ (after (.clearTrip ⟨false, false, false⟩) s).sup.mode = .restricted
        ∧ after (.clearTrip ⟨false, false, true⟩) s = s.answered (ask 0x30 []) .inputActive [])
    ∧ (ready.asking (ask 0x30 [])).sup.mode ≠ .tripped := by decide +kernel

theorem test_witness_SetCounterResetsTheChannel :
    (let q := ask 0x16 [2, 200, 55];
      let s : State := { ((ready.group0 .lost).withSent0 700).asking q with
        sup := { ready.sup with channels := ready.sup.channels.set 2 ⟨10, false, false, none⟩ } };
      s.takes .setCounter q = true ∧ counterOf q.payload = some ⟨200, 55⟩ ∧ (s.sup.channels.get 2).valid = false
        ∧ (s.groups.get 0).interlock = some .lost
        ∧ ((after .setCounter s).groups.get 0).interlock = some .closing
        ∧ ((after .setCounter s).groups.get 0).sent = 700 ∧ ((after .setCounter s).groups.get 0).c0 = 0
        ∧ (after .setCounter s).sup.channels.get 2 = ⟨0, true, false, none⟩)
    ∧ counterOf [2, 201, 0] = none ∧ counterOf [2, 0, 0] = none ∧ counterOf [2, 1, 56] = none
    ∧ (ready.asking (ask 0x16 [27, 1, 1])).takes .setCounter (ask 0x16 [27, 1, 1]) = true := by decide +kernel

theorem test_witness_ReadFlagsClearsWhatItReturns :
    (let q := ask 0x06 [0x11];
      let s : State := { ready.asking q with flags := { Flags.reset with link := 5, site := 0x13, water := 1 } };
      s.takes .readFlags q = true ∧ (after .readFlags s).flags = { Flags.reset with site := 3, water := 1 }
        ∧ (after .readFlags s).lif.tx = some (.answer (.reply ⟨7, 6, .ok, [5, 0, 0, 0, 0x13, 0]⟩))
        ∧ s.flags.cluster = 0x15)
    ∧ (let q := ask 0x06 [0x08];
      let s : State := { ready.asking q with
        flags := { Flags.reset with light := 3 }
        lgt := { ready.lgt with fixtures := ready.lgt.fixtures.modify 95 fun x => { x with capped := true } } };
      (after .readFlags s).flags.light = 1
        ∧ (after .readFlags { s with lgt := ready.lgt, fda := { ready.fda with kL := 999 } }).flags.light = 2)
    ∧ (let q := ask 0x06 [0x10];
      let s : State := { ready.asking q with
        flags := { Flags.reset with site := 7 }, sup := { ready.sup with gates := 3, measured := .dry } };
      (after .readFlags s).flags.site = 4
        ∧ (after .readFlags { s with sup := { s.sup with measured := .normal } }).flags.site = 0)
    ∧ (ready.asking (ask 0x06 [0xC0])).takes .readFlags (ask 0x06 [0xC0]) = true := by decide +kernel

/-! ## Resets, start-up and the flash port -/

theorem test_witness_ResetsAndIdentification :
    (after (.powerOn ⟨false, false, false⟩ 2) (ready.holding [(5, 1)])).flash = [(5, 1)]
    ∧ (after (.powerOn ⟨false, false, false⟩ 2) ready).lif.bitRate = 2
    ∧ (after (.pinReset ⟨true, false, false⟩ 0) ready).sup.tripLog = [⟨⟨true, false, false⟩, 0, none, 7, .low⟩]
    ∧ (after (.pinReset ⟨false, true, true⟩ 0) ready).flags.site = 0x0B
    ∧ State.reset.flp.port = .resetting ∧ State.reset.flp.presence = .unidentified
    ∧ State.reset.aud.copying = none ∧ State.reset.flashQuiet = true
    ∧ (after (.identificationDone (some ⟨1, 2, 3, 256, true⟩)) State.reset).flp.port = .reading .directory := by
  decide +kernel

theorem test_witness_ResetsAndIdentification_directory :
    (let s := copying .startUp [];
      let t := after .directoryReadDone s;
      s.flashQuiet = true ∧ s.sup.mode ≠ .tripped ∧ t.flp.port = .reading (.settingsRead 0 4096)
        ∧ t.flp.settingsWork = some (.load true []) ∧ t.aud.bufA = none)
    ∧ (let s := (copying .startUp []).trippedNow;
      let t := after .directoryReadDone s;
      t.aud.bufA.map (·.clip) = some clip1 ∧ t.flp.port = .reading .audChunk
        ∧ t.flp.internalQ = [.settingsRead 0 4096]) := by decide +kernel

theorem test_identificationDone_without_flash :
    (after (.identificationDone (some ⟨1, 2, 3, 255, true⟩)) State.reset).flp.presence = .missing
    ∧ (after (.identificationDone none) State.reset).sup.permit = true
    ∧ (after (.identificationDone none) State.reset).lif.starting = false
    ∧ (after (.identificationDone none) State.reset).lif.tx = some (.report (.site 7 0 .low 0 .restricted true))
    ∧ (after (.identificationDone none) State.reset).lif.reports = [.ready .powerOn .blank false] := by decide +kernel

/-- The state at a settings read of the start-up sequence or of a reload. -/
def readingSettings (startUp : Bool) : State :=
  { ready with flp := { ready.flp with
      port := .reading (.settingsRead 0 24), settingsWork := some (.load startUp []) } }

theorem test_witness_SettingsAreSavedAndLoaded :
    (let s := ready.asking (ask 0x3B []);
      s.takes .saveSettings (ask 0x3B []) = true ∧ s.flp.presence ≠ .missing ∧ s.lif.flashSlot.active = false
        ∧ s.flp.port = .free ∧ s.flashQuiet = true ∧ (after .saveSettings s).flp.port = .erasing .settingsErase)
    ∧ (let s := ready.asking (ask 0x3C []);
      s.takes .reloadSettings (ask 0x3C []) = true ∧ s.seq.st = .idle
        ∧ (after .reloadSettings s).flp.port = .reading (.settingsRead 0 4096))
    ∧ (readingSettings true).flashQuiet = true
    ∧ judgeImage (imageHeader ++ [0, 0]) = .more
    ∧ (after .settingsReadDone (readingSettings true)).flp.image = .blank
    ∧ (after .settingsReadDone (readingSettings false)).lif.settingsSlot.imageFound = some .blank
    ∧ (after .settingsReadDone ((readingSettings false).inShow .armed)).lif.settingsSlot.failure = .conflict := by
  decide +kernel

theorem test_witness_SettingsAreSavedAndLoaded_groups :
    (let s : State := { (readingSettings true).group0 .lost with
        flash := [], flp := (readingSettings true).flp
        sup := { ready.sup with measured := .dry, channels := ready.sup.channels.set 1 ⟨10, false, false, none⟩ }
        lgt := { Lgt.reset with fixtures := Lgt.reset.fixtures.modify 3 fun x => { x with dryStart := some 4 } } };
      s.seq.st = .idle ∧ judgeImage (Memory.readBytes s.flash 0 24) = .found .blank Settings.default
        ∧ (s.groupRecord 0).configured = true ∧ s.regrouped Settings.default 0 = Group.reset
        ∧ (after .settingsReadDone s).groups.get 0 = Group.reset
        ∧ (after .settingsReadDone s).sup.channels.get 1 = ⟨0, true, false, none⟩
        ∧ ((after .settingsReadDone s).lgt.fixtures.get 3).dryStart = some 4)
    ∧ (let s : State := { ready with sup := { ready.sup with
        channels := ready.sup.channels.set 2 ⟨10, false, false, none⟩ } };
      let t := s.takeSettings { Settings.default with groups := Settings.default.groups.set 0 record0 };
      s.foundByLoad t.cfg 0 = true ∧ s.loadedGroup t.cfg 0 = t.groups.get 0
        ∧ (t.groups.get 0).interlock = some .closing ∧ t.lif.reports.length = 3) := by decide +kernel

theorem test_witness_SettingsAreSavedAndLoaded_reports :
    (let s : State := { readingSettings false with lif := { (readingSettings false).lif with enable := 0x10 } };
      (∀ k ∈ [Category.showCat, .water, .light, .site, .mark], s.lif.enable.getLsbD k.bit = false)
        ∧ (after .settingsReadDone s).lif.tx
          = some (.report (.serviceDone .settings (after .settingsReadDone s).lif.settingsSlot)))
    ∧ (let t := after .settingsReadDone ((readingSettings false).inShow .armed);
      t.lif.tx = some (.report (.serviceDone .settings t.lif.settingsSlot))) := by decide +kernel

/-- An image of one DRIVE_BUS record. -/
def smallImage : List Byte :=
  let body := imageHeader ++ recordBytes 8 0 [5] ++ [0, 0, 0, 0];
  body ++ byte4 (crc32 body).toNat

theorem test_settings_image_is_loaded :
    (after .settingsReadDone ((readingSettings true).holding (bytesAt 0 smallImage))).flp.image = .loaded
    ∧ (after .settingsReadDone ((readingSettings true).holding (bytesAt 0 smallImage))).cfg.window = 5
    ∧ (after .settingsReadDone ((readingSettings true).holding [(0, 1)])).flp.image = .bad
    ∧ (after .settingsReadDone ((readingSettings true).holding [(0, 1)])).flags.has .settingsBad = true := by
  decide +kernel

/-- The bytes of records behind the header word. -/
def imageOf (rs : List (Nat × Nat × List Byte)) : List Byte :=
  imageHeader ++ rs.flatMap fun r => recordBytes r.1 r.2.1 r.2.2

/-- A whole image of records. -/
def wholeImage (rs : List (Nat × Nat × List Byte)) : List Byte :=
  let body := imageOf rs ++ [0, 0, 0, 0];
  body ++ byte4 (crc32 body).toNat

theorem test_witness_ImagesAreJudgedAndReadBack :
    judgeImage [0xFF, 0xFF, 0xFF, 0xFF, 1] = .found .blank Settings.default
    ∧ judgeImage [0x46, 0x43, 0x53, 0x02] = judgedBad
    ∧ judgeImage (imageOf [(8, 0, [5])] ++ [0, 0]) = .more
    ∧ judgeImage (imageOf [(8, 0, [5])] ++ [10, 0, 1, 0]) = judgedBad
    ∧ judgeImage (imageOf [] ++ [8, 0, 2, 0]) = judgedBad
    ∧ judgeImage (imageOf [] ++ [5, 0, 8, 0, 1]) = .more
    ∧ judgeImage (imageOf [(8, 1, [5])]) = judgedBad ∧ judgeImage (imageOf [(7, 1, [2, 1, 1])]) = judgedBad
    ∧ judgeImage (imageOf [] ++ [0, 0, 0, 0, 1, 2, 3]) = .more
    ∧ judgeImage (imageOf [] ++ [0, 0, 0, 0, 1, 2, 3, 4]) = judgedBad
    ∧ judgeImage (wholeImage [(8, 0, [5]), (8, 0, [5])]) = judgedBad
    ∧ judgeImage (wholeImage [(8, 0, [11])]) = judgedBad
    ∧ judgeImage (wholeImage [(3, 0, [0, 0, 0, 0, 250]), (3, 1, [1, 0, 0, 0, 250]), (3, 2, [2, 0, 0, 0, 1])]) = judgedBad
    ∧ judgeImage (wholeImage [(8, 0, [5])] ++ [9]) = .found .loaded { Settings.default with window := 5 }
    ∧ judgeImage (wholeImage []) = .found .loaded Settings.default := by decide +kernel

theorem test_a_saved_image_has_4013_bytes :
    (Settings.default.image fun _ => 0).length = 4013 ∧ (Settings.default.image fun _ => 0).take 8 = imageHeader ++ [1, 0, 64, 0]
    ∧ (Settings.default.recordBytes fun _ => 0).length = 4001 := by decide +kernel

/-- The state with a FLASH service of an extent at a port state. -/
def servingAt (p : Port) : State :=
  { ready.atPort p with flp := { (ready.atPort p).flp with work := some ⟨0x110000, 4096, none⟩ } }

theorem test_witness_FlashWorkEnds :
    (let s : State := { (ready.atPort (.reading (.hostRead 0 2))).holding [(1, 7)] with
        lif := { ready.lif with readPlace := some 9 } };
      s.flashQuiet = true ∧ (after (.flashReadDone .good) s).lif.tx
        = some (.answer (.reply ⟨9, 0x38, .ok, [0, 2, 0, 0xFF, 7]⟩)))
    ∧ (programming.flashQuiet = true ∧ Memory.wf programming.flash = true
      ∧ (after .programDone programming).flash = [(0x110100, 0x30), (0x110101, 0x0F)]
      ∧ (after .programDone programming).lif.flashSlot.status = .done
      ∧ programming.lif.enable.getLsbD Category.service.bit = true
      ∧ (after .programDone programming).lif.tx
        = some (.report (.serviceDone .flash (after .programDone programming).lif.flashSlot)))
    ∧ (let s : State := { ready.atPort (.programming (.settingsPage 0)) with
        flp := { (ready.atPort (.programming (.settingsPage 0))).flp with
          settingsWork := some (.save (List.replicate 255 0xFF ++ [1, 0]) true) } };
      s.flashQuiet = true ∧ (after .programDone s).flp.port = .programming (.settingsPage 1)
        ∧ (after .programDone s).flash = [(255, 1)])
    ∧ (let s := (servingAt (.erasing .hostErase)).holding [(0x10FFFF, 1), (0x110000, 1), (0x110FFF, 1), (0x111000, 1)];
      s.flashQuiet = true ∧ (after .eraseDone s).flash = [(0x10FFFF, 1), (0x111000, 1)])
    ∧ (after .suspendGuardEnd (servingAt (.guarded .hostErase))).flp.port = .erasing .hostErase
    ∧ (after .deviceResetComplete (ready.atPort .resetting)).flp.port = .free := by decide +kernel

theorem test_witness_FlashWorkEnds_save :
    (let s : State := { ready.atPort (.programming (.settingsPage 1)) with
        flp := { (ready.atPort (.programming (.settingsPage 1))).flp with
          settingsWork := some (.save (List.replicate 256 0xFF ++ [0]) true) } };
      (after .programDone s).flp.image = .modified ∧ (after .programDone s).lif.settingsSlot.status = .done)
    ∧ (let s : State := { ready.atPort (.erasing .settingsErase) with
        flp := { (ready.atPort (.erasing .settingsErase)).flp with
          settingsWork := some (.save (List.replicate 257 0) false) } };
      (after .eraseDone s).flp.port = .programming (.settingsPage 0)) := by decide +kernel

/-- A chunk of two frames read for buffer A. -/
def chunking (p : Port) : State :=
  let s := withBufA (ready.atPort p) (stream .direct false []);
  { s with
    aud := { s.aud with chunk := some ⟨some .a, 0x111000, 0, 2⟩ }
    flash := [(0x111000, 1), (0x111001, 2), (0x111002, 3), (0x111003, 4)]
    flp := { s.flp with work := some ⟨0x120000, 4096, none⟩ } }

theorem test_witness_ChunksArriveAndTransactionsTimeOut :
    ((chunking (.reading .audChunk)).aud.buf .a = some (stream .direct false [])
      ∧ ((after (.chunkArrival .good) (chunking (.reading .audChunk))).aud.buf .a).map (·.held)
        = some [.good 0x0201 0x0403, .good 0xFFFF 0xFFFF])
    ∧ (after (.chunkArrival .good) (chunking (.suspended .hostErase))).flp.port = .guarded .hostErase
    ∧ ((after (.chunkArrival .timeout) (chunking (.reading .audChunk))).aud.buf .a).map (·.held)
        = some [.failed, .failed]
    ∧ (after .flashTimeout (chunking (.reading .audChunk))).flp.port = .resetting
    ∧ (after .suspendGuardEnd (chunking (.guarded .hostErase))).flp.port = .suspended .hostErase
    ∧ (after .suspendGuardEnd (chunking (.guarded .hostErase))).flags.has .eraseSuspended = true
    ∧ (let t := after .eraseDone (after .suspendGuardEnd (chunking (.guarded .hostErase)));
      let t' := after .eraseDone (chunking (.guarded .hostErase));
      Memory.wf (chunking (.guarded .hostErase)).flash = true ∧ (chunking (.guarded .hostErase)).aud.chunk.isSome = true
        ∧ t.flp.port = .reading .audChunk ∧ t.flp.work = none ∧ t.flags.has .eraseSuspended = false
        ∧ t.flags = t'.flags ∧ t.flp.port = t'.flp.port ∧ t.lif = t'.lif)
    ∧ (let s := chunking (.suspended .hostErase);
      s.flp.work.isSome = true ∧ (after .eraseDone { s with flags := s.flags.raise .eraseSuspended }).flags.flash = 4)
    ∧ (let s : State := { ready.atPort (.reading .audChunk) with
        aud := { Aud.reset with chunk := some ⟨none, 0x111000, 0, 2⟩ } };
      (after (.chunkArrival .good) s).aud.chunk = none) := by decide +kernel

theorem test_witness_ChunksArriveAndTransactionsTimeOut_asks :
    (let a := (withBufA ready { stream .fromShow true [.failed] with read := 1023, fetch := 1024, clip := ⟨8192, 1500, 0⟩ }).aud;
      a.chunk = none ∧ a.playing = some .a ∧ a.seek.chunk = some ⟨some .a, 0x113000, 1024, 476⟩
        ∧ (a.seek.bufA.map (·.fetch)) = some 1500 ∧ a.seek.seek = a.seek
        ∧ ({ a.seek with chunk := none } : Aud).seek = { a.seek with chunk := none })
    ∧ (let a : Aud := { Aud.reset with bufB := some (stream .direct false []) };
      a.chunk = none ∧ a.seek.chunk = some ⟨some .b, 0x111000, 0, 1024⟩) := by decide +kernel

theorem test_witness_ChunksArriveAndTransactionsTimeOut_owners :
    (let s : State := { ready.atPort (.reading (.hostRead 0 2)) with lif := { ready.lif with readPlace := some 9 } };
      (after .flashTimeout s).lif.tx = some (.answer (.reply ⟨9, 0x38, .ok, [1, 0, 0]⟩))
        ∧ after (.flashReadDone .timeout) s = after .flashTimeout s)
    ∧ (after .flashTimeout (servingAt (.erasing .hostErase))).lif.flashSlot.failure = .flashTimeout
    ∧ (after .flashTimeout loading).seq.result.failure = .flashTimeout
    ∧ (after .flashTimeout (loadingDirectory (markCue 10))).seq.result.failure = .flashTimeout
    ∧ after .flashTimeout ready = ready := by decide +kernel

/-- A directory copy of a user at the port. -/
def copyingFor (why : CopyFor) : State :=
  { (ready.atPort (.reading .directory)).withClip1 with
    aud := { (ready.withClip1).aud with copying := some why } }

/-- A save at a port state. -/
def savingAt (p : Port) : State :=
  { ready.atPort p with flp := { (ready.atPort p).flp with settingsWork := some (.save [0] false) } }

theorem test_witness_ChunksArriveAndTransactionsTimeOut_settings :
    (copyingFor .startUp).aud.clips ≠ Table.fill 64 none
    ∧ (after .flashTimeout (copyingFor .startUp)).aud.clips = Table.fill 64 none
    ∧ (after .flashTimeout (copyingFor .startUp)).flp.settingsWork = some (.load true [])
    ∧ (after .flashTimeout (copyingFor .release)).aud.clips = Table.fill 64 none
    ∧ (after .flashTimeout (readingSettings true)).flp.image = .bad
    ∧ (after .flashTimeout (readingSettings false)).lif.settingsSlot.failure = .flashTimeout
    ∧ (after .flashTimeout (savingAt (.programming (.settingsPage 0)))).flp.image = .modified
    ∧ (after .flashTimeout (savingAt (.erasing .settingsErase))).lif.settingsSlot.failure = .flashTimeout := by
  decide +kernel

/-- A FLASH_READ, a FLASH_WRITE of n bytes and a FLASH_ERASE of a size code. -/
def readRequest (region : Byte) (offset len : Nat) : Request := ask 0x38 ([region] ++ byte4 offset ++ byte2 len)
def writeRequest (region : Byte) (offset n : Nat) : Request :=
  ask 0x39 ([region] ++ byte4 offset ++ List.replicate n 0)
def eraseRequest (region : Byte) (offset : Nat) (size : Byte) : Request := ask 0x3A ([region] ++ byte4 offset ++ [size])

theorem test_witness_HostFlashRequestsAreJudged :
    (let q := readRequest 2 0xFEEFE00 512;
      (ready.asking q).takes .flashRead q = true ∧ (ready.asking q).lif.readPlace = none
        ∧ (after .flashRead (ready.asking q)).flp.port = .reading (.hostRead 0xFFFFE00 512))
    ∧ (let q := readRequest 0 0xFFFF 2;
      after .flashRead (ready.asking q) = (ready.asking q).answered q .outOfRegion [])
    ∧ (let q := readRequest 0 0 513;
      after .flashRead (ready.asking q) = (ready.asking q).answered q .outOfRange [])
    ∧ (let q := writeRequest 1 0 256;
      (ready.asking q).takes .flashWrite q = true
        ∧ (after .flashWrite (ready.asking q)).flp.port = .programming .hostProgram
        ∧ (after .flashWrite (ready.asking q)).flp.work = some ⟨0x10000, 256, some (List.replicate 256 0)⟩)
    ∧ (let q := writeRequest 1 255 2;
      after .flashWrite (ready.asking q) = (ready.asking q).answered q .outOfRange [])
    ∧ (let q := writeRequest 1 0 0;
      after .flashWrite (ready.asking q) = (ready.asking q).answered q .outOfRange [])
    ∧ (let q := eraseRequest 1 0x10000 1;
      (ready.asking q).takes .flashErase q = true
        ∧ (after .flashErase (ready.asking q)).flp.work = some ⟨0x20000, 65536, none⟩
        ∧ (after .flashErase (ready.asking q)).flp.port = .erasing .hostErase)
    ∧ (let q := eraseRequest 1 4097 0;
      after .flashErase (ready.asking q) = (ready.asking q).answered q .outOfRange []) := by decide +kernel

theorem test_witness_HostFlashRequestsAreJudged_locked :
    (let q := eraseRequest 1 0 0;
      let s : State := { ready.asking q with flp := { ready.flp with locks := [⟨.showSlot, 0x10FFF, 0x11000⟩] } };
      (after .flashErase s).flags.has .lockedRefusal = true ∧ (after .flashErase s).flp.work = none)
    ∧ (let q := eraseRequest 1 0 0;
      let s : State := { ready.asking q with flp := { ready.flp with locks := [⟨.showSlot, 0x11000, 0x12000⟩] } };
      (after .flashErase s).flp.port = .erasing .hostErase) := by decide +kernel

/-! ## The show link -/

/-- A character of a byte with even parity, its three samples alike. -/
def charOf (b : Byte) : LinkChar :=
  let odd := (List.range 8).countP (fun i => b.getLsbD i) % 2 = 1;
  let w : BitVec 11 := (b.setWidth 11 <<< (1 : Nat)) ||| (if odd then 0x200 else 0) ||| 0x400;
  ⟨w, w, w⟩

/-- The same character with its parity bit turned, and with a low stop bit. -/
def badParity (b : Byte) : LinkChar := ⟨(charOf b).s1 ^^^ 0x200, (charOf b).s2 ^^^ 0x200, (charOf b).s3 ^^^ 0x200⟩
def badStop (b : Byte) : LinkChar := ⟨(charOf b).s1 &&& 0x3FF, (charOf b).s2 &&& 0x3FF, (charOf b).s3⟩

/-- GET_IDENT with tag 7 as a frame without its start byte. -/
def identFrame : List Byte := (linkFrame 7 0x01 []).drop 1

end Sys2Proof.Tests

namespace Sys2Proof.Machine

/-- The state inside a frame. -/
def State.inFrame (s : State) (bs : List Byte) : State := { s with lif := { s.lif with rx := .inFrame bs } }

end Sys2Proof.Machine

namespace Sys2Proof.Tests

set_option Elab.async false

open Sys2Proof.Machine

theorem test_witness_LinkReceivesCharactersAndFrames :
    charByte (charOf 0xC3) = 0xC3 ∧ charStarts (charOf 0xC3) = true ∧ parityBad (charOf 0xC3) = false
    ∧ framingBad (charOf 0xC3) = false ∧ ready.completes (charOf 0xC3) = false
    ∧ (after (.linkByteReceived (charOf 0xC3)) ready).lif.rx = .inFrame []
    ∧ (after (.linkByteReceived (charOf 0xC2)) ready).lif.rx = .hunting
    ∧ (after (.linkByteReceived (charOf 4)) (ready.inFrame [1])).flags.has .badCrc = true
    ∧ (after (.linkByteReceived (charOf 4)) (ready.inFrame [0])).lif.rx = .inFrame [0, 4]
    ∧ (after (.linkByteReceived (badParity 4)) (ready.inFrame [0])).flags.link = 1
    ∧ (after (.linkByteReceived (badStop 4)) (ready.inFrame [0])).flags.link = 2
    ∧ charStarts ⟨0x7FF, 0x7FF, 0⟩ = false ∧ charStarts ⟨0x7FF, 0, 0⟩ = true
    ∧ (after .gapTimeout (ready.inFrame [0])).flags.has .gapTimeout = true := by decide +kernel

theorem test_witness_LinkReceivesCharactersAndFrames_frame :
    (let s := ready.inFrame (identFrame.take 5);
      let c := charOf (identFrame.getD 5 0);
      s.completes c = true ∧ identFrame.length = 6 + u16 identFrame 0
        ∧ u16 identFrame 4 = (crc16 (identFrame.take 4)).toNat
        ∧ (after (.linkFrameReceived c) s).lif.inbox = [ask 0x01 []]
        ∧ after (.linkByteReceived c) s = s)
    ∧ (let s := ready.inFrame (identFrame.take 5);
      let s : State := { s with lif := { s.lif with inbox := List.replicate 4 (ask 0x02 []) } };
      (after (.linkFrameReceived (charOf (identFrame.getD 5 0))) s).lif.tx
        = some (.answer (.busy ⟨7, 1, .busy, []⟩)))
    ∧ (let s : State := { ready with lif := { ready.lif with
        tx := some (.report (.ready .powerOn .blank true)), reports := [.ready .release .blank true] } };
      (after .frameSent s).lif.tx = some (.report (.ready .release .blank true))) := by decide +kernel

theorem test_witness_LinkReceivesCharactersAndFrames_sent :
    (Sending.report (.site 7 300 .low 2 .restricted true)).frame.take 13
      = [0xC3, 8, 0, 0, 0xE7, 7, 44, 1, 1, 2, 0, 1, 1]
    ∧ (Sending.report (.groupState 3 (some .opening) .fault .driveTrip false 300 299 (some 9))).frame.take 17
      = [0xC3, 12, 0, 0, 0xE5, 3, 1, 1, 4, 2, 0, 44, 1, 43, 1, 1, 9]
    ∧ (Sending.report (.showState .idle none none (some .load))).frame.take 15
      = [0xC3, 10, 0, 0, 0xE1, 0, 0, 0, 0, 0, 0, 0, 0, 1, 7]
    ∧ (Sending.answer (.busy ⟨7, 0x20, .busy, [1]⟩)).frame.take 6 = [0xC3, 1, 0, 7, 0xA0, 2] := by decide +kernel

theorem test_witness_RequestsWaitOrAreRefused :
    (let q := ask 0x40 [1];
      (ready.asking q).lif.inbox.head? = some q ∧ (ready.asking q).linkRefusal .halt q.payload = some .badLength
        ∧ after .halt (ready.asking q) = (ready.asking q).answered q .badLength []
        ∧ after (.release ⟨false, false, false⟩) (ready.asking q) = ready.asking q)
    ∧ (let q := ask 0x40 [];
      let s : State := { ready.asking q with lif := { (ready.asking q).lif with halted := true } };
      s.linkRefusal .halt [] = some .halted)
    ∧ (let q := ask 0x20 [0];
      let s : State := { ready.asking q with lif := { (ready.asking q).lif with starting := true } };
      s.linkRefusal .arm [0] = some .busy)
    ∧ (let q := ask 0x20 [0];
      let s : State := { ready.asking q with
        lif := { (ready.asking q).lif with answers := List.replicate 4 (.reply ⟨0, 0, .ok, []⟩) } };
      4 ≤ s.lif.placesUsed ∧ after .arm s = s)
    ∧ (let q := ask 0x99 [];
      after .unknownRequest (ready.asking q) = (ready.asking q).answered q .unknownKind [])
    ∧ (let q := ask 0x19 [0x81];
      (ready.asking q).takes .setReports q = true ∧ (after .setReports (ready.asking q)).lif.enable = 1)
    ∧ ready.report (.mark 1 2 3) = { ready with lif := { ready.lif with reports := [.mark 1 2 3] } } := by decide +kernel

theorem test_witness_StatusRequestsAnswer :
    (ready.asking (ask 0x01 [])).takes .getIdent (ask 0x01 []) = true
    ∧ (ready.asking (ask 0x02 [])).takes .getStatus (ask 0x02 []) = true
    ∧ (ready.asking (ask 0x03 [23])).takes .getGroup (ask 0x03 [23]) = true
    ∧ (ready.asking (ask 0x04 [95])).takes .getFixture (ask 0x04 [95]) = true
    ∧ (ready.asking (ask 0x05 [])).takes .getChannels (ask 0x05 []) = true
    ∧ (ready.asking (ask 0x07 [])).takes .getTripLog (ask 0x07 []) = true
    ∧ (ready.asking (ask 0x08 [])).takes .getService (ask 0x08 []) = true
    ∧ (ready.asking (ask 0x09 [])).takes .getLoadResult (ask 0x09 []) = true
    ∧ ready.identFields.length = 32 ∧ ready.statusFields.length = 60 ∧ (ready.fixtureFields 0).length = 71
    ∧ (ready.fixture0.fixtureFields 0).length = 71 ∧ ready.channelFields.length = 270
    ∧ ready.tripLogFields.length = 105 ∧ ready.serviceFields.length = 27 ∧ ready.loadFields.length = 35 := by
  decide +kernel

/-- A SET_ZONE of zone 0 with a delay. -/
def zoneRequest (delay : Byte) : Request := ask 0x12 [0, 2, 0xE8, 3, delay]

/-- The SET_WIND of the default settings. -/
def windRequest : Request := ask 0x13 Settings.default.wind.bytes

/-- A SET_SHOW_OPTIONS with an announcement clip and a stop fade. -/
def optionsRequest (clip : Nat) : Request := ask 0x18 (ShowOptions.bytes ⟨500, clip, 5, 3000⟩)

theorem test_witness_OtherSettingsAreReplaced :
    (let s := ready.asking (zoneRequest 250);
      s.takes .setZone (zoneRequest 250) = true ∧ zoneOf (zoneRequest 250).payload = some ⟨.mono, 1000, 250⟩
        ∧ ((after .setZone s).aud.lines.get 0).length = 12000)
    ∧ zoneOf (zoneRequest 251).payload = none
    ∧ (let s : State := { ready.asking (zoneRequest 250) with
        cfg := { ready.cfg with zones := (ready.cfg.zones.set 1 ⟨.mono, 1000, 250⟩).set 2 ⟨.mono, 1000, 1⟩ } };
      after .setZone s = s.answered (zoneRequest 250) .delayPool [])
    ∧ (let s := ready.asking windRequest;
      s.takes .setWind windRequest = true ∧ windOf windRequest.payload = some Settings.default.wind)
    ∧ (let q := ask 0x14 (LevelSettings.bytes ⟨500, 499, 498, 800⟩);
      (ready.asking q).takes .setLevel q = true ∧ levelOf q.payload = some ⟨500, 499, 498, 800⟩)
    ∧ (let q := ask 0x17 [10];
      (ready.asking q).takes .setDriveBus q = true ∧ (after .setDriveBus (ready.asking q)).cfg.window = 10)
    ∧ (let q := ask 0x17 [11];
      after .setDriveBus (ready.asking q) = (ready.asking q).answered q .outOfRange []) := by decide +kernel

theorem test_witness_OtherSettingsAreReplaced_ranges :
    windOf (Settings.default.wind.bytes.set 20 51) = none
    ∧ (windOf (Settings.default.wind.bytes.set 20 19)).isSome = true
    ∧ windOf (Settings.default.wind.bytes.set 20 20) = none ∧ levelOf (LevelSettings.bytes ⟨500, 500, 498, 800⟩) = none
    ∧ (optionsOf (ShowOptions.bytes ⟨1000, 64, 30, 10000⟩)).isSome = true
    ∧ optionsOf (ShowOptions.bytes ⟨1001, 64, 30, 10000⟩) = none ∧ (counterOf [0, 200, 55]).isSome = true := by
  decide +kernel

theorem test_witness_OtherSettingsAreReplaced_options :
    (let s := ready.withClip1.asking (optionsRequest 1);
      s.takes .setShowOptions (optionsRequest 1) = true
        ∧ optionsOf (optionsRequest 1).payload = some ⟨500, 1, 5, 3000⟩
        ∧ s.flp.serviceMeets (clipExtent clip1) = false
        ∧ (after .setShowOptions s).flp.locks = [⟨.announcement, 0x111000, 0x112000⟩])
    ∧ (let s := ready.trippedNow.asking (optionsRequest 1);
      after .setShowOptions s = s.answered (optionsRequest 1) .tripped [])
    ∧ (let s := (ready.inShow .running).asking (optionsRequest 0);
      (after .setShowOptions s).cfg.options.masterGain = 500)
    ∧ optionsOf (optionsRequest 65).payload = none := by decide +kernel

theorem test_witness_DirectClipPlaysAndStops :
    (let q := ask 0x2A [1, 1];
      let s := ready.withClip1.asking q;
      s.takes .directClip q = true ∧ saysStop q = false ∧ lookupClip s.aud.clips 1 = some clip1
        ∧ (after .directClipPlay s).flp.port = .reading .audChunk
        ∧ ((after .directClipPlay s).aud.bufA.map (·.clip)) = some clip1)
    ∧ (let q := ask 0x2A [0, 9];
      let s := (withBufA ready (stream .direct true [])).asking q;
      s.takes .directClip q = true ∧ saysStop q = true ∧ (after .directClipStop s).aud.bufA = none)
    ∧ (let q := ask 0x2A [2, 1];
      after .directClipPlay (ready.withClip1.asking q) = (ready.withClip1.asking q).answered q .outOfRange []) := by
  decide +kernel

theorem test_witness_HaltAndRelease_directory :
    (let s : State := { copying .release [] with sup := { ready.sup with permit := false } };
      let t := after .directoryReadDone s;
      s.lif.reports.length < 16 ∧ s.lif.halted = false ∧ t.sup.permit = true
        ∧ t.lif.tx = some (.report (.ready .release .blank true)) ∧ t.flp.port = .free ∧ t.aud.bufA = none)
    ∧ (let s : State := { (copying .release []).trippedNow with sup := { (ready.trippedNow).sup with permit := false } };
      let t := after .directoryReadDone s;
      t.sup.permit = false ∧ t.aud.bufA.map (·.clip) = some clip1) := by decide +kernel

theorem test_witness_HaltAndRelease :
    (let q := ask 0x40 [];
      let s := (ready.group0 .opening).asking q;
      s.takes .halt q = true ∧ (after .halt s).lif.halted = true ∧ (after .halt s).sup.permit = false
        ∧ ((after .halt s).groups.get 0).interlock = some .closing)
    ∧ (let q := ask 0x41 [];
      let s : State := { (ready.group0 .shut).asking q with
        lif := { ((ready.group0 .shut).asking q).lif with halted := true }, clock := 77 };
      s.takes .release q = true ∧ (after (.release ⟨false, false, false⟩) s).clock = 0
        ∧ (after (.release ⟨false, false, false⟩) s).lif.halted = false
        ∧ ((after (.release ⟨false, false, false⟩) s).groups.get 0).interlock = some .closing
        ∧ (after (.release ⟨false, false, false⟩) s).flp.port = .reading .directory
        ∧ (after (.release ⟨false, true, false⟩) s).sup.mode = .tripped)
    ∧ (let q := ask 0x41 [];
      after (.release ⟨false, false, false⟩) (ready.asking q) = (ready.asking q).answered q .wrongState []) := by
  decide +kernel

end Sys2Proof.Tests
end

section
/-! The clip directory (R10 to R12, R15): when an entry is valid, which entry claims an id, what a look-up gives. -/

namespace Sys2Proof.Machine

/-! ## A directory entry (R11) -/

/-- An entry names a clip exactly when every condition of R11 holds of its 64 bytes. -/
theorem entryOf_eq_some_iff (sector : List Byte) (pos id : Nat) (c : Clip) :
    entryOf sector pos = some (id, c) ↔
      (let p := (sector.drop (64 * pos)).take 64
      id = u16 p 0 ∧ c = ⟨u32 p 2, u32 p 6, u16 p 10⟩ ∧ 1 ≤ id ∧ id ≤ 64 ∧ c.start % 4096 = 0 ∧ 4096 ≤ c.start
        ∧ 1 ≤ c.frames ∧ c.start + 4 * c.frames ≤ 0xFEF0000 ∧ c.gain ≤ 1000 ∧ ∀ b ∈ p.drop 12, b = 0) := by
  have hsize : clipsSize = 0xFEF0000 := rfl
  simp only [entryOf, Option.ite_none_right_eq_some, Option.some.injEq, Prod.mk.injEq, within_iff, List.all_eq_true,
    decide_eq_true_eq, hsize]
  constructor
  · rintro ⟨⟨⟨hlo, hhi⟩, hrest⟩, rfl, rfl⟩
    exact ⟨rfl, rfl, hlo, hhi, hrest⟩
  · rintro ⟨rfl, rfl, hlo, hhi, hrest⟩
    exact ⟨⟨⟨hlo, hhi⟩, hrest⟩, rfl, rfl⟩

/-! ## The entry that claims an id (R12) -/

/-- The valid entry at a position gives an id its clip, and no valid entry at a lower position bears the id. -/
def LowestValidAt (entries : List (Option (Nat × Clip))) (id : Nat) (c : Clip) (pos : Nat) : Prop :=
  entries[pos]? = some (some (id, c)) ∧ ∀ p, p < pos → ∀ c', entries[p]? ≠ some (some (id, c'))

variable {entries : List (Option (Nat × Clip))} {entry : Option (Nat × Clip)} {id pos : Nat} {c c' : Clip}

theorem lowestValidAt_cons_zero : LowestValidAt (entry :: entries) id c 0 ↔ entry = some (id, c) := by
  simp [LowestValidAt]

/-- Behind an entry that does not bear the id, the lowest valid entry is that of the rest, one position on. -/
theorem lowestValidAt_cons_succ :
    LowestValidAt (entry :: entries) id c (pos + 1) ↔ (∀ c', entry ≠ some (id, c')) ∧ LowestValidAt entries id c pos := by
  constructor
  · rintro ⟨hat, hbelow⟩
    exact ⟨fun c' h => hbelow 0 pos.succ_pos c' (by simp [h]), by simpa using hat,
      fun p hp c' => by simpa using hbelow (p + 1) (Nat.succ_lt_succ hp) c'⟩
  · rintro ⟨hhead, hat, hbelow⟩
    refine ⟨by simpa using hat, fun p hp c' => ?_⟩
    cases p with
    | zero => simpa using hhead c'
    | succ p => simpa using hbelow p (Nat.lt_of_succ_lt_succ hp) c'

theorem claimOf_cons_bearing (rest : List (Option (Nat × Clip))) : claimOf (some (id, c) :: rest) id = some c := by
  simp [claimOf]

theorem claimOf_cons_other (rest : List (Option (Nat × Clip))) (h : ∀ c', entry ≠ some (id, c')) :
    claimOf (entry :: rest) id = claimOf rest id := by
  match entry with
  | none => rfl
  | some (i, c) =>
    have hne : i ≠ id := fun e => h c (by rw [e])
    simp [claimOf, hne]

/-- The clip that claims an id is that of the lowest valid entry bearing it (R12). -/
theorem claimOf_eq_some_iff (entries : List (Option (Nat × Clip))) (id : Nat) (c : Clip) :
    claimOf entries id = some c ↔ ∃ pos, LowestValidAt entries id c pos := by
  induction entries with
  | nil => simp [claimOf, LowestValidAt]
  | cons entry rest ih =>
    rw [← Nat.or_exists_add_one]
    simp only [lowestValidAt_cons_zero, lowestValidAt_cons_succ, exists_and_left, ← ih]
    by_cases hbears : ∃ c', entry = some (id, c')
    · obtain ⟨c', rfl⟩ := hbears
      simp [claimOf_cons_bearing]
    · have hother : ∀ c', entry ≠ some (id, c') := not_exists.mp hbears
      simp [claimOf_cons_other rest hother, hother]

/-! ## The clip table and its look-up (R12, R15) -/

/-- A clip is read at a position of the settled directory exactly when the position is one of the 64 and its entry names it. -/
theorem entries_getElem?_eq_some (sector : List Byte) (pos : Nat) (e : Nat × Clip) :
    ((List.range 64).map (entryOf sector))[pos]? = some (some e) ↔ pos < 64 ∧ entryOf sector pos = some e := by
  by_cases hpos : pos < 64 <;> simp [hpos]

/-- The table gives an id the clip of the valid entry at the lowest of the 64 positions that bears it (R12). -/
theorem settleDirectory_get_eq_some_iff (sector : List Byte) (i : Fin 64) (c : Clip) :
    (settleDirectory sector).get i = some c ↔
      ∃ pos, pos < 64 ∧ entryOf sector pos = some (i.val + 1, c)
        ∧ ∀ p, p < pos → ∀ c', entryOf sector p ≠ some (i.val + 1, c') := by
  simp only [settleDirectory, Table.get_ofFn, claimOf_eq_some_iff, LowestValidAt, ne_eq, entries_getElem?_eq_some, and_assoc]
  refine exists_congr fun pos => and_congr_right fun hpos => and_congr_right fun _ => ?_
  exact forall₂_congr fun p hp => by simp [lt_trans hp hpos]

/-- A look-up gives the ids 1 to 64 their entry, and no other id a clip (R15). -/
theorem lookupClip_eq_some_iff (clips : Table 64 (Option Clip)) (id : Nat) (c : Clip) :
    lookupClip clips id = some c ↔ ∃ i : Fin 64, id = i.val + 1 ∧ clips.get i = some c := by
  cases id with
  | zero => simp [lookupClip]
  | succ n =>
    by_cases hn : n < 64
    · have hentry : lookupClip clips (n + 1) = clips.get ⟨n, hn⟩ := by simp [lookupClip, hn]
      rw [hentry]
      constructor
      · exact fun h => ⟨⟨n, hn⟩, rfl, h⟩
      · rintro ⟨i, hi, h⟩
        obtain rfl : i = ⟨n, hn⟩ := Fin.ext (Nat.succ.inj hi).symm
        exact h
    · have habsent : lookupClip clips (n + 1) = none := by simp [lookupClip, hn]
      rw [habsent]
      constructor
      · exact fun h => nomatch h
      · rintro ⟨i, hi, -⟩
        exact absurd i.isLt (by omega)

/-- Settles O10: R11 for one entry, R12 by induction on the entries in position order, and the two cases of a look-up. -/
theorem directoryGivesLowestValidEntry : Obligations.DirectoryGivesLowestValidEntry :=
  ⟨fun sector => ⟨entryOf_eq_some_iff sector, settleDirectory_get_eq_some_iff sector⟩, lookupClip_eq_some_iff⟩

end Sys2Proof.Machine
end

section
/-! The setpoint computation (R74 to R83): the fade's height, the derate and the caps, the height curve, the pump ramp. -/

namespace Sys2Proof.Machine

/-! ## Stage 1: the faded height (R74, R77) -/

/-- Show time is read in RUNNING, HELD and STOPPING alone (R45). -/
theorem showTime_before_start (s : State) (h : s.seq.st = .idle ∨ s.seq.st = .loading ∨ s.seq.st = .armed) :
    s.showTime = none := by
  rcases h with h | h | h <;> simp [State.showTime, h]

/-- The time elapsed on the site clock is the difference of its readings modulo 2^32. -/
theorem siteElapsed_toNat (now began : Tick) :
    (now - began).toNat = (now.toNat + 4294967296 - began.toNat) % 4294967296 := by
  have := began.isLt
  rw [BitVec.toNat_sub]
  congr 1
  omega

/-- A part e/d of a width, e below d, truncates to a figure within the width. -/
theorem tdiv_part_within {w e d : Int} (hw : 0 ≤ w) (he : 0 ≤ e) (hed : e < d) :
    0 ≤ (w * e).tdiv d ∧ (w * e).tdiv d ≤ w := by
  have hprod : 0 ≤ w * e := Int.mul_nonneg hw he
  have hle : w * e ≤ w * d := Int.mul_le_mul_of_nonneg_left hed.le hw
  rw [Int.tdiv_eq_ediv_of_nonneg hprod]
  exact ⟨Int.ediv_nonneg hprod (by omega), Int.ediv_le_of_le_mul (by omega) hle⟩

theorem fadeValue_ended {start target elapsed dur : Int} (h : dur ≤ elapsed) :
    fadeValue start target elapsed dur = target := if_neg (not_lt.mpr h)

theorem fadeValue_running {start target elapsed dur : Int} (h : elapsed < dur) :
    fadeValue start target elapsed dur = start + ((target - start) * elapsed).tdiv dur := if_pos h

/-- A fade's value lies between its ends: a falling fade takes from the start what a rising one would add to it. -/
theorem fadeValue_between (start target : Int) {elapsed : Int} (dur : Int) (he : 0 ≤ elapsed) :
    min start target ≤ fadeValue start target elapsed dur ∧ fadeValue start target elapsed dur ≤ max start target := by
  rcases lt_or_ge elapsed dur with hrun | hend
  · rw [fadeValue_running hrun]
    rcases le_total start target with hrise | hfall
    · obtain ⟨hlo, hhi⟩ := tdiv_part_within (sub_nonneg.mpr hrise) he hrun
      omega
    · obtain ⟨hlo, hhi⟩ := tdiv_part_within (sub_nonneg.mpr hfall) he hrun
      have hneg : (target - start) * elapsed = -((start - target) * elapsed) := by ring
      rw [hneg, Int.neg_tdiv]
      omega
  · rw [fadeValue_ended hend]
    omega

section
variable {f : GroupFade} {showNow : Option Int} {now : Tick} {e : Int}

/-- With no show time to read, a record gives its target. -/
theorem height_of_no_time (h : f.began.elapsed showNow now = none) : f.height showNow now = f.target := by
  simp [GroupFade.height, fadeNow, h]

theorem height_of_elapsed (h : f.began.elapsed showNow now = some e) :
    f.height showNow now = (fadeValue f.start f.target e f.dur).toNat := by
  simp [GroupFade.height, fadeNow, h]

/-- The height is the fade's value, which between heights is none below 0. -/
theorem height_cast (h : f.began.elapsed showNow now = some e) (he : 0 ≤ e) :
    (f.height showNow now : Int) = fadeValue f.start f.target e f.dur := by
  have := (fadeValue_between f.start f.target f.dur he).1
  rw [height_of_elapsed h]
  omega

theorem height_ended (h : f.began.elapsed showNow now = some e) (hend : f.dur ≤ e) : f.height showNow now = f.target := by
  rw [height_of_elapsed h, fadeValue_ended hend, Int.toNat_natCast]

/-- The present faded height lies between the record's heights, both ends included (R77). -/
theorem height_between (h : f.began.elapsed showNow now = some e) (he : 0 ≤ e) :
    min f.start f.target ≤ f.height showNow now ∧ f.height showNow now ≤ max f.start f.target := by
  have hbetween := fadeValue_between f.start f.target f.dur he
  rw [← height_cast h he] at hbetween
  omega

end

/-! ## Stage 2: the wind derate (R78, R149) -/

/-- A row that does not increase gives a higher band an entry at most that of a lower one. -/
theorem derateAt_antitone {w : WindSettings} {c b b' : Nat} (ok : w.rowOk c = true) (hb : b ≤ b') (hb' : b' ≤ 7) :
    w.derateAt c b' ≤ w.derateAt c b := by
  induction b', hb using Nat.le_induction with
  | base => exact le_rfl
  | succ n _ ih =>
    have entry : ∀ k, k ≤ 7 → ((List.range 8).map fun b => w.derateAt c b)[k]? = some (w.derateAt c k) := by
      intro k hk
      simp [List.getElem?_range (Nat.lt_succ_of_le hk)]
    have next : w.derateAt c (n + 1) ≤ w.derateAt c n :=
      of_decide_eq_true ((chain_iff _ _).mp ok n _ _ (entry n (by omega)) (entry (n + 1) hb'))
    exact next.trans (ih (by omega))

/-! ## Stage 3: the caps (R79, R152) -/

/-- The effective level state is DRY where DRY was measured by a VALID channel. -/
theorem effective_eq_dry_iff (u : Sup) : u.effective = .dry ↔ u.measured = .dry ∧ (u.channels.get 1).valid = true := by
  cases hv : (u.channels.get 1).valid <;> simp [Sup.effective, hv]

/-- The effective level state is LOW where LOW was measured, and wherever the channel is INVALID. -/
theorem effective_eq_low_iff (u : Sup) : u.effective = .low ↔ u.measured = .low ∨ (u.channels.get 1).valid = false := by
  cases hv : (u.channels.get 1).valid <;> simp [Sup.effective, hv]

/-- Settles O22: the fade's value between its ends, a row's entries falling by band, and the two effective level states that
stage 3 judges. -/
theorem derateAndCapsLimitHeight : Obligations.DerateAndCapsLimitHeight := by
  refine ⟨⟨fun s g => ?_, by decide, by decide⟩, fun s g => ?_, fun s g => ?_⟩
  · intro f elapsed
    have helapsed : elapsed = f.began.elapsed s.showTime s.clock := by
      cases hb : f.began with
      | onShow began => simp only [elapsed, FadeTime.elapsed, hb]
      | onSite began => simp only [elapsed, FadeTime.elapsed, hb, siteElapsed_toNat]
    rw [helapsed]
    refine ⟨showTime_before_start s, height_of_no_time, fun e he => ⟨height_ended he, fun h0 hrun => ?_, height_between he⟩⟩
    exact (height_cast he h0).trans (fadeValue_running hrun)
  · refine ⟨rfl, fun h1000 => ?_, fun b b' h ok hb hb' => ?_⟩
    · calc s.stage2 g = s.stage1 g * 1000 / 1000 := by rw [State.stage2, WindSettings.derateAt, h1000]
        _ = s.stage1 g := Nat.mul_div_cancel _ (by decide)
    · exact Nat.div_le_div_right (Nat.mul_le_mul_left h (derateAt_antitone ok hb hb'))
  · simp only [State.stage3, State.isTripped, State.isDry, effective_eq_dry_iff, effective_eq_low_iff, Bool.or_eq_true,
      decide_eq_true_eq, or_assoc]

/-! ## Stage 4: the height curve (R71, R80) -/

section
variable {pts : List Point} {p q : Point} {i : Nat}

/-- Of two neighbouring points of an accepted curve the later is higher and no slower. -/
theorem curveOk_neighbours (ok : curveOk pts = true) (hp : pts[i]? = some p) (hq : pts[i + 1]? = some q) :
    p.h < q.h ∧ p.v ≤ q.v := by
  simp only [curveOk, Bool.and_eq_true] at ok
  simpa using (chain_iff _ _).mp ok.2 i p q hp hq

/-- The heights of an accepted curve rise. -/
theorem curveOk_rising (ok : curveOk pts = true) : pts.Pairwise fun u v => u.h < v.h := by
  have : IsTrans Point fun u v => u.h < v.h := ⟨fun _ _ _ => Nat.lt_trans⟩
  refine List.isChain_iff_pairwise.mp (List.isChain_iff_getElem.mpr fun i hi => ?_)
  exact (curveOk_neighbours ok (List.getElem?_eq_getElem (Nat.lt_of_succ_lt hi)) (List.getElem?_eq_getElem hi)).1

end

section
variable {r : GroupRecord} {h : Nat} {p q : Point}

theorem speedAt_pos (h0 : 0 < h) : r.speedAt h = (interp r.curve h).toNat := if_neg h0.ne'

theorem speedAt_first (h0 : 0 < h) (hp : r.curve.head? = some p) (hle : h ≤ p.h) : r.speedAt h = p.v := by
  rw [speedAt_pos h0, interp_first _ p _ hp (by omega), Int.toNat_natCast]

theorem speedAt_last (ok : curveOk r.curve = true) (h0 : 0 < h) (hp : r.curve.getLast? = some p) (hle : p.h ≤ h) :
    r.speedAt h = p.v := by
  rw [speedAt_pos h0, interp_last _ p _ (curveOk_rising ok) hp (by omega), Int.toNat_natCast]

/-- Between neighbouring points the integer line through them is that of the naturals: heights rise and speeds do not fall. -/
theorem speedAt_between (ok : curveOk r.curve = true) (h0 : 0 < h) {i : Nat} (hp : r.curve[i]? = some p)
    (hq : r.curve[i + 1]? = some q) (hph : p.h ≤ h) (hhq : h < q.h) :
    r.speedAt h = p.v + (h - p.h) * (q.v - p.v) / (q.h - p.h) := by
  obtain ⟨hrise, hfaster⟩ := curveOk_neighbours ok hp hq
  have hline := interp_between _ p q i h (curveOk_rising ok) hp hq (by omega) (by omega)
  rw [Int.fdiv_eq_ediv_of_nonneg _ (by omega), ← Int.ofNat_sub hph, ← Int.ofNat_sub hfaster,
    ← Int.ofNat_sub hrise.le] at hline
  rw [speedAt_pos h0, hline]
  exact_mod_cast Int.toNat_natCast _

end

/-- Settles O23: the four cases of R80 by the laws of a rising table, and the figures of its example by evaluation. -/
theorem curveGivesSpeed : Obligations.CurveGivesSpeed := by
  refine ⟨fun r => ⟨rfl, fun ok h h0 => ⟨fun p => speedAt_first h0, fun p => speedAt_last ok h0, ?_⟩⟩, fun r hr => ?_⟩
  · exact fun i p q hp hq hph hhq => ⟨speedAt_between ok h0 hp hq hph hhq, (curveOk_neighbours ok hp hq).2⟩
  · simp only [GroupRecord.speedAt, hr]
    decide

/-! ## Stage 6: the pump ramp (R83) -/

section
variable {c0 target : Nat} (up down : Nat)

theorem rampTo_above (h : c0 < target) : rampTo c0 target up down = min target (c0 + up) := if_pos h

theorem rampTo_below (h : target < c0) : rampTo c0 target up down = max target (c0 - down) := by
  simp [rampTo, h, h.not_gt]

theorem rampTo_self : rampTo c0 c0 up down = c0 := by simp [rampTo]

end

/-- The step by which a RUNNING group's command falls: the emergency step while the site is TRIPPED or the part halted. -/
theorem fallingStep_eq (s : State) (r : GroupRecord) :
    (if s.emergency then emergencyStep else r.downStep)
      = if s.sup.mode = .tripped ∨ s.lif.halted = true then 50 else max 1 (r.rampDown / 20) := by
  simp [State.emergency, State.isTripped, emergencyStep, GroupRecord.downStep]

section
variable (target c0 c closeSpeed : Nat) (mayOpen : Bool)

/-- RUNNING sends the ramp's command, also at the poll that closes the group (R94). -/
theorem pollSpeed_running :
    pollSpeed .running (Interlock.running.atPoll target c closeSpeed mayOpen) c0 c closeSpeed = c := by
  by_cases hcloses : target = 0 ∧ c ≤ closeSpeed <;> simp [Interlock.atPoll, pollSpeed, hcloses]

/-- SHUT sends 0, also at the poll that opens the group (R92). -/
theorem pollSpeed_shut : pollSpeed .shut (Interlock.shut.atPoll target c closeSpeed mayOpen) c0 c closeSpeed = 0 := by
  by_cases hopens : 0 < target ∧ mayOpen = true <;> simp [Interlock.atPoll, pollSpeed, hopens]

end

section
variable (s : State) (g : Fin 24) (k : Nat)

theorem polledGroup_sent_running :
    (s.polledGroup g .running k).sent = rampTo (s.groups.get g).c0 (s.polledGroup g .running k).figs.sp
      (s.groupRecord g).upStep (if s.emergency then emergencyStep else (s.groupRecord g).downStep) :=
  pollSpeed_running ..

/-- A CLOSING group's command only falls, and is at most the close speed (R95). -/
theorem polledGroup_sent_closing :
    (s.polledGroup g .closing k).sent = min (s.groups.get g).c0 (s.groupRecord g).closeSpeed := rfl

/-- In SHUT, OPENING, FAULT and LOST the pump is stopped (R90). -/
theorem polledGroup_sent_other {i : Interlock} (hr : i ≠ .running) (hc : i ≠ .closing) : (s.polledGroup g i k).sent = 0 := by
  cases i with
  | running => exact absurd rfl hr
  | closing => exact absurd rfl hc
  | shut => exact pollSpeed_shut ..
  | opening | fault | lost => rfl

/-- The speed sent is the speed that the next command starts from. -/
theorem polledGroup_c0 (i : Interlock) : (s.polledGroup g i k).c0 = (s.polledGroup g i k).sent := rfl

end

/-- A poll's computation writes its one group, on the water scale as the demand post has left it (R81). -/
theorem computePoll_groups {s : State} {g : Fin 24} {i : Interlock} (hi : (s.groups.get g).interlock = some i) :
    (s.computePoll g).groups = s.groups.set g
      (s.polledGroup g i (s.postDemand g (demandSpeed i ((s.groupRecord g).speedAt (s.stage3 g)))).fda.k) := by
  unfold State.computePoll
  simp only [hi]
  split <;> split <;> simp [State.withGroup]

section
variable {s : State} {e : Due} {rest : List Due} {quiet : Nat}

/-- With no poll in progress and the line quiet in time, the drive at the head of the schedule is polled. -/
theorem exec_pollSent (hpoll : s.dbm.poll = none) (hsched : s.dbm.schedule = e :: rest) (hq : quiet ≤ 5000) :
    exec (.pollSent quiet) s = .next (s.sendPoll e rest quiet).settle := by
  have hin : quiet ≤ quietMaxUs := hq
  simp [exec, execPollSent, hpoll, hsched, hin]

theorem sendPoll_groups : (s.sendPoll e rest quiet).groups = (s.computePoll e.group).groups := rfl

/-- Bytes 2 and 3 of a poll carry the speed, low byte first (11 section 11.7). -/
theorem pollFrame_speed (address : Nat) (seq : BitVec 4) (speed : Nat) (valve : Valve) (run : Bool) :
    (pollFrame address seq speed valve run).getD 2 0 = BitVec.ofNat 8 speed
      ∧ (pollFrame address seq speed valve run).getD 3 0 = BitVec.ofNat 8 (speed / 256) := ⟨rfl, rfl⟩

/-- The poll that goes out carries the speed that its computation has sent. -/
theorem sendPoll_speed :
    (s.sendPoll e rest quiet).dbm.busOut.getD 2 0 = BitVec.ofNat 8 ((s.sendPoll e rest quiet).groups.get e.group).sent
      ∧ (s.sendPoll e rest quiet).dbm.busOut.getD 3 0
        = BitVec.ofNat 8 (((s.sendPoll e rest quiet).groups.get e.group).sent / 256) :=
  pollFrame_speed _ _ _ _ _

end

/-- Settles O25: the polled group's command by its interlock state, the premise giving that RUNNING ramps from the speed last
sent and CLOSING from no more than it. -/
theorem rampMovesTheCommand : Obligations.RampMovesTheCommand := by
  intro s e rest quiet i fits hpoll hsched hi hquiet
  refine ⟨_, exec_pollSent hpoll hsched hquiet, ?_⟩
  obtain ⟨hstart, hkept⟩ := fits e.group
  simp only [State.settle_groups, State.settle_dbm, sendPoll_speed]
  simp only [sendPoll_groups, computePoll_groups hi, Table.get_set_self, ← fallingStep_eq]
  generalize (s.postDemand _ _).fda.k = k
  refine ⟨?_, ?_, ?_, ?_, polledGroup_sent_other s _ k, polledGroup_c0 s _ k i, trivial, trivial⟩
  · rintro rfl habove
    rw [polledGroup_sent_running, hkept (.inr hi), rampTo_above _ _ habove]
    rfl
  · rintro rfl hbelow
    rw [polledGroup_sent_running, hkept (.inr hi), rampTo_below _ _ hbelow]
  · rintro rfl hat
    rw [polledGroup_sent_running, hkept (.inr hi), hat, rampTo_self]
  · rintro rfl
    rw [polledGroup_sent_closing]
    omega

end Sys2Proof.Machine
end

section
/-! The feeder's power estimate (R117): the cube law, and the loads that the water scale is computed from. -/

namespace Sys2Proof.Machine

theorem power_eq (rated speed : Nat) : power rated speed = rated * speed ^ 3 / 1000000000 := rfl

@[simp] theorem power_stopped (rated : Nat) : power rated 0 = 0 := by simp [power_eq]

/-- Rated speed is 1000 permille, whose cube is the law's divisor. -/
@[simp] theorem power_full (rated : Nat) : power rated 1000 = rated :=
  Nat.mul_div_cancel rated (by decide : 0 < 1000 ^ 3)

/-- The cube, its multiple and the floor each keep the order of speeds. -/
theorem power_mono (rated : Nat) {a b : Nat} (h : a ≤ b) : power rated a ≤ power rated b := by
  have hcube : rated * a ^ 3 ≤ rated * b ^ 3 := Nat.mul_le_mul_left rated (Nat.pow_le_pow_left h 3)
  exact Nat.div_le_div_right hcube

/-- The loads are those of the groups configured in the table, each with the demand FDA holds for it. -/
theorem mem_loads_iff (s : State) (rated speed : Nat) :
    (rated, speed) ∈ s.loads ↔
      ∃ g : Fin 24, (s.groupRecord g).configured = true ∧ (s.groupRecord g).rated = rated
        ∧ s.fda.demand.get g = speed := by
  simp only [State.loads, List.mem_map, List.mem_filter, List.mem_finRange, true_and, Prod.mk.injEq]

/-- Settles O33: the cube law's ends and order, R117's figures by evaluation, and the groups behind the loads. -/
theorem powerFollowsTheCube : Obligations.PowerFollowsTheCube :=
  ⟨power_eq, fun rated => ⟨power_stopped rated, power_full rated⟩, fun rated _ _ => power_mono rated, by decide, by decide,
    mem_loads_iff⟩

end Sys2Proof.Machine
end

section
/-! The light scale of a lamp frame (R114, R134): the scaled output values, and the light load they come to. -/

namespace Sys2Proof.Machine

/-! ## The light scale (R114) -/

theorem lightScale_of_over {cap load : Nat} (h : cap < load) : lightScale cap load = cap * 1000 / load := if_pos h

theorem lightScale_of_within {cap load : Nat} (h : load ≤ cap) : lightScale cap load = 1000 := if_neg h.not_gt

theorem lightScale_le_full (cap load : Nat) : lightScale cap load ≤ 1000 := by
  rcases Nat.lt_or_ge cap load with hover | hwithin
  · rw [lightScale_of_over hover]
    exact Nat.div_le_of_le_mul (Nat.mul_le_mul_right 1000 hover.le)
  · rw [lightScale_of_within hwithin]

/-- The load brought down by the scale, before any flooring of powers, is within the cap. -/
theorem load_mul_lightScale_le (cap load : Nat) : load * lightScale cap load ≤ cap * 1000 := by
  rcases Nat.lt_or_ge cap load with hover | hwithin
  · rw [lightScale_of_over hover]
    exact Nat.mul_div_le (cap * 1000) load
  · rw [lightScale_of_within hwithin]
    exact Nat.mul_le_mul_right 1000 hwithin

/-! ## Output values under a scale (R134) -/

@[simp] theorem Colour.scaled_full (c : Colour) : Colour.scaled c 1000 = c := by
  simp [Colour.scaled, Quad.map]

@[simp] theorem Colour.scaled_zero (c : Colour) : Colour.scaled c 0 = Quad.fill 0 := by
  simp [Colour.scaled, Quad.map, Quad.fill]

/-- Flooring, and the byte that holds the floor, only take away. -/
theorem scaledByte_le (v : Byte) (kL : Nat) : 1000 * (BitVec.ofNat 8 (v.toNat * kL / 1000)).toNat ≤ v.toNat * kL := by
  have hbyte : (BitVec.ofNat 8 (v.toNat * kL / 1000)).toNat ≤ v.toNat * kL / 1000 := by
    rw [BitVec.toNat_ofNat]
    exact Nat.mod_le ..
  omega

/-- A colour's four values, added up as its power does (R133). -/
def Colour.total (c : Colour) : Nat := c.r.toNat + c.g.toNat + c.b.toNat + c.w.toNat

theorem fixturePower_eq (rated : Nat) (c : Colour) : fixturePower rated c = rated * Colour.total c / 1020 := rfl

theorem Colour.total_scaled_le (c : Colour) (kL : Nat) : 1000 * Colour.total (Colour.scaled c kL) ≤ Colour.total c * kL := by
  have hr := scaledByte_le c.r kL
  have hg := scaledByte_le c.g kL
  have hb := scaledByte_le c.b kL
  have hw := scaledByte_le c.w kL
  simp only [Colour.total, Colour.scaled, Quad.map, Nat.mul_add, Nat.add_mul]
  omega

/-- The flooring of the unscaled power can hide less than 1 W, which the scale brings down as it does the rest. -/
theorem fixturePower_scaled_le (rated : Nat) (c : Colour) (kL : Nat) :
    1000 * fixturePower rated (Colour.scaled c kL) ≤ (fixturePower rated c + 1) * kL := by
  have hsent : fixturePower rated (Colour.scaled c kL) * 1020 ≤ rated * Colour.total (Colour.scaled c kL) :=
    Nat.div_mul_le_self ..
  have hasked : rated * Colour.total c ≤ 1020 * (fixturePower rated c + 1) :=
    (Nat.lt_mul_div_succ _ (by decide)).le
  have hscaled : 1020 * (1000 * fixturePower rated (Colour.scaled c kL)) ≤ 1020 * ((fixturePower rated c + 1) * kL) :=
    calc 1020 * (1000 * fixturePower rated (Colour.scaled c kL))
        = 1000 * (fixturePower rated (Colour.scaled c kL) * 1020) := by ring
      _ ≤ 1000 * (rated * Colour.total (Colour.scaled c kL)) := Nat.mul_le_mul_left 1000 hsent
      _ = rated * (1000 * Colour.total (Colour.scaled c kL)) := by ring
      _ ≤ rated * (Colour.total c * kL) := Nat.mul_le_mul_left rated (Colour.total_scaled_le c kL)
      _ = rated * Colour.total c * kL := by ring
      _ ≤ 1020 * (fixturePower rated c + 1) * kL := Nat.mul_le_mul_right kL hasked
      _ = 1020 * ((fixturePower rated c + 1) * kL) := by ring
  exact Nat.le_of_mul_le_mul_left hscaled (by decide)

/-! ## The light load (R133) -/

/-- A term's bound with an allowance of 1 each gives the sum's bound with one allowance per term. -/
theorem sum_scaled_le {ι : Type} {sent asked : ι → Nat} {kL : Nat} (h : ∀ i, 1000 * sent i ≤ (asked i + 1) * kL)
    (is : List ι) : 1000 * (is.map sent).sum ≤ ((is.map asked).sum + is.length) * kL := by
  induction is with
  | nil => simp
  | cons i is ih =>
    have hi := h i
    simp only [List.map_cons, List.sum_cons, List.length_cons, Nat.mul_add, Nat.add_mul] at hi ih ⊢
    omega

/-- Scaled output values bring the load of 96 fixtures down to the scale's share of it, but for 1 W each of flooring. -/
theorem lightLoad_scaled_le {records : Table 96 FixtureRecord} {asked sent : Table 96 Fixture} {kL : Nat}
    (h : ∀ f, (sent.get f).out = Colour.scaled (asked.get f).out kL) :
    1000 * lightLoad records sent ≤ (lightLoad records asked + 96) * kL := by
  refine List.length_finRange (n := 96) ▸ sum_scaled_le (fun f => ?_) (List.finRange 96)
  by_cases hf : (records.get f).assigned = true
  · simpa only [hf, if_true, h] using fixturePower_scaled_le ..
  · simp [hf]

/-- Under FDA's own scale for the load asked for, the load sent is within the cap and 1 W for each fixture (R134). -/
theorem lightLoad_sent_le {records : Table 96 FixtureRecord} {asked sent : Table 96 Fixture} {cap : Nat}
    (h : ∀ f, (sent.get f).out = Colour.scaled (asked.get f).out (lightScale cap (lightLoad records asked))) :
    lightLoad records sent ≤ cap + 96 := by
  have hsent := lightLoad_scaled_le (records := records) h
  have hcap := load_mul_lightScale_le cap (lightLoad records asked)
  have hfull := lightScale_le_full cap (lightLoad records asked)
  rw [Nat.add_mul] at hsent
  omega

/-! ## The lamp frame -/

theorem exec_lampFrame (s : State) : exec .lampFrame s = .next s.lampFrame := rfl

@[simp] theorem postLight_cap (s : State) (load : Nat) : (s.postLight load).fda.cap = s.fda.cap := rfl

@[simp] theorem postLight_kL (s : State) (load : Nat) : (s.postLight load).fda.kL = lightScale s.fda.cap load := rfl

/-- The frame posts the load of the values after the dry cap, and does no more to FDA (R133). -/
theorem lampFrame_fda (s : State) :
    s.lampFrame.fda = (s.postLight (lightLoad s.cfg.fixtures (Table.ofFn s.lampFixture))).fda := by
  simp only [State.lampFrame]

theorem lampFrame_cap (s : State) : s.lampFrame.fda.cap = s.fda.cap := by rw [lampFrame_fda, postLight_cap]

theorem lampFrame_kL (s : State) :
    s.lampFrame.fda.kL = lightScale s.fda.cap (lightLoad s.cfg.fixtures (Table.ofFn s.lampFixture)) := by
  rw [lampFrame_fda, postLight_kL]

/-- Step 5 writes the output values alone, scaled from those after the dry cap. -/
theorem lampFrame_fixtures_get (s : State) (f : Fin 96) : s.lampFrame.lgt.fixtures.get f =
    { s.lampFixture f with out := Colour.scaled (s.lampFixture f).out s.lampFrame.fda.kL } := by
  rw [lampFrame_kL]
  simp only [State.lampFrame, Table.get_map, Table.get_ofFn, postLight_kL]

theorem lampFrame_out (s : State) (f : Fin 96) : (s.lampFrame.lgt.fixtures.get f).out =
    Colour.scaled (s.lampFixture f).out s.lampFrame.fda.kL := by rw [lampFrame_fixtures_get]

/-- The law of R134, with less than the allowance it grants. -/
theorem lampFrame_load_le (s : State) : lightLoad s.cfg.fixtures s.lampFrame.lgt.fixtures ≤ s.fda.cap + 96 := by
  refine lightLoad_sent_le (asked := Table.ofFn s.lampFixture) fun f => ?_
  rw [Table.get_ofFn, lampFrame_out, lampFrame_kL]

/-- Settles O37: every output value is scaled by FDA's scale for the load asked for, which keeps the load sent within the cap
and 1 W of flooring for each fixture. -/
theorem lightScaleKeepsTheCap : Obligations.LightScaleKeepsTheCap := by
  intro s
  refine ⟨_, exec_lampFrame s, fun f _ => lampFrame_out s f, fun hfull f _ => ?_, fun hzero f _ => ?_, by decide,
    lampFrame_cap s, (lampFrame_load_le s).trans (by omega)⟩
  · rw [lampFrame_out, hfull, Colour.scaled_full]
  · rw [lampFrame_out, hzero, Colour.scaled_zero]

end Sys2Proof.Machine
end

section
/-! Evaluations of a supervision channel (R142, R143): what each does to the counter, the law they keep, and the channels after
a power-on or a pin reset. -/

namespace Sys2Proof.Machine

/-! ## The law of a channel in plain words (R143) -/

section
variable {c : Channel} {k : CounterSettings}

theorem Channel.lawful_iff_of_fatal (h : c.fatal = true) :
    c.lawful k = true ↔ k.ok = true ∧ c.valid = false ∧ c.counter = 255 := by
  simp [Channel.lawful, h, and_comm]

theorem Channel.lawful_iff_of_not_fatal (h : c.fatal = false) :
    c.lawful k = true ↔ k.ok = true ∧ (c.valid = false ↔ k.limit ≤ c.counter) ∧ c.counter ≤ k.limit + k.hold := by
  cases hv : c.valid <;> simp [Channel.lawful, h, hv]

/-! ## What an evaluation does (R143) -/

variable (now : Tick)

/-- A fatal channel keeps its values at every evaluation. -/
theorem Channel.evaluated_of_fatal (h : c.fatal = true) (e : Evaluation) :
    c.evaluated k now e = { c with last := some now } := if_pos h

theorem Channel.evaluated_fatal (h : c.fatal = false) : c.evaluated k now .fatal = ⟨255, false, true, some now⟩ := by
  simp [Channel.evaluated, h]

theorem Channel.evaluated_error_reaching (h : c.fatal = false) (hlimit : k.limit ≤ c.counter + 2) :
    c.evaluated k now .error = ⟨k.limit + k.hold, false, false, some now⟩ := by
  simp [Channel.evaluated, h, hlimit]

theorem Channel.evaluated_error_below (h : c.fatal = false) (hlimit : c.counter + 2 < k.limit) :
    c.evaluated k now .error = ⟨c.counter + 2, c.valid, false, some now⟩ := by
  simp [Channel.evaluated, h, hlimit.not_ge]

theorem Channel.evaluated_good (h : c.fatal = false) :
    c.evaluated k now .good = ⟨c.counter - 1, c.valid || decide (c.counter - 1 < k.limit), false, some now⟩ := by
  simp [Channel.evaluated, h]

/-! ## The law is kept -/

/-- An error either takes a channel to limit + hold or leaves it below its limit. -/
theorem Channel.lawful_evaluated_error (h : c.fatal = false) (hc : c.lawful k = true) :
    (c.evaluated k now .error).lawful k = true := by
  obtain ⟨hk, hvalid, hmax⟩ := (lawful_iff_of_not_fatal h).mp hc
  rcases Nat.lt_or_ge (c.counter + 2) k.limit with hbelow | hreaching
  · rw [evaluated_error_below now h hbelow, lawful_iff_of_not_fatal rfl]
    refine ⟨hk, hvalid.trans ?_, ?_⟩ <;> dsimp only <;> omega
  · rw [evaluated_error_reaching now h hreaching, lawful_iff_of_not_fatal rfl]
    exact ⟨hk, by simp, le_rfl⟩

/-- Counting down makes a channel VALID exactly where it comes below its limit, and one already below is VALID before. -/
theorem Channel.lawful_evaluated_good (h : c.fatal = false) (hc : c.lawful k = true) :
    (c.evaluated k now .good).lawful k = true := by
  obtain ⟨hk, hvalid, hmax⟩ := (lawful_iff_of_not_fatal h).mp hc
  rw [evaluated_good now h, lawful_iff_of_not_fatal rfl]
  refine ⟨hk, ?_, hmax.trans' (Nat.sub_le ..)⟩
  simp only [Bool.or_eq_false_iff, hvalid, decide_eq_false_iff_not]
  omega

theorem Channel.lawful_evaluated (hc : c.lawful k = true) (e : Evaluation) : (c.evaluated k now e).lawful k = true := by
  cases h : c.fatal with
  | true => rwa [evaluated_of_fatal now h]
  | false =>
    cases e with
    | good => exact lawful_evaluated_good now h hc
    | error => exact lawful_evaluated_error now h hc
    | fatal =>
      rw [evaluated_fatal now h, lawful_iff_of_fatal rfl]
      exact ⟨((lawful_iff_of_not_fatal h).mp hc).1, rfl, rfl⟩

end

/-! ## A trip moves no channel (R154) -/

namespace State

variable (s : State)

@[simp] theorem lowerPermit_channels : s.lowerPermit.sup.channels = s.sup.channels := rfl

@[simp] theorem latchTrip_channels (causes : Causes) : (s.latchTrip causes).sup.channels = s.sup.channels := rfl

@[simp] theorem judgeDrop_channels : s.judgeDrop.sup.channels = s.sup.channels := by
  unfold judgeDrop; split <;> simp

@[simp] theorem changeInterlock_channels (g : Fin 24) (left into : Interlock) (cause : FaultCause) (code : Option Byte) :
    (s.changeInterlock g left into cause code).sup.channels = s.sup.channels := by
  simp [changeInterlock, offerChange]

@[simp] theorem bringDown_channels (g : Fin 24) : (s.bringDown g).sup.channels = s.sup.channels := by
  unfold bringDown
  split
  · rfl
  · dsimp only
    split <;> simp

@[simp] theorem waterDown_channels : s.waterDown.sup.channels = s.sup.channels := by
  unfold waterDown eachGroup
  generalize List.finRange 24 = gs
  exact foldl_field (fun t => t.sup.channels) _ bringDown_channels gs s

@[simp] theorem tripActs_channels : s.tripActs.sup.channels = s.sup.channels := by
  simp only [tripActs, apply_ite State.sup, apply_ite Sup.channels, lowerPermit_channels, judgeDrop_channels, ite_self,
    waterDown_channels, abortShow_sup]

@[simp] theorem judgeInputs_channels (inputs : Inputs) : (s.judgeInputs inputs).sup.channels = s.sup.channels := by
  unfold judgeInputs
  split <;> simp

/-! ## The channels after a reset (R161) -/

/-- The inputs found active at a reset latch a trip, and leave every channel at its start. -/
theorem resetTo_channels (kind : ResetKind) (inputs : Inputs) (straps : BitVec 2) (log : List TripRecord) :
    (s.resetTo kind inputs straps log).sup.channels = Table.fill 27 Channel.reset :=
  judgeInputs_channels _ inputs

theorem resetTo_channel_not_fatal (kind : ResetKind) (inputs : Inputs) (straps : BitVec 2) (log : List TripRecord)
    (i : Fin 27) : ((s.resetTo kind inputs straps log).sup.channels.get i).fatal = false := by
  rw [resetTo_channels, Table.get_fill]
  rfl

end State

theorem exec_powerOn (s : State) (inputs : Inputs) (straps : BitVec 2) :
    exec (.powerOn inputs straps) s = .next (s.resetTo .powerOn inputs straps []) := rfl

theorem exec_pinReset (s : State) (inputs : Inputs) (straps : BitVec 2) :
    exec (.pinReset inputs straps) s = .next (s.resetTo .pinReset inputs straps s.sup.tripLog) := rfl

/-- Settles O41: each evaluation by its equation, the law kept through them, and both resets starting every channel anew. -/
theorem evaluationMovesTheCounter : Obligations.EvaluationMovesTheCounter := by
  refine ⟨fun c k now => ⟨fun h => ?_, fun h => Channel.evaluated_of_fatal now h, fun hc => Channel.lawful_evaluated now hc,
    fun hc h => ((Channel.lawful_iff_of_not_fatal h).mp hc).2, fun hc h => ((Channel.lawful_iff_of_fatal h).mp hc).2⟩,
    by decide, fun s inputs straps => ⟨⟨_, exec_powerOn s inputs straps, s.resetTo_channel_not_fatal _ _ _ _⟩,
      _, exec_pinReset s inputs straps, s.resetTo_channel_not_fatal _ _ _ _⟩⟩
  refine ⟨Channel.evaluated_error_reaching now h, Channel.evaluated_error_below now h, ?_⟩
  rw [Channel.evaluated_good now h]
  exact ⟨rfl, rfl, fun hbelow => by simp [hbelow], fun hat => by simp [hat.not_gt], Channel.evaluated_fatal now h⟩

end Sys2Proof.Machine
end

section
/-! A step and its command (R181, R182): the next state that every command answers, what serving a request can do, and the
shape of every proof that a property is kept. -/

namespace Sys2Proof.Machine

/-! ## The next state of a command -/

/-- The state that a command answers. -/
def State.after (c : Instr) (s : State) : State :=
  match exec c s with
  | .next t => t
  | .fault _ => s
  | .refused _ => s

/-- No command faults or is refused. -/
theorem exec_eq_after (c : Instr) (s : State) : exec c s = .next (s.after c) := by
  cases c <;> rfl

theorem eq_after_of_exec {c : Instr} {s t : State} (h : exec c s = .next t) : t = s.after c := by
  rw [exec_eq_after] at h
  exact (Host.Outcome.next.inj h).symm

/-- Settles O1: the case of a queue that is not empty in the definition of a step. -/
theorem stepRunsFrontCommand : Obligations.StepRunsFrontCommand := by
  intro c rest s h
  simp only [step, h]

/-- A property that every command keeps, and that does not read the queue of commands, is kept by every step. -/
theorem step_keeps {P : State → Prop} (queue : ∀ (s : State) (q : List Instr), P s → P (s.withPending q))
    (command : ∀ (c : Instr) (s : State), P s → P (s.after c)) (s t : State) (h : P s) (ht : step s = .next t) : P t := by
  unfold step at ht
  split at ht
  · exact Host.Outcome.next.inj ht ▸ h
  · exact eq_after_of_exec ht ▸ command _ _ (queue _ _ h)

/-! ## Serving a request (R181, R182) -/

/-- Serving a request leaves the state, or refuses the oldest request, or hands it to its owner. -/
theorem serve_cases (s : State) (r : RequestRule) (mine : Request → Bool) (owner : State → Request → State) :
    s.serve r mine owner = s
      ∨ ∃ q, s.lif.inbox.head? = some q ∧ s.lif.placesUsed < 4
          ∧ ((∃ st, s.serve r mine owner = (s.taken.answer q st []).kick)
            ∨ (q.kind = r.kind ∧ mine q = true ∧ s.linkRefusal r q.payload = none
              ∧ s.serve r mine owner = (owner s.taken q).kick)) := by
  unfold State.serve
  split
  · exact .inl rfl
  · rename_i q rest hbox
    split
    · rename_i hq
      obtain ⟨hkind, hmine, hplaces⟩ := hq
      refine .inr ⟨q, by rw [hbox]; rfl, hplaces, ?_⟩
      rw [linkJudge_eq]
      cases hrefusal : s.linkRefusal r q.payload with
      | none => exact .inr ⟨hkind, hmine, rfl, rfl⟩
      | some st => exact .inl ⟨st, rfl⟩
    · exact .inl rfl

/-- A property is kept by a request command that keeps it where it refuses and where it carries the request out. -/
theorem serve_induct {P : State → Prop} {s : State} {r : RequestRule} {mine : Request → Bool}
    {owner : State → Request → State} (waits : P s)
    (refuses : ∀ q st, s.lif.inbox.head? = some q → s.lif.placesUsed < 4 → P (s.taken.answer q st []).kick)
    (acts : ∀ q, s.lif.inbox.head? = some q → s.lif.placesUsed < 4 → P (owner s.taken q).kick) :
    P (s.serve r mine owner) := by
  rcases serve_cases s r mine owner with h | ⟨q, hq, hp, ⟨st, h⟩ | ⟨-, -, -, h⟩⟩
  · rw [h]; exact waits
  · rw [h]; exact refuses q st hq hp
  · rw [h]; exact acts q hq hp

/-- A field that answering and carrying out leave is left by serving. -/
theorem serve_field {β : Type} (π : State → β) (kick : ∀ t : State, π t.kick = π t) (s : State) (r : RequestRule)
    (mine : Request → Bool) (owner : State → Request → State)
    (refuses : ∀ q st, π (s.taken.answer q st []) = π s) (acts : ∀ q, π (owner s.taken q) = π s) :
    π (s.serve r mine owner) = π s :=
  serve_induct (P := fun t => π t = π s) rfl (fun q st _ _ => (kick _).trans (refuses q st))
    fun q _ _ => (kick _).trans (acts q)

/-- A judged request is refused, or it is carried out on what the judgement found. -/
theorem judged_induct {P : State → Prop} {α : Type} {s : State} {q : Request} {j : Except Status α} {act : α → State}
    (refuses : ∀ st, P (s.answer q st [])) (acts : ∀ a, j = .ok a → P (act a)) : P (s.judged q j act) := by
  cases j with
  | error st => exact refuses st
  | ok a => exact acts a rfl

/-- A field that answering and carrying out leave is left by judging. -/
theorem judged_field {α β : Type} (π : State → β) (s : State) (q : Request) (j : Except Status α) (act : α → State)
    (refuses : ∀ st, π (s.answer q st []) = π s) (acts : ∀ a, π (act a) = π s) : π (s.judged q j act) = π s :=
  judged_induct (P := fun t => π t = π s) refuses fun a _ => acts a

end Sys2Proof.Machine
end

section
/-! What a command can do: one case for each kind of effect, with the guard under which it happens. Every property that all steps
keep is proved by these cases. -/

namespace Sys2Proof.Machine

/-- What the owner of a request of this payload makes of the state in which the request has been answered. -/
inductive Acts (p : List Byte) (a : State) : State → Prop
  | answered : Acts p a a
  | ticked : Acts p a a.tick
  | flagsRead (named : Byte) : Acts p a { a with flags := a.flagsAfterRead named }
  | reportsSet (e : BitVec 6) : Acts p a { a with lif := { a.lif with enable := e } }
  | setGroup (g : Fin 24) (r : GroupRecord) (h : a.judgeSetGroup p = .ok (g, r)) : Acts p a (a.setGroup g r)
  | setFixture (f : Fin 96) (r : FixtureRecord) (h : a.judgeSetFixture p = .ok (f, r)) : Acts p a (a.setFixture f r)
  | setZone (z : Fin 4) (r : ZoneRecord) (h : a.judgeSetZone p = .ok (z, r)) : Acts p a (a.setZone z r)
  | setWind (w : WindSettings) (h : a.judgeSetWind p = .ok w) : Acts p a (a.setWind w)
  | setLevel (l : LevelSettings) (h : a.judgeSetLevel p = .ok l) : Acts p a (a.setLevel l)
  | setFeeder (f : FeederSettings) (h : feederOf p = some f) : Acts p a (a.setFeeder f)
  | setCounter (i : Fin 27) (k : CounterSettings) (h : a.judgeSetCounter p = .ok (i, k)) : Acts p a (a.setCounter i k)
  | setDriveBus (w : Nat) (h : a.judgeSetDriveBus p = .ok w) : Acts p a (a.setDriveBus w)
  | setShowOptions (o : ShowOptions) (h : a.judgeSetShowOptions p = .ok o) : Acts p a (a.setShowOptions o)
  | arm (slot : Nat) (tag : Byte) (h : a.judgeArm p = .ok slot) : Acts p a (a.beginLoad slot tag).settleFlash
  | disarm (h : a.seq.st = .armed) : Acts p a (a.showIdle .disarm)
  | start (h : a.judgeStart = .ok ()) : Acts p a a.startShow.settleFlash
  | hold (h : a.seq.st = .running) : Acts p a a.holdShow
  | resume (h : a.seq.st = .held) : Acts p a a.resumeShow
  | stop (h : a.judgeStop = .ok ()) : Acts p a a.stopShow.settleFlash
  | directJet (set : BitVec 24) (height fade : Nat) : Acts p a (a.directJet set height fade)
  | directLight (first last : Nat) (l : Latch) : Acts p a (a.latchRange first last l)
  | clipPlays (id : Nat) (c : Clip) : Acts p a (a.giveClip .direct id c 0 0).settleFlash
  | clipStops : Acts p a a.stopClips
  | clearTrip (inputs : Inputs) (h : a.judgeClearTrip inputs = .ok ()) :
      Acts p a (State.clearTrip { a with pins := inputs }).settle
  | clearFault (g : Fin 24) (h : a.judgeClearFault p = .ok g) :
      Acts p a (a.changeInterlock g .fault .closing .none none).settle
  | locked : Acts p a (a.flag .lockedRefusal)
  | flashWrite (kind tag : Byte) (w : FlashWork) (h : a.judgeFlashWrite p = .ok w) :
      Acts p a (a.beginFlash kind tag w .hostProgram).settleFlash
  | flashErase (kind tag : Byte) (w : FlashWork) (h : a.judgeFlashErase p = .ok w) :
      Acts p a (a.beginFlash kind tag w .hostErase).settleFlash
  | save (q : Request) (h : a.judgeSave = .ok ()) : Acts p a (a.beginSave q).settleFlash
  | reload (kind tag : Byte) (h : a.judgeReload = .ok ()) :
      Acts p a ((a.beginService .settings .running kind tag).askSettings false []).settleFlash
  | halt : Acts p a a.haltPart.settle
  | release (inputs : Inputs) (h : a.lif.halted = true) : Acts p a (a.releasePart inputs).settle

/-- What a command can do to a state. -/
inductive Effect (s : State) : State → Prop
  | idle : Effect s s
  | reset (kind : ResetKind) (inputs : Inputs) (straps : BitVec 2) (log : List TripRecord) :
      Effect s (s.resetTo kind inputs straps log)
  | identified (answer : Option DeviceIdent) (h : s.identifying = true) : Effect s (s.identified answer).settle
  | cause (pins : Inputs) (c : Causes) : Effect s (State.latchCause { s with pins := pins } c).settle
  | pulse : Effect s { s with sup := { s.sup with anemo := s.sup.anemo + 1 } }
  | clockTick : Effect s { s with clock := s.clock + 1 }
  | windGate : Effect s s.windGate.settle
  | levelSample (reading : BitVec 12) : Effect s (s.levelSample reading).settle
  | dropTimer (h : s.dropDue = true) : Effect s s.lowerPermit.settleSite.kick
  | driveCycle : Effect s s.driveCycle
  | poll (e : Due) (rest : List Due) (us : Nat) : Effect s (s.sendPoll e rest us).settle
  | jam (e : Due) (all : List Due) : Effect s (s.jamLine e all).settle
  | pollEnd (p : Poll) (o : PollOutcome) (rep : DriveReply) (us : Nat) : Effect s (s.endPoll p o rep us).settle
  | stroke (g : Fin 24) (h : s.strokeDue g = true) : Effect s (s.strokeExpire g).settle
  | lampFrame : Effect s s.lampFrame
  | audio (a : Aud) (fresh : Nat) : Effect s (State.settleFlash { s with aud := a, fresh := fresh })
  | audioAlone (a : Aud) : Effect s { s with aud := a }
  | dispatch (a : Aud) (now : Int) (h : s.seq.st = .running) :
      Effect s (State.dispatchEvent { s with aud := a } now).settleFlash.kick
  | stopping (a : Aud) : Effect s (State.testStopping { s with aud := a }).settleFlash.kick
  | window (a : Aud) (e : Evaluation) : Effect s (State.evaluate { s with aud := a } 26 e).settleSite.kick
  | chunkRead : Effect s (s.chunkRead .free)
  | chunkReadSuspended (t : Txn) (h : s.flp.port = .suspended t) : Effect s (s.chunkRead (.guarded t))
  | flashTimeout : Effect s s.flashTimeout.settle
  | guardEnd (t : Txn) (h : s.flp.port = .guarded t) : Effect s (s.withPort (.erasing t)).settleFlash
  | deviceReset : Effect s (s.withPort .free).settleFlash
  | loadRead (bytes : List Byte) : Effect s ((s.withPort .free).loadRead bytes).settleFlash.kick
  | directoryRead (bytes : List Byte) : Effect s ((s.withPort .free).directoryRead bytes).settle
  | settingsRead (bytes : List Byte) : Effect s ((s.withPort .free).settingsRead bytes).settle
  | hostRead (bytes : List Byte) : Effect s ((s.withPort .free).answerRead .good bytes).settleFlash.kick
  | programmed (t : Txn) (h : s.flp.port = .programming t) : Effect s (s.programmed t).settleFlash.kick
  | erased (t : Txn) (h : s.flp.port = .erasing t ∨ s.flp.port = .guarded t) : Effect s (s.erased t).settleFlash.kick
  | erasedSuspended (t : Txn) (h : s.flp.port = .suspended t) : Effect s (s.unsuspended.erased t).settleFlash.kick
  | received (c : LinkChar) : Effect s (s.receive c)
  | receivedFrame (c : LinkChar) : Effect s (s.receive c).kick
  | gapTimeout : Effect s ((s.withRx .hunting).flag .gapTimeout)
  | frameSent : Effect s s.frameSent
  | request (q : Request) (st : Status) (fields : List Byte) (u : State) (hq : s.lif.inbox.head? = some q)
      (hp : s.lif.placesUsed < 4) (h : Acts q.payload (s.taken.answer q st fields) u) : Effect s u.kick
  | flashRead (tag : Byte) (address len : Nat) (hp : s.lif.placesUsed < 4) (h : s.lif.readPlace = none) :
      Effect s (s.taken.flashRead tag address len).settleFlash.kick

theorem Effect.serve {s : State} {r : RequestRule} {mine : Request → Bool} {owner : State → Request → State}
    (h : ∀ q, ∃ st fields, Acts q.payload (s.taken.answer q st fields) (owner s.taken q)) :
    Effect s (s.serve r mine owner) :=
  serve_induct .idle (fun q st hq hp => .request q st [] _ hq hp .answered) fun q hq hp =>
    have ⟨st, fields, hu⟩ := h q
    .request q st fields _ hq hp hu

theorem Acts.judged {α : Type} {s : State} {q : Request} {j : Except Status α} {act : α → State}
    (h : ∀ a, j = .ok a → ∃ st fields, Acts q.payload (s.answer q st fields) (act a)) :
    ∃ st fields, Acts q.payload (s.answer q st fields) (s.judged q j act) := by
  cases j with
  | error st => exact ⟨st, [], .answered⟩
  | ok a => exact h a rfl

theorem ok_of_need_ok {α : Type} {o : Option α} {st : Status} {a : α} (h : need o st = .ok a) : o = some a := by
  cases o with
  | none => cases h
  | some b => cases h; rfl

theorem eq_false_of_refuseIf_ok {c : Bool} {st : Status} {u : Unit} (h : refuseIf c st = .ok u) : c = false := by
  cases c with
  | false => rfl
  | true => cases h

theorem eq_of_refuseIf_ne_ok {α : Type} [DecidableEq α] {x y : α} {st : Status} {u : Unit}
    (h : refuseIf (decide (x ≠ y)) st = .ok u) : x = y :=
  not_not.mp (of_decide_eq_false (eq_false_of_refuseIf_ok h))

theorem eq_true_of_refuseIf_not_ok {c : Bool} {st : Status} {u : Unit} (h : refuseIf (!c) st = .ok u) : c = true :=
  by simpa using eq_false_of_refuseIf_ok h

end Sys2Proof.Machine
end

section
namespace Sys2Proof.Machine

namespace Effect
variable (s : State)

theorem of_identificationDone (answer : Option DeviceIdent) : Effect s (s.after (.identificationDone answer)) := by
  unfold State.after exec execIdentificationDone
  dsimp only
  split
  · exact .identified answer ‹_›
  · exact .idle

theorem of_intrusionActive (loop : IntrusionLoop) : Effect s (s.after (.intrusionActive loop)) := by
  cases loop
  · exact .cause _ _
  · exact .cause _ _

theorem of_intrusionDropTimer : Effect s (s.after .intrusionDropTimer) := by
  unfold State.after exec execIntrusionDropTimer
  dsimp only
  split
  · exact .dropTimer ‹_›
  · exact .idle

theorem of_pollSent (us : Nat) : Effect s (s.after (.pollSent us)) := by
  unfold State.after exec execPollSent
  dsimp only
  split
  · split
    · exact .poll _ _ _
    · exact .idle
  · exact .idle

theorem of_lineJammed : Effect s (s.after .lineJammed) := by
  unfold State.after exec execLineJammed
  dsimp only
  split
  · exact .jam _ _
  · exact .idle

theorem of_driveReply (b : ReplyBytes) (f : Bool) (us : Nat) : Effect s (s.after (.driveReply b f us)) := by
  unfold State.after exec execDriveReply
  dsimp only
  split
  · split
    · exact .pollEnd _ _ _ _
    · exact .idle
  · exact .idle

theorem of_replyWindowExpiry : Effect s (s.after .replyWindowExpiry) := by
  unfold State.after exec execReplyWindowExpiry
  dsimp only
  split
  · exact .pollEnd _ _ _ _
  · exact .idle

theorem of_strokeTimeout (g : Fin 24) : Effect s (s.after (.strokeTimeout g)) := by
  unfold State.after exec execStrokeTimeout
  dsimp only
  split
  · exact .stroke g ‹_›
  · exact .idle

/-- An event that only AUD acts on, where it happens. -/
theorem ite_audio (c : Prop) [Decidable c] (a : Aud) {u : State} (h : Effect s u) :
    Effect s (if c then State.settleFlash { s with aud := a } else u) := by
  split
  · exact .audio a s.fresh
  · exact h

theorem of_showMillisecond : Effect s (s.after .showMillisecond) := by
  unfold State.after exec execShowMillisecond
  dsimp only
  split
  · split
    · exact .dispatch _ _ ‹_›
    · exact .stopping _
    · exact .idle
  · exact .idle

theorem of_clipEnd : Effect s (s.after .clipEnd) := by
  unfold State.after exec execClipEnd
  dsimp only
  split
  · exact .audio _ s.fresh
  · exact .idle

theorem of_announcementGapEnd : Effect s (s.after .announcementGapEnd) := by
  unfold State.after exec execAnnouncementGapEnd
  dsimp only
  split
  · exact .audioAlone _
  · exact .idle

theorem of_audioWindowEnd : Effect s (s.after .audioWindowEnd) := by
  unfold State.after exec execAudioWindowEnd
  dsimp only
  split
  · split
    · exact .window _ _
    · exact .audioAlone _
  · exact .idle

theorem of_chunkArrival (o : ReadOutcome) : Effect s (s.after (.chunkArrival o)) := by
  unfold State.after exec execChunkArrival
  dsimp only
  split
  · exact .chunkRead
  · exact .chunkReadSuspended _ ‹_›
  · exact .flashTimeout
  · exact .flashTimeout
  · exact .idle

theorem of_suspendGuardEnd : Effect s (s.after .suspendGuardEnd) := by
  unfold State.after exec execSuspendGuardEnd
  dsimp only
  split
  · exact .guardEnd _ ‹_›
  · exact .idle

theorem of_flashTimeout : Effect s (s.after .flashTimeout) := by
  unfold State.after exec execFlashTimeout
  dsimp only
  split
  · exact .idle
  · exact .idle
  · exact .flashTimeout

theorem of_deviceResetComplete : Effect s (s.after .deviceResetComplete) := by
  unfold State.after exec execDeviceResetComplete
  dsimp only
  split
  · exact .deviceReset
  · exact .idle

theorem of_loadReadDone : Effect s (s.after .loadReadDone) := by
  unfold State.after exec execLoadReadDone
  dsimp only
  split
  · exact .loadRead _
  · exact .idle

theorem of_directoryReadDone : Effect s (s.after .directoryReadDone) := by
  unfold State.after exec execDirectoryReadDone
  dsimp only
  split
  · exact .directoryRead _
  · exact .idle

theorem of_settingsReadDone : Effect s (s.after .settingsReadDone) := by
  unfold State.after exec execSettingsReadDone
  dsimp only
  split
  · exact .settingsRead _
  · exact .idle

theorem of_flashReadDone (o : ReadOutcome) : Effect s (s.after (.flashReadDone o)) := by
  unfold State.after exec execFlashReadDone
  dsimp only
  split
  · exact .hostRead _
  · exact .flashTimeout
  · exact .idle

theorem of_programDone : Effect s (s.after .programDone) := by
  unfold State.after exec execProgramDone
  dsimp only
  split
  · exact .programmed _ ‹_›
  · exact .idle

theorem of_eraseDone : Effect s (s.after .eraseDone) := by
  unfold State.after exec execEraseDone
  dsimp only
  split
  · exact .erased _ (.inl ‹_›)
  · exact .erased _ (.inr ‹_›)
  · exact .erasedSuspended _ ‹_›
  · exact .idle

theorem of_linkFrameReceived (c : LinkChar) : Effect s (s.after (.linkFrameReceived c)) := by
  unfold State.after exec execLinkFrameReceived
  dsimp only
  split
  · exact .receivedFrame c
  · exact .idle

theorem of_linkByteReceived (c : LinkChar) : Effect s (s.after (.linkByteReceived c)) := by
  unfold State.after exec execLinkByteReceived
  dsimp only
  split
  · exact .idle
  · exact .received c

theorem of_gapTimeout : Effect s (s.after .gapTimeout) := by
  unfold State.after exec execGapTimeout
  dsimp only
  split
  · exact .gapTimeout
  · exact .idle

theorem of_frameSent : Effect s (s.after .frameSent) := by
  unfold State.after exec execFrameSent
  dsimp only
  split
  · exact .frameSent
  · exact .idle

theorem of_unknownRequest : Effect s (s.after .unknownRequest) := by
  unfold State.after exec execUnknownRequest State.serveUnknown
  dsimp only
  split
  · exact .idle
  · split
    · rename_i h hq
      exact .request _ _ _ _ (by rw [h]; rfl) hq.2 .answered
    · exact .idle

/-! ### Requests -/

theorem of_flashRead : Effect s (s.after .flashRead) := by
  unfold State.after exec execFlashRead
  refine serve_induct (P := Effect s) .idle (fun q st hq hp => .request q st [] _ hq hp .answered) fun q hq hp => ?_
  generalize hj : s.taken.judgeFlashRead q.payload = j
  cases j with
  | error st => exact .request q st [] _ hq hp .answered
  | ok a =>
    refine .flashRead q.tag a.1 a.2 hp ?_
    have hplace : s.lif.readPlace.isSome = false := by
      cases h : s.lif.readPlace.isSome with
      | false => rfl
      | true => simp [State.judgeFlashRead, State.taken, h, bind, Except.bind] at hj
    simpa using hplace

/-- A FLASH service is refused, with LOCKED under its flag, or begins. -/
theorem flashService (q : Request) (j : Except Status FlashWork) (t : Txn)
    (h : ∀ w, j = .ok w → Acts q.payload (s.taken.answer q .accepted [])
      ((s.taken.answer q .accepted []).beginFlash q.kind q.tag w t).settleFlash) :
    ∃ st fields, Acts q.payload (s.taken.answer q st fields) (s.taken.flashService q j t) := by
  cases j with
  | ok w => exact ⟨.accepted, [], h w rfl⟩
  | error st =>
    refine ⟨st, [], ?_⟩
    unfold State.flashService
    dsimp only
    by_cases hl : st = .locked
    · simp only [hl]
      exact .locked
    · simp only [hl, decide_false]
      exact .answered

theorem of_getIdent : Effect s (s.after .getIdent) := by
  unfold State.after exec execGetIdent
  exact .serve fun q => ⟨_, _, .answered⟩

theorem of_getStatus : Effect s (s.after .getStatus) := by
  unfold State.after exec execGetStatus
  exact .serve fun q => ⟨_, _, .answered⟩

theorem of_getChannels : Effect s (s.after .getChannels) := by
  unfold State.after exec execGetChannels
  exact .serve fun q => ⟨_, _, .answered⟩

theorem of_getTripLog : Effect s (s.after .getTripLog) := by
  unfold State.after exec execGetTripLog
  exact .serve fun q => ⟨_, _, .answered⟩

theorem of_getService : Effect s (s.after .getService) := by
  unfold State.after exec execGetService
  exact .serve fun q => ⟨_, _, .answered⟩

theorem of_getLoadResult : Effect s (s.after .getLoadResult) := by
  unfold State.after exec execGetLoadResult
  exact .serve fun q => ⟨_, _, .answered⟩

theorem of_getGroup : Effect s (s.after .getGroup) := by
  unfold State.after exec execGetGroup
  exact .serve fun q => Acts.judged fun g _ => ⟨_, _, .ticked⟩

theorem of_getFixture : Effect s (s.after .getFixture) := by
  unfold State.after exec execGetFixture
  exact .serve fun q => Acts.judged fun f _ => ⟨_, _, .answered⟩

theorem of_readFlags : Effect s (s.after .readFlags) := by
  unfold State.after exec execReadFlags
  exact .serve fun q => Acts.judged fun _ _ => ⟨.ok, _, .flagsRead _⟩

theorem of_setReports : Effect s (s.after .setReports) := by
  unfold State.after exec execSetReports
  exact .serve fun q => ⟨.ok, [], .reportsSet _⟩

theorem of_setGroup : Effect s (s.after .setGroup) := by
  unfold State.after exec execSetGroup
  exact .serve fun q => Acts.judged fun a h => ⟨.ok, [], .setGroup a.1 a.2 h⟩

theorem of_setFixture : Effect s (s.after .setFixture) := by
  unfold State.after exec execSetFixture
  exact .serve fun q => Acts.judged fun a h => ⟨.ok, [], .setFixture a.1 a.2 h⟩

theorem of_setZone : Effect s (s.after .setZone) := by
  unfold State.after exec execSetZone
  exact .serve fun q => Acts.judged fun a h => ⟨.ok, [], .setZone a.1 a.2 h⟩

theorem of_setCounter : Effect s (s.after .setCounter) := by
  unfold State.after exec execSetCounter
  exact .serve fun q => Acts.judged fun a h => ⟨.ok, [], .setCounter a.1 a.2 h⟩

theorem of_setWind : Effect s (s.after .setWind) := by
  unfold State.after exec execSetWind
  exact .serve fun q => Acts.judged fun a h => ⟨.ok, [], .setWind a h⟩

theorem of_setLevel : Effect s (s.after .setLevel) := by
  unfold State.after exec execSetLevel
  exact .serve fun q => Acts.judged fun a h => ⟨.ok, [], .setLevel a h⟩

theorem of_setDriveBus : Effect s (s.after .setDriveBus) := by
  unfold State.after exec execSetDriveBus
  exact .serve fun q => Acts.judged fun a h => ⟨.ok, [], .setDriveBus a h⟩

theorem of_setShowOptions : Effect s (s.after .setShowOptions) := by
  unfold State.after exec execSetShowOptions
  exact .serve fun q => Acts.judged fun a h => ⟨.ok, [], .setShowOptions a h⟩

theorem of_setFeeder : Effect s (s.after .setFeeder) := by
  unfold State.after exec execSetFeeder
  exact .serve fun q => Acts.judged fun a h => ⟨.ok, [], .setFeeder a (ok_of_need_ok h)⟩

theorem of_arm : Effect s (s.after .arm) := by
  unfold State.after exec execArm
  exact .serve fun q => Acts.judged fun a h => ⟨.accepted, [], .arm a q.tag h⟩

theorem of_disarm : Effect s (s.after .disarm) := by
  unfold State.after exec execDisarm
  exact .serve fun q => Acts.judged fun _ h => ⟨.ok, [], .disarm (eq_of_refuseIf_ne_ok h)⟩

theorem of_start : Effect s (s.after .start) := by
  unfold State.after exec execStart
  exact .serve fun q => Acts.judged fun _ h => ⟨.ok, [], .start h⟩

theorem of_hold : Effect s (s.after .hold) := by
  unfold State.after exec execHold
  exact .serve fun q => Acts.judged fun _ h => ⟨.ok, [], .hold (eq_of_refuseIf_ne_ok h)⟩

theorem of_resume : Effect s (s.after .resume) := by
  unfold State.after exec execResume
  exact .serve fun q => Acts.judged fun _ h => ⟨.ok, [], .resume (eq_of_refuseIf_ne_ok h)⟩

theorem of_stop : Effect s (s.after .stop) := by
  unfold State.after exec execStop
  exact .serve fun q => Acts.judged fun _ h => ⟨.ok, [], .stop h⟩

theorem of_directJet : Effect s (s.after .directJet) := by
  unfold State.after exec execDirectJet
  exact .serve fun q => Acts.judged fun a _ => ⟨.ok, _, .directJet a.1 a.2.1 a.2.2⟩

theorem of_directLight : Effect s (s.after .directLight) := by
  unfold State.after exec execDirectLight
  exact .serve fun q => Acts.judged fun _ _ => ⟨.ok, _, .directLight _ _ _⟩

theorem of_directClipPlay : Effect s (s.after .directClipPlay) := by
  unfold State.after exec execDirectClipPlay
  exact .serve fun q => Acts.judged fun a _ => ⟨.ok, [], .clipPlays a.1 a.2⟩

theorem of_directClipStop : Effect s (s.after .directClipStop) := by
  unfold State.after exec execDirectClipStop
  exact .serve fun q => Acts.judged fun _ _ => ⟨.ok, [], .clipStops⟩

theorem of_clearTrip (inputs : Inputs) : Effect s (s.after (.clearTrip inputs)) := by
  unfold State.after exec execClearTrip
  exact .serve fun q => Acts.judged fun _ h => ⟨.ok, [], .clearTrip inputs h⟩

theorem of_clearGroupFault : Effect s (s.after .clearGroupFault) := by
  unfold State.after exec execClearGroupFault
  exact .serve fun q => Acts.judged fun g h => ⟨.ok, [], .clearFault g h⟩

theorem of_flashWrite : Effect s (s.after .flashWrite) := by
  unfold State.after exec execFlashWrite
  exact .serve fun q => flashService s q _ _ fun w h => .flashWrite q.kind q.tag w h

theorem of_flashErase : Effect s (s.after .flashErase) := by
  unfold State.after exec execFlashErase
  exact .serve fun q => flashService s q _ _ fun w h => .flashErase q.kind q.tag w h

theorem of_saveSettings : Effect s (s.after .saveSettings) := by
  unfold State.after exec execSaveSettings
  exact .serve fun q => Acts.judged fun _ h => ⟨.accepted, [], .save q h⟩

theorem of_reloadSettings : Effect s (s.after .reloadSettings) := by
  unfold State.after exec execReloadSettings
  exact .serve fun q => Acts.judged fun _ h => ⟨.accepted, [], .reload q.kind q.tag h⟩

theorem of_halt : Effect s (s.after .halt) := by
  unfold State.after exec execHalt
  exact .serve fun q => ⟨.ok, [], .halt⟩

theorem of_release (inputs : Inputs) : Effect s (s.after (.release inputs)) := by
  unfold State.after exec execRelease
  exact .serve fun q => Acts.judged fun _ h => ⟨.ok, [], .release inputs (eq_true_of_refuseIf_not_ok h)⟩

end Effect

/-- Every command has one of the effects. -/
theorem after_effect (c : Instr) (s : State) : Effect s (s.after c) := by
  cases c with
  | powerOn i b => exact .reset .powerOn i b []
  | pinReset i b => exact .reset .pinReset i b _
  | identificationDone x => exact .of_identificationDone s x
  | estopActive => exact .cause _ _
  | intrusionActive x => exact .of_intrusionActive s x
  | anemoPulse => exact .pulse
  | windGate => exact .windGate
  | levelSample x => exact .levelSample x
  | intrusionDropTimer => exact .of_intrusionDropTimer s
  | driveCycle => exact .driveCycle
  | pollSent x => exact .of_pollSent s x
  | lineJammed => exact .of_lineJammed s
  | driveReply x y z => exact .of_driveReply s x y z
  | replyWindowExpiry => exact .of_replyWindowExpiry s
  | strokeTimeout x => exact .of_strokeTimeout s x
  | lampFrame => exact .lampFrame
  | audioFrame => exact .audio _ _
  | showMillisecond => exact .of_showMillisecond s
  | showClipStart => exact Effect.ite_audio s _ _ (Effect.ite_audio s _ _ .idle)
  | clipStartWhenReady => exact Effect.ite_audio s _ _ (Effect.ite_audio s _ _ .idle)
  | clipEnd => exact .of_clipEnd s
  | announcementGapEnd => exact .of_announcementGapEnd s
  | muteComplete => exact Effect.ite_audio s _ _ .idle
  | stopFadeEnd => exact Effect.ite_audio s _ _ .idle
  | audioWindowEnd => exact .of_audioWindowEnd s
  | chunkArrival x => exact .of_chunkArrival s x
  | suspendGuardEnd => exact .of_suspendGuardEnd s
  | flashTimeout => exact .of_flashTimeout s
  | deviceResetComplete => exact .of_deviceResetComplete s
  | loadReadDone => exact .of_loadReadDone s
  | directoryReadDone => exact .of_directoryReadDone s
  | settingsReadDone => exact .of_settingsReadDone s
  | flashReadDone x => exact .of_flashReadDone s x
  | programDone => exact .of_programDone s
  | eraseDone => exact .of_eraseDone s
  | linkFrameReceived x => exact .of_linkFrameReceived s x
  | gapTimeout => exact .of_gapTimeout s
  | frameSent => exact .of_frameSent s
  | unknownRequest => exact .of_unknownRequest s
  | getIdent => exact .of_getIdent s
  | getStatus => exact .of_getStatus s
  | getGroup => exact .of_getGroup s
  | getFixture => exact .of_getFixture s
  | getChannels => exact .of_getChannels s
  | readFlags => exact .of_readFlags s
  | getTripLog => exact .of_getTripLog s
  | getService => exact .of_getService s
  | getLoadResult => exact .of_getLoadResult s
  | setGroup => exact .of_setGroup s
  | setFixture => exact .of_setFixture s
  | setZone => exact .of_setZone s
  | setWind => exact .of_setWind s
  | setLevel => exact .of_setLevel s
  | setFeeder => exact .of_setFeeder s
  | setCounter => exact .of_setCounter s
  | setDriveBus => exact .of_setDriveBus s
  | setShowOptions => exact .of_setShowOptions s
  | setReports => exact .of_setReports s
  | arm => exact .of_arm s
  | disarm => exact .of_disarm s
  | start => exact .of_start s
  | hold => exact .of_hold s
  | resume => exact .of_resume s
  | stop => exact .of_stop s
  | directJet => exact .of_directJet s
  | directLight => exact .of_directLight s
  | directClipPlay => exact .of_directClipPlay s
  | directClipStop => exact .of_directClipStop s
  | clearTrip x => exact .of_clearTrip s x
  | clearGroupFault => exact .of_clearGroupFault s
  | flashRead => exact .of_flashRead s
  | flashWrite => exact .of_flashWrite s
  | flashErase => exact .of_flashErase s
  | saveSettings => exact .of_saveSettings s
  | reloadSettings => exact .of_reloadSettings s
  | halt => exact .of_halt s
  | release x => exact .of_release s x
  | linkByteReceived x => exact .of_linkByteReceived s x
  | siteClockTick => exact .clockTick

/-- A property that no effect breaks, and that does not read the queue of commands, is kept by every step. -/
theorem step_keeps_of_effect {P : State → Prop} (queue : ∀ (s : State) (q : List Instr), P s → P (s.withPending q))
    (effect : ∀ s t : State, P s → Effect s t → P t) (s t : State) (h : P s) (ht : step s = .next t) : P t :=
  step_keeps queue (fun c u hu => effect u _ hu (after_effect c u)) s t h ht

end Sys2Proof.Machine
end

section
namespace Sys2Proof.Machine

theorem eachGroup_field {β : Type} (π : State → β) (f : Fin 24 → State → State) (h : ∀ t g, π (f g t) = π t) (s : State) :
    π (s.eachGroup f) = π s := by
  unfold State.eachGroup
  generalize List.finRange 24 = gs
  exact State.foldl_field π (fun t g => f g t) h gs s

namespace State
variable (s : State)

@[simp] theorem reenter_pending (g : Fin 24) : (s.reenter g).pending = s.pending := by
  unfold reenter
  split
  · rfl
  · dsimp only
    split <;> simp

@[simp] theorem releaseCopy_pending : s.releaseCopy.pending = s.pending := by
  unfold releaseCopy
  split <;> simp

@[simp] theorem haltPart_pending : s.haltPart.pending = s.pending := by simp [haltPart]

@[simp] theorem releasePart_pending (inputs : Inputs) : (s.releasePart inputs).pending = s.pending := by
  unfold releasePart
  dsimp only
  split <;> simp [eachGroup_field State.pending _ fun t g => reenter_pending t g]

@[simp] theorem programmed_pending (t : Txn) : (s.programmed t).pending = s.pending := by
  cases t <;> simp [programmed]

@[simp] theorem erased_pending (t : Txn) : (s.erased t).pending = s.pending := by
  cases t <;> simp [erased]

@[simp] theorem flashTimeout_pending : s.flashTimeout.pending = s.pending := by
  unfold flashTimeout
  split <;> simp

@[simp] theorem setShowOptions_pending (o : ShowOptions) : (s.setShowOptions o).pending = s.pending := by
  unfold setShowOptions
  dsimp only
  split <;> simp

@[simp] theorem stopShow_pending : s.stopShow.pending = s.pending := by
  unfold stopShow
  split <;> simp

end State

theorem acts_pending {p : List Byte} {a u : State} (h : Acts p a u) : u.pending = a.pending := by
  cases h <;> simp [State.setGroup, State.setFixture, State.setZone, State.setWind, State.setLevel, State.setFeeder,
    State.setCounter, State.setDriveBus, State.directJet, State.beginFlash, State.beginSave]

theorem effect_pending {s t : State} (h : Effect s t) : t.pending = s.pending := by
  cases h with
  | request q st fields u hq hp h => simpa using acts_pending h
  | _ => simp [State.resetTo, State.resetBlocks, State.flashRead, State.chunkRead]

/-- Settles O2: the state that the command answers, with the queue kept by each of the effects a command can have. -/
theorem everyCommandAnswersNext : Obligations.EveryCommandAnswersNext := fun c s =>
  ⟨s.after c, exec_eq_after c s, effect_pending (after_effect c s)⟩

/-- Settles O42: the two commands by their meanings, the counters wrapping at their widths. -/
theorem pulseAndTickCount : Obligations.PulseAndTickCount := by
  refine ⟨fun s => ⟨rfl, rfl, ?_, ?_⟩, fun s h => ?_⟩
  · exact BitVec.toNat_add s.sup.anemo 1
  · exact BitVec.toNat_add s.clock 1
  · simp only [step, h]

end Sys2Proof.Machine
end

section
/-! The mixer (R57). -/

namespace Sys2Proof.Machine

theorem saturate_eq (x : Int) : saturate x = if x < -32768 then -32768 else if 32767 < x then 32767 else x := by
  unfold saturate
  split
  · omega
  · split <;> omega

/-- A division by 2 is the floor. -/
theorem mixZone_eq (z : ZoneRecord) (l2 r2 : Int) (factor : Nat) : mixZone z l2 r2 factor =
    saturate ((((match z.source with | .left => l2 | .right => r2 | .mono => Int.fdiv (l2 + r2) 2) * (z.gain : Int)).tdiv 1000
      * (factor : Int)).tdiv 960) := by
  unfold mixZone
  cases z.source with
  | left => rfl
  | right => rfl
  | mono => simp only [Int.fdiv_eq_ediv_of_nonneg (l2 + r2) (by decide : (0 : Int) ≤ 2)]

/-- Settles O19: the gains of steps 1 and 2, the zone's step 3, and the saturation at its ends. -/
theorem mixerFollowsItsSteps : Obligations.MixerFollowsItsSteps := by
  intro cfg z factor l r st
  exact ⟨rfl, (mixZone_eq _ _ _ _).trans (saturate_eq _)⟩

end Sys2Proof.Machine
end

section
/-! The flash device's bytes stay in canonical form: the only operations that write them are the ends and the cut-offs of programs
and erases, and the suspension of an erase. -/

namespace Sys2Proof.Machine

namespace State

/-- The flash device's bytes are in canonical form. -/
def flashWf (s : State) : Prop := Memory.wf s.flash = true

variable {s : State}

theorem flashWf_of_flash_eq {t : State} (h : s.flashWf) (e : t.flash = s.flash) : t.flashWf := by
  unfold flashWf at *
  rwa [e]

theorem suspend_flashWf (t : Txn) (h : s.flashWf) : (s.suspend t).flashWf :=
  Memory.partErase_wf (s.flp.eraseExtent t).1 (s.flp.eraseExtent t).2
    (fun a => if Config.eraseTaken s.fresh a then 0xFF else 0) h

theorem arbitrate_flashWf (h : s.flashWf) : s.arbitrate.flashWf := by
  unfold arbitrate
  split
  · exact flashWf_of_flash_eq h (by simp)
  · split
    · exact suspend_flashWf _ h
    · exact h
  all_goals exact h

theorem settleFlash_flashWf (h : s.flashWf) : s.settleFlash.flashWf := arbitrate_flashWf h

theorem settle_flashWf (h : s.flashWf) : s.settle.flashWf :=
  flashWf_of_flash_eq (settleFlash_flashWf h) (by simp [settle])

theorem settleFlash_kick_flashWf (h : s.flashWf) : s.settleFlash.kick.flashWf := settleFlash_flashWf h

@[simp] theorem programmed_flash (t : Txn) :
    (s.programmed t).flash = Memory.program s.flash (s.programOf t).1 (s.programOf t).2 := by
  cases t <;> simp [programmed]

@[simp] theorem erased_flash (t : Txn) :
    (s.erased t).flash = Memory.erase s.flash (s.flp.eraseExtent t).1 (s.flp.eraseExtent t).2 := by
  cases t <;> simp [erased]

theorem programmed_flashWf (t : Txn) (h : s.flashWf) : (s.programmed t).flashWf := by
  unfold flashWf
  rw [programmed_flash]
  exact Memory.program_wf _ _ h

theorem erased_flashWf (t : Txn) (h : s.flashWf) : (s.erased t).flashWf := by
  unfold flashWf
  rw [erased_flash]
  exact Memory.erase_wf _ _ h

theorem cutProgram_flashWf (t : Txn) (h : s.flashWf) : (s.cutProgram t).flashWf := Memory.partProgram_wf _ _ _ h

theorem cutErase_flashWf (t : Txn) (h : s.flashWf) : (s.cutErase t).flashWf := Memory.partErase_wf _ _ _ h

theorem cutOff_flashWf (h : s.flashWf) : s.cutOff.flashWf := by
  unfold cutOff
  split
  · exact cutProgram_flashWf _ h
  · exact cutErase_flashWf _ h
  · exact cutErase_flashWf _ h
  · exact cutErase_flashWf _ h
  all_goals exact h

theorem resetTo_flashWf (kind : ResetKind) (inputs : Inputs) (straps : BitVec 2) (log : List TripRecord) (h : s.flashWf) :
    (s.resetTo kind inputs straps log).flashWf :=
  flashWf_of_flash_eq (cutOff_flashWf h) (by simp [resetTo, resetBlocks])

theorem flashTimeout_flashWf (h : s.flashWf) : s.flashTimeout.flashWf := by
  unfold flashTimeout
  split
  next t _ => exact flashWf_of_flash_eq h (by simp)
  next t _ => exact flashWf_of_flash_eq (cutProgram_flashWf t h) (by simp)
  next t _ => exact flashWf_of_flash_eq (cutErase_flashWf t h) (by simp)
  next t _ => exact flashWf_of_flash_eq (cutErase_flashWf t h) (by simp)
  next t _ => exact flashWf_of_flash_eq (cutErase_flashWf t h) (by simp)
  all_goals exact h

@[simp] theorem reenter_flash (g : Fin 24) : (s.reenter g).flash = s.flash := by
  unfold reenter
  split
  · rfl
  · dsimp only
    split <;> simp

@[simp] theorem releaseCopy_flash : s.releaseCopy.flash = s.flash := by
  unfold releaseCopy
  split <;> simp

@[simp] theorem releasePart_flash (inputs : Inputs) : (s.releasePart inputs).flash = s.flash := by
  unfold releasePart
  dsimp only
  split <;> simp [eachGroup_field State.flash _ fun t g => reenter_flash g]

@[simp] theorem setShowOptions_flash (o : ShowOptions) : (s.setShowOptions o).flash = s.flash := by
  unfold setShowOptions
  dsimp only
  split <;> simp

@[simp] theorem stopShow_flash : s.stopShow.flash = s.flash := by
  unfold stopShow
  split <;> simp

end State

open State

theorem acts_flashWf {p : List Byte} {a u : State} (h : Acts p a u) (ha : a.flashWf) : u.flashWf := by
  cases h with
  | arm | start | stop | clipPlays =>
    exact settleFlash_flashWf (flashWf_of_flash_eq ha (by simp))
  | flashWrite | flashErase | save | reload =>
    exact settleFlash_flashWf (flashWf_of_flash_eq ha (by simp [beginFlash, beginSave]))
  | clearTrip | clearFault | halt | release =>
    exact settle_flashWf (flashWf_of_flash_eq ha (by simp [haltPart]))
  | setCounter => exact settle_flashWf (flashWf_of_flash_eq ha (by simp))
  | _ => exact flashWf_of_flash_eq ha (by simp [setGroup, setFixture, setZone, setWind, setLevel, setFeeder, setDriveBus,
      State.directJet])

theorem effect_flashWf {s t : State} (hs : s.flashWf) (h : Effect s t) : t.flashWf := by
  cases h with
  | reset => exact resetTo_flashWf _ _ _ _ hs
  | programmed t => exact settleFlash_kick_flashWf (programmed_flashWf t hs)
  | erased t => exact settleFlash_kick_flashWf (erased_flashWf t hs)
  | erasedSuspended t => exact settleFlash_kick_flashWf (erased_flashWf t (flashWf_of_flash_eq hs (by simp)))
  | flashTimeout => exact settle_flashWf (flashTimeout_flashWf hs)
  | identified | cause | windGate | levelSample | poll | jam | pollEnd | stroke | directoryRead | settingsRead =>
    exact settle_flashWf (flashWf_of_flash_eq hs (by simp))
  | dispatch | stopping | loadRead | hostRead | flashRead =>
    exact settleFlash_kick_flashWf (flashWf_of_flash_eq hs (by simp [State.flashRead]))
  | audio | chunkRead | chunkReadSuspended | guardEnd | deviceReset =>
    exact settleFlash_flashWf (flashWf_of_flash_eq hs (by simp))
  | request q st fields u hq hp h => exact flashWf_of_flash_eq (acts_flashWf h hs) rfl
  | _ => exact flashWf_of_flash_eq hs (by simp)

/-- Settles O3: no effect of a command breaks the canonical form. -/
theorem stepKeepsFlashCanonical : Obligations.StepKeepsFlashCanonical := fun s t hs ht =>
  step_keeps_of_effect (P := State.flashWf) (fun _ _ h => h) (fun _ _ => effect_flashWf) s t hs ht

end Sys2Proof.Machine
end

section
/-! What the operations between a request's arrival and the end of a step do to the link: reports join its queue, at most so many,
its slots and its start-up mark follow the services, and nothing else changes (R183 to R186). -/

namespace Sys2Proof.Machine

/-- The link without its reports, its service slots and its start-up mark. -/
def Lif.rest (l : Lif) : Lif :=
  { l with armSlot := SlotRecord.empty, flashSlot := SlotRecord.empty, settingsSlot := SlotRecord.empty, starting := false,
           reports := [], dropped := 0 }

/-- At most n reports have joined the queue, within its size, or been dropped and counted, and the rest of the link is as it was. -/
structure Lif.Grows (n : Nat) (l m : Lif) : Prop where
  rest : m.rest = l.rest
  reports : ∃ rs, m.reports = l.reports ++ rs ∧ rs.length ≤ n
  room : l.reports.length ≤ 16 → m.reports.length ≤ 16
  dropped : l.dropped ≤ 65535 → l.dropped ≤ m.dropped ∧ m.dropped ≤ 65535

namespace Lif.Grows

variable {n : Nat} {l m : Lif}

theorem refl (n : Nat) (l : Lif) : Grows n l l := ⟨rfl, ⟨[], by simp⟩, id, fun h => ⟨le_rfl, h⟩⟩

theorem trans {a b c : Nat} {k : Lif} (h : Grows a l m) (h' : Grows b m k) (le : a + b ≤ c) : Grows c l k := by
  obtain ⟨rs, hrs, hn⟩ := h.reports
  obtain ⟨rs', hrs', hn'⟩ := h'.reports
  refine ⟨h'.rest.trans h.rest, ⟨rs ++ rs', by rw [hrs', hrs, List.append_assoc], by rw [List.length_append]; omega⟩,
    h'.room ∘ h.room, fun hl => ?_⟩
  obtain ⟨hlm, hm⟩ := h.dropped hl
  exact ⟨hlm.trans (h'.dropped hm).1, (h'.dropped hm).2⟩

theorem mono {a b : Nat} (h : Grows a l m) (le : a ≤ b) : Grows b l m := h.trans (refl 0 m) (by omega)

theorem inbox (h : Grows n l m) : m.inbox = l.inbox := (congrArg Lif.inbox h.rest :)
theorem answers (h : Grows n l m) : m.answers = l.answers := (congrArg Lif.answers h.rest :)
theorem readPlace (h : Grows n l m) : m.readPlace = l.readPlace := (congrArg Lif.readPlace h.rest :)
theorem tx (h : Grows n l m) : m.tx = l.tx := (congrArg Lif.tx h.rest :)
theorem enable (h : Grows n l m) : m.enable = l.enable := (congrArg Lif.enable h.rest :)
theorem halted (h : Grows n l m) : m.halted = l.halted := (congrArg Lif.halted h.rest :)

theorem length_le (h : Grows n l m) : m.reports.length ≤ l.reports.length + n := by
  obtain ⟨rs, hrs, hn⟩ := h.reports
  rw [hrs, List.length_append]
  omega

theorem mem (h : Grows n l m) {r : Report} (hr : r ∈ l.reports) : r ∈ m.reports := by
  obtain ⟨rs, hrs, -⟩ := h.reports
  rw [hrs]
  exact List.mem_append_left rs hr

theorem placesUsed (h : Grows n l m) : m.placesUsed = l.placesUsed := by
  unfold Lif.placesUsed
  rw [h.answers, h.tx, h.readPlace]

theorem busyUsed (h : Grows n l m) : m.busyUsed = l.busyUsed := by
  unfold Lif.busyUsed
  rw [h.answers, h.tx]

/-- Only the slots and the start-up mark of the link differ. -/
theorem of_rest (n : Nat) (rest : m.rest = l.rest) (reports : m.reports = l.reports) (dropped : m.dropped = l.dropped) :
    Grows n l m :=
  ⟨rest, ⟨[], by simp [reports]⟩, by rw [reports]; exact id, fun h => by rw [dropped]; exact ⟨le_rfl, h⟩⟩

theorem withReport (l : Lif) (r : Report) : Grows 1 l (l.withReport r) := by
  unfold Lif.withReport
  split
  · split
    · refine ⟨rfl, ⟨[], by simp⟩, id, fun h => ?_⟩
      dsimp only
      omega
    · exact ⟨rfl, ⟨[r], rfl, le_rfl⟩, fun _ => by simp; omega, fun h => ⟨le_rfl, h⟩⟩
  · exact refl 1 l

theorem withSlot (l : Lif) (k : ServiceSlot) (r : SlotRecord) : Grows 0 l (l.withSlot k r) := by
  cases k <;> exact of_rest 0 rfl rfl rfl

end Lif.Grows

namespace State

variable {n : Nat} {l : Lif} {s : State}

theorem foldl_grows {α : Type} {f : State → α → State} {k : Nat}
    (hf : ∀ (n : Nat) (l : Lif) (a : State) (e : α), l.Grows n a.lif → l.Grows (n + k) (f a e).lif) {es : List α}
    (h : l.Grows n s.lif) : l.Grows (n + es.length * k) (es.foldl f s).lif := by
  induction es generalizing s n with
  | nil => exact .mono h (by omega)
  | cons e es ih => exact .mono (ih (hf _ _ _ e h)) (by rw [List.length_cons, Nat.succ_mul]; omega)

theorem foldl_grows_length {α : Type} {f : State → α → State}
    (hf : ∀ (n : Nat) (l : Lif) (a : State) (e : α), l.Grows n a.lif → l.Grows (n + 1) (f a e).lif) {es : List α}
    (h : l.Grows n s.lif) : l.Grows (n + es.length) (es.foldl f s).lif := by
  simpa using foldl_grows hf h

theorem ite_grows {c : Prop} [Decidable c] {t u : State} (ht : l.Grows n t.lif) (hu : l.Grows n u.lif) :
    l.Grows n (if c then t else u).lif := by
  split
  · exact ht
  · exact hu

theorem eachGroup_grows {f : Fin 24 → State → State} {k : Nat}
    (hf : ∀ (n : Nat) (l : Lif) (a : State) (g : Fin 24), l.Grows n a.lif → l.Grows (n + k) (f g a).lif)
    (h : l.Grows n s.lif) : l.Grows (n + 24 * k) (s.eachGroup f).lif := by
  have hfold := foldl_grows (f := fun t g => f g t) hf h (es := List.finRange 24)
  rwa [List.length_finRange] at hfold

theorem eachChannel_grows {f : Fin 27 → State → State} {k : Nat}
    (hf : ∀ (n : Nat) (l : Lif) (a : State) (i : Fin 27), l.Grows n a.lif → l.Grows (n + k) (f i a).lif)
    (h : l.Grows n s.lif) : l.Grows (n + 27 * k) (s.eachChannel f).lif := by
  have hfold := foldl_grows (f := fun t i => f i t) hf h (es := List.finRange 27)
  rwa [List.length_finRange] at hfold

/-! ### Reports and slots -/

theorem report_grows {r : Report} (h : l.Grows n s.lif) :
    l.Grows (n + 1) (s.report r).lif := h.trans (.withReport s.lif r) (by omega)

theorem sayShow_grows {r : Option EndReason} (h : l.Grows n s.lif) :
    l.Grows (n + 1) (s.sayShow r).lif := report_grows h

theorem beginService_grows {k : ServiceSlot} {st : SlotStatus} {kind tag : Byte} (h : l.Grows n s.lif) :
    l.Grows n (s.beginService k st kind tag).lif := h.trans (.withSlot s.lif k _) (by omega)

theorem endService_grows {k : ServiceSlot} {f : Failure} {c : Option Nat} {i : Option ImageState} (h : l.Grows n s.lif) :
    l.Grows (n + 1) (s.endService k f c i).lif := by
  unfold endService
  exact report_grows (h.trans (.withSlot s.lif k _) (by omega) (c := n))

theorem of_lif_eq_grows {t : State} (e : t.lif = s.lif) (h : l.Grows n s.lif) :
    l.Grows n (t).lif := e ▸ h

/-! ### The flash port -/

theorem startTxn_grows {t : Txn} (h : l.Grows n s.lif) :
    l.Grows n (s.startTxn t).lif := by
  unfold startTxn
  dsimp only
  split
  · exact h.trans (.of_rest 0 rfl rfl rfl) (by omega)
  · exact h

theorem chooseTxn_grows (h : l.Grows n s.lif) :
    l.Grows n (s.chooseTxn).lif := by
  unfold chooseTxn
  split
  · exact startTxn_grows h
  · split
    · exact h
    · exact startTxn_grows h
    · exact startTxn_grows h
    · split <;> exact startTxn_grows h

theorem arbitrate_grows (h : l.Grows n s.lif) :
    l.Grows n (s.arbitrate).lif := by
  unfold arbitrate
  split
  · exact chooseTxn_grows h
  · split <;> exact h
  all_goals exact h

theorem settleFlash_grows (h : l.Grows n s.lif) :
    l.Grows n (s.settleFlash).lif := by
  unfold settleFlash
  exact arbitrate_grows h

theorem endFlash_grows {f : Failure} (h : l.Grows n s.lif) :
    l.Grows (n + 1) (s.endFlash f).lif := by
  unfold endFlash
  exact endService_grows h

/-! ### The show -/

theorem showIdle_grows {r : EndReason} (h : l.Grows n s.lif) :
    l.Grows (n + 1) (s.showIdle r).lif := by
  unfold showIdle
  exact sayShow_grows h

theorem testStopping_grows (h : l.Grows n s.lif) :
    l.Grows (n + 1) (s.testStopping).lif := by
  unfold testStopping
  split
  · split
    · exact showIdle_grows h
    · exact .mono h (by omega)
  · exact .mono h (by omega)

theorem enterStopping_grows {r : EndReason} (h : l.Grows n s.lif) :
    l.Grows (n + 2) (s.enterStopping r).lif := by
  unfold enterStopping
  exact testStopping_grows (sayShow_grows h)

theorem failLoad_grows {f : Failure} {c : Option Nat} {b : List Byte} {r : EndReason} (h : l.Grows n s.lif) :
    l.Grows (n + 2) (s.failLoad f c b r).lif := by
  unfold failLoad
  exact endService_grows (showIdle_grows h)

theorem interruptLoad_grows {f : Failure} {r : EndReason} (h : l.Grows n s.lif) :
    l.Grows (n + 2) (s.interruptLoad f r).lif := by
  unfold interruptLoad
  exact failLoad_grows h

theorem abortShow_grows {f : Failure} {r : EndReason} (h : l.Grows n s.lif) :
    l.Grows (n + 2) (s.abortShow f r).lif := by
  unfold abortShow
  split
  · exact .mono h (by omega)
  · exact interruptLoad_grows h
  all_goals exact .mono (showIdle_grows h) (by omega)

theorem armShow_grows {hdr : ShowHeader} {cs : List Cue} {ls : Lanes} {k : LoadCounts} (h : l.Grows n s.lif) :
    l.Grows (n + 2) (s.armShow hdr cs ls k).lif := by
  unfold armShow
  exact endService_grows (sayShow_grows h)

theorem finishLoad_grows {hdr : ShowHeader} {rs : List Byte} (h : l.Grows n s.lif) :
    l.Grows (n + 2) (s.finishLoad hdr rs).lif := by
  unfold finishLoad
  split
  · exact failLoad_grows h
  · split
    · exact failLoad_grows h
    · dsimp only
      split
      · exact failLoad_grows h
      · exact armShow_grows h

theorem beginLoad_grows {slot : Nat} {tag : Byte} (h : l.Grows n s.lif) :
    l.Grows (n + 3) (s.beginLoad slot tag).lif := by
  have hsay := sayShow_grows (r := none) (beginService_grows (k := .arm) (st := .running) (kind := 0x20) (tag := tag)
    (s := { s with seq := { s.seq with st := .loading, slot := slot, load := some .header } }) h)
  unfold beginLoad
  dsimp only
  split
  · exact failLoad_grows hsay
  · split <;> exact .mono hsay (by omega)

theorem askDirectory_grows {w : CopyFor} (h : l.Grows n s.lif) :
    l.Grows n (s.askDirectory w).lif := of_lif_eq_grows (askDirectory_lif s w) h

theorem loadRead_grows {bytes : List Byte} (h : l.Grows n s.lif) :
    l.Grows (n + 2) (s.loadRead bytes).lif := by
  unfold loadRead
  split
  · dsimp only
    split <;> exact .mono h (by omega)
  · split
    · dsimp only
      split
      · exact .mono h (by omega)
      · exact failLoad_grows h
    · dsimp only
      split
      · exact .mono h (by omega)
      · split
        · exact .mono (askDirectory_grows h) (by omega)
        · exact failLoad_grows h
    · exact .mono h (by omega)

theorem loadReadFailed_grows (h : l.Grows n s.lif) :
    l.Grows (n + 2) (s.loadReadFailed).lif := by
  unfold loadReadFailed
  split
  · dsimp only
    split <;> exact .mono h (by omega)
  · exact failLoad_grows h

theorem dispatchMark_grows {t : Int} {e : MarkEntry} (h : l.Grows n s.lif) :
    l.Grows (n + 1) (s.dispatchMark t e).lif := by
  unfold dispatchMark
  split
  · exact report_grows h
  · exact .mono h (by omega)

/-- The reports of a delivery are those of its due marks. -/
theorem deliver_grows {t : Int} (h : l.Grows n s.lif) :
    l.Grows (n + (s.seq.lanes.marks.due MarkEntry.at_ t).length) (s.deliver t).lif := by
  unfold deliver
  dsimp only
  refine foldl_grows_length (fun _ _ _ _ h => dispatchMark_grows h) ?_
  rw [foldl_field State.lif (fun a e => a.dispatchClip e) (fun a e => dispatchClip_lif a e),
    foldl_field State.lif (fun a (e : LightEntry) => a.latchRange e.first e.last e.latch) fun _ _ => rfl]
  exact h

theorem dispatchEvent_grows {t : Int} (h : l.Grows n s.lif) :
    l.Grows (n + ((s.seq.lanes.marks.due MarkEntry.at_ t).length + 2)) (s.dispatchEvent t).lif := by
  unfold dispatchEvent
  dsimp only
  split
  · exact .mono (enterStopping_grows (deliver_grows h)) (by omega)
  · split
    · exact .mono (enterStopping_grows (deliver_grows h)) (by omega)
    · exact .mono (deliver_grows h) (by omega)

/-- START reports the show state, and then what its dispatch event reports. -/
theorem startShow_grows (h : l.Grows n s.lif) :
    l.Grows (n + ((s.seq.lanes.marks.due MarkEntry.at_ (-(s.seq.preroll : Int))).length + 3)) (s.startShow).lif := by
  unfold startShow
  exact .mono (dispatchEvent_grows (sayShow_grows h)) (by simp only [sayShow_seq]; omega)

theorem stopShow_grows (h : l.Grows n s.lif) :
    l.Grows (n + 2) (s.stopShow).lif := by
  unfold stopShow
  split
  · exact interruptLoad_grows h
  · exact enterStopping_grows h

/-! ### The water -/

theorem sayGroup_grows {g : Fin 24} {left : Option Interlock} {code : Option Byte} (h : l.Grows n s.lif) :
    l.Grows (n + 1) (s.sayGroup g left code).lif := by
  unfold sayGroup
  split
  · exact report_grows h
  · exact .mono h (by omega)

theorem judgeDrop_grows (h : l.Grows n s.lif) :
    l.Grows n (s.judgeDrop).lif := of_lif_eq_grows (judgeDrop_lif s) h

theorem offerChange_grows (h : l.Grows n s.lif) :
    l.Grows (n + 1) (s.offerChange).lif := by
  unfold offerChange
  exact judgeDrop_grows (testStopping_grows h)

theorem postAtChange_grows {g : Fin 24} {left into : Interlock} (h : l.Grows n s.lif) :
    l.Grows n (s.postAtChange g left into).lif := of_lif_eq_grows (postAtChange_lif s g left into) h

theorem changeInterlock_grows {g : Fin 24} {left into : Interlock} {cause : FaultCause} {code : Option Byte} (h : l.Grows n s.lif) :
    l.Grows (n + 2) (s.changeInterlock g left into cause code).lif := by
  unfold changeInterlock
  exact offerChange_grows (postAtChange_grows (sayGroup_grows h))

theorem postDemand_grows {g : Fin 24} {v : Nat} (h : l.Grows n s.lif) :
    l.Grows n (s.postDemand g v).lif := of_lif_eq_grows (postDemand_lif s g v) h

theorem computePoll_grows {g : Fin 24} (h : l.Grows n s.lif) :
    l.Grows (n + 2) (s.computePoll g).lif := by
  unfold computePoll
  dsimp only
  split
  · exact .mono h (by omega)
  · split
    · split
      · exact offerChange_grows (sayGroup_grows (postDemand_grows h))
      · exact .mono (offerChange_grows (s := withGroup _ _ _) (postDemand_grows h)) (by omega)
    · split
      · exact .mono (sayGroup_grows (s := withGroup _ _ _) (postDemand_grows h)) (by omega)
      · exact .mono (postDemand_grows h) (by omega)

theorem takeReply_grows {g : Fin 24} {rep : DriveReply} (h : l.Grows n s.lif) :
    l.Grows (n + 2) (s.takeReply g rep).lif := by
  unfold takeReply
  dsimp only
  split
  · exact .mono h (by omega)
  · exact .mono h (by omega)
  · exact .mono h (by omega)
  · split
    · exact changeInterlock_grows h
    · split
      · exact changeInterlock_grows h
      · split
        · exact changeInterlock_grows h
        · split
          · exact changeInterlock_grows h
          · exact .mono h (by omega)

theorem strokeExpire_grows {g : Fin 24} (h : l.Grows n s.lif) :
    l.Grows (n + 2) (s.strokeExpire g).lif := by
  unfold strokeExpire
  split
  · exact changeInterlock_grows h
  · exact .mono h (by omega)

theorem loseGroup_grows {g : Fin 24} (h : l.Grows n s.lif) :
    l.Grows (n + 2) (s.loseGroup g).lif := by
  unfold loseGroup
  split
  · exact .mono h (by omega)
  · exact .mono h (by omega)
  · exact changeInterlock_grows h

theorem findGroup_grows {g : Fin 24} (h : l.Grows n s.lif) :
    l.Grows (n + 2) (s.findGroup g).lif := by
  unfold findGroup
  split
  · exact changeInterlock_grows h
  · exact .mono h (by omega)

theorem bringDown_grows {g : Fin 24} (h : l.Grows n s.lif) :
    l.Grows (n + 2) (s.bringDown g).lif := by
  unfold bringDown
  split
  · exact .mono h (by omega)
  · dsimp only
    split
    · exact changeInterlock_grows h
    · exact .mono h (by omega)

theorem waterDown_grows (h : l.Grows n s.lif) :
    l.Grows (n + 48) (s.waterDown).lif := by
  unfold waterDown
  exact eachGroup_grows (k := 2) (fun _ _ _ _ h => bringDown_grows h) h

theorem configure_grows {g : Fin 24} {left : Option Interlock} (h : l.Grows n s.lif) :
    l.Grows (n + 2) (s.configure g left).lif := by
  unfold configure
  exact offerChange_grows (sayGroup_grows (postDemand_grows h))

theorem unconfigure_grows {g : Fin 24} (h : l.Grows n s.lif) :
    l.Grows n (s.unconfigure g).lif := by
  unfold unconfigure
  exact postDemand_grows h

theorem regroup_grows {g : Fin 24} {old : GroupRecord} (h : l.Grows n s.lif) :
    l.Grows (n + 2) (s.regroup g old).lif := by
  unfold regroup
  dsimp only
  split
  · exact configure_grows h
  · split
    · exact .mono h (by omega)
    · exact configure_grows h
  · exact .mono (unconfigure_grows (s := { s with dbm := _ }) h) (by omega)
  · exact .mono h (by omega)

theorem reenter_grows {g : Fin 24} (h : l.Grows n s.lif) :
    l.Grows (n + 4) (s.reenter g).lif := by
  unfold reenter
  split
  · exact .mono h (by omega)
  · dsimp only
    split
    · exact .mono (changeInterlock_grows h) (by omega)
    · exact changeInterlock_grows (changeInterlock_grows h)

/-! ### The site -/

theorem enterDry_grows (h : l.Grows n s.lif) :
    l.Grows (n + 2) (s.enterDry).lif := by
  unfold enterDry
  split
  · dsimp only
    split
    · exact enterStopping_grows (s := { s with fresh := s.fresh + 1 }) h
    · exact enterStopping_grows h
  · exact .mono h (by omega)

theorem levelMoved_grows {before : LevelState} (h : l.Grows n s.lif) :
    l.Grows (n + 2) (s.levelMoved before).lif := by
  unfold levelMoved
  split
  · exact .mono h (by omega)
  · split
    · exact enterDry_grows h
    · exact .mono h (by omega)

theorem validityActs_grows {i : Fin 27} {before : LevelState} (h : l.Grows n s.lif) :
    l.Grows (n + 2) (s.validityActs i before).lif := by
  unfold validityActs
  dsimp only
  split
  · split <;> exact .mono h (by omega)
  · split
    · exact levelMoved_grows h
    · split
      · exact .mono h (by omega)
      · split
        · split
          · exact findGroup_grows h
          · exact loseGroup_grows h
        · exact .mono h (by omega)

theorem moveChannel_grows {i : Fin 27} {c : Channel} (h : l.Grows n s.lif) :
    l.Grows (n + 3) (s.moveChannel i c).lif := by
  unfold moveChannel
  dsimp only
  split
  · exact .mono h (by omega)
  · exact validityActs_grows (report_grows h)

theorem evaluate_grows {i : Fin 27} {e : Evaluation} (h : l.Grows n s.lif) :
    l.Grows (n + 3) (s.evaluate i e).lif := by
  unfold evaluate
  exact moveChannel_grows h

theorem resetChannel_grows {i : Fin 27} (h : l.Grows n s.lif) :
    l.Grows (n + 3) (s.resetChannel i).lif := by
  unfold resetChannel
  dsimp only
  split
  · exact .mono h (by omega)
  · exact moveChannel_grows h

theorem gateBand_grows {third valid : Bool} (h : l.Grows n s.lif) :
    l.Grows n (s.gateBand third valid).lif := of_lif_eq_grows (gateBand_lif s third valid) h

theorem windGate_grows (h : l.Grows n s.lif) :
    l.Grows (n + 3) (s.windGate).lif := by
  unfold windGate
  exact gateBand_grows (evaluate_grows (s := { s with sup := _ }) h)

theorem levelSample_grows {reading : BitVec 12} (h : l.Grows n s.lif) :
    l.Grows (n + 5) (s.levelSample reading).lif := by
  unfold levelSample
  dsimp only
  split
  · exact .mono (evaluate_grows h) (by omega)
  · exact levelMoved_grows (evaluate_grows h)

theorem latchTrip_grows {causes : Causes} (h : l.Grows n s.lif) :
    l.Grows (n + 1) (s.latchTrip causes).lif := by
  unfold latchTrip
  exact report_grows h

theorem lowerPermit_grows (h : l.Grows n s.lif) :
    l.Grows n (s.lowerPermit).lif := of_lif_eq_grows (lowerPermit_lif s) h

theorem raisePermit_grows (h : l.Grows n s.lif) :
    l.Grows n (s.raisePermit).lif := of_lif_eq_grows (raisePermit_lif s) h

theorem relockAnnouncement_grows (h : l.Grows n s.lif) :
    l.Grows n (s.relockAnnouncement).lif := of_lif_eq_grows (relockAnnouncement_lif s) h

theorem tripActs_grows (h : l.Grows n s.lif) :
    l.Grows (n + 50) (s.tripActs).lif := by
  have habort := abortShow_grows (f := .tripped) (r := .trip) h
  unfold tripActs
  dsimp only
  exact ite_grows (lowerPermit_grows (waterDown_grows habort)) (judgeDrop_grows (waterDown_grows habort))

theorem latchCause_grows {c : Causes} (h : l.Grows n s.lif) :
    l.Grows (n + 51) (s.latchCause c).lif := by
  unfold latchCause
  split
  · dsimp only
    split <;> exact .mono (report_grows (s := { s with sup := _, flags := _ }) h) (by omega)
  · exact tripActs_grows (latchTrip_grows h)

theorem judgeInputs_grows {i : Inputs} (h : l.Grows n s.lif) :
    l.Grows (n + 51) (s.judgeInputs i).lif := by
  unfold judgeInputs
  split
  · exact tripActs_grows (latchTrip_grows h)
  · exact .mono h (by omega)

theorem settleSite_grows (h : l.Grows n s.lif) :
    l.Grows (n + 1) (s.settleSite).lif := by
  unfold settleSite
  dsimp only
  split
  · exact report_grows h
  · exact .mono h (by omega)

/-! ### The drive bus -/

theorem sendPoll_grows {e : Due} {rest : List Due} {us : Nat} (h : l.Grows n s.lif) :
    l.Grows (n + 2) (s.sendPoll e rest us).lif := by
  unfold sendPoll
  exact computePoll_grows h

theorem deliverGood_grows {g : Fin 24} {rep : DriveReply} (h : l.Grows n s.lif) :
    l.Grows (n + 5) (s.deliverGood g rep).lif := by
  unfold deliverGood
  dsimp only
  split
  · exact evaluate_grows (takeReply_grows h)
  · exact takeReply_grows (evaluate_grows h)

theorem deliverOutcome_grows {e : Due} {o : PollOutcome} {rep : DriveReply} (h : l.Grows n s.lif) :
    l.Grows (n + 5) (s.deliverOutcome e o rep).lif := by
  unfold deliverOutcome
  split
  · split
    · exact deliverGood_grows h
    · exact .mono h (by omega)
  · split
    · exact .mono (evaluate_grows h) (by omega)
    · exact .mono h (by omega)

theorem checkBudget_grows (h : l.Grows n s.lif) :
    l.Grows n (s.checkBudget).lif := of_lif_eq_grows (checkBudget_lif s) h

theorem endPoll_grows {p : Poll} {o : PollOutcome} {rep : DriveReply} {us : Nat} (h : l.Grows n s.lif) :
    l.Grows (n + 5) (s.endPoll p o rep us).lif := by
  unfold endPoll
  exact checkBudget_grows (deliverOutcome_grows h)

theorem jamLine_grows {e : Due} {all : List Due} (h : l.Grows n s.lif) :
    l.Grows (n + all.length * 3) (s.jamLine e all).lif := by
  unfold jamLine
  exact foldl_grows (fun _ _ _ _ h => evaluate_grows h) h

/-! ### Start-up, settings and the directory -/

theorem takeSettings_grows {new : Settings} (h : l.Grows n s.lif) :
    l.Grows (n + 129) (s.takeSettings new).lif := by
  unfold takeSettings
  dsimp only
  rw [restartIfTripped_lif, relockAnnouncement_lif, refeed_lif]
  exact eachChannel_grows (k := 3) (fun _ _ _ _ h => resetChannel_grows h)
    (eachGroup_grows (k := 2) (fun _ _ _ _ h => regroup_grows h) h)

theorem settingsLoaded_grows {image : ImageState} {new : Settings} (h : l.Grows n s.lif) :
    l.Grows (n + 130) (s.settingsLoaded image new).lif := by
  have htake := takeSettings_grows (new := new) h
  unfold settingsLoaded
  refine settleSite_grows (raisePermit_grows ?_)
  dsimp only
  exact htake

theorem startUpReady_grows (h : l.Grows n s.lif) :
    l.Grows (n + 1) (s.startUpReady).lif := by
  unfold startUpReady
  dsimp only
  refine report_grows (h.trans (.of_rest 0 ?_ ?_ ?_) (by omega)) <;> dsimp only [Lif.rest] <;> rw [relockAnnouncement_lif]

theorem releaseReady_grows (h : l.Grows n s.lif) :
    l.Grows (n + 1) (s.releaseReady).lif := by
  unfold releaseReady
  exact raisePermit_grows (report_grows (relockAnnouncement_grows h))

theorem startWithoutFlash_grows (h : l.Grows n s.lif) :
    l.Grows (n + 131) (s.startWithoutFlash).lif := by
  unfold startWithoutFlash
  exact startUpReady_grows (settingsLoaded_grows h)

theorem identified_grows {answer : Option DeviceIdent} (h : l.Grows n s.lif) :
    l.Grows (n + 131) (s.identified answer).lif := by
  unfold identified
  dsimp only
  split
  · exact .mono (askDirectory_grows h) (by omega)
  · exact startWithoutFlash_grows h

theorem reloadFound_grows {image : ImageState} {new : Settings} (h : l.Grows n s.lif) :
    l.Grows (n + 131) (s.reloadFound image new).lif := by
  unfold reloadFound
  split
  · exact .mono (endService_grows h) (by omega)
  · exact endService_grows (settingsLoaded_grows h)

theorem imageFound_grows {startUp : Bool} {image : ImageState} {new : Settings} (h : l.Grows n s.lif) :
    l.Grows (n + 131) (s.imageFound startUp image new).lif := by
  unfold imageFound
  dsimp only
  split
  · exact startUpReady_grows (settingsLoaded_grows h)
  · exact reloadFound_grows h

theorem settingsRead_grows {bytes : List Byte} (h : l.Grows n s.lif) :
    l.Grows (n + 131) (s.settingsRead bytes).lif := by
  unfold settingsRead
  split
  · split
    · exact .mono h (by omega)
    · exact imageFound_grows h
  · exact .mono h (by omega)
  · exact .mono h (by omega)

theorem settingsReadFailed_grows (h : l.Grows n s.lif) :
    l.Grows (n + 131) (s.settingsReadFailed).lif := by
  unfold settingsReadFailed
  split
  · exact imageFound_grows h
  · exact .mono (endService_grows h) (by omega)
  · exact .mono h (by omega)
  · exact .mono h (by omega)

theorem saveStep_grows {next : Nat} (h : l.Grows n s.lif) :
    l.Grows (n + 1) (s.saveStep next).lif := by
  unfold saveStep saveOn
  split
  · split
    · exact .mono h (by omega)
    · exact endService_grows h
  · exact .mono h (by omega)
  · exact .mono h (by omega)

theorem saveFailed_grows (h : l.Grows n s.lif) :
    l.Grows (n + 1) (s.saveFailed).lif := by
  unfold saveFailed
  exact endService_grows h

theorem afterCopy_grows {why : CopyFor} (h : l.Grows n s.lif) :
    l.Grows (n + 2) (s.afterCopy why).lif := by
  unfold afterCopy
  split
  · exact .mono h (by omega)
  · exact .mono (releaseReady_grows h) (by omega)
  · split
    · exact finishLoad_grows h
    · exact .mono h (by omega)
  · exact .mono h (by omega)

theorem recopied_grows {t : Table 64 (Option Clip)} (h : l.Grows n s.lif) :
    l.Grows n (s.nextDirectory.withClips t).lif := of_lif_eq_grows (by simp) h

theorem directoryRead_grows {sector : List Byte} (h : l.Grows n s.lif) :
    l.Grows (n + 2) (s.directoryRead sector).lif := by
  unfold directoryRead
  split
  · exact afterCopy_grows (recopied_grows h)
  · exact .mono h (by omega)

theorem directoryFailed_grows (h : l.Grows n s.lif) :
    l.Grows (n + 2) (s.directoryFailed).lif := by
  have hnext : l.Grows n s.nextDirectory.lif := of_lif_eq_grows (nextDirectory_lif s) h
  unfold directoryFailed
  split
  · exact failLoad_grows hnext
  · exact .mono hnext (by omega)
  · exact afterCopy_grows (recopied_grows h)
  · exact .mono h (by omega)

theorem releaseCopy_grows (h : l.Grows n s.lif) :
    l.Grows (n + 1) (s.releaseCopy).lif := by
  unfold releaseCopy
  split
  · exact releaseReady_grows h
  · exact .mono (askDirectory_grows h) (by omega)

theorem programmed_grows {t : Txn} (h : l.Grows n s.lif) :
    l.Grows (n + 1) (s.programmed t).lif := by
  unfold programmed
  dsimp only
  split
  · exact endFlash_grows h
  · exact saveStep_grows h
  all_goals exact .mono h (by omega)

theorem erased_grows {t : Txn} (h : l.Grows n s.lif) :
    l.Grows (n + 1) (s.erased t).lif := by
  unfold erased
  dsimp only
  split
  · exact endFlash_grows h
  · exact saveStep_grows h
  all_goals exact .mono h (by omega)

/-! ### HALT and RELEASE -/

theorem haltPart_grows (h : l.Grows n { s.lif with halted := true }) : l.Grows (n + 50) s.haltPart.lif := by
  have hhalted : l.Grows n { s with lif := { s.lif with halted := true } }.lif := h
  have habort := abortShow_grows (f := .aborted) (r := .halt) hhalted
  unfold haltPart
  dsimp only
  exact lowerPermit_grows (waterDown_grows habort)

theorem releasePart_grows {inputs : Inputs} (h : l.Grows n { s.lif with halted := false, lastReset := .release }) :
    l.Grows (n + 148) (s.releasePart inputs).lif := by
  unfold releasePart
  dsimp only
  refine releaseCopy_grows (n := n + 147) (of_lif_eq_grows (rescale_lif _) ?_)
  split
  · refine of_lif_eq_grows (restartIfTripped_lif _) (.mono (a := n + 96) ?_ (by omega))
    exact eachGroup_grows (k := 4) (fun _ _ _ _ h => reenter_grows h) h
  · refine judgeInputs_grows (n := n + 96) ?_
    exact eachGroup_grows (k := 4) (fun _ _ _ _ h => reenter_grows h) h

end State

end Sys2Proof.Machine
end

section
/-! The link's queues keep their sizes (R181, R183 to R185). -/

namespace Sys2Proof.Machine

/-- The link's queues are within their sizes. -/
def Lif.Fits (l : Lif) : Prop := l.inbox.length ≤ 4 ∧ l.placesUsed ≤ 4 ∧ l.busyUsed ≤ 8 ∧ l.reports.length ≤ 16

theorem queuesFit_iff (s : State) : s.queuesFit ↔ s.lif.Fits := Iff.rfl

namespace Lif

theorem Grows.fits {n : Nat} {l m : Lif} (h : l.Grows n m) (hl : l.Fits) : m.Fits := by
  obtain ⟨hinbox, hplaces, hbusy, hreports⟩ := hl
  exact ⟨h.inbox ▸ hinbox, h.placesUsed ▸ hplaces, h.busyUsed ▸ hbusy, h.room hreports⟩

/-! ### The transmitter -/

/-- An answer keeps its place while it is sent. -/
theorem kick_placesUsed (l : Lif) : l.kick.placesUsed = l.placesUsed := by
  unfold kick
  split
  · rfl
  next htx =>
    split
    next w rest ha =>
      cases w <;> simp [placesUsed, htx, ha, Waiting.isReply]
    next ha =>
      split <;> simp [placesUsed, htx, ha]

theorem kick_busyUsed (l : Lif) : l.kick.busyUsed = l.busyUsed := by
  unfold kick
  split
  · rfl
  next htx =>
    split
    next w rest ha => cases w <;> simp [busyUsed, htx, ha, Waiting.isReply]
    next ha =>
      split <;> simp [busyUsed, htx, ha]

theorem kick_reports_length_le (l : Lif) : l.kick.reports.length ≤ l.reports.length := by
  unfold kick
  split
  · rfl
  · split
    · rfl
    · split
      next r rest hr => simp [hr]
      · rfl

theorem kick_inbox (l : Lif) : l.kick.inbox = l.inbox := by
  unfold kick
  split
  · rfl
  · split
    · rfl
    · split <;> rfl

theorem Fits.kick {l : Lif} (h : l.Fits) : l.kick.Fits := by
  obtain ⟨hinbox, hplaces, hbusy, hreports⟩ := h
  exact ⟨l.kick_inbox ▸ hinbox, l.kick_placesUsed ▸ hplaces, l.kick_busyUsed ▸ hbusy, l.kick_reports_length_le.trans hreports⟩

/-- When a frame has been sent its place is free. -/
theorem Fits.sent {l : Lif} (h : l.Fits) : Fits { l with tx := none } := by
  obtain ⟨hinbox, hplaces, hbusy, hreports⟩ := h
  refine ⟨hinbox, ?_, ?_, hreports⟩ <;> simp only [placesUsed, busyUsed] at * <;> omega

/-! ### Requests and answers -/

/-- A request is taken only where a reply place is free, which its answer fills. -/
theorem Fits.answered {l : Lif} (h : l.Fits) (hp : l.placesUsed < 4) (a : Answer) :
    Fits { l with inbox := l.inbox.tail, answers := l.answers ++ [.reply a] } := by
  obtain ⟨hinbox, -, hbusy, hreports⟩ := h
  refine ⟨?_, ?_, ?_, hreports⟩
  · simp only [List.length_tail]
    omega
  · simp only [placesUsed, List.filter_append, List.length_append, List.filter_cons, Waiting.isReply] at *
    simp only [if_true, List.filter_nil, List.length_cons, List.length_nil]
    omega
  · simpa [busyUsed, Waiting.isReply] using hbusy

/-- The place that is held for the answer of a FLASH_READ. -/
theorem Fits.held {l : Lif} (h : l.Fits) (hp : l.placesUsed < 4) (hread : l.readPlace = none) (tag : Byte) :
    Fits { l with inbox := l.inbox.tail, readPlace := some tag } := by
  obtain ⟨hinbox, -, hbusy, hreports⟩ := h
  refine ⟨?_, ?_, hbusy, hreports⟩
  · simp only [List.length_tail]
    omega
  · simp only [placesUsed, hread] at *
    omega

/-- The answer of a FLASH_READ takes the place that was held for it. -/
theorem Fits.readAnswered {l : Lif} (h : l.Fits) {tag : Byte} (hread : l.readPlace = some tag) (a : Answer) :
    Fits { l with readPlace := none, answers := l.answers ++ [.reply a] } := by
  obtain ⟨hinbox, hplaces, hbusy, hreports⟩ := h
  refine ⟨hinbox, ?_, ?_, hreports⟩
  · simp only [placesUsed, hread, List.filter_append, List.length_append, List.filter_cons, Waiting.isReply] at *
    simp only [if_true, List.filter_nil, List.length_cons, List.length_nil]
    omega
  · simpa [busyUsed, Waiting.isReply] using hbusy

theorem Fits.withRx {l : Lif} (h : l.Fits) (r : Receiver) : Fits { l with rx := r } := h

theorem Fits.withHalted {l : Lif} (h : l.Fits) : Fits { l with halted := true } := h

theorem Fits.withReset {l : Lif} (h : l.Fits) : Fits { l with halted := false, lastReset := .release } := h

theorem Fits.withEnable {l : Lif} (h : l.Fits) (e : BitVec 6) : Fits { l with enable := e } := h

theorem reset_fits (kind : ResetKind) (straps : BitVec 2) :
    Fits { Lif.reset with bitRate := straps, lastReset := kind } :=
  ⟨Nat.zero_le 4, Nat.zero_le 4, Nat.zero_le 8, Nat.zero_le 16⟩

end Lif

namespace State

variable {s : State}

theorem kick_fits (h : s.lif.Fits) : s.kick.lif.Fits := Lif.Fits.kick h

theorem settleFlash_kick_fits (h : s.lif.Fits) : s.settleFlash.kick.lif.Fits :=
  kick_fits ((settleFlash_grows (.refl 0 _)).fits h)

theorem settle_fits (h : s.lif.Fits) : s.settle.lif.Fits :=
  kick_fits ((settleSite_grows (settleFlash_grows (.refl 0 _))).fits h)

/-! ### The receiver (R180, R181) -/

theorem frameIn_fits (q : Request) (h : s.lif.Fits) : (s.frameIn q).lif.Fits := by
  obtain ⟨hinbox, hplaces, hbusy, hreports⟩ := h
  unfold frameIn
  split
  next hroom => exact ⟨by simpa using hroom, hplaces, hbusy, hreports⟩
  · split
    next hroom =>
      refine ⟨hinbox, ?_, ?_, hreports⟩
      · simpa [Lif.placesUsed, Waiting.isReply] using hplaces
      · simp only [flag_lif, Lif.busyUsed, List.filter_append, List.length_append, List.filter_cons, Waiting.isReply] at *
        simp only [Bool.not_false, if_true, List.filter_nil, List.length_cons, List.length_nil]
        omega
    · exact ⟨hinbox, hplaces, hbusy, hreports⟩

theorem takeByte_fits (d : Byte) (h : s.lif.Fits) : (s.takeByte d).lif.Fits := by
  unfold takeByte
  split
  · split
    · exact h.withRx _
    · exact h
  · dsimp only
    split
    · exact h.withRx _
    · split
      · split
        · exact frameIn_fits _ (h.withRx _)
        · exact h.withRx _
      · exact h.withRx _

theorem receive_fits (c : LinkChar) (h : s.lif.Fits) : (s.receive c).lif.Fits := by
  unfold receive
  split
  · split
    · exact h.withRx _
    · exact takeByte_fits _ h
  · exact h

/-! ### Ends of flash transactions -/

theorem answerRead_fits (o : ReadOutcome) (bytes : List Byte) (h : s.lif.Fits) : (s.answerRead o bytes).lif.Fits := by
  unfold answerRead
  split
  next tag htag => exact h.readAnswered htag _
  · exact h

theorem timedOut_fits (t : Txn) (h : s.lif.Fits) : (s.timedOut t).lif.Fits := by
  unfold timedOut
  split
  · exact h
  · exact (loadReadFailed_grows (.refl 0 _)).fits h
  · exact (directoryFailed_grows (.refl 0 _)).fits h
  · exact (settingsReadFailed_grows (.refl 0 _)).fits h
  · exact (saveFailed_grows (.refl 0 _)).fits h
  · exact (saveFailed_grows (.refl 0 _)).fits h
  · exact answerRead_fits _ _ h
  · exact (endFlash_grows (.refl 0 _)).fits h
  · exact (endFlash_grows (.refl 0 _)).fits h

theorem flashTimeout_fits (h : s.lif.Fits) : s.flashTimeout.lif.Fits := by
  unfold flashTimeout
  split
  · exact timedOut_fits _ h
  · exact timedOut_fits _ h
  · exact timedOut_fits _ h
  · exact timedOut_fits _ h
  · exact timedOut_fits _ (timedOut_fits _ h)
  · exact h
  · exact h

theorem resetTo_fits (kind : ResetKind) (inputs : Inputs) (straps : BitVec 2) (log : List TripRecord) :
    (s.resetTo kind inputs straps log).lif.Fits := by
  unfold resetTo
  exact kick_fits ((judgeInputs_grows (.refl 0 _)).fits (Lif.reset_fits kind straps))

end State

open State

theorem acts_fits {p : List Byte} {a u : State} (h : Acts p a u) (ha : a.lif.Fits) : u.lif.Fits := by
  cases h with
  | setGroup g r =>
    unfold setGroup
    refine (settleSite_grows (of_lif_eq_grows (rescale_lif _) (regroup_grows (.refl 0 _)))).fits ?_
    exact ha
  | setFeeder f => unfold setFeeder; exact (refeed_lif _ ▸ ha :)
  | setCounter i k =>
    unfold setCounter
    exact settle_fits ((resetChannel_grows (.refl 0 _)).fits ha)
  | setShowOptions o =>
    unfold setShowOptions
    dsimp only
    split
    · exact ha
    · rw [relockAnnouncement_lif]
      exact ha
  | arm slot tag => exact (settleFlash_grows (beginLoad_grows (.refl 0 _))).fits ha
  | disarm => exact (showIdle_grows (.refl 0 _)).fits ha
  | start => exact (settleFlash_grows (startShow_grows (.refl 0 _))).fits ha
  | hold => exact (sayShow_grows (.refl 0 _)).fits ha
  | resume => exact (sayShow_grows (.refl 0 _)).fits ha
  | stop => exact (settleFlash_grows (stopShow_grows (.refl 0 _))).fits ha
  | clipPlays id c => exact (settleFlash_grows (.refl 0 _)).fits ha
  | clearTrip inputs => exact settle_fits ha
  | clearFault g => exact settle_fits ((changeInterlock_grows (.refl 0 _)).fits ha)
  | flashWrite | flashErase | save =>
    exact (settleFlash_grows (.refl 0 _)).fits ((beginService_grows (.refl 0 _)).fits ha)
  | reload => exact (settleFlash_grows (.refl 0 _)).fits ((beginService_grows (.refl 0 _)).fits ha)
  | halt => exact settle_fits ((haltPart_grows (.refl 0 _)).fits ha.withHalted)
  | release inputs => exact settle_fits ((releasePart_grows (.refl 0 _)).fits ha.withReset)
  | reportsSet e => exact ha.withEnable e
  | _ => exact ha

theorem effect_fits {s t : State} (hs : s.lif.Fits) (h : Effect s t) : t.lif.Fits := by
  cases h with
  | reset => exact resetTo_fits _ _ _ _
  | identified answer => exact settle_fits ((identified_grows (.refl 0 _)).fits hs)
  | cause pins c => exact settle_fits ((latchCause_grows (.refl 0 _)).fits hs)
  | windGate => exact settle_fits ((windGate_grows (.refl 0 _)).fits hs)
  | levelSample r => exact settle_fits ((levelSample_grows (.refl 0 _)).fits hs)
  | dropTimer => exact kick_fits ((settleSite_grows (lowerPermit_grows (.refl 0 _))).fits hs)
  | poll e rest us => exact settle_fits ((sendPoll_grows (.refl 0 _)).fits hs)
  | jam e all => exact settle_fits ((jamLine_grows (.refl 0 _)).fits hs)
  | pollEnd p o rep us => exact settle_fits ((endPoll_grows (.refl 0 _)).fits hs)
  | stroke g => exact settle_fits ((strokeExpire_grows (.refl 0 _)).fits hs)
  | audio a fresh => exact (settleFlash_grows (.refl 0 _)).fits hs
  | dispatch a now => exact settleFlash_kick_fits ((dispatchEvent_grows (.refl 0 _)).fits hs)
  | stopping a => exact settleFlash_kick_fits ((testStopping_grows (.refl 0 _)).fits hs)
  | window a e => exact kick_fits ((settleSite_grows (evaluate_grows (.refl 0 _))).fits hs)
  | chunkRead | chunkReadSuspended => exact (settleFlash_grows (.refl 0 _)).fits hs
  | flashTimeout => exact settle_fits (flashTimeout_fits hs)
  | guardEnd | deviceReset => exact (settleFlash_grows (.refl 0 _)).fits hs
  | loadRead bytes => exact settleFlash_kick_fits ((loadRead_grows (.refl 0 _)).fits hs)
  | directoryRead bytes => exact settle_fits ((directoryRead_grows (.refl 0 _)).fits hs)
  | settingsRead bytes => exact settle_fits ((settingsRead_grows (.refl 0 _)).fits hs)
  | hostRead bytes => exact settleFlash_kick_fits (answerRead_fits _ _ hs)
  | programmed t => exact settleFlash_kick_fits ((programmed_grows (.refl 0 _)).fits hs)
  | erased t => exact settleFlash_kick_fits ((erased_grows (.refl 0 _)).fits hs)
  | erasedSuspended t => exact settleFlash_kick_fits ((erased_grows (.refl 0 _)).fits hs)
  | received c => exact receive_fits c hs
  | receivedFrame c => exact kick_fits (receive_fits c hs)
  | frameSent => exact kick_fits hs.sent
  | request q st fields u hq hp h => exact kick_fits (acts_fits h (hs.answered hp _))
  | flashRead tag address len hp h => exact settleFlash_kick_fits (hs.held hp h tag)
  | lampFrame => rwa [lampFrame_lif]
  | driveCycle => rwa [driveCycle_lif]
  | _ => exact hs

/-- Settles O6: no effect of a command takes a queue past its size. -/
theorem stepKeepsQueuesFit : Obligations.StepKeepsQueuesFit := fun s t hs ht =>
  step_keeps_of_effect (P := fun s => s.lif.Fits) (fun _ _ h => h) (fun _ _ => effect_fits) s t hs ht

end Sys2Proof.Machine
end

section
/-! What the operations below a command do to the groups and to PERMIT (R83, R90, R96, R100, R157): one relation that every one of
them keeps, and the groups after all have been brought down. -/

namespace Sys2Proof.Machine

/-! ## Each group once -/

/-- A fold that rewrites one group for each entry has rewritten the groups of its list. -/
theorem foldl_groups_get {Q : State → Prop} {f : Fin 24 → State → State} {F : Fin 24 → Group → Group}
    (kept : ∀ g t, Q t → Q (f g t)) (rewrites : ∀ g t, Q t → (f g t).groups = t.groups.set g (F g (t.groups.get g)))
    (gs : List (Fin 24)) (hgs : gs.Nodup) (s : State) (hs : Q s) (g : Fin 24) :
    (gs.foldl (fun t g => f g t) s).groups.get g = if g ∈ gs then F g (s.groups.get g) else s.groups.get g := by
  induction gs generalizing s with
  | nil => simp
  | cons e gs ih =>
    obtain ⟨hnot, hgs⟩ := List.nodup_cons.mp hgs
    rw [List.foldl_cons, ih hgs _ (kept e s hs), rewrites e s hs, Table.get_set]
    by_cases he : e = g
    · subst he
      simp [hnot]
    · simp [he, Ne.symm he]

theorem eachGroup_groups_get {Q : State → Prop} {f : Fin 24 → State → State} {F : Fin 24 → Group → Group}
    (kept : ∀ g t, Q t → Q (f g t)) (rewrites : ∀ g t, Q t → (f g t).groups = t.groups.set g (F g (t.groups.get g)))
    (s : State) (hs : Q s) (g : Fin 24) : (s.eachGroup f).groups.get g = F g (s.groups.get g) := by
  have h := foldl_groups_get kept rewrites (List.finRange 24) (List.nodup_finRange 24) s hs g
  rwa [if_pos (List.mem_finRange g)] at h

theorem Table.set_get_self {n : Nat} {α : Type} (t : Table n α) (i : Fin n) : t.set i (t.get i) = t :=
  Table.ext_get fun j => by
    rw [Table.get_set]
    split
    next h => rw [h]
    · rfl

/-- A group brought down, given the clock and the length of its stroke timer. -/
def Group.down (now : Tick) (stroke : Nat) (x : Group) : Group :=
  let y : Group := { x with fade := ⟨0, 0, .onSite now, 0⟩, target := 0 }
  match x.interlock with
  | none => x
  | some .opening => { y with interlock := some .closing, cause := .none, stroke := some ⟨now, stroke⟩ }
  | some _ => y

theorem State.downGroup_eq (s : State) (g : Fin 24) :
    s.downGroup g = (s.groups.get g).down s.clock (s.groupRecord g).stroke := by
  unfold State.downGroup Group.down
  generalize s.groups.get g = x
  obtain ⟨i⟩ := x
  cases i with
  | none => rfl
  | some i => cases i <;> rfl

variable (now : Tick) (n : Nat)

theorem Group.down_of_unconfigured {x : Group} (h : x.interlock = none) : x.down now n = x := by
  obtain ⟨j⟩ := x
  cases h
  rfl

theorem Group.down_of_opening {x : Group} (h : x.interlock = some .opening) : x.down now n =
    { x with interlock := some .closing, cause := .none, stroke := some ⟨now, n⟩, fade := ⟨0, 0, .onSite now, 0⟩,
             target := 0 } := by
  obtain ⟨j⟩ := x
  cases h
  rfl

theorem Group.down_of_other {x : Group} {i : Interlock} (h : x.interlock = some i) (hopening : i ≠ .opening) :
    x.down now n = x.broughtDown now := by
  obtain ⟨j⟩ := x
  cases h
  cases i with
  | opening => exact absurd rfl hopening
  | _ => rfl

theorem bringDown_groups (s : State) (g : Fin 24) :
    (s.bringDown g).groups = s.groups.set g ((s.groups.get g).down s.clock (s.groupRecord g).stroke) := by
  unfold State.bringDown
  split
  next hi => rw [Group.down_of_unconfigured _ _ hi, Table.set_get_self]
  next i hi =>
    dsimp only
    split
    next hopen =>
      subst hopen
      rw [Group.down_of_opening _ _ hi, changeInterlock_groups]
      refine Table.ext_get fun j => ?_
      by_cases hj : g = j
      · subst hj
        simp [State.withGroup, Group.broughtDown, GroupFade.zero, Interlock.timer, c0AtChange, Interlock.barred,
          State.groupRecord]
      · simp [State.withGroup, Table.get_set, hj]
    next hother =>
      rw [Group.down_of_other _ _ hi hother]
      rfl

theorem waterDown_groups (s : State) (g : Fin 24) : (s.waterDown).groups.get g = s.downGroup g := by
  rw [s.downGroup_eq]
  refine eachGroup_groups_get (Q := fun t => t.clock = s.clock ∧ t.cfg = s.cfg)
    (F := fun g x => x.down s.clock (s.groupRecord g).stroke) (fun g t ht => ?_) (fun g t ht => ?_) s ⟨rfl, rfl⟩ g
  · simpa using ht
  · rw [bringDown_groups, ht.1, State.groupRecord, ht.2]
    rfl

/-- A group that has been brought down is not OPENING, and a configured one has a held target of 0. -/
theorem Group.down_closing (now : Tick) (stroke : Nat) (x : Group) :
    (x.down now stroke).interlock ≠ some .opening
      ∧ ((x.down now stroke).interlock ≠ none → (x.down now stroke).target = 0) := by
  obtain ⟨i⟩ := x
  cases i with
  | none => simp [Group.down]
  | some i => cases i <;> simp [Group.down]

/-! ## The relation -/

/-- The part of rampsFit for one group. -/
def Group.rampFits (x : Group) : Prop :=
  (x.c0 = x.sent ∨ x.c0 = 0) ∧ (x.interlock = some .opening ∨ x.interlock = some .running → x.c0 = x.sent)

/-- The part of strokesFit for one group. -/
def Group.strokeFits (x : Group) : Prop :=
  x.stroke.isSome = true → x.interlock = some .opening ∨ x.interlock = some .closing

/-- What an operation may do to one group, in an emergency or not: none opens in an emergency and targets only fall to 0 there,
the ramp and the stroke timer stay as they may be, and, where k holds, it stays configured or unconfigured. -/
structure Group.Calm (k : Prop) (emergency : Bool) (x y : Group) : Prop where
  opening : emergency = true → y.interlock = some .opening → x.interlock = some .opening
  target : emergency = true → (x.interlock ≠ none → x.target = 0) → y.interlock ≠ none → y.target = 0
  ramp : x.rampFits → y.rampFits
  stroke : x.strokeFits → y.strokeFits
  configured : k → y.interlock.isSome = x.interlock.isSome

/-- What an operation may do to the groups and to PERMIT: every group is calm, PERMIT does not rise, and what PERMIT and the
interlocks are judged by stays. -/
structure State.Calm (k : Prop) (s t : State) : Prop where
  groups : ∀ g, (s.groups.get g).Calm k s.emergency (t.groups.get g)
  mode : t.sup.mode = s.sup.mode
  halted : t.lif.halted = s.lif.halted
  startMark : t.sup.startMark = s.sup.startMark
  causes : t.sup.causes = s.sup.causes
  permit : t.sup.permit = true → s.sup.permit = true

variable {k : Prop} {e : Bool} {x y z : Group}

theorem Group.Calm.refl (x : Group) : x.Calm k e x := ⟨fun _ => id, fun _ => id, id, id, fun _ => rfl⟩

theorem Group.Calm.trans (h : x.Calm k e y) (h' : y.Calm k e z) : x.Calm k e z :=
  ⟨fun he => h.opening he ∘ h'.opening he, fun he => h'.target he ∘ h.target he, h'.ramp ∘ h.ramp, h'.stroke ∘ h.stroke,
    fun hk => (h'.configured hk).trans (h.configured hk)⟩

/-- What the relation does not read is free. -/
theorem Group.Calm.of_eq (interlock : y.interlock = x.interlock) (target : y.target = x.target) (sent : y.sent = x.sent)
    (c0 : y.c0 = x.c0) (stroke : y.stroke = x.stroke) : x.Calm k e y := by
  refine ⟨fun _ => ?_, fun _ => ?_, ?_, ?_, fun _ => ?_⟩
  · rw [interlock]; exact id
  · rw [interlock, target]; exact id
  · unfold Group.rampFits; rw [interlock, sent, c0]; exact id
  · unfold Group.strokeFits; rw [interlock, stroke]; exact id
  · rw [interlock]

theorem Group.calm_withFade (x : Group) (f : GroupFade) : x.Calm k e (x.withFade f) := by
  unfold Group.withFade
  split
  · exact .of_eq rfl rfl rfl rfl rfl
  · exact .refl x

theorem Group.calm_broughtDown (x : Group) (now : Tick) : x.Calm k e (x.broughtDown now) :=
  ⟨fun _ => id, fun _ _ _ => rfl, id, id, fun _ => rfl⟩

/-- A change into another state than OPENING, and into RUNNING from OPENING alone. -/
theorem Group.calm_changed {left into : Interlock} (hleft : x.interlock = some left) (hopening : into ≠ .opening)
    (hrunning : into = .running → left = .opening) (cause : FaultCause) (now : Tick) (n : Nat) :
    x.Calm k e { x with interlock := some into, cause := cause, stroke := into.timer now n, c0 := c0AtChange left into x.c0 } := by
  refine ⟨fun _ h => absurd (Option.some.inj h) hopening, fun _ h _ => h (by simp [hleft]), fun h => ?_,
    fun _ => timer_isSome into now n, fun _ => by simp [hleft]⟩
  obtain ⟨hc0, hmoving⟩ := h
  refine ⟨?_, ?_⟩
  · unfold c0AtChange
    dsimp only
    split
    · exact .inr rfl
    · exact hc0
  · rintro (h | h)
    · exact absurd (Option.some.inj h) hopening
    · obtain rfl := Option.some.inj h
      have hopen := hmoving (.inl (by rw [hleft, hrunning rfl]))
      simpa [c0AtChange] using hopen

/-- A group that has been given a fresh place in the interlock. -/
theorem Group.calm_fresh (hy : y = Group.reset ∨ ∃ i st, y = { Group.reset with interlock := some i, stroke := st }
      ∧ i ≠ .opening ∧ i ≠ .running ∧ (st.isSome = true → i = .closing)) : x.Calm False e y := by
  rcases hy with rfl | ⟨i, st, rfl, hopening, hrunning, hstroke⟩
  · exact ⟨fun _ h => (nomatch h), fun _ _ _ => rfl, fun _ => ⟨.inl rfl, fun _ => rfl⟩, fun _ h => (nomatch h), False.elim⟩
  · exact ⟨fun _ h => absurd (Option.some.inj h) hopening, fun _ _ _ => rfl, fun _ => ⟨.inl rfl, fun _ => rfl⟩,
      fun _ h => .inr (congrArg some (hstroke h)), False.elim⟩

namespace State

variable {r s t : State}

theorem Calm.refl (s : State) : Calm k s s := ⟨fun _ => .refl _, rfl, rfl, rfl, rfl, id⟩

theorem Calm.emergency_eq (h : r.Calm k s) : s.emergency = r.emergency := by
  unfold emergency isTripped
  rw [h.mode, h.halted]

theorem Calm.trans (h : r.Calm k s) (h' : s.Calm k t) : r.Calm k t :=
  ⟨fun g => (h.groups g).trans (h.emergency_eq ▸ h'.groups g), h'.mode.trans h.mode, h'.halted.trans h.halted,
    h'.startMark.trans h.startMark, h'.causes.trans h.causes, h.permit ∘ h'.permit⟩

/-- An operation that leaves the groups, SUP and the halt. -/
theorem Calm.frame (h : r.Calm k s) (groups : t.groups = s.groups) (sup : t.sup = s.sup)
    (halted : t.lif.halted = s.lif.halted) : r.Calm k t := by
  refine ⟨fun g => ?_, ?_, halted.trans h.halted, ?_, ?_, ?_⟩
  · rw [groups]; exact h.groups g
  · rw [sup]; exact h.mode
  · rw [sup]; exact h.startMark
  · rw [sup]; exact h.causes
  · rw [sup]; exact h.permit

/-- An operation that makes reports, and leaves the groups and SUP. -/
theorem Calm.frame_grows {n : Nat} (h : r.Calm k s) (groups : t.groups = s.groups) (sup : t.sup = s.sup)
    (grows : s.lif.Grows n t.lif) : r.Calm k t := h.frame groups sup grows.halted

/-- An operation that rewrites the groups calmly. -/
theorem Calm.regrouped (h : r.Calm k s) (groups : ∀ g, (s.groups.get g).Calm k r.emergency (t.groups.get g))
    (sup : t.sup = s.sup) (lif : t.lif = s.lif) : r.Calm k t := by
  refine ⟨fun g => (h.groups g).trans (groups g), ?_, ?_, ?_, ?_, ?_⟩
  · rw [sup]; exact h.mode
  · rw [lif]; exact h.halted
  · rw [sup]; exact h.startMark
  · rw [sup]; exact h.causes
  · rw [sup]; exact h.permit

/-- SUP's figures change beside those that the relation reads. -/
theorem Calm.withSup (h : r.Calm k s) {u : Sup} (mode : u.mode = s.sup.mode) (startMark : u.startMark = s.sup.startMark)
    (causes : u.causes = s.sup.causes) (permit : u.permit = true → s.sup.permit = true) : r.Calm k { s with sup := u } :=
  ⟨h.groups, mode.trans h.mode, h.halted, startMark.trans h.startMark, causes.trans h.causes, h.permit ∘ permit⟩

theorem foldl_calm {α : Type} {f : State → α → State} (hf : ∀ (a : State) (e : α), r.Calm k a → r.Calm k (f a e))
    {es : List α} (h : r.Calm k s) : r.Calm k (es.foldl f s) := by
  induction es generalizing s with
  | nil => exact h
  | cons e es ih => exact ih (hf _ _ h)

theorem ite_calm {c : Prop} [Decidable c] {t u : State} (ht : r.Calm k t) (hu : r.Calm k u) :
    r.Calm k (if c then t else u) := by
  split
  · exact ht
  · exact hu

/-! ### The show -/

theorem report_calm {x : Report} (h : r.Calm k s) : r.Calm k (s.report x) := h.frame_grows rfl rfl (report_grows (.refl 0 _))

theorem sayShow_calm {x : Option EndReason} (h : r.Calm k s) : r.Calm k (s.sayShow x) := report_calm h

theorem testStopping_calm (h : r.Calm k s) : r.Calm k s.testStopping :=
  h.frame_grows (by simp) (by simp) (testStopping_grows (.refl 0 _))

theorem enterStopping_calm {x : EndReason} (h : r.Calm k s) : r.Calm k (s.enterStopping x) := by
  unfold enterStopping
  refine testStopping_calm (sayShow_calm (h.regrouped (fun g => ?_) rfl rfl))
  dsimp only
  rw [Table.get_mapIdx]
  exact Group.calm_withFade _ _

theorem abortShow_calm {f : Failure} {x : EndReason} (h : r.Calm k s) : r.Calm k (s.abortShow f x) :=
  h.frame_grows (by simp) (by simp) (abortShow_grows (.refl 0 _))

theorem stopShow_calm (h : r.Calm k s) : r.Calm k s.stopShow := by
  unfold stopShow
  split
  · exact h.frame_grows (by simp) (by simp) (interruptLoad_grows (.refl 0 _))
  · exact enterStopping_calm h

theorem Group.calm_dispatched {x : Group} {due : List JetEntry} {t : Int} {now : Tick} :
    x.Calm k e (x.dispatched due t now) := by
  unfold Group.dispatched
  split
  · exact .of_eq rfl rfl rfl rfl rfl
  · exact .refl x

theorem deliver_groups (s : State) (t : Int) : (s.deliver t).groups =
    s.groups.mapIdx fun g x => x.dispatched ((s.seq.lanes.jets.get g).due (·.dispatch) t) t s.clock := by
  unfold deliver
  dsimp only
  rw [foldl_field State.groups (fun a e => dispatchMark a t e) (fun a e => dispatchMark_groups a t e),
    foldl_field State.groups (fun a e => dispatchClip a e) (fun a e => dispatchClip_groups a e),
    foldl_field State.groups (fun a (e : LightEntry) => a.latchRange e.first e.last e.latch) fun _ _ => rfl]

theorem deliver_calm {t : Int} (h : r.Calm k s) : r.Calm k (s.deliver t) := by
  refine ⟨fun g => (h.groups g).trans ?_, ?_, (deliver_grows (.refl 0 _)).halted.trans h.halted, ?_, ?_, ?_⟩
  · rw [deliver_groups, Table.get_mapIdx]
    exact Group.calm_dispatched
  all_goals rw [deliver_sup]
  · exact h.mode
  · exact h.startMark
  · exact h.causes
  · exact h.permit

theorem dispatchEvent_calm {t : Int} (h : r.Calm k s) : r.Calm k (s.dispatchEvent t) := by
  unfold dispatchEvent
  dsimp only
  split
  · exact enterStopping_calm (deliver_calm h)
  · split
    · exact enterStopping_calm (deliver_calm h)
    · exact deliver_calm h

theorem startShow_calm (h : r.Calm k s) : r.Calm k s.startShow := by
  unfold startShow
  refine dispatchEvent_calm (sayShow_calm (h.regrouped (fun g => ?_) rfl rfl))
  dsimp only
  rw [Table.get_map]
  exact Group.calm_withFade _ _

/-! ### The water -/

theorem withGroup_calm {g : Fin 24} {x : Group} (h : r.Calm k s) (hx : (s.groups.get g).Calm k r.emergency x) :
    r.Calm k (s.withGroup g x) := by
  refine h.regrouped (fun j => ?_) rfl rfl
  unfold withGroup
  dsimp only
  rw [Table.get_set]
  split
  next hj => exact hj ▸ hx
  · exact .refl _

theorem sayGroup_calm {g : Fin 24} {left : Option Interlock} {code : Option Byte} (h : r.Calm k s) :
    r.Calm k (s.sayGroup g left code) := h.frame_grows (by simp) (by simp) (sayGroup_grows (.refl 0 _))

theorem lowerPermit_calm (h : r.Calm k s) : r.Calm k s.lowerPermit := h.withSup rfl rfl rfl fun hp => nomatch hp

theorem judgeDrop_calm (h : r.Calm k s) : r.Calm k s.judgeDrop := by
  unfold judgeDrop
  split
  · exact lowerPermit_calm h
  · exact h

theorem offerChange_calm (h : r.Calm k s) : r.Calm k s.offerChange := judgeDrop_calm (testStopping_calm h)

theorem postDemand_calm {g : Fin 24} {v : Nat} (h : r.Calm k s) : r.Calm k (s.postDemand g v) :=
  h.frame (by simp) (by simp) (by simp)

theorem postAtChange_calm {g : Fin 24} {left into : Interlock} (h : r.Calm k s) : r.Calm k (s.postAtChange g left into) :=
  h.frame (by simp) (by simp) (by simp)

theorem changeInterlock_calm {g : Fin 24} {left into : Interlock} {cause : FaultCause} {code : Option Byte} (h : r.Calm k s)
    (hleft : (s.groups.get g).interlock = some left) (hopening : into ≠ .opening)
    (hrunning : into = .running → left = .opening) : r.Calm k (s.changeInterlock g left into cause code) :=
  offerChange_calm (postAtChange_calm (sayGroup_calm (withGroup_calm h
    (Group.calm_changed hleft hopening hrunning cause _ _))))

/-- In an emergency stage 3 gives 0. -/
theorem stage3_emergency (h : s.emergency = true) (g : Fin 24) : s.stage3 g = 0 := by
  unfold stage3
  have hcaps : (s.isTripped || s.lif.halted || s.isDry) = true := by
    unfold emergency at h
    rw [h, Bool.true_or]
  rw [if_pos hcaps]

theorem polledGroup_target_emergency (h : s.emergency = true) (g : Fin 24) (i : Interlock) (n : Nat) :
    (s.polledGroup g i n).target = 0 := by
  have hspeed : (s.groupRecord g).speedAt (s.stage3 g) = 0 := by simp [stage3_emergency h, GroupRecord.speedAt]
  simp [polledGroup, hspeed]

theorem atPoll_opening {i : Interlock} {target c close : Nat} {may : Bool} (h : i.atPoll target c close may = .opening) :
    i = .opening ∨ may = true := by
  cases i with
  | shut =>
    simp only [Interlock.atPoll] at h
    split at h
    next hs => exact .inr hs.2
    · cases h
  | running =>
    simp only [Interlock.atPoll] at h
    split at h <;> cases h
  | opening => exact .inl rfl
  | _ => cases h

theorem polledGroup_calm {g : Fin 24} {i : Interlock} (hi : (s.groups.get g).interlock = some i) (n : Nat) :
    (s.groups.get g).Calm k s.emergency (s.polledGroup g i n) := by
  refine ⟨fun he hj => ?_, fun he _ _ => polledGroup_target_emergency he g i n, fun _ => ⟨.inl rfl, fun _ => rfl⟩,
    fun held => polledGroup_stroke s g i n hi held, fun _ => by rw [hi]; rfl⟩
  rcases atPoll_opening (Option.some.inj hj) with h | h
  · rw [hi, h]
  · unfold emergency at he
    unfold mayOpen at h
    cases ht : s.isTripped <;> simp_all

theorem computePoll_calm {g : Fin 24} (h : r.Calm k s) : r.Calm k (s.computePoll g) := by
  unfold computePoll
  dsimp only
  split
  · exact h
  next i hi =>
    have hpolled (v n : Nat) : r.Calm k ((s.postDemand g v).withGroup g (s.polledGroup g i n)) := by
      refine withGroup_calm (postDemand_calm h) ?_
      rw [postDemand_groups, ← h.emergency_eq]
      exact polledGroup_calm hi n
    split
    · exact offerChange_calm (ite_calm (sayGroup_calm (hpolled _ _)) (hpolled _ _))
    · exact ite_calm (sayGroup_calm (hpolled _ _)) (hpolled _ _)

theorem flag_calm {f : Flag} (h : r.Calm k s) : r.Calm k (s.flag f) := h.frame rfl rfl rfl

theorem takeReply_calm {g : Fin 24} {rep : DriveReply} (h : r.Calm k s) : r.Calm k (s.takeReply g rep) := by
  have ht : r.Calm k (s.withGroup g { s.groups.get g with reply := some rep }) :=
    withGroup_calm h (.of_eq rfl rfl rfl rfl rfl)
  unfold takeReply
  dsimp only
  split
  · exact h
  · exact ht
  · exact ht
  next i _ _ hi =>
    have hleft : ((s.withGroup g { s.groups.get g with reply := some rep }).groups.get g).interlock = some i := by
      simpa [withGroup] using hi
    split
    · exact changeInterlock_calm (flag_calm ht) hleft (by simp) (by simp)
    · split
      · exact changeInterlock_calm (flag_calm ht) hleft (by simp) (by simp)
      · split
        next hopen => exact changeInterlock_calm ht hleft (by simp) fun _ => hopen.1
        · split
          · exact changeInterlock_calm ht hleft (by simp) (by simp)
          · exact ht

theorem strokeExpire_calm {g : Fin 24} (h : r.Calm k s) : r.Calm k (s.strokeExpire g) := by
  unfold strokeExpire
  split
  next i hi => exact changeInterlock_calm (flag_calm h) hi (by simp) (by simp)
  · exact h

theorem loseGroup_calm {g : Fin 24} (h : r.Calm k s) : r.Calm k (s.loseGroup g) := by
  unfold loseGroup
  split
  · exact h
  · exact h
  next i _ hi => exact changeInterlock_calm (flag_calm h) hi (by simp) (by simp)

theorem findGroup_calm {g : Fin 24} (h : r.Calm k s) : r.Calm k (s.findGroup g) := by
  unfold findGroup
  split
  next hi => exact changeInterlock_calm h hi (by simp) (by simp)
  · exact h

theorem bringDown_calm {g : Fin 24} (h : r.Calm k s) : r.Calm k (s.bringDown g) := by
  have hdown : r.Calm k (s.withGroup g ((s.groups.get g).broughtDown s.clock)) :=
    withGroup_calm h (Group.calm_broughtDown _ _)
  unfold bringDown
  split
  · exact h
  next i hi =>
    dsimp only
    split
    next hopen =>
      refine changeInterlock_calm hdown ?_ (by simp) (by simp)
      subst hopen
      simpa [withGroup, Group.broughtDown] using hi
    · exact hdown

theorem waterDown_calm (h : r.Calm k s) : r.Calm k s.waterDown := foldl_calm (fun _ _ ha => bringDown_calm ha) h

theorem zeroFades_calm (h : r.Calm k s) : r.Calm k s.zeroFades := by
  refine h.regrouped (fun g => ?_) rfl rfl
  unfold zeroFades
  dsimp only
  rw [Table.get_map]
  exact Group.calm_withFade _ _

theorem configure_calm {g : Fin 24} {left : Option Interlock} (h : r.Calm False s) : r.Calm False (s.configure g left) := by
  refine offerChange_calm (sayGroup_calm (postDemand_calm (withGroup_calm h (Group.calm_fresh (.inr ?_)))))
  unfold freshGroup
  split
  · exact ⟨.closing, _, rfl, by simp, by simp, fun _ => rfl⟩
  · exact ⟨.lost, none, rfl, by simp, by simp, fun hn => nomatch hn⟩

theorem regroup_calm {g : Fin 24} {old : GroupRecord} (h : r.Calm False s) : r.Calm False (s.regroup g old) := by
  have hd (d : Dbm) : r.Calm False { s with dbm := d } := h.frame rfl rfl rfl
  unfold regroup
  dsimp only
  split
  · exact configure_calm (hd _)
  · split
    · exact hd _
    · exact configure_calm (hd _)
  · exact postDemand_calm (withGroup_calm (hd _) (Group.calm_fresh (.inl rfl)))
  · exact hd _

/-! ### The site -/

theorem enterDry_calm (h : r.Calm k s) : r.Calm k s.enterDry := by
  have hf : r.Calm k { s with fresh := s.fresh + 1 } := h.frame rfl rfl rfl
  unfold enterDry
  split
  · dsimp only
    split
    · exact zeroFades_calm (enterStopping_calm hf)
    · exact enterStopping_calm (zeroFades_calm hf)
  · exact zeroFades_calm h

theorem oweSite_calm {due : Bool} (h : r.Calm k s) : r.Calm k (s.oweSite due) := h.withSup rfl rfl rfl id

theorem levelMoved_calm {before : LevelState} (h : r.Calm k s) : r.Calm k (s.levelMoved before) := by
  unfold levelMoved
  split
  · exact h
  · split
    · exact enterDry_calm (oweSite_calm h)
    · exact oweSite_calm h

theorem validityActs_calm {i : Fin 27} {before : LevelState} (h : r.Calm k s) : r.Calm k (s.validityActs i before) := by
  unfold validityActs
  dsimp only
  split
  · split
    · exact h.withSup rfl rfl rfl id
    · exact h.withSup rfl rfl rfl id
  · split
    · exact levelMoved_calm h
    · split
      · exact h.frame rfl rfl rfl
      · split
        · split
          · exact findGroup_calm h
          · exact loseGroup_calm h
        · exact h

theorem moveChannel_calm {i : Fin 27} {c : Channel} (h : r.Calm k s) : r.Calm k (s.moveChannel i c) := by
  have hc : r.Calm k (s.withChannel i c) := h.withSup rfl rfl rfl id
  unfold moveChannel
  dsimp only
  split
  · exact hc
  · exact validityActs_calm (report_calm hc)

theorem evaluate_calm {i : Fin 27} {e : Evaluation} (h : r.Calm k s) : r.Calm k (s.evaluate i e) := moveChannel_calm h

theorem resetChannel_calm {i : Fin 27} (h : r.Calm k s) : r.Calm k (s.resetChannel i) := by
  unfold resetChannel
  dsimp only
  split
  · exact h
  · exact moveChannel_calm h

theorem judgeBand_calm (h : r.Calm k s) : r.Calm k s.judgeBand := by
  unfold judgeBand
  dsimp only
  split
  · exact h.withSup rfl rfl rfl id
  · split
    · split
      · exact h.withSup rfl rfl rfl id
      · exact h.withSup rfl rfl rfl id
    · exact h.withSup rfl rfl rfl id

theorem gateBand_calm {third valid : Bool} (h : r.Calm k s) : r.Calm k (s.gateBand third valid) := by
  unfold gateBand
  split
  · exact h
  · split
    · exact h.withSup rfl rfl rfl id
    · split
      · exact h
      · exact judgeBand_calm h

theorem windGate_calm (h : r.Calm k s) : r.Calm k s.windGate := by
  unfold windGate
  dsimp only
  refine gateBand_calm (Calm.withSup (s := evaluate _ _ _) (evaluate_calm (h.withSup ?_ ?_ ?_ ?_)) ?_ ?_ ?_ ?_)
  all_goals first | rfl | exact id

theorem levelSample_calm {reading : BitVec 12} (h : r.Calm k s) : r.Calm k (s.levelSample reading) := by
  unfold levelSample
  dsimp only
  split
  · exact evaluate_calm h
  · refine levelMoved_calm (Calm.withSup (evaluate_calm h) ?_ ?_ ?_ ?_) <;> unfold Sup.entered <;> dsimp only <;> split
    all_goals first | rfl | exact id

/-! ### The drive bus -/

theorem checkBudget_calm (h : r.Calm k s) : r.Calm k s.checkBudget := h.frame (by simp) (by simp) (by simp)

theorem deliverGood_calm {g : Fin 24} {rep : DriveReply} (h : r.Calm k s) : r.Calm k (s.deliverGood g rep) := by
  have hf : r.Calm k { s with fresh := s.fresh + 1 } := h.frame rfl rfl rfl
  unfold deliverGood
  dsimp only
  split
  · exact evaluate_calm (takeReply_calm hf)
  · exact takeReply_calm (evaluate_calm hf)

theorem deliverOutcome_calm {e : Due} {o : PollOutcome} {rep : DriveReply} (h : r.Calm k s) :
    r.Calm k (s.deliverOutcome e o rep) := by
  unfold deliverOutcome
  split
  · split
    · exact deliverGood_calm h
    · exact h
  · split
    · exact evaluate_calm h
    · exact h

theorem endPoll_calm {p : Poll} {o : PollOutcome} {rep : DriveReply} {us : Nat} (h : r.Calm k s) :
    r.Calm k (s.endPoll p o rep us) := checkBudget_calm (deliverOutcome_calm (h.frame rfl rfl rfl))

theorem sendPoll_calm {e : Due} {rest : List Due} {us : Nat} (h : r.Calm k s) : r.Calm k (s.sendPoll e rest us) :=
  (computePoll_calm h).frame rfl rfl rfl

theorem jamLine_calm {e : Due} {all : List Due} (h : r.Calm k s) : r.Calm k (s.jamLine e all) :=
  foldl_calm (fun _ _ ha => evaluate_calm ha) (h.frame rfl rfl rfl)

/-! ### The end of a step -/

theorem settleFlash_calm (h : r.Calm k s) : r.Calm k s.settleFlash :=
  h.frame_grows (by simp) (by simp) (settleFlash_grows (.refl 0 _))

theorem kick_halted (s : State) : s.kick.lif.halted = s.lif.halted := by
  unfold kick Lif.kick
  dsimp only
  split
  · rfl
  · split
    · rfl
    · split <;> rfl

theorem kick_calm (h : r.Calm k s) : r.Calm k s.kick := h.frame rfl rfl s.kick_halted

theorem judgedMode_tripped_iff (s : State) : s.judgedMode = .tripped ↔ s.sup.mode = .tripped := by
  unfold judgedMode
  split
  next h => exact ⟨fun _ => h, fun _ => rfl⟩
  next h =>
    refine ⟨fun hm => ?_, fun hm => absurd hm h⟩
    split at hm <;> cases hm

end State

end Sys2Proof.Machine
end

section
/-! What every step keeps of the interlocks and of PERMIT (R76, R83, R90, R95, R96, R100, R102, R157): the commands that are not
calm, and the properties that calm operations keep. -/

namespace Sys2Proof.Machine

/-! ## Groups entered afresh (R72, R89) -/

/-- A group under a record that has taken the place of another, given what it is when it enters afresh. -/
def Group.regrouped (old new : GroupRecord) (fresh x : Group) : Group :=
  if new.configured = true then
    if old.configured = true ∧ old.address = new.address then x else fresh
  else if old.configured = true then Group.reset else x

theorem configure_groups (s : State) (g : Fin 24) (left : Option Interlock) :
    (s.configure g left).groups = s.groups.set g (s.freshGroup g) := by
  simp [State.configure, State.withGroup]

theorem unconfigure_groups (s : State) (g : Fin 24) : (s.unconfigure g).groups = s.groups.set g Group.reset := by
  simp [State.unconfigure, State.withGroup]

theorem regroup_groups (s : State) (g : Fin 24) (old : GroupRecord) : (s.regroup g old).groups =
    s.groups.set g (Group.regrouped old (s.groupRecord g) (s.freshGroup g) (s.groups.get g)) := by
  unfold State.regroup Group.regrouped
  cases old.configured <;> cases (s.groupRecord g).configured
  · simp [Table.set_get_self]
  · simp [configure_groups, State.freshGroup, State.groupRecord]
  · simp [unconfigure_groups]
  · by_cases ha : old.address = (s.cfg.groups.get g).address
    · simp [ha, State.groupRecord, Table.set_get_self]
    · simp [ha, configure_groups, State.freshGroup, State.groupRecord]

@[simp] theorem configure_channels (s : State) (g : Fin 24) (left : Option Interlock) :
    (s.configure g left).sup.channels = s.sup.channels := by
  simp [State.configure, State.offerChange]

@[simp] theorem regroup_channels (s : State) (g : Fin 24) (old : GroupRecord) :
    (s.regroup g old).sup.channels = s.sup.channels := by
  unfold State.regroup
  dsimp only
  split
  · simp
  · split <;> simp
  · simp
  · rfl

theorem Group.isSome_regrouped {old new : GroupRecord} {fresh x : Group} (hx : x.interlock.isSome = old.configured)
    (hfresh : fresh.interlock.isSome = true) : (Group.regrouped old new fresh x).interlock.isSome = new.configured := by
  unfold Group.regrouped
  cases hn : new.configured
  · cases ho : old.configured
    · simpa [ho] using hx
    · rfl
  · by_cases ha : old.configured = true ∧ old.address = new.address
    · simpa [ha] using hx
    · simpa [ha] using hfresh

theorem isSome_freshGroup (s : State) (g : Fin 24) : (s.freshGroup g).interlock.isSome = true := by
  unfold State.freshGroup
  split <;> rfl

/-- A configured group at RELEASE, given whether its DRIVE channel is VALID. -/
def Group.reentered (valid : Bool) (now : Tick) (n : Nat) (x : Group) : Group :=
  match x.interlock with
  | none => x
  | some left =>
      if valid then
        { x with interlock := some .closing, cause := .none, stroke := some ⟨now, n⟩, c0 := c0AtChange left .closing x.c0 }
      else { x with interlock := some .lost, cause := .none, stroke := none, c0 := c0AtChange left .closing x.c0 }

theorem reenter_groups (s : State) (g : Fin 24) : (s.reenter g).groups = s.groups.set g
    ((s.groups.get g).reentered (s.sup.channels.get (driveChannel g)).valid s.clock (s.groupRecord g).stroke) := by
  unfold State.reenter Group.reentered
  cases hi : (s.groups.get g).interlock with
  | none => simp only [Table.set_get_self]
  | some left =>
    dsimp only
    rw [State.changeInterlock_channels]
    split
    · rw [changeInterlock_groups]
      rfl
    · rw [changeInterlock_groups, changeInterlock_groups]
      refine Table.ext_get fun j => ?_
      by_cases hj : g = j
      · subst hj
        simp [Interlock.timer, c0AtChange]
      · simp [Table.get_set, hj]

@[simp] theorem reenter_clock (s : State) (g : Fin 24) : (s.reenter g).clock = s.clock := by
  unfold State.reenter
  split
  · rfl
  · dsimp only
    split <;> simp

@[simp] theorem reenter_cfg (s : State) (g : Fin 24) : (s.reenter g).cfg = s.cfg := by
  unfold State.reenter
  split
  · rfl
  · dsimp only
    split <;> simp

@[simp] theorem reenter_channels (s : State) (g : Fin 24) : (s.reenter g).sup.channels = s.sup.channels := by
  unfold State.reenter
  split
  · rfl
  · dsimp only
    split <;> simp

/-- The groups when all have re-entered the interlock. -/
theorem eachGroup_reenter_groups (s : State) (g : Fin 24) :
    (s.eachGroup fun g a => a.reenter g).groups.get g =
      (s.groups.get g).reentered (s.sup.channels.get (driveChannel g)).valid s.clock (s.groupRecord g).stroke := by
  refine eachGroup_groups_get (Q := fun t => t.clock = s.clock ∧ t.cfg = s.cfg ∧ t.sup.channels = s.sup.channels)
    (F := fun g x => x.reentered (s.sup.channels.get (driveChannel g)).valid s.clock (s.groupRecord g).stroke)
    (fun g t ht => by simpa using ht) (fun g t ht => ?_) s ⟨rfl, rfl, rfl⟩ g
  obtain ⟨hclock, hcfg, hchannels⟩ := ht
  rw [reenter_groups, hclock, hchannels, State.groupRecord, hcfg]
  rfl

/-- The groups when the records of new settings have acted on them all. -/
theorem eachGroup_regroup_groups (s : State) (old : Fin 24 → GroupRecord) (g : Fin 24) :
    (s.eachGroup fun g a => a.regroup g (old g)).groups.get g =
      Group.regrouped (old g) (s.groupRecord g) (s.freshGroup g) (s.groups.get g) := by
  refine eachGroup_groups_get
    (Q := fun t => t.clock = s.clock ∧ t.cfg = s.cfg ∧ t.sup.channels = s.sup.channels)
    (F := fun g x => Group.regrouped (old g) (s.groupRecord g) (s.freshGroup g) x)
    (fun g t ht => ?_) (fun g t ht => ?_) s ⟨rfl, rfl, rfl⟩ g
  · simpa using ht
  · obtain ⟨hclock, hcfg, hchannels⟩ := ht
    rw [regroup_groups]
    unfold State.freshGroup State.groupRecord
    rw [hclock, hcfg, hchannels]

end Sys2Proof.Machine
end

section
/-! A property of the groups and of PERMIT that calm operations keep is kept by every step, once the commands that are not calm
keep it: a reset, a trip and its clearing, HALT and RELEASE, SET_GROUP and the end of a settings load. -/

namespace Sys2Proof.Machine

/-- A judgement that passes passed in each of its parts. -/
theorem exists_ok_of_bind {ε α β : Type} {x : Except ε α} {f : α → Except ε β} {b : β} (h : x >>= f = .ok b) :
    ∃ a, x = .ok a ∧ f a = .ok b := by
  cases x with
  | error e => exact nomatch h
  | ok a => exact ⟨a, rfl, h⟩

namespace State

variable {k : Prop} {r s : State}

theorem tripActs_calm (h : r.Calm k s) : r.Calm k s.tripActs := by
  have hshow : r.Calm k (s.abortShow .tripped .trip) := abortShow_calm h
  unfold tripActs
  dsimp only
  exact ite_calm (lowerPermit_calm (waterDown_calm (hshow.frame rfl rfl rfl)))
    (judgeDrop_calm (waterDown_calm (hshow.frame rfl rfl rfl)))

theorem haltPart_calm (h : r.Calm k { s with lif := { s.lif with halted := true } }) : r.Calm k s.haltPart := by
  have hshow := abortShow_calm (f := .aborted) (x := .halt) h
  unfold haltPart
  exact lowerPermit_calm (waterDown_calm (hshow.frame rfl rfl rfl))

theorem takeSettings_calm {new : Settings} (h : r.Calm False s) : r.Calm False (s.takeSettings new) := by
  have hnew (c : Settings) (l : Lgt) (a : Aud) (n : Nat) :
      r.Calm False { s with cfg := c, lgt := l, aud := a, sup := { s.sup with calm := 0 }, fresh := n } :=
    (h.withSup (u := { s.sup with calm := 0 }) rfl rfl rfl id).frame rfl rfl rfl
  have hchannels := foldl_calm (f := fun t i => t.resetChannel i) (es := List.finRange 27)
    (fun _ _ ha => resetChannel_calm ha)
    (foldl_calm (f := fun t g => t.regroup g (s.cfg.groups.get g)) (es := List.finRange 24)
      (fun _ _ ha => regroup_calm ha)
      (hnew new (s.lgt.reassign s.cfg.fixtures new.fixtures fun f => Config.fixtureFadeStart s.fresh f.val)
        { s.aud with lines := zeroLines new.zones } (s.fresh + 1)))
  unfold takeSettings eachGroup eachChannel
  dsimp only
  exact Calm.frame hchannels (by simp) (by simp) (by simp)

theorem startTxn_calm {t : Txn} (h : r.Calm k s) : r.Calm k (s.startTxn t) :=
  h.frame_grows rfl rfl (startTxn_grows (.refl 0 _))

theorem receive_halted (c : LinkChar) : (s.receive c).lif.halted = s.lif.halted := by
  unfold receive takeByte frameIn
  dsimp only
  (repeat' split) <;> rfl

theorem judgeClearFault_interlock {p : List Byte} {g : Fin 24} (h : s.judgeClearFault p = .ok g) :
    (s.groups.get g).interlock = some .fault := by
  unfold judgeClearFault at h
  obtain ⟨e, -, h⟩ := exists_ok_of_bind h
  obtain ⟨_, -, h⟩ := exists_ok_of_bind h
  obtain ⟨_, hfault, h⟩ := exists_ok_of_bind h
  cases h
  exact eq_of_refuseIf_ne_ok hfault

end State

/-- A property of the groups and of PERMIT that calm operations and the others keep. -/
structure Guarded (P : State → Prop) : Prop where
  calm : ∀ s t : State, s.Calm True t → t.cfg.groups = s.cfg.groups → P s → P t
  settles : ∀ s : State, P s → P s.settleSite
  resets : ∀ (s : State) (kind : ResetKind) (inputs : Inputs) (straps : BitVec 2) (log : List TripRecord),
    P (s.resetTo kind inputs straps log)
  causes : ∀ (s : State) (c : Causes), P s → P (s.latchCause c)
  loads : ∀ (s : State) (image : ImageState) (new : Settings), P s → P (s.settingsLoaded image new)
  raises : ∀ s : State, P s → P s.raisePermit
  setsGroup : ∀ (s : State) (g : Fin 24) (r : GroupRecord), P s → P (s.setGroup g r)
  clears : ∀ s : State, P s → P s.clearTrip
  halts : ∀ s : State, P s → P s.haltPart
  releases : ∀ (s : State) (inputs : Inputs), P s → P (s.releasePart inputs)

namespace Guarded

open State

variable {P : State → Prop} (hP : Guarded P) {s : State}
include hP

theorem frame {t : State} (h : P s) (groups : t.groups = s.groups) (sup : t.sup = s.sup)
    (halted : t.lif.halted = s.lif.halted) (cfg : t.cfg.groups = s.cfg.groups) : P t := hP.calm s t ((Calm.refl s).frame groups sup halted) cfg h

theorem grows {t : State} {n : Nat} (h : P s) (groups : t.groups = s.groups) (sup : t.sup = s.sup)
    (grows : s.lif.Grows n t.lif) (cfg : t.cfg.groups = s.cfg.groups) : P t :=
  hP.frame h groups sup grows.halted cfg

theorem kick (h : P s) : P s.kick := hP.calm _ _ (kick_calm (.refl _)) rfl h

theorem settleFlash (h : P s) : P s.settleFlash := hP.calm _ _ (settleFlash_calm (.refl _)) (by simp) h

theorem settle (h : P s) : P s.settle := hP.kick (hP.settles _ (hP.settleFlash h))

theorem startUpReady (h : P s) : P s.startUpReady :=
  hP.grows h (by simp) (by simp) (startUpReady_grows (.refl 0 _)) (by simp)

theorem endService {k : ServiceSlot} {f : Failure} {c : Option Nat} {i : Option ImageState} (h : P s) :
    P (s.endService k f c i) := hP.grows h rfl rfl (endService_grows (.refl 0 _)) rfl

theorem releaseReady (h : P s) : P s.releaseReady :=
  hP.raises _ (hP.grows h (by simp) (by simp) (report_grows (relockAnnouncement_grows (.refl 0 _))) (by simp))

theorem identified (answer : Option DeviceIdent) (h : P s) : P (s.identified answer) := by
  unfold State.identified
  dsimp only
  split
  · exact hP.frame h (by simp) (by simp) (by simp) (by simp)
  · exact hP.startUpReady (hP.loads _ _ _ (hP.frame h rfl rfl rfl rfl))

theorem imageFound (startUp : Bool) (image : ImageState) (new : Settings) (h : P s) : P (s.imageFound startUp image new) := by
  have hflag (c : Bool) (f : Flag) : P (s.flagIf c f) := hP.frame h rfl rfl rfl rfl
  unfold State.imageFound
  dsimp only
  split
  · exact hP.startUpReady (hP.loads _ _ _ (hflag _ _))
  · unfold reloadFound
    split
    · exact hP.endService (hP.frame (hflag (decide (image = .bad)) .settingsBad) rfl rfl rfl rfl)
    · exact hP.endService (hP.loads _ _ _ (hflag _ _))

theorem settingsRead (bytes : List Byte) (h : P s) : P (s.settingsRead bytes) := by
  unfold State.settingsRead
  split
  · split
    · exact hP.frame h (by simp) (by simp) (by simp) (by simp)
    · exact hP.imageFound _ _ _ h
  · exact h
  · exact h

theorem settingsReadFailed (h : P s) : P s.settingsReadFailed := by
  unfold State.settingsReadFailed
  split
  · exact hP.imageFound _ _ _ h
  · exact hP.endService (hP.frame h rfl rfl rfl rfl)
  · exact h
  · exact h

theorem afterCopy (why : CopyFor) (h : P s) : P (s.afterCopy why) := by
  unfold State.afterCopy
  split
  · exact hP.frame h (by simp) (by simp) (by simp) (by simp)
  · exact hP.releaseReady (hP.frame h (by simp) (by simp) (by simp) (by simp))
  · split
    · exact hP.grows h (by simp) (by simp) (finishLoad_grows (.refl 0 _)) (by simp)
    · exact h
  · exact h

theorem recopied (t : Table 64 (Option Clip)) (h : P s) : P (s.nextDirectory.withClips t) :=
  hP.frame h (by simp) (by simp) (by simp) (by simp)

theorem directoryRead (sector : List Byte) (h : P s) : P (s.directoryRead sector) := by
  unfold State.directoryRead
  split
  · exact hP.afterCopy _ (hP.recopied _ h)
  · exact h

theorem directoryFailed (h : P s) : P s.directoryFailed := by
  unfold State.directoryFailed
  split
  · exact hP.grows h (by simp) (by simp) (failLoad_grows (s := s.nextDirectory) (of_lif_eq_grows (nextDirectory_lif s) (.refl 0 _))) (by simp)
  · exact hP.frame h (by simp) (by simp) (by simp) (by simp)
  · exact hP.afterCopy _ (hP.recopied _ h)
  · exact h

theorem answerRead (o : ReadOutcome) (bytes : List Byte) (h : P s) : P (s.answerRead o bytes) := by
  refine hP.frame h (by simp) (by simp) ?_ (by simp)
  unfold State.answerRead
  split <;> rfl

theorem timedOut (t : Txn) (h : P s) : P (s.timedOut t) := by
  unfold State.timedOut
  split
  · exact hP.frame h rfl rfl rfl rfl
  · exact hP.grows h (by simp) (by simp) (loadReadFailed_grows (.refl 0 _)) (by simp)
  · exact hP.directoryFailed h
  · exact hP.settingsReadFailed h
  · exact hP.grows h (by simp) (by simp) (saveFailed_grows (.refl 0 _)) (by simp)
  · exact hP.grows h (by simp) (by simp) (saveFailed_grows (.refl 0 _)) (by simp)
  · exact hP.answerRead _ _ h
  · exact hP.grows h (by simp) (by simp) (endFlash_grows (.refl 0 _)) (by simp)
  · exact hP.grows h (by simp) (by simp) (endFlash_grows (.refl 0 _)) (by simp)

theorem flashTimeout (h : P s) : P s.flashTimeout := by
  have hcut {u : State} (groups : u.groups = s.groups) (sup : u.sup = s.sup) (lif : u.lif = s.lif) (cfg : u.cfg = s.cfg) :
      P u := hP.frame h groups sup (by rw [lif]) (by rw [cfg])
  unfold State.flashTimeout
  split
  · exact hP.timedOut _ (hcut (by simp) (by simp) (by simp) (by simp))
  · exact hP.timedOut _ (hcut (by simp) (by simp) (by simp) (by simp))
  · exact hP.timedOut _ (hcut (by simp) (by simp) (by simp) (by simp))
  · exact hP.timedOut _ (hcut (by simp) (by simp) (by simp) (by simp))
  · exact hP.timedOut _ (hP.timedOut _ (hcut (by simp) (by simp) (by simp) (by simp)))
  · exact h
  · exact h

theorem programmed (t : Txn) (h : P s) : P (s.programmed t) := by
  unfold State.programmed
  dsimp only
  split
  · exact hP.grows h rfl rfl (endFlash_grows (.refl 0 _)) rfl
  · exact hP.grows h (by simp) (by simp) (saveStep_grows (.refl 0 _)) (by simp)
  all_goals exact hP.frame h rfl rfl rfl rfl

theorem erased (t : Txn) (h : P s) : P (s.erased t) := by
  unfold State.erased
  dsimp only
  split
  · exact hP.grows h rfl rfl (endFlash_grows (.refl 0 _)) rfl
  · exact hP.grows h (by simp) (by simp) (saveStep_grows (.refl 0 _)) (by simp)
  all_goals exact hP.frame h rfl rfl rfl rfl

theorem directJet (set : BitVec 24) (height fade : Nat) (h : P s) : P (s.directJet set height fade) := by
  refine hP.calm s _ ?_ rfl h
  refine ((Calm.refl s).regrouped (t := { s with groups := (s.directJet set height fade).groups }) (fun g => ?_) rfl
    rfl).frame rfl rfl rfl
  unfold State.directJet
  dsimp only
  rw [Table.get_mapIdx]
  split
  · exact .of_eq rfl rfl rfl rfl rfl
  · exact .refl _

theorem acts {p : List Byte} {u : State} (h : Acts p s u) (hs : P s) : P u := by
  cases h with
  | setGroup g r => exact hP.setsGroup _ g r hs
  | setCounter i k => exact hP.settle (hP.calm _ _ (resetChannel_calm (.refl _)) (by simp) (hP.frame hs rfl rfl rfl rfl))
  | setFeeder f => exact hP.frame hs (by simp [setFeeder]) (by simp [setFeeder]) (by simp [setFeeder]) (by simp [setFeeder])
  | setWind w =>
    exact hP.calm s _ (((Calm.refl s).withSup (u := { s.sup with calm := 0 }) rfl rfl rfl id).frame rfl rfl rfl) rfl hs
  | setShowOptions o =>
    unfold setShowOptions
    dsimp only
    split
    · exact hP.frame hs rfl rfl rfl rfl
    · exact hP.frame hs (by simp) (by simp) (by simp) (by simp)
  | arm slot tag => exact hP.settleFlash (hP.grows hs (by simp) (by simp) (beginLoad_grows (.refl 0 _)) (by simp))
  | disarm => exact hP.grows hs rfl rfl (showIdle_grows (.refl 0 _)) rfl
  | start => exact hP.settleFlash (hP.calm s _ (startShow_calm (.refl s)) (by simp) hs)
  | hold => exact hP.grows hs rfl rfl (sayShow_grows (.refl 0 _)) rfl
  | resume => exact hP.grows hs rfl rfl (sayShow_grows (.refl 0 _)) rfl
  | stop =>
    refine hP.settleFlash (hP.calm s _ (stopShow_calm (.refl s)) ?_ hs)
    unfold stopShow
    split <;> simp
  | directJet set height fade => exact hP.directJet set height fade hs
  | clipPlays id c => exact hP.settleFlash (hP.frame hs rfl rfl rfl rfl)
  | clearTrip inputs => exact hP.settle (hP.clears _ (hP.frame hs rfl rfl rfl rfl))
  | clearFault g h =>
    exact hP.settle (hP.calm s _ (changeInterlock_calm (.refl s) (judgeClearFault_interlock h) (by simp)
      (by simp)) (by simp) hs)
  | flashWrite | flashErase | save =>
    exact hP.settleFlash (hP.frame hs rfl rfl rfl rfl)
  | reload => exact hP.settleFlash (hP.frame hs rfl rfl rfl rfl)
  | halt => exact hP.settle (hP.halts s hs)
  | release inputs => exact hP.settle (hP.releases s inputs hs)
  | _ => exact hP.frame hs rfl rfl rfl rfl

theorem effect {t : State} (hs : P s) (h : Effect s t) : P t := by
  cases h with
  | idle => exact hs
  | reset kind inputs straps log => exact hP.resets s kind inputs straps log
  | identified answer => exact hP.settle (hP.identified answer hs)
  | cause pins c => exact hP.settle (hP.causes _ c (hP.frame hs rfl rfl rfl rfl))
  | pulse => exact hP.calm s _ ((Calm.refl s).withSup rfl rfl rfl id) rfl hs
  | windGate => exact hP.settle (hP.calm s _ (windGate_calm (.refl s)) (by simp) hs)
  | levelSample reading => exact hP.settle (hP.calm s _ (levelSample_calm (.refl s)) (by simp) hs)
  | dropTimer => exact hP.kick (hP.settles _ (hP.calm s _ (lowerPermit_calm (.refl s)) rfl hs))
  | driveCycle => exact hP.frame hs (by simp) (by simp) (by simp) (by simp)
  | poll e rest us => exact hP.settle (hP.calm s _ (sendPoll_calm (.refl s)) (by simp) hs)
  | jam e all => exact hP.settle (hP.calm s _ (jamLine_calm (.refl s)) (by simp) hs)
  | pollEnd p o rep us => exact hP.settle (hP.calm s _ (endPoll_calm (.refl s)) (by simp) hs)
  | stroke g => exact hP.settle (hP.calm s _ (strokeExpire_calm (.refl s)) (by simp) hs)
  | lampFrame => exact hP.frame hs (by simp) (by simp) (by simp) (by simp)
  | audio a n => exact hP.settleFlash (hP.frame hs rfl rfl rfl rfl)
  | dispatch a now =>
    exact hP.kick (hP.settleFlash (hP.calm _ _ (dispatchEvent_calm (.refl _)) (by simp) (hP.frame hs rfl rfl rfl rfl)))
  | stopping a =>
    exact hP.kick (hP.settleFlash (hP.calm _ _ (testStopping_calm (.refl _)) (by simp) (hP.frame hs rfl rfl rfl rfl)))
  | window a e =>
    exact hP.kick (hP.settles _ (hP.calm _ _ (evaluate_calm (.refl _)) (by simp) (hP.frame hs rfl rfl rfl rfl)))
  | chunkRead | chunkReadSuspended => exact hP.settleFlash (hP.frame hs rfl rfl rfl rfl)
  | flashTimeout => exact hP.settle (hP.flashTimeout hs)
  | guardEnd | deviceReset => exact hP.settleFlash (hP.frame hs rfl rfl rfl rfl)
  | loadRead bytes =>
    exact hP.kick (hP.settleFlash (hP.grows hs (by simp) (by simp) (loadRead_grows (.refl 0 _)) (by simp)))
  | directoryRead bytes => exact hP.settle (hP.directoryRead bytes (hP.frame hs rfl rfl rfl rfl))
  | settingsRead bytes => exact hP.settle (hP.settingsRead bytes (hP.frame hs rfl rfl rfl rfl))
  | hostRead bytes => exact hP.kick (hP.settleFlash (hP.answerRead _ bytes (hP.frame hs rfl rfl rfl rfl)))
  | programmed t => exact hP.kick (hP.settleFlash (hP.programmed t hs))
  | erased t => exact hP.kick (hP.settleFlash (hP.erased t hs))
  | erasedSuspended t => exact hP.kick (hP.settleFlash (hP.erased t (hP.frame hs rfl rfl rfl rfl)))
  | received c => exact hP.frame hs (by simp) (by simp) (receive_halted c) (by simp)
  | receivedFrame c => exact hP.kick (hP.frame hs (by simp) (by simp) (receive_halted c) (by simp))
  | frameSent => exact hP.kick (hP.frame hs rfl rfl rfl rfl)
  | request q st fields u hq hp h => exact hP.kick (hP.acts h (hP.frame hs rfl rfl rfl rfl))
  | flashRead tag address len => exact hP.kick (hP.settleFlash (hP.frame hs rfl rfl rfl rfl))
  | _ => exact hP.frame hs rfl rfl rfl rfl

end Guarded

end Sys2Proof.Machine
end

section
/-! The interlocks, the closing waters, the ramps and the stroke timers, and PERMIT, through every step (R76, R83, R90, R95, R96,
R100, R102, R157). -/

namespace Sys2Proof.Machine

namespace State

theorem haltPart_groups (s : State) (g : Fin 24) : s.haltPart.groups.get g = s.downGroup g := by
  unfold haltPart
  dsimp only
  rw [lowerPermit_groups, waterDown_groups]
  simp [downGroup_eq, groupRecord]

/-- How a trip ends for PERMIT leaves the groups (R157). -/
theorem tripEnd_groups (s : State) : (if s.sup.causes.estop then s.lowerPermit else s.judgeDrop).groups = s.groups := by
  split
  · rfl
  · exact judgeDrop_groups s

theorem latchTrip_tripActs_groups (s : State) (c : Causes) (g : Fin 24) :
    (s.latchTrip c).tripActs.groups.get g = s.downGroup g := by
  unfold tripActs
  dsimp only
  rw [tripEnd_groups, waterDown_groups]
  simp [downGroup_eq, groupRecord]

theorem settleSite_halted (s : State) : s.settleSite.lif.halted = s.lif.halted := (settleSite_grows (.refl 0 _)).halted

theorem settleSite_tripped (s : State) : s.settleSite.sup.mode = .tripped ↔ s.sup.mode = .tripped := by
  rw [settleSite_sup]
  exact judgedMode_tripped_iff s

@[simp] theorem haltPart_cfg (s : State) : s.haltPart.cfg = s.cfg := by simp [haltPart]

@[simp] theorem releaseCopy_groups (s : State) : s.releaseCopy.groups = s.groups := by
  unfold releaseCopy
  split <;> simp

@[simp] theorem releaseCopy_cfg (s : State) : s.releaseCopy.cfg = s.cfg := by
  unfold releaseCopy
  split <;> simp

/-- What follows the re-entry of the groups at RELEASE. -/
def releaseRest (s : State) (tripped : Bool) (inputs : Inputs) : State :=
  (if tripped then s.restartIfTripped else s.judgeInputs inputs).rescale.releaseCopy

/-- The state at RELEASE whose groups re-enter the interlock. -/
def released (s : State) (inputs : Inputs) : State :=
  { s with
    clock := 0
    lif := { s.lif with halted := false, lastReset := .release }
    seq := s.seq.release
    aud := s.aud.release s.cfg.zones
    groups := s.groups.map Group.release
    lgt := Lgt.reset
    fda := Fda.release s.cfg.feeder
    sup := s.sup.release
    flags := s.flags.release
    pins := inputs }

theorem releasePart_eq (s : State) (inputs : Inputs) : s.releasePart inputs =
    ((s.released inputs).eachGroup fun g a => a.reenter g).releaseRest s.isTripped inputs := rfl

theorem released_groups (s : State) (inputs : Inputs) (g : Fin 24) :
    ((s.released inputs).eachGroup fun g a => a.reenter g).groups.get g =
      (s.groups.get g).release.reentered ((s.released inputs).sup.channels.get (driveChannel g)).valid 0
        (s.groupRecord g).stroke := by
  rw [eachGroup_reenter_groups]
  simp [released, groupRecord]

/-- The state under a group's new record, before the record acts on the group. -/
def withRecord (s : State) (g : Fin 24) (r : GroupRecord) : State :=
  { s.markModified with cfg := { s.cfg with groups := s.cfg.groups.set g r } }

theorem setGroup_eq (s : State) (g : Fin 24) (r : GroupRecord) :
    s.setGroup g r = ((s.withRecord g r).regroup g (s.groupRecord g)).rescale.settleSite := rfl

theorem withRecord_groups (s : State) (g : Fin 24) (r : GroupRecord) : (s.withRecord g r).groups = s.groups := by
  simp [withRecord]

theorem withRecord_sup (s : State) (g : Fin 24) (r : GroupRecord) : (s.withRecord g r).sup = s.sup := by simp [withRecord]

theorem withRecord_lif (s : State) (g : Fin 24) (r : GroupRecord) : (s.withRecord g r).lif = s.lif := by simp [withRecord]

theorem regroup_withRecord_calm (s : State) (g : Fin 24) (r : GroupRecord) :
    s.Calm False ((s.withRecord g r).regroup g (s.groupRecord g)).rescale :=
  have hrecord : s.Calm False (s.withRecord g r) := (Calm.refl s).frame (withRecord_groups s g r) (withRecord_sup s g r)
    (congrArg Lif.halted (withRecord_lif s g r))
  Calm.frame (regroup_calm hrecord) (rescale_groups _) (rescale_sup _) (congrArg Lif.halted (rescale_lif _))

/-- The start-up mark is set, with the state of the image that the settings come from. -/
def marked (s : State) (image : ImageState) : State :=
  { s with flp := { s.flp with image := image, settingsWork := none }, sup := { s.sup with startMark := true } }

theorem settingsLoaded_eq (s : State) (image : ImageState) (new : Settings) :
    s.settingsLoaded image new = ((s.takeSettings new).marked image).raisePermit.settleSite := rfl

/-- New settings before their channels are reset. -/
def regroupAll (s : State) (new : Settings) : State :=
  State.eachGroup
    { s with
      cfg := new
      lgt := s.lgt.reassign s.cfg.fixtures new.fixtures fun f => Config.fixtureFadeStart s.fresh f.val
      aud := { s.aud with lines := zeroLines new.zones }
      sup := { s.sup with calm := 0 }
      fresh := s.fresh + 1 } fun g a => a.regroup g (s.cfg.groups.get g)

theorem takeSettings_eq (s : State) (new : Settings) : s.takeSettings new =
    ((s.regroupAll new).eachChannel fun i a => a.resetChannel i).refeed.relockAnnouncement.restartIfTripped := rfl

theorem regroupAll_groups (s : State) (new : Settings) (g : Fin 24) : ∃ fresh : Group, fresh.interlock.isSome = true ∧
    (s.regroupAll new).groups.get g =
      Group.regrouped (s.cfg.groups.get g) (new.groups.get g) fresh (s.groups.get g) :=
  ⟨_, isSome_freshGroup _ g, eachGroup_regroup_groups _ (fun g => s.cfg.groups.get g) g⟩

theorem regroupAll_cfg (s : State) (new : Settings) : (s.regroupAll new).cfg = new :=
  eachGroup_field State.cfg (fun g (a : State) => a.regroup g (s.cfg.groups.get g)) (fun _ _ => regroup_cfg _ _ _) _

theorem takeSettings_cfg (s : State) (new : Settings) : (s.takeSettings new).cfg = new := by
  rw [takeSettings_eq]
  simp [eachChannel, foldl_field State.cfg (fun (a : State) i => a.resetChannel i) (fun a i => resetChannel_cfg a i),
    regroupAll_cfg]

theorem takeSettings_after_regroup_calm (s : State) (new : Settings) : (s.regroupAll new).Calm True (s.takeSettings new) := by
  have hchannels : (s.regroupAll new).Calm True ((s.regroupAll new).eachChannel fun i a => a.resetChannel i) :=
    foldl_calm (fun _ _ ha => resetChannel_calm ha) (.refl _)
  rw [takeSettings_eq]
  exact Calm.frame hchannels (by simp) (by simp) (by simp)

end State

/-- A property of one group and its record that calm operations keep, and that the others establish. -/
structure GroupKept (R : Group → GroupRecord → Prop) : Prop where
  calm : ∀ {e : Bool} {x y : Group} (r : GroupRecord), x.Calm True e y → R x r → R y r
  reset : ∀ g : Fin 24, R Group.reset (State.reset.cfg.groups.get g)
  down : ∀ (x : Group) (r : GroupRecord) (now : Tick) (n : Nat), R x r → R (x.down now n) r
  regrouped : ∀ (x : Group) (s : State) (g : Fin 24) (old new : GroupRecord), R x old →
    R (Group.regrouped old new (s.freshGroup g) x) new
  reentered : ∀ (x : Group) (r : GroupRecord) (valid : Bool) (n : Nat), R x r → R (x.release.reentered valid 0 n) r

namespace GroupKept

open State

variable {R : Group → GroupRecord → Prop} (hR : GroupKept R) {s t : State}

/-- Every group has the property under its record. -/
def All (R : Group → GroupRecord → Prop) (s : State) : Prop := ∀ g, R (s.groups.get g) (s.cfg.groups.get g)

theorem All.frame (h : All R s) (groups : t.groups = s.groups) (cfg : t.cfg.groups = s.cfg.groups) : All R t := by
  unfold All
  rw [groups, cfg]
  exact h

include hR

theorem all_calm (h : All R s) (calm : s.Calm True t) (cfg : t.cfg.groups = s.cfg.groups) : All R t := fun g => by
  rw [cfg]
  exact hR.calm _ (calm.groups g) (h g)

theorem latchTrip_tripActs (c : Causes) (h : All R s) : All R (s.latchTrip c).tripActs := fun g => by
  rw [latchTrip_tripActs_groups, tripActs_cfg, latchTrip_cfg, downGroup_eq]
  exact hR.down _ _ _ _ (h g)

theorem judgeInputs (i : Inputs) (h : All R s) : All R (s.judgeInputs i) := by
  unfold State.judgeInputs
  split
  · exact hR.latchTrip_tripActs _ h
  · exact h

theorem resets (s : State) (kind : ResetKind) (inputs : Inputs) (straps : BitVec 2) (log : List TripRecord) :
    All R (s.resetTo kind inputs straps log) := by
  have hblocks : All R (s.resetBlocks kind inputs straps log) := fun g => by
    have hgroups : (s.resetBlocks kind inputs straps log).groups.get g = Group.reset := Table.get_fill _ _
    rw [hgroups]
    exact hR.reset g
  exact (hR.judgeInputs inputs hblocks).frame rfl rfl

theorem takes {new : Settings} (h : All R s) : All R (s.takeSettings new) := by
  have hall : All R (s.regroupAll new) := fun g => by
    rw [regroupAll_cfg]
    exact eachGroup_regroup_groups _ (fun g => s.cfg.groups.get g) g ▸ hR.regrouped _ _ _ _ _ (h g)
  exact hR.all_calm hall (takeSettings_after_regroup_calm s new) (by rw [takeSettings_cfg, regroupAll_cfg])

theorem setsGroup (g : Fin 24) (r : GroupRecord) (h : All R s) : All R (s.setGroup g r) := by
  have hgroups : (s.setGroup g r).groups =
      s.groups.set g (Group.regrouped (s.groupRecord g) r ((s.withRecord g r).freshGroup g) (s.groups.get g)) := by
    have hrecord : (s.withRecord g r).groupRecord g = r := Table.get_set_self _ _ _
    rw [setGroup_eq, settleSite_groups, rescale_groups, regroup_groups, hrecord, withRecord_groups]
  have hcfg : (s.setGroup g r).cfg.groups = s.cfg.groups.set g r := by simp [State.setGroup]
  intro j
  rw [hgroups, hcfg, Table.get_set, Table.get_set]
  split
  · exact hR.regrouped _ (s.withRecord g r) g _ _ (h g)
  · exact h j

theorem releases (inputs : Inputs) (h : All R s) : All R (s.releasePart inputs) := by
  have hall : All R ((s.released inputs).eachGroup fun g a => a.reenter g) := fun g => by
    rw [released_groups, eachGroup_field State.cfg (fun g (a : State) => a.reenter g) (fun a g => reenter_cfg a g) _]
    exact hR.reentered _ _ _ _ (h g)
  rw [releasePart_eq]
  unfold releaseRest
  split
  · exact hall.frame (by simp) (by simp)
  · exact (hR.judgeInputs inputs hall).frame (by simp) (by simp)

theorem causes (c : Causes) (h : All R s) : All R (s.latchCause c) := by
  unfold latchCause
  split
  · dsimp only
    split <;> exact h.frame (by simp) (by simp)
  · exact hR.latchTrip_tripActs c h

theorem halts (h : All R s) : All R s.haltPart := fun g => by
  rw [haltPart_groups, haltPart_cfg, downGroup_eq]
  exact hR.down _ _ _ _ (h g)

theorem guarded : Guarded (All R) where
  calm _ _ calm cfg h := hR.all_calm h calm cfg
  settles s h := h.frame (by simp) (by simp)
  resets := hR.resets
  causes _ := hR.causes
  loads s image new h := (hR.takes (new := new) h).frame (by simp [settingsLoaded_eq, marked]) (by simp [settingsLoaded_eq, marked])
  raises s h := h.frame rfl rfl
  setsGroup _ := hR.setsGroup
  clears s h := h.frame rfl rfl
  halts _ := hR.halts
  releases _ := hR.releases

end GroupKept

/-! ## The four properties of the groups -/

theorem factory_group (g : Fin 24) : (State.reset.cfg.groups.get g).configured = false := by
  have hall : ∀ g : Fin 24, (State.reset.cfg.groups.get g).configured = false := by decide
  exact hall g

theorem Group.isSome_down (x : Group) (now : Tick) (n : Nat) : (x.down now n).interlock.isSome = x.interlock.isSome := by
  obtain ⟨i⟩ := x
  cases i with
  | none => rfl
  | some j => cases j <;> rfl

theorem Group.isSome_reentered (x : Group) (valid : Bool) (now : Tick) (n : Nat) :
    (x.reentered valid now n).interlock.isSome = x.interlock.isSome := by
  unfold Group.reentered
  cases hi : x.interlock with
  | none => simp [hi]
  | some left => cases valid <;> rfl

theorem groupKept_interlock : GroupKept fun x r => x.interlock.isSome = r.configured where
  calm _ h hx := (h.configured trivial).trans hx
  reset g := (factory_group g).symm
  down x _ now n h := (x.isSome_down now n).trans h
  regrouped _ s g _ _ h := Group.isSome_regrouped h (isSome_freshGroup s g)
  reentered x _ valid n h := (x.release.isSome_reentered valid 0 n).trans h

theorem Group.rampFits_down {x : Group} (h : x.rampFits) (now : Tick) (n : Nat) : (x.down now n).rampFits := by
  obtain ⟨i⟩ := x
  cases i with
  | none => exact h
  | some j =>
    cases j with
    | opening => exact ⟨h.1, fun hj => by simp [Group.down] at hj⟩
    | _ => exact h

theorem Group.strokeFits_down {x : Group} (h : x.strokeFits) (now : Tick) (n : Nat) : (x.down now n).strokeFits := by
  obtain ⟨i⟩ := x
  cases i with
  | none => exact h
  | some j =>
    cases j with
    | opening => exact fun _ => .inr rfl
    | _ => exact h

theorem Group.regrouped_calm {old new : GroupRecord} {x y : Group} {e : Bool} (hy : x.Calm False e y) :
    x.Calm False e (Group.regrouped old new y x) := by
  unfold Group.regrouped
  split
  · split
    · exact .refl x
    · exact hy
  · split
    · exact Group.calm_fresh (.inl rfl)
    · exact .refl x

theorem freshGroup_calm (s : State) (g : Fin 24) (x : Group) (e : Bool) : x.Calm False e (s.freshGroup g) := by
  refine Group.calm_fresh (.inr ?_)
  unfold State.freshGroup
  split
  · exact ⟨.closing, _, rfl, by simp, by simp, fun _ => rfl⟩
  · exact ⟨.lost, none, rfl, by simp, by simp, fun hn => nomatch hn⟩

/-- A group after RELEASE: out of the interlock as before, or CLOSING or LOST, with its ramp at 0. -/
theorem Group.reentered_release_calm (x : Group) (valid : Bool) (n : Nat) (e : Bool) :
    x.Calm False e (x.release.reentered valid 0 n) := by
  obtain ⟨i⟩ := x
  cases i with
  | none => exact ⟨fun _ h => (nomatch h), fun _ _ _ => rfl, fun _ => ⟨.inl rfl, fun _ => rfl⟩, fun _ h => (nomatch h),
      False.elim⟩
  | some left =>
    have hramp : c0AtChange left .closing 0 = 0 := by cases left <;> rfl
    cases valid with
    | false => exact ⟨fun _ h => (nomatch h), fun _ _ _ => rfl, fun _ => ⟨.inr hramp, fun _ => hramp⟩, fun _ h => (nomatch h),
        False.elim⟩
    | true => exact ⟨fun _ h => (nomatch h), fun _ _ _ => rfl, fun _ => ⟨.inr hramp, fun _ => hramp⟩, fun _ _ => .inr rfl,
        False.elim⟩

theorem Group.reentered_release_closing (x : Group) (valid : Bool) (n : Nat) :
    (x.release.reentered valid 0 n).interlock ≠ some .opening
      ∧ ((x.release.reentered valid 0 n).interlock ≠ none → (x.release.reentered valid 0 n).target = 0) := by
  obtain ⟨i⟩ := x
  cases i with
  | none => exact ⟨by simp [Group.reentered, Group.release], fun _ => rfl⟩
  | some left => cases valid <;> exact ⟨by simp [Group.reentered, Group.release], fun _ => rfl⟩

theorem groupKept_ramp : GroupKept fun x _ => x.rampFits where
  calm _ h := h.ramp
  reset _ := ⟨.inl rfl, fun _ => rfl⟩
  down _ _ now n h := Group.rampFits_down h now n
  regrouped x s g _ _ := (Group.regrouped_calm (freshGroup_calm s g x true)).ramp
  reentered x _ valid n := (x.reentered_release_calm valid n true).ramp

theorem groupKept_stroke : GroupKept fun x _ => x.strokeFits where
  calm _ h := h.stroke
  reset _ h := nomatch h
  down _ _ now n h := Group.strokeFits_down h now n
  regrouped x s g _ _ := (Group.regrouped_calm (freshGroup_calm s g x true)).stroke
  reentered x _ valid n := (x.reentered_release_calm valid n true).stroke

/-! ## The closing waters (R100, R102) -/

namespace State

variable {s t : State}

/-- Every group is brought down. -/
def AllClosing (s : State) : Prop := ∀ g : Fin 24, (s.groups.get g).interlock ≠ some .opening
  ∧ ((s.groups.get g).interlock ≠ none → (s.groups.get g).target = 0)

theorem emergency_iff (s : State) : s.emergency = true ↔ s.sup.mode = .tripped ∨ s.lif.halted = true := by
  simp [emergency, isTripped]

theorem watersClosing_iff (s : State) : s.watersClosing ↔ (s.emergency = true → s.AllClosing) := by
  rw [emergency_iff]
  exact Iff.rfl

theorem AllClosing.watersClosing (h : s.AllClosing) : s.watersClosing := fun _ => h

theorem AllClosing.frame (h : s.AllClosing) (groups : t.groups = s.groups) : t.AllClosing := by
  unfold AllClosing
  rw [groups]
  exact h

theorem watersClosing_frame (h : s.watersClosing) (groups : t.groups = s.groups)
    (mode : t.sup.mode = .tripped → s.sup.mode = .tripped) (halted : t.lif.halted = s.lif.halted) : t.watersClosing := by
  intro he
  refine AllClosing.frame (h ?_) groups
  rw [halted] at he
  exact he.imp_left mode

theorem watersClosing_calm {k : Prop} (h : s.watersClosing) (calm : s.Calm k t) : t.watersClosing := by
  rw [watersClosing_iff] at h ⊢
  intro he
  rw [calm.emergency_eq] at he
  intro g
  obtain ⟨hopening, htarget⟩ := h he g
  exact ⟨fun hg => hopening ((calm.groups g).opening he hg), (calm.groups g).target he htarget⟩

theorem latchTrip_tripActs_allClosing (s : State) (c : Causes) : (s.latchTrip c).tripActs.AllClosing := fun g => by
  rw [latchTrip_tripActs_groups, downGroup_eq]
  exact Group.down_closing _ _ _

theorem watersClosing_judgeInputs (h : s.watersClosing) (i : Inputs) : (s.judgeInputs i).watersClosing := by
  unfold judgeInputs
  split
  · exact (latchTrip_tripActs_allClosing s _).watersClosing
  · exact h

theorem released_allClosing (s : State) (inputs : Inputs) :
    ((s.released inputs).eachGroup fun g a => a.reenter g).AllClosing := fun g => by
  rw [released_groups]
  exact Group.reentered_release_closing _ _ _

theorem releasePart_watersClosing (s : State) (inputs : Inputs) : (s.releasePart inputs).watersClosing := by
  rw [releasePart_eq]
  unfold releaseRest
  split
  · exact ((released_allClosing s inputs).frame (by simp)).watersClosing
  · refine AllClosing.watersClosing (AllClosing.frame (t := _) ?_ (releaseCopy_groups _))
    refine AllClosing.frame ?_ (rescale_groups _)
    unfold judgeInputs
    split
    · exact latchTrip_tripActs_allClosing _ _
    · exact released_allClosing s inputs

theorem latchCause_watersClosing (h : s.watersClosing) (c : Causes) : (s.latchCause c).watersClosing := by
  unfold latchCause
  split
  · dsimp only
    split <;> exact watersClosing_frame h (by simp) id (report_grows (.refl 0 _)).halted
  · exact (latchTrip_tripActs_allClosing s c).watersClosing

theorem settleSite_watersClosing (h : s.watersClosing) : s.settleSite.watersClosing :=
  watersClosing_frame h (settleSite_groups s) (settleSite_tripped s).1 (settleSite_halted s)

theorem setGroup_watersClosing (h : s.watersClosing) (g : Fin 24) (r : GroupRecord) : (s.setGroup g r).watersClosing := by
  rw [setGroup_eq]
  exact settleSite_watersClosing (watersClosing_calm h (regroup_withRecord_calm s g r))

theorem settingsLoaded_watersClosing (h : s.watersClosing) (image : ImageState) (new : Settings) :
    (s.settingsLoaded image new).watersClosing := by
  have htakes := watersClosing_calm h (takeSettings_calm (new := new) (.refl s))
  rw [settingsLoaded_eq]
  exact settleSite_watersClosing (watersClosing_frame htakes (by simp [marked]) (by simp [marked, raisePermit]) (by simp [marked]))

theorem guarded_watersClosing : Guarded watersClosing where
  calm _ _ calm _ h := watersClosing_calm h calm
  settles _ h := settleSite_watersClosing h
  resets s kind inputs straps log := by
    have hblocks : (s.resetBlocks kind inputs straps log).watersClosing := fun he => by
      rcases he with he | he <;> exact nomatch he
    exact watersClosing_frame (watersClosing_judgeInputs hblocks inputs) rfl id (kick_halted _)
  causes _ c h := latchCause_watersClosing h c
  loads _ image new h := settingsLoaded_watersClosing h image new
  raises s h := watersClosing_frame h rfl id rfl
  setsGroup _ g r h := setGroup_watersClosing h g r
  clears s h := watersClosing_frame h rfl (fun hm => absurd hm (by simp [clearTrip, raisePermit, oweSite])) rfl
  halts s _ := AllClosing.watersClosing fun g => by
    rw [haltPart_groups, downGroup_eq]
    exact Group.down_closing _ _ _
  releases s inputs _ := releasePart_watersClosing s inputs

end State

theorem Guarded.step_keeps {P : State → Prop} (hP : Guarded P) {s t : State} (h : P s) (ht : step s = .next t) : P t :=
  step_keeps_of_effect (fun s _ hs => hP.frame (s := s) hs rfl rfl rfl rfl) (fun _ _ hs he => hP.effect hs he) s t h ht

/-- Settles O7: each property is kept by the operations that are calm for the groups, and by a reset, a trip, CLEAR_TRIP, HALT,
RELEASE, SET_GROUP and a settings load. -/
theorem stepKeepsInterlocksFit : Obligations.StepKeepsInterlocksFit :=
  ⟨fun _ _ => groupKept_interlock.guarded.step_keeps, fun _ _ => State.guarded_watersClosing.step_keeps,
    fun _ _ => groupKept_ramp.guarded.step_keeps, fun _ _ => groupKept_stroke.guarded.step_keeps⟩

end Sys2Proof.Machine
end

section
/-! PERMIT through every step (R157). -/

namespace Sys2Proof.Machine

namespace State

variable {s t : State}

theorem permitSafe_of_low (h : s.sup.permit = false) : s.permitSafe := fun hp => by simp [h] at hp

theorem permitSafe_calm {k : Prop} (h : s.permitSafe) (calm : s.Calm k t) : t.permitSafe := fun hp => by
  rw [calm.startMark, calm.halted, calm.mode, calm.causes]
  exact h (calm.permit hp)

theorem permitSafe_frame (h : s.permitSafe) (sup : t.sup = s.sup) (halted : t.lif.halted = s.lif.halted) : t.permitSafe := by
  unfold permitSafe
  rw [sup, halted]
  exact h

theorem settleSite_permitSafe (h : s.permitSafe) : s.settleSite.permitSafe := fun hp => by
  rw [settleSite_halted, settleSite_tripped]
  rw [settleSite_sup] at hp ⊢
  exact h hp

theorem raisePermit_permitSafe (h : s.permitSafe) : s.raisePermit.permitSafe := fun hp => by
  rcases Bool.or_eq_true_iff.1 hp with hp | hp
  · exact h hp
  · simp only [mayPermit, isTripped, Bool.and_eq_true, Bool.not_eq_true', decide_eq_false_iff_not] at hp
    obtain ⟨⟨hmark, hhalted⟩, htripped⟩ := hp
    exact ⟨hmark, hhalted, fun h => absurd h htripped⟩

theorem marked_permitSafe (h : s.permitSafe) (image : ImageState) : (s.marked image).permitSafe := fun hp =>
  ⟨rfl, (h hp).2⟩

theorem judgeDrop_sup_causes (s : State) : s.judgeDrop.sup.causes = s.sup.causes := (judgeDrop_calm (k := True) (.refl s)).causes

/-- How a trip ends for PERMIT: low at an emergency stop, and judged at an intrusion. -/
theorem tripEnd_permitSafe (h : s.sup.permit = true → s.sup.startMark = true ∧ s.lif.halted = false) :
    (if s.sup.causes.estop then s.lowerPermit else s.judgeDrop).permitSafe := by
  split
  · exact permitSafe_of_low rfl
  next hestop =>
    have hsafe : s.permitSafe := fun hp => ⟨(h hp).1, (h hp).2, fun _ => eq_false_of_ne_true hestop⟩
    exact permitSafe_calm (k := True) hsafe (judgeDrop_calm (.refl s))

/-- A trip before the groups are brought down: the show aborted, the lights and the music in the trip's hands. -/
def tripStopped (s : State) : State :=
  let t := s.abortShow .tripped .trip
  { t with
    lgt := t.lgt.dropLatches
    aud := if t.lif.halted then t.aud else t.aud.trip t.cfg.options }

theorem tripActs_eq (s : State) : s.tripActs =
    if s.tripStopped.waterDown.sup.causes.estop then s.tripStopped.waterDown.lowerPermit
    else s.tripStopped.waterDown.judgeDrop := by
  unfold tripActs tripStopped
  dsimp only

theorem tripStopped_calm (s : State) : s.Calm True s.tripStopped :=
  have hshow : s.Calm True (s.abortShow .tripped .trip) := abortShow_calm (.refl _)
  hshow.frame rfl rfl rfl

theorem latchTrip_tripActs_permitSafe (h : s.permitSafe) (c : Causes) : (s.latchTrip c).tripActs.permitSafe := by
  have hcalm := waterDown_calm (tripStopped_calm (s.latchTrip c))
  rw [tripActs_eq]
  refine tripEnd_permitSafe fun hp => ?_
  obtain ⟨hmark, hhalted, -⟩ := h (hcalm.permit hp)
  exact ⟨hcalm.startMark.trans hmark, hcalm.halted.trans ((latchTrip_grows (.refl 0 _)).halted.trans hhalted)⟩

theorem latchCause_permitSafe (h : s.permitSafe) (c : Causes) : (s.latchCause c).permitSafe := by
  unfold latchCause
  split
  · dsimp only
    split
    · exact permitSafe_of_low rfl
    next hestop =>
      intro hp
      obtain ⟨hmark, hhalted, htrip⟩ := h hp
      exact ⟨hmark, (report_grows (.refl 0 _)).halted.trans hhalted, fun hm => by
        simpa [report, Causes.union, hestop] using htrip hm⟩
  · exact latchTrip_tripActs_permitSafe h c

theorem judgeInputs_permitSafe (h : s.permitSafe) (i : Inputs) : (s.judgeInputs i).permitSafe := by
  unfold judgeInputs
  split
  · exact latchTrip_tripActs_permitSafe h _
  · exact h

theorem releaseReady_permitSafe (h : s.permitSafe) : s.releaseReady.permitSafe :=
  raisePermit_permitSafe (permitSafe_frame h (by simp) (report_grows (relockAnnouncement_grows (.refl 0 _))).halted)

theorem releaseCopy_permitSafe (h : s.permitSafe) : s.releaseCopy.permitSafe := by
  unfold releaseCopy
  split
  · exact releaseReady_permitSafe (permitSafe_frame h rfl rfl)
  · exact permitSafe_frame h (askDirectory_sup _ _) (congrArg Lif.halted (askDirectory_lif _ _))

theorem reenter_calm {k : Prop} {r : State} {g : Fin 24} (h : r.Calm k s) : r.Calm k (s.reenter g) := by
  unfold reenter
  split
  · exact h
  next left hi =>
    have hfirst : r.Calm k (s.changeInterlock g left .closing .none none) := changeInterlock_calm h hi (by simp) (by simp)
    dsimp only
    split
    · exact hfirst
    · exact changeInterlock_calm hfirst (by simp [changeInterlock_groups]) (by simp) (by simp)

theorem releasePart_permitSafe (s : State) (inputs : Inputs) : (s.releasePart inputs).permitSafe := by
  have hlow : (s.released inputs).permitSafe := permitSafe_of_low rfl
  have hreenter : ((s.released inputs).eachGroup fun g a => a.reenter g).permitSafe :=
    permitSafe_calm (k := True) hlow (foldl_calm (fun _ _ ha => reenter_calm ha) (.refl _))
  have hjudged : (if s.isTripped = true then ((s.released inputs).eachGroup fun g a => a.reenter g).restartIfTripped
      else ((s.released inputs).eachGroup fun g a => a.reenter g).judgeInputs inputs).permitSafe := by
    split
    · exact permitSafe_frame hreenter (restartIfTripped_sup _) (congrArg Lif.halted (restartIfTripped_lif _))
    · exact judgeInputs_permitSafe hreenter inputs
  rw [releasePart_eq]
  unfold releaseRest
  exact releaseCopy_permitSafe (permitSafe_frame hjudged (rescale_sup _) (congrArg Lif.halted (rescale_lif _)))

theorem guarded_permitSafe : Guarded permitSafe where
  calm _ _ calm _ h := permitSafe_calm h calm
  settles _ h := settleSite_permitSafe h
  resets s kind inputs straps log := by
    have hblocks : (s.resetBlocks kind inputs straps log).permitSafe := permitSafe_of_low rfl
    exact fun hp => by
      unfold resetTo
      rw [kick_halted]
      exact judgeInputs_permitSafe hblocks inputs hp
  causes _ c h := latchCause_permitSafe h c
  loads s image new h := by
    have htakes := permitSafe_calm h (takeSettings_calm (new := new) (.refl s))
    rw [settingsLoaded_eq]
    exact settleSite_permitSafe (raisePermit_permitSafe (marked_permitSafe htakes image))
  raises _ h := raisePermit_permitSafe h
  setsGroup s g r h := by
    rw [setGroup_eq]
    exact settleSite_permitSafe (permitSafe_calm h (regroup_withRecord_calm s g r))
  clears s h := by
    refine raisePermit_permitSafe (s := { s with
        sup := { s.sup with causes := Causes.none, mode := .restricted, dropTimer := none }
        aud := s.aud.clearTrip
        lgt := s.lgt.clearTrip s.cfg s.clock }) fun hp => ⟨(h hp).1, (h hp).2.1, fun _ => rfl⟩
  halts s _ := permitSafe_of_low rfl
  releases s inputs _ := releasePart_permitSafe s inputs

end State

end Sys2Proof.Machine
end

section
/-! The site mode and the condition flags of the SITE bank through every step (R148, R152, R155, R159, R160). -/

namespace Sys2Proof.Machine

/-! ## What leaves the SITE bank of the flags -/

theorem Flags.raise_siteBank (fs : Flags) {f : Flag} (h : f.bank ≠ .site) : (fs.raise f).site = fs.site := by
  unfold Flags.raise Flags.write
  split <;> first | rfl | contradiction

theorem Flags.raiseIf_siteBank (fs : Flags) (c : Bool) {f : Flag} (h : f.bank ≠ .site) : (fs.raiseIf c f).site = fs.site := by
  cases c with
  | false => rfl
  | true => exact fs.raise_siteBank h

theorem Flags.read_write (fs : Flags) (b c : Bank) (v : Byte) : (fs.write b v).read c = if b = c then v else fs.read c := by
  cases b <;> cases c <;> rfl

theorem Flags.has_raise (fs : Flags) (e : Flag) {f : Flag} (h : fs.has f = true) : (fs.raise e).has f = true := by
  unfold Flags.has at h ⊢
  unfold Flags.raise
  rw [Flags.read_write]
  split
  next hb => rw [BitVec.getLsbD_or, hb, h, Bool.true_or]
  · exact h

theorem Flags.has_raiseIf (fs : Flags) (c : Bool) (e : Flag) {f : Flag} (h : fs.has f = true) :
    (fs.raiseIf c e).has f = true := by
  cases c with
  | false => exact h
  | true => exact fs.has_raise e h

namespace State

variable (s : State)

@[simp] theorem report_siteBank (r : Report) : (s.report r).flags.site = s.flags.site := Flags.raiseIf_siteBank _ _ (by decide)

theorem flag_siteBank {f : Flag} (h : f.bank ≠ .site) : (s.flag f).flags.site = s.flags.site :=
  Flags.raise_siteBank _ h

theorem flagIf_siteBank (c : Bool) {f : Flag} (h : f.bank ≠ .site) : (s.flagIf c f).flags.site = s.flags.site :=
  Flags.raiseIf_siteBank _ _ h

@[simp] theorem sayShow_siteBank (r : Option EndReason) : (s.sayShow r).flags.site = s.flags.site := report_siteBank _ _

@[simp] theorem endService_siteBank (k : ServiceSlot) (f : Failure) (c : Option Nat) (i : Option ImageState) :
    (s.endService k f c i).flags.site = s.flags.site := report_siteBank _ _

@[simp] theorem arbitrate_siteBank : s.arbitrate.flags.site = s.flags.site := by
  unfold arbitrate
  split
  · rw [chooseTxn_flags]
  · split
    · exact Flags.raise_siteBank _ (by decide)
    · rfl
  all_goals rfl

@[simp] theorem settleFlash_siteBank : s.settleFlash.flags.site = s.flags.site := arbitrate_siteBank _

@[simp] theorem showIdle_siteBank (r : EndReason) : (s.showIdle r).flags.site = s.flags.site := sayShow_siteBank _ _

@[simp] theorem testStopping_siteBank : s.testStopping.flags.site = s.flags.site := by
  unfold testStopping
  split
  · split
    · exact showIdle_siteBank _ _
    · rfl
  · rfl

@[simp] theorem enterStopping_siteBank (r : EndReason) : (s.enterStopping r).flags.site = s.flags.site :=
  (testStopping_siteBank _).trans (sayShow_siteBank _ _)

@[simp] theorem failLoad_siteBank (f : Failure) (c : Option Nat) (l : List Byte) (r : EndReason) :
    (s.failLoad f c l r).flags.site = s.flags.site := by
  unfold failLoad
  rw [endService_siteBank, showIdle_siteBank]
  exact Flags.raise_siteBank _ (by decide)

@[simp] theorem interruptLoad_siteBank (f : Failure) (r : EndReason) :
    (s.interruptLoad f r).flags.site = s.flags.site := failLoad_siteBank _ _ _ _ _

@[simp] theorem stopShow_siteBank : s.stopShow.flags.site = s.flags.site := by
  unfold stopShow
  split
  · exact interruptLoad_siteBank _ _ _
  · exact enterStopping_siteBank _ _

@[simp] theorem beginLoad_siteBank (slot : Nat) (tag : Byte) : (s.beginLoad slot tag).flags.site = s.flags.site := by
  unfold beginLoad
  dsimp only
  split
  · rw [failLoad_siteBank, sayShow_siteBank, beginService_flags]
  · split <;> simp

@[simp] theorem loadRead_siteBank (bytes : List Byte) : (s.loadRead bytes).flags.site = s.flags.site := by
  unfold loadRead
  split
  · dsimp only
    split <;> simp
  · split
    · dsimp only
      split <;> simp
    · dsimp only
      split
      · simp
      · split <;> simp
    · rfl

@[simp] theorem latchRange_siteBank (a b : Nat) (l : Latch) : (s.latchRange a b l).flags.site = s.flags.site :=
  Flags.raiseIf_siteBank _ _ (by decide)

@[simp] theorem giveClip_siteBank (o : Origin) (id : Nat) (c : Clip) (n : Nat) (k : Int) :
    (s.giveClip o id c n k).flags.site = s.flags.site := Flags.raiseIf_siteBank _ _ (by decide)

@[simp] theorem dispatchClip_siteBank (e : ClipEntry) : (s.dispatchClip e).flags.site = s.flags.site := by
  unfold dispatchClip
  split
  · exact giveClip_siteBank _ _ _ _ _ _
  · rfl

@[simp] theorem dispatchMark_siteBank (t : Int) (e : MarkEntry) : (s.dispatchMark t e).flags.site = s.flags.site := by
  unfold dispatchMark
  split
  · exact report_siteBank _ _
  · rfl

@[simp] theorem deliver_siteBank (t : Int) : (s.deliver t).flags.site = s.flags.site := by
  unfold deliver
  dsimp only
  rw [foldl_field (fun a => a.flags.site) (fun a e => dispatchMark a t e) (fun a e => dispatchMark_siteBank a t e),
    foldl_field (fun a => a.flags.site) (fun a e => dispatchClip a e) (fun a e => dispatchClip_siteBank a e),
    foldl_field (fun a => a.flags.site) (fun a (e : LightEntry) => latchRange a e.first e.last e.latch)
      (fun a e => latchRange_siteBank a _ _ _)]

@[simp] theorem dispatchEvent_siteBank (t : Int) : (s.dispatchEvent t).flags.site = s.flags.site := by
  unfold dispatchEvent
  dsimp only
  split
  · simp
  · split <;> simp

@[simp] theorem startShow_siteBank : s.startShow.flags.site = s.flags.site :=
  (dispatchEvent_siteBank _ _).trans (sayShow_siteBank _ _)

@[simp] theorem endFlash_siteBank (f : Failure) : (s.endFlash f).flags.site = s.flags.site := endService_siteBank _ _ _ _ _

@[simp] theorem saveStep_siteBank (n : Nat) : (s.saveStep n).flags.site = s.flags.site := by
  unfold saveStep
  split
  · unfold saveOn
    split <;> simp
  · rfl
  · rfl

@[simp] theorem programmed_siteBank (t : Txn) : (s.programmed t).flags.site = s.flags.site := by
  cases t <;> simp [programmed]

@[simp] theorem erased_siteBank (t : Txn) : (s.erased t).flags.site = s.flags.site := by
  cases t <;> simp [erased]

@[simp] theorem unsuspended_siteBank : s.unsuspended.flags.site = s.flags.site := by
  unfold unsuspended
  dsimp only
  split <;> rfl

@[simp] theorem checkBudget_siteBank : s.checkBudget.flags.site = s.flags.site := by
  unfold checkBudget
  split
  · rfl
  · split
    · exact Flags.raise_siteBank _ (by decide)
    · rfl

@[simp] theorem rescale_siteBank : s.rescale.flags.site = s.flags.site := Flags.raiseIf_siteBank _ _ (by decide)

@[simp] theorem refeed_siteBank : s.refeed.flags.site = s.flags.site := by simp [refeed]

@[simp] theorem postLight_siteBank (n : Nat) : (s.postLight n).flags.site = s.flags.site :=
  (rescale_siteBank _).trans (Flags.raiseIf_siteBank _ _ (by decide))

@[simp] theorem lampFrame_siteBank : s.lampFrame.flags.site = s.flags.site := by
  unfold lampFrame
  dsimp only
  rw [Flags.raiseIf_siteBank _ _ (by decide), postLight_siteBank]

@[simp] theorem frameIn_siteBank (q : Request) : (s.frameIn q).flags.site = s.flags.site := by
  unfold frameIn
  split
  · rfl
  · split <;> exact flag_siteBank _ (by decide)

@[simp] theorem takeByte_siteBank (d : Byte) : (s.takeByte d).flags.site = s.flags.site := by
  unfold takeByte
  split
  · split <;> rfl
  · dsimp only
    split
    · exact flag_siteBank _ (by decide)
    · split
      · split
        · exact frameIn_siteBank _ _
        · exact flag_siteBank _ (by decide)
      · rfl

@[simp] theorem receive_siteBank (c : LinkChar) : (s.receive c).flags.site = s.flags.site := by
  unfold receive
  split
  · split
    · rw [flagIf_siteBank _ _ (by decide), flagIf_siteBank _ _ (by decide)]
      rfl
    · exact takeByte_siteBank _ _
  · rfl

@[simp] theorem directJet_siteBank (g : BitVec 24) (h f : Nat) : (s.directJet g h f).flags.site = s.flags.site :=
  Flags.raiseIf_siteBank _ _ (by decide)

@[simp] theorem setShowOptions_siteBank (o : ShowOptions) : (s.setShowOptions o).flags.site = s.flags.site := by
  unfold setShowOptions
  dsimp only
  split <;> simp

/-! ## The site stays judged -/

variable {s} {t : State}

theorem siteJudged_frame (h : s.siteJudged) (channels : t.sup.channels = s.sup.channels) (band : t.sup.band = s.sup.band)
    (measured : t.sup.measured = s.sup.measured) (mode : t.sup.mode = s.sup.mode) (gates : t.sup.gates = s.sup.gates)
    (cfg : t.cfg.groups = s.cfg.groups) (site : t.flags.site = s.flags.site) : t.siteJudged := by
  have hlevel : t.levelNow = s.levelNow := by unfold levelNow; rw [channels, measured]
  have hflag (f : Flag) (hf : f.bank = .site) : t.flags.has f = s.flags.has f := by
    simp [Flags.has, hf, Flags.read, site]
  unfold siteJudged
  rw [hlevel, hflag .windForced rfl, hflag .levelLow rfl, hflag .levelDry rfl, channels, band, mode, gates, cfg]
  exact h

theorem siteJudged_same (h : s.siteJudged) (sup : t.sup = s.sup) (cfg : t.cfg.groups = s.cfg.groups)
    (site : t.flags.site = s.flags.site) : t.siteJudged :=
  siteJudged_frame h (by rw [sup]) (by rw [sup]) (by rw [sup]) (by rw [sup]) (by rw [sup]) cfg site

theorem settle_siteJudged (s : State) : s.settle.siteJudged := settleSite_siteJudged s.settleFlash

theorem settleSite_kick_siteJudged (s : State) : s.settleSite.kick.siteJudged := settleSite_siteJudged s

theorem kick_siteJudged (h : s.siteJudged) : s.kick.siteJudged := siteJudged_same h rfl rfl rfl

theorem Flags.writeIf_siteBank (fs : Flags) (c : Bool) (b : Bank) (v : Byte) :
    (if c then fs.write b v else fs).site = if c ∧ b = .site then v else fs.site := by
  cases c <;> cases b <;> rfl

theorem flagsAfterRead_siteBank (s : State) (named : Byte) : (s.flagsAfterRead named).site =
    if named.getLsbD Bank.site.bit then s.flags.site &&& s.sup.presentMask else s.flags.site := by
  unfold flagsAfterRead Bank.all
  simp [Flags.writeIf_siteBank, bankAfterRead]

/-- A flag of the SITE bank that was set stays through READ_FLAGS where its condition is present (R160). -/
theorem flagsAfterRead_has {f : Flag} (hf : f.bank = .site) (named : Byte) (h : s.flags.has f = true)
    (present : s.sup.presentMask.getLsbD f.bit = true) : (s.flagsAfterRead named).has f = true := by
  simp only [Flags.has, hf, Flags.read] at h ⊢
  rw [flagsAfterRead_siteBank]
  split
  · rw [BitVec.getLsbD_and, h, present]
    rfl
  · exact h

theorem flagsRead_siteJudged (h : s.siteJudged) (named : Byte) :
    State.siteJudged { s with flags := s.flagsAfterRead named } := by
  obtain ⟨hmode, hforced, hlow, hdry⟩ := h
  obtain ⟨hwind, hlevelLow, hlevelDry⟩ := presentMask_bits s.sup
  refine ⟨hmode, fun hp => flagsAfterRead_has rfl named (hforced hp) ?_, fun hp => flagsAfterRead_has rfl named (hlow hp) ?_,
    fun hp => flagsAfterRead_has rfl named (hdry hp) ?_⟩
  · rw [hwind]
    rcases hp with hp | hp <;> simp [Sup.forced, hp]
  · rw [hlevelLow, ← levelNow_eq]
    exact decide_eq_true hp
  · rw [hlevelDry, ← levelNow_eq]
    exact decide_eq_true hp

theorem programmed_sup (s : State) (t : Txn) : (s.programmed t).sup = s.sup := by cases t <;> simp [programmed]

theorem programmed_cfg (s : State) (t : Txn) : (s.programmed t).cfg = s.cfg := by cases t <;> simp [programmed]

theorem erased_sup (s : State) (t : Txn) : (s.erased t).sup = s.sup := by cases t <;> simp [erased]

theorem erased_cfg (s : State) (t : Txn) : (s.erased t).cfg = s.cfg := by cases t <;> simp [erased]

theorem acts_siteJudged {p : List Byte} {u : State} (h : Acts p s u) (hs : s.siteJudged) : u.siteJudged := by
  cases h with
  | flagsRead named => exact flagsRead_siteJudged hs named
  | setGroup g r => exact settleSite_siteJudged _
  | setWind w => exact siteJudged_frame hs rfl rfl rfl rfl rfl rfl rfl
  | setCounter | clearTrip | clearFault | halt | release => exact settle_siteJudged _
  | locked => exact siteJudged_same hs rfl rfl (flag_siteBank _ (by decide))
  | setFeeder => exact siteJudged_same hs (by simp [setFeeder]) (by simp [setFeeder]) (by simp [setFeeder])
  | setShowOptions o =>
    refine siteJudged_same hs ?_ ?_ (by simp) <;> unfold setShowOptions <;> dsimp only <;> split <;> simp
  | stop =>
    refine siteJudged_same hs ?_ ?_ (by simp) <;> unfold stopShow <;> split <;> simp
  | hold | resume => exact siteJudged_same hs rfl rfl (sayShow_siteBank _ _)
  | arm | start | disarm | clipPlays => exact siteJudged_same hs (by simp) (by simp) (by simp)
  | directJet | directLight => exact siteJudged_same hs rfl rfl (by simp)
  | flashWrite | flashErase | save | reload =>
    exact siteJudged_same hs (settleFlash_sup _) (congrArg Settings.groups (settleFlash_cfg _)) (settleFlash_siteBank _)
  | _ => exact siteJudged_same hs rfl rfl rfl

/-- What the site is judged by, and its flags. -/
def siteGround (s : State) : Table 27 Channel × Nat × LevelState × SiteMode × Nat × Byte :=
  (s.sup.channels, s.sup.band, s.sup.measured, s.sup.mode, s.sup.gates, s.flags.site)

theorem siteGround_of_sup (sup : t.sup = s.sup) (site : t.flags.site = s.flags.site) : t.siteGround = s.siteGround := by
  unfold siteGround
  rw [sup, site]

theorem lowerPermit_siteGround (s : State) : s.lowerPermit.siteGround = s.siteGround := rfl

theorem judgeDrop_siteGround (s : State) : s.judgeDrop.siteGround = s.siteGround := by
  unfold judgeDrop
  split <;> rfl

theorem abortShow_siteBank (s : State) (f : Failure) (r : EndReason) : (s.abortShow f r).flags.site = s.flags.site := by
  unfold abortShow
  split <;> simp

theorem sayGroup_siteBank (s : State) (g : Fin 24) (left : Option Interlock) (code : Option Byte) :
    (s.sayGroup g left code).flags.site = s.flags.site := by
  unfold sayGroup
  split <;> simp

theorem postDemand_siteBank (s : State) (g : Fin 24) (v : Nat) : (s.postDemand g v).flags.site = s.flags.site := by
  unfold postDemand
  split <;> simp

theorem postAtChange_siteBank (s : State) (g : Fin 24) (left into : Interlock) :
    (s.postAtChange g left into).flags.site = s.flags.site := by
  unfold postAtChange
  split
  · rfl
  · exact postDemand_siteBank _ _ _

theorem changeInterlock_siteGround (s : State) (g : Fin 24) (left into : Interlock) (cause : FaultCause) (code : Option Byte) :
    (s.changeInterlock g left into cause code).siteGround = s.siteGround := by
  unfold changeInterlock offerChange
  rw [judgeDrop_siteGround]
  exact siteGround_of_sup (by simp) (by simp [sayGroup_siteBank, postAtChange_siteBank])

theorem bringDown_siteGround (s : State) (g : Fin 24) : (s.bringDown g).siteGround = s.siteGround := by
  unfold bringDown
  split
  · rfl
  · dsimp only
    split
    · exact changeInterlock_siteGround _ _ _ _ _ _
    · rfl

theorem tripActs_siteGround (s : State) : s.tripActs.siteGround = s.siteGround := by
  have hstopped : s.tripStopped.siteGround = s.siteGround :=
    siteGround_of_sup (by simp [tripStopped]) (abortShow_siteBank s .tripped .trip)
  have hdown : s.tripStopped.waterDown.siteGround = s.siteGround :=
    (eachGroup_field siteGround (fun g (a : State) => a.bringDown g) (fun a g => bringDown_siteGround a g) _).trans hstopped
  rw [tripActs_eq]
  split
  · exact (lowerPermit_siteGround _).trans hdown
  · exact (judgeDrop_siteGround _).trans hdown

theorem latchTrip_siteJudged (h : s.siteJudged) (c : Causes) : (s.latchTrip c).siteJudged := by
  obtain ⟨hmode, hforced, hlow, hdry⟩ := h
  have hkept (f : Flag) (hf : s.flags.has f = true) : (s.latchTrip c).flags.has f = true :=
    Flags.has_raiseIf _ _ _ (Flags.has_raiseIf _ _ _ (Flags.has_raiseIf _ _ _ hf))
  exact ⟨fun hm => absurd rfl hm, fun hp => hkept _ (hforced hp), fun hp => hkept _ (hlow hp), fun hp => hkept _ (hdry hp)⟩

theorem tripActs_siteJudged (h : s.siteJudged) : s.tripActs.siteJudged := by
  have hground := tripActs_siteGround s
  simp only [siteGround, Prod.mk.injEq] at hground
  obtain ⟨hchannels, hband, hmeasured, hmode, hgates, hsite⟩ := hground
  exact siteJudged_frame h hchannels hband hmeasured hmode hgates (by rw [tripActs_cfg]) hsite

theorem judgeInputs_siteJudged (h : s.siteJudged) (i : Inputs) : (s.judgeInputs i).siteJudged := by
  unfold judgeInputs
  split
  · exact tripActs_siteJudged (latchTrip_siteJudged h _)
  · exact h

theorem reset_siteJudged : State.reset.siteJudged := by
  unfold siteJudged
  decide +kernel

theorem resetTo_siteJudged (s : State) (kind : ResetKind) (inputs : Inputs) (straps : BitVec 2) (log : List TripRecord) :
    (s.resetTo kind inputs straps log).siteJudged := by
  have hblocks : (s.resetBlocks kind inputs straps log).siteJudged := siteJudged_frame reset_siteJudged rfl rfl rfl rfl rfl rfl rfl
  exact siteJudged_frame (judgeInputs_siteJudged hblocks inputs) rfl rfl rfl rfl rfl rfl rfl

theorem effect_siteJudged {t : State} (hs : s.siteJudged) (h : Effect s t) : t.siteJudged := by
  cases h with
  | idle => exact hs
  | reset => exact resetTo_siteJudged _ _ _ _ _
  | pulse => exact siteJudged_frame hs rfl rfl rfl rfl rfl rfl rfl
  | identified | cause | windGate | levelSample | poll | jam | pollEnd | stroke | flashTimeout | directoryRead | settingsRead =>
    exact settle_siteJudged _
  | dropTimer | window => exact settleSite_kick_siteJudged _
  | gapTimeout => exact siteJudged_same hs rfl rfl (flag_siteBank _ (by decide))
  | request q st fields u hq hp h => exact kick_siteJudged (acts_siteJudged h (siteJudged_same hs rfl rfl rfl))
  | programmed t => exact siteJudged_same hs (by simp [programmed_sup]) (by simp [programmed_cfg]) (by simp)
  | erased t => exact siteJudged_same hs (by simp [erased_sup]) (by simp [erased_cfg]) (by simp)
  | erasedSuspended t =>
    exact siteJudged_same hs (by simp [erased_sup, unsuspended]) (by simp [erased_cfg, unsuspended]) (by simp)
  | clockTick | audioAlone | frameSent => exact siteJudged_same hs rfl rfl rfl
  | flashRead | audio | guardEnd | deviceReset | chunkRead | chunkReadSuspended =>
    exact siteJudged_same hs (settleFlash_sup _) (congrArg Settings.groups (settleFlash_cfg _)) (settleFlash_siteBank _)
  | driveCycle => exact siteJudged_same hs (by simp) (by simp) (checkBudget_siteBank _)
  | _ => exact siteJudged_same hs (by simp) (by simp) (by simp)

end State

/-- Settles O5: PERMIT by the operations that leave it, a trip, CLEAR_TRIP, HALT, RELEASE and a settings load; the site by the
judgement at the end of every step that bears on it. -/
theorem stepKeepsPermitSafe : Obligations.StepKeepsPermitSafe :=
  ⟨fun _ _ => State.guarded_permitSafe.step_keeps,
    step_keeps_of_effect (fun _ _ h => h) fun _ _ => State.effect_siteJudged⟩

end Sys2Proof.Machine
end

section
/-! The settings: what their records and the checks between them come to, and what an image is read as (R60, R70 to R72, R110,
R113, R123, R124, R145, R149, R153, R175, R189). -/

namespace Sys2Proof.Machine

/-! ## The checks between records -/

theorem addressTaken_iff (groups : Table 24 GroupRecord) (g : Fin 24) (a : Nat) : addressTaken groups g a = true ↔
    ∃ h : Fin 24, h ≠ g ∧ (groups.get h).configured = true ∧ (groups.get h).address = a := by
  simp [addressTaken, and_assoc]

theorem FixtureRecord.overlaps_iff (p q : FixtureRecord) : p.overlaps q = true ↔
    p.base ≠ 0 ∧ q.base ≠ 0 ∧ p.base < q.base + 4 ∧ q.base < p.base + 4 := by
  simp [FixtureRecord.overlaps, and_assoc]

theorem slotTaken_iff (fixtures : Table 96 FixtureRecord) (f : Fin 96) (r : FixtureRecord) : slotTaken fixtures f r = true ↔
    r.base ≠ 0 ∧ ∃ h : Fin 96, h ≠ f ∧ (fixtures.get h).base ≠ 0 ∧ r.base < (fixtures.get h).base + 4
      ∧ (fixtures.get h).base < r.base + 4 := by
  simp only [slotTaken, List.any_eq_true, List.mem_finRange, true_and, Bool.and_eq_true, decide_eq_true_eq,
    FixtureRecord.overlaps_iff]
  exact ⟨fun ⟨h, hne, hr, hrest⟩ => ⟨hr, h, hne, hrest⟩, fun ⟨hr, h, hne, hrest⟩ => ⟨h, hne, hr, hrest⟩⟩

theorem Table.cells_eq_map {n : Nat} {α : Type} (t : Table n α) : t.cells = (List.finRange n).map t.get :=
  List.ext_getElem (by simp [t.len]) fun i hi _ => by simp [Table.get]

/-- The delays of the four zones are counted zone by zone. -/
theorem poolTaken_eq (zones : Table 4 ZoneRecord) :
    poolTaken zones = 48 * ((zones.get 0).delay + (zones.get 1).delay + (zones.get 2).delay + (zones.get 3).delay) := by
  have hcells := Table.cells_eq_map zones
  unfold poolTaken
  rw [hcells]
  simp [List.finRange_succ, Nat.mul_add, Nat.add_assoc]

/-- The three parts of Settings.sound, each of one table. -/
def addressesApart (groups : Table 24 GroupRecord) : Prop :=
  ∀ g h : Fin 24, g ≠ h → (groups.get g).configured = true → (groups.get h).configured = true →
    (groups.get g).address ≠ (groups.get h).address

def slotsApart (fixtures : Table 96 FixtureRecord) : Prop :=
  ∀ f h : Fin 96, f ≠ h → (fixtures.get f).base ≠ 0 → (fixtures.get h).base ≠ 0 →
    (fixtures.get f).base + 4 ≤ (fixtures.get h).base ∨ (fixtures.get h).base + 4 ≤ (fixtures.get f).base

theorem Settings.sound_iff (c : Settings) :
    c.sound ↔ addressesApart c.groups ∧ slotsApart c.fixtures ∧ poolTaken c.zones ≤ poolSize := by
  rw [poolTaken_eq]
  exact Iff.rfl

theorem addressesApart_iff (groups : Table 24 GroupRecord) : addressesApart groups ↔
    ∀ g : Fin 24, (groups.get g).configured = true → addressTaken groups g (groups.get g).address = false := by
  simp only [← Bool.not_eq_true, addressTaken_iff, not_exists, not_and]
  exact ⟨fun apart g hg h hne hh ha => apart h g hne hh hg ha, fun free g h hne hg hh ha => free h hh g hne hg ha⟩

theorem slotsApart_iff (fixtures : Table 96 FixtureRecord) : slotsApart fixtures ↔
    ∀ f : Fin 96, slotTaken fixtures f (fixtures.get f) = false := by
  simp only [← Bool.not_eq_true, slotTaken_iff, not_exists, not_and]
  constructor
  · intro apart f hf h hne hh hlt hgt
    have := apart f h hne.symm hf hh
    omega
  · intro free f h hne hf hh
    have := free f hf h hne.symm hh
    omega

theorem Settings.consistent_iff (c : Settings) : c.consistent = true ↔ c.sound := by
  rw [Settings.sound_iff, addressesApart_iff, slotsApart_iff]
  simp only [Settings.consistent, Bool.and_eq_true, List.all_eq_true, List.mem_finRange, true_implies, Bool.not_eq_true',
    decide_eq_true_eq, Bool.and_eq_false_imp, and_assoc]

theorem addressesApart_set {groups : Table 24 GroupRecord} (apart : addressesApart groups) {g : Fin 24} {r : GroupRecord}
    (free : r.configured = true → addressTaken groups g r.address = false) : addressesApart (groups.set g r) := by
  simp only [← Bool.not_eq_true, addressTaken_iff, not_exists, not_and] at free
  intro i j hne hi hj
  rw [Table.get_set] at hi hj ⊢
  rw [Table.get_set]
  by_cases hgi : g = i
  · subst hgi
    simp only [if_true, if_neg hne] at hi hj ⊢
    exact fun ha => free hi j hne.symm hj ha.symm
  · by_cases hgj : g = j
    · subst hgj
      simp only [if_true, if_neg hgi] at hi hj ⊢
      exact fun ha => free hj i hne hi ha
    · simp only [if_neg hgi, if_neg hgj] at hi hj ⊢
      exact apart i j hne hi hj

theorem slotsApart_set {fixtures : Table 96 FixtureRecord} (apart : slotsApart fixtures) {f : Fin 96} {r : FixtureRecord}
    (free : slotTaken fixtures f r = false) : slotsApart (fixtures.set f r) := by
  simp only [← Bool.not_eq_true, slotTaken_iff, not_exists, not_and] at free
  intro i j hne hi hj
  rw [Table.get_set] at hi hj ⊢
  rw [Table.get_set]
  by_cases hfi : f = i
  · subst hfi
    simp only [if_true, if_neg hne] at hi hj ⊢
    have := free hi j hne.symm hj
    omega
  · by_cases hfj : f = j
    · subst hfj
      simp only [if_true, if_neg hfi] at hi hj ⊢
      have := free hj i hne hi
      omega
    · simp only [if_neg hfi, if_neg hfj] at hi hj ⊢
      exact apart i j hne hi hj

/-! ## The records -/

theorem ok_of_groupOf {p : List Byte} {r : GroupRecord} (h : groupOf p = some r) : r.ok = true := by
  unfold groupOf at h
  dsimp only at h
  split at h
  next hall => cases h; exact hall.2.2.2
  · exact nomatch h

theorem ok_of_fixtureOf {p : List Byte} {r : FixtureRecord} (h : fixtureOf p = some r) : r.ok = true := by
  unfold fixtureOf at h
  dsimp only at h
  split at h
  · exact nomatch h
  · split at h
    next hok => cases h; exact hok
    · exact nomatch h

theorem ok_of_zoneOf {p : List Byte} {r : ZoneRecord} (h : zoneOf p = some r) : r.ok = true := by
  unfold zoneOf at h
  dsimp only at h
  split at h
  · exact nomatch h
  · split at h
    next hok => cases h; exact hok
    · exact nomatch h

theorem eq_of_ite_some {α : Type} {c : Prop} [Decidable c] {a b : α} (h : (if c then some a else none) = some b) :
    c ∧ a = b := by
  split at h
  next hc => exact ⟨hc, Option.some.inj h⟩
  · exact nomatch h

theorem eq_of_dite_some {α : Type} {c : Prop} [Decidable c] {a : c → α} {b : α}
    (h : (if hc : c then some (a hc) else none) = some b) : ∃ hc, a hc = b := by
  split at h
  next hc => exact ⟨hc, Option.some.inj h⟩
  · exact nomatch h

theorem ok_of_windOf {p : List Byte} {w : WindSettings} (h : windOf p = some w) : w.ok = true := by
  obtain ⟨hok, rfl⟩ := eq_of_ite_some h
  exact hok

theorem ok_of_levelOf {p : List Byte} {l : LevelSettings} (h : levelOf p = some l) : l.ok = true := by
  obtain ⟨hok, rfl⟩ := eq_of_ite_some h
  exact hok

theorem ok_of_feederOf {p : List Byte} {f : FeederSettings} (h : feederOf p = some f) : f.ok = true := by
  obtain ⟨hok, rfl⟩ := eq_of_ite_some h
  exact hok

theorem ok_of_counterOf {p : List Byte} {k : CounterSettings} (h : counterOf p = some k) : k.ok = true := by
  obtain ⟨hok, rfl⟩ := eq_of_ite_some h
  exact hok

theorem range_of_windowOf {p : List Byte} {w : Nat} (h : windowOf p = some w) : 1 ≤ w ∧ w ≤ 10 := by
  obtain ⟨hok, rfl⟩ := eq_of_ite_some h
  exact (within_iff _ _ _).1 hok

theorem ok_of_optionsOf {p : List Byte} {o : ShowOptions} (h : optionsOf p = some o) : o.ok = true := by
  obtain ⟨hok, rfl⟩ := eq_of_ite_some h
  exact hok

/-! ## The image -/

/-- Every record of the settings is in its ranges. -/
structure Settings.InRange (c : Settings) : Prop where
  groups : ∀ g : Fin 24, (c.groups.get g).ok = true
  fixtures : ∀ f : Fin 96, (c.fixtures.get f).ok = true
  zones : ∀ z : Fin 4, (c.zones.get z).ok = true
  wind : c.wind.ok = true
  level : c.level.ok = true
  feeder : c.feeder.ok = true
  counters : ∀ i : Fin 27, (c.counters.get i).ok = true
  window : 1 ≤ c.window ∧ c.window ≤ 10
  options : c.options.ok = true

theorem Settings.fit_iff (c : Settings) : c.fit ↔ c.InRange ∧ c.sound :=
  ⟨fun ⟨g, f, z, w, l, e, k, b, o, s⟩ => ⟨⟨g, f, z, w, l, e, k, b, o⟩, s⟩,
    fun ⟨⟨g, f, z, w, l, e, k, b, o⟩, s⟩ => ⟨g, f, z, w, l, e, k, b, o, s⟩⟩

theorem Settings.default_fit : Settings.default.fit := by
  unfold Settings.fit Settings.sound
  decide +kernel

theorem Table.forall_get_set {n : Nat} {α : Type} (p : α → Bool) {t : Table n α} (h : ∀ i, p (t.get i) = true) {i : Fin n}
    {a : α} (ha : p a = true) (j : Fin n) : p ((t.set i a).get j) = true := by
  rw [Table.get_set]
  split
  · exact ha
  · exact h j

theorem Settings.InRange.takeRecord {c d : Settings} (h : c.InRange) {r : ImageRecord} (hr : c.takeRecord r = some d) :
    d.InRange := by
  unfold Settings.takeRecord at hr
  split at hr
  · obtain ⟨x, hx, hd⟩ := Option.bind_eq_some_iff.1 hr
    obtain ⟨hi, rfl⟩ := eq_of_dite_some hd
    exact { h with groups := Table.forall_get_set GroupRecord.ok h.groups (ok_of_groupOf hx) }
  · obtain ⟨x, hx, hd⟩ := Option.bind_eq_some_iff.1 hr
    obtain ⟨hi, rfl⟩ := eq_of_dite_some hd
    exact { h with fixtures := Table.forall_get_set FixtureRecord.ok h.fixtures (ok_of_fixtureOf hx) }
  · obtain ⟨x, hx, hd⟩ := Option.bind_eq_some_iff.1 hr
    obtain ⟨hi, rfl⟩ := eq_of_dite_some hd
    exact { h with zones := Table.forall_get_set ZoneRecord.ok h.zones (ok_of_zoneOf hx) }
  · obtain ⟨x, hx, rfl⟩ := Option.map_eq_some_iff.1 hr
    exact { h with wind := ok_of_windOf hx }
  · obtain ⟨x, hx, rfl⟩ := Option.map_eq_some_iff.1 hr
    exact { h with level := ok_of_levelOf hx }
  · obtain ⟨x, hx, rfl⟩ := Option.map_eq_some_iff.1 hr
    exact { h with feeder := ok_of_feederOf hx }
  · obtain ⟨x, hx, hd⟩ := Option.bind_eq_some_iff.1 hr
    obtain ⟨hi, rfl⟩ := eq_of_dite_some hd
    exact { h with counters := Table.forall_get_set CounterSettings.ok h.counters (ok_of_counterOf hx) }
  · obtain ⟨x, hx, rfl⟩ := Option.map_eq_some_iff.1 hr
    exact { h with window := range_of_windowOf hx }
  · obtain ⟨x, hx, rfl⟩ := Option.map_eq_some_iff.1 hr
    exact { h with options := ok_of_optionsOf hx }
  · exact nomatch hr

theorem Settings.InRange.takeRecords {c d : Settings} (h : c.InRange) {rs : List ImageRecord}
    (hr : c.takeRecords rs = some d) : d.InRange := by
  induction rs generalizing c with
  | nil => cases hr; exact h
  | cons r rest ih =>
    obtain ⟨e, he, hrest⟩ := Option.bind_eq_some_iff.1 hr
    exact ih (h.takeRecord he) hrest

/-- Whatever the bytes, the settings that a judgement of an image gives are in their ranges and sound (R175). -/
theorem judgeImage_fit {bytes : List Byte} {image : ImageState} {new : Settings} (h : judgeImage bytes = .found image new) :
    new.fit := by
  have hdefault {i : ImageState} (e : Judged.found i Settings.default = .found image new) : new.fit := by
    cases e
    exact Settings.default_fit
  have hbad (e : judgedBad = .found image new) : new.fit := hdefault e
  unfold judgeImage at h
  dsimp only at h
  split at h
  · exact hdefault h
  · split at h
    · exact hbad h
    · have hshort (e : (if Region.size .settings ≤ bytes.length then judgedBad else Judged.more) = .found image new) :
          new.fit := by
        split at e
        · exact hbad e
        · exact nomatch e
      split at h
      · exact hshort h
      · exact hbad h
      · split at h
        · exact hshort h
        · split at h
          · exact hbad h
          · split at h
            · exact hbad h
            · split at h
              · exact hbad h
              next c hc =>
                split at h
                next hcons =>
                  cases h
                  exact (Settings.fit_iff _).2 ⟨((Settings.fit_iff _).1 Settings.default_fit).1.takeRecords hc,
                    (Settings.consistent_iff _).1 hcons⟩
                · exact hbad h

end Sys2Proof.Machine
end

section
/-! The settings and the channels through every step (R142, R143, R145, R175). -/

namespace Sys2Proof.Machine

open State

/-! ## What an accepted SET request gives -/

section
variable {s : State} {p : List Byte}

theorem groupOf_of_judgeSetGroup {g : Fin 24} {r : GroupRecord} (h : s.judgeSetGroup p = .ok (g, r)) :
    groupOf p = some r ∧ (r.configured = true → addressTaken s.cfg.groups g r.address = false) := by
  unfold judgeSetGroup at h
  obtain ⟨_, -, h⟩ := exists_ok_of_bind h
  obtain ⟨_, -, h⟩ := exists_ok_of_bind h
  obtain ⟨_, hr, h⟩ := exists_ok_of_bind h
  obtain ⟨_, -, h⟩ := exists_ok_of_bind h
  obtain ⟨_, htaken, h⟩ := exists_ok_of_bind h
  cases h
  exact ⟨ok_of_need_ok hr, by simpa using eq_false_of_refuseIf_ok htaken⟩

theorem fixtureOf_of_judgeSetFixture {f : Fin 96} {r : FixtureRecord} (h : s.judgeSetFixture p = .ok (f, r)) :
    fixtureOf p = some r ∧ slotTaken s.cfg.fixtures f r = false := by
  unfold judgeSetFixture at h
  obtain ⟨_, -, h⟩ := exists_ok_of_bind h
  obtain ⟨_, -, h⟩ := exists_ok_of_bind h
  obtain ⟨_, hr, h⟩ := exists_ok_of_bind h
  obtain ⟨_, htaken, h⟩ := exists_ok_of_bind h
  cases h
  exact ⟨ok_of_need_ok hr, eq_false_of_refuseIf_ok htaken⟩

theorem zoneOf_of_judgeSetZone {z : Fin 4} {r : ZoneRecord} (h : s.judgeSetZone p = .ok (z, r)) :
    zoneOf p = some r ∧ poolTaken (s.cfg.zones.set z r) ≤ poolSize := by
  unfold judgeSetZone at h
  obtain ⟨_, -, h⟩ := exists_ok_of_bind h
  obtain ⟨_, -, h⟩ := exists_ok_of_bind h
  obtain ⟨_, hr, h⟩ := exists_ok_of_bind h
  obtain ⟨_, hpool, h⟩ := exists_ok_of_bind h
  cases h
  exact ⟨ok_of_need_ok hr, not_lt.1 (of_decide_eq_false (eq_false_of_refuseIf_ok hpool))⟩

theorem windOf_of_judgeSetWind {w : WindSettings} (h : s.judgeSetWind p = .ok w) : windOf p = some w := by
  obtain ⟨_, -, h⟩ := exists_ok_of_bind h
  exact ok_of_need_ok h

theorem levelOf_of_judgeSetLevel {l : LevelSettings} (h : s.judgeSetLevel p = .ok l) : levelOf p = some l := by
  obtain ⟨_, -, h⟩ := exists_ok_of_bind h
  exact ok_of_need_ok h

theorem windowOf_of_judgeSetDriveBus {w : Nat} (h : s.judgeSetDriveBus p = .ok w) : windowOf p = some w := by
  obtain ⟨_, -, h⟩ := exists_ok_of_bind h
  exact ok_of_need_ok h

theorem counterOf_of_judgeSetCounter {i : Fin 27} {k : CounterSettings} (h : s.judgeSetCounter p = .ok (i, k)) :
    counterOf p = some k := by
  unfold judgeSetCounter at h
  obtain ⟨_, -, h⟩ := exists_ok_of_bind h
  obtain ⟨_, -, h⟩ := exists_ok_of_bind h
  obtain ⟨_, hk, h⟩ := exists_ok_of_bind h
  cases h
  exact ok_of_need_ok hk

theorem optionsOf_of_judgeSetShowOptions {o : ShowOptions} (h : s.judgeSetShowOptions p = .ok o) : optionsOf p = some o := by
  unfold judgeSetShowOptions at h
  obtain ⟨_, ho, h⟩ := exists_ok_of_bind h
  obtain ⟨_, -, h⟩ := exists_ok_of_bind h
  obtain ⟨_, -, h⟩ := exists_ok_of_bind h
  cases h
  exact ok_of_need_ok ho

end

/-! ## What leaves the channels as they are -/

namespace State

variable (s : State)

@[simp] theorem settleSite_channels : s.settleSite.sup.channels = s.sup.channels := by
  rw [settleSite_sup]
  rfl

@[simp] theorem setBand_channels (b : Nat) : (s.setBand b).sup.channels = s.sup.channels := rfl

@[simp] theorem judgeBand_channels : s.judgeBand.sup.channels = s.sup.channels := by
  unfold judgeBand
  dsimp only
  split
  · rfl
  · split
    · split <;> rfl
    · rfl

@[simp] theorem gateBand_channels (t w : Bool) : (s.gateBand t w).sup.channels = s.sup.channels := by
  unfold gateBand
  split
  · rfl
  · split
    · rfl
    · split
      · rfl
      · exact judgeBand_channels s

@[simp] theorem offerChange_channels : s.offerChange.sup.channels = s.sup.channels := by simp [offerChange]

@[simp] theorem withGroup_channels (g : Fin 24) (x : Group) : (s.withGroup g x).sup.channels = s.sup.channels := rfl

@[simp] theorem computePoll_channels (g : Fin 24) : (s.computePoll g).sup.channels = s.sup.channels := by
  unfold computePoll
  dsimp only
  split
  · rfl
  · split <;> split <;> simp

@[simp] theorem flag_channels (f : Flag) : (s.flag f).sup.channels = s.sup.channels := rfl

@[simp] theorem takeReply_channels (g : Fin 24) (rep : DriveReply) : (s.takeReply g rep).sup.channels = s.sup.channels := by
  unfold takeReply
  dsimp only
  split
  · rfl
  · rfl
  · rfl
  · split
    · simp
    · split
      · simp
      · split
        · simp
        · split <;> simp

@[simp] theorem strokeExpire_channels (g : Fin 24) : (s.strokeExpire g).sup.channels = s.sup.channels := by
  unfold strokeExpire
  split <;> simp

@[simp] theorem loseGroup_channels (g : Fin 24) : (s.loseGroup g).sup.channels = s.sup.channels := by
  unfold loseGroup
  split <;> simp

@[simp] theorem findGroup_channels (g : Fin 24) : (s.findGroup g).sup.channels = s.sup.channels := by
  unfold findGroup
  split <;> simp

@[simp] theorem enterDry_channels : s.enterDry.sup.channels = s.sup.channels := by
  unfold enterDry
  split
  · dsimp only
    split <;> simp
  · rfl

@[simp] theorem levelMoved_channels (b : LevelState) : (s.levelMoved b).sup.channels = s.sup.channels := by
  unfold levelMoved
  split
  · rfl
  · split
    · exact enterDry_channels _
    · rfl

@[simp] theorem validityActs_channels (i : Fin 27) (b : LevelState) : (s.validityActs i b).sup.channels = s.sup.channels := by
  unfold validityActs
  dsimp only
  split
  · split <;> rfl
  · split
    · exact levelMoved_channels _ _
    · split
      · rfl
      · split
        · split
          · exact findGroup_channels _ _
          · exact loseGroup_channels _ _
        · rfl

/-- A channel that moves takes its place in the table, and the others stay. -/
@[simp] theorem moveChannel_channels (i : Fin 27) (c : Channel) :
    (s.moveChannel i c).sup.channels = s.sup.channels.set i c := by
  unfold moveChannel
  dsimp only
  split
  · rfl
  · exact validityActs_channels _ _ _

@[simp] theorem latchCause_channels (c : Causes) : (s.latchCause c).sup.channels = s.sup.channels := by
  unfold latchCause
  split
  · dsimp only
    split <;> rfl
  · rw [tripActs_channels, latchTrip_channels]

@[simp] theorem haltPart_channels : s.haltPart.sup.channels = s.sup.channels := by simp [haltPart]

@[simp] theorem raisePermit_channels : s.raisePermit.sup.channels = s.sup.channels := rfl

@[simp] theorem marked_channels (i : ImageState) : (s.marked i).sup.channels = s.sup.channels := rfl

@[simp] theorem marked_cfg (i : ImageState) : (s.marked i).cfg = s.cfg := rfl

@[simp] theorem releaseReady_channels : s.releaseReady.sup.channels = s.sup.channels := by simp [releaseReady]

@[simp] theorem releaseCopy_channels : s.releaseCopy.sup.channels = s.sup.channels := by
  unfold releaseCopy
  split <;> simp

theorem releasePart_cfg (inputs : Inputs) : (s.releasePart inputs).cfg = s.cfg := by
  have hreenter := eachGroup_field State.cfg (fun g (a : State) => a.reenter g) (fun a g => reenter_cfg a g) (s.released inputs)
  rw [releasePart_eq]
  unfold releaseRest
  split
  · rw [releaseCopy_cfg, rescale_cfg, restartIfTripped_cfg, hreenter]
    rfl
  · rw [releaseCopy_cfg, rescale_cfg, judgeInputs_cfg, hreenter]
    rfl

theorem releasePart_channels (inputs : Inputs) :
    (s.releasePart inputs).sup.channels = s.sup.channels.map Channel.release := by
  have hreenter := eachGroup_field (fun a => a.sup.channels) (fun g (a : State) => a.reenter g)
    (fun a g => reenter_channels a g) (s.released inputs)
  rw [releasePart_eq]
  unfold releaseRest
  split
  · rw [releaseCopy_channels, rescale_sup, restartIfTripped_sup, hreenter]
    rfl
  · rw [releaseCopy_channels, rescale_sup, judgeInputs_channels, hreenter]
    rfl

end State

/-- A property of the settings and the channels that evaluations, resets of a channel and of the part, loads of settings that fit,
RELEASE and the SET requests keep. -/
structure SettingsKept (P : State → Prop) : Prop where
  frame : ∀ {s t : State}, P s → t.cfg = s.cfg → t.sup.channels = s.sup.channels → P t
  evaluates : ∀ {s : State} (i : Fin 27) (e : Evaluation), P s → P (s.evaluate i e)
  resets : ∀ (s : State) (kind : ResetKind) (inputs : Inputs) (straps : BitVec 2) (log : List TripRecord),
    P (s.resetTo kind inputs straps log)
  takes : ∀ {s : State} {new : Settings}, new.fit → P s → P (s.takeSettings new)
  releases : ∀ {s t : State}, P s → t.cfg = s.cfg → t.sup.channels = s.sup.channels.map Channel.release → P t
  sets : ∀ {s t : State}, P s → (s.cfg.fit → t.cfg.fit) → t.cfg.counters = s.cfg.counters →
    t.sup.channels = s.sup.channels → P t
  setCounter : ∀ {s : State} {i : Fin 27} {k : CounterSettings}, k.ok = true → P s →
    P (State.resetChannel { s.markModified with cfg := { s.cfg with counters := s.cfg.counters.set i k } } i)

namespace SettingsKept

variable {P : State → Prop} (hP : SettingsKept P) {s t : State}
include hP

theorem same (h : P s) (cfg : t.cfg = s.cfg) (sup : t.sup = s.sup) : P t := hP.frame h cfg (by rw [sup])

theorem settle (h : P s) : P s.settle := hP.frame h (by simp [State.settle]) (by simp [State.settle])

theorem loads {new : Settings} (fits : new.fit) (image : ImageState) (h : P s) : P (s.settingsLoaded image new) := by
  rw [settingsLoaded_eq]
  exact hP.frame (hP.takes fits h) (by simp) (by simp)

theorem startUpReady (h : P s) : P s.startUpReady := hP.same h (by simp) (by simp)

theorem imageFound {new : Settings} (fits : new.fit) (startUp : Bool) (image : ImageState) (h : P s) :
    P (s.imageFound startUp image new) := by
  have hflag : P (s.flagIf (decide (image = .bad)) .settingsBad) := hP.same h rfl rfl
  unfold State.imageFound
  dsimp only
  split
  · exact hP.startUpReady (hP.loads fits _ hflag)
  · unfold reloadFound
    split
    · exact hP.same hflag (by simp) (by simp)
    · exact hP.same (hP.loads fits image hflag) (by simp) (by simp)

theorem settingsRead (bytes : List Byte) (h : P s) : P (s.settingsRead bytes) := by
  unfold State.settingsRead
  split
  · split
    · exact hP.same h (by simp) (by simp)
    next hfound => exact hP.imageFound (judgeImage_fit hfound) _ _ h
  · exact h
  · exact h

theorem settingsReadFailed (h : P s) : P s.settingsReadFailed := by
  unfold State.settingsReadFailed
  split
  · exact hP.imageFound Settings.default_fit _ _ h
  · exact hP.same h (by simp) (by simp)
  · exact h
  · exact h

theorem identified (answer : Option DeviceIdent) (h : P s) : P (s.identified answer) := by
  unfold State.identified
  dsimp only
  split
  · exact hP.same h (by simp) (by simp)
  · exact hP.startUpReady (hP.loads Settings.default_fit _ (hP.same h rfl rfl))

theorem afterCopy (why : CopyFor) (h : P s) : P (s.afterCopy why) := by
  unfold State.afterCopy
  split
  · exact hP.same h (by simp) (by simp)
  · exact hP.frame h (by simp) (by simp)
  · split
    · exact hP.same h (by simp) (by simp)
    · exact h
  · exact h

theorem directoryRead (sector : List Byte) (h : P s) : P (s.directoryRead sector) := by
  unfold State.directoryRead
  split
  · exact hP.afterCopy _ (hP.same h (by simp) (by simp))
  · exact h

theorem directoryFailed (h : P s) : P s.directoryFailed := by
  unfold State.directoryFailed
  split
  · exact hP.same h (by simp) (by simp)
  · exact hP.same h (by simp) (by simp)
  · exact hP.afterCopy _ (hP.same h (by simp) (by simp))
  · exact h

theorem timedOut (t : Txn) (h : P s) : P (s.timedOut t) := by
  unfold State.timedOut
  split
  · exact hP.same h rfl rfl
  · exact hP.same h (by simp) (by simp)
  · exact hP.directoryFailed h
  · exact hP.settingsReadFailed h
  all_goals exact hP.same h (by simp) (by simp)

theorem flashTimeout (h : P s) : P s.flashTimeout := by
  unfold State.flashTimeout
  split
  · exact hP.timedOut _ (hP.same h rfl rfl)
  · exact hP.timedOut _ (hP.same h rfl rfl)
  · exact hP.timedOut _ (hP.same h rfl rfl)
  · exact hP.timedOut _ (hP.same h rfl rfl)
  · exact hP.timedOut _ (hP.timedOut _ (hP.same h rfl rfl))
  · exact h
  · exact h

theorem windGate (h : P s) : P s.windGate := by
  unfold State.windGate
  dsimp only
  refine hP.frame (hP.evaluates (s := { s with sup := { s.sup with prevAnemo := s.sup.anemo, stillRun := s.sup.stillNext } })
    0 (if s.sup.windError s.cfg.wind then .error else .good) (hP.frame h rfl rfl)) ?_ ?_
  · exact gateBand_cfg _ _ _
  · exact gateBand_channels _ _ _

theorem levelSample (reading : BitVec 12) (h : P s) : P (s.levelSample reading) := by
  have hscored (e : Evaluation) : P (s.evaluate 1 e) := hP.evaluates 1 e h
  unfold State.levelSample
  dsimp only
  split
  · exact hscored _
  · refine hP.frame (hscored _) (levelMoved_cfg _ _) ((levelMoved_channels _ _).trans ?_)
    unfold Sup.entered
    dsimp only
    split <;> rfl

theorem deliverOutcome (e : Due) (o : PollOutcome) (rep : DriveReply) (h : P s) : P (s.deliverOutcome e o rep) := by
  have hfresh : P { s with fresh := s.fresh + 1 } := hP.same h rfl rfl
  unfold State.deliverOutcome
  split
  · split
    · unfold deliverGood
      dsimp only
      split
      · exact hP.evaluates _ _ (hP.frame hfresh (takeReply_cfg _ _ _) (takeReply_channels _ _ _))
      · exact hP.frame (hP.evaluates _ .good hfresh) (takeReply_cfg _ _ _) (takeReply_channels _ _ _)
    · exact h
  · split
    · exact hP.evaluates _ _ h
    · exact h

theorem endPoll (p : Poll) (o : PollOutcome) (rep : DriveReply) (us : Nat) (h : P s) : P (s.endPoll p o rep us) := by
  have hended : P { s with dbm := s.dbm.pollEnded p o s.clock us } := hP.same h rfl rfl
  unfold State.endPoll
  exact hP.same (hP.deliverOutcome p.due o rep hended) (checkBudget_cfg _) (checkBudget_sup _)

theorem jamLine (e : Due) (all : List Due) (h : P s) : P (s.jamLine e all) := by
  have hfold (t : State) (ht : P t) : P (all.foldl (fun t d => t.evaluate (driveChannel d.group) .error) t) := by
    induction all generalizing t with
    | nil => exact ht
    | cons d rest ih => exact ih _ (hP.evaluates _ _ ht)
  exact hfold _ (hP.same h rfl rfl)

theorem acts {p : List Byte} {u : State} (h : Acts p s u) (hs : P s) : P u := by
  cases h with
  | setGroup g r h =>
    obtain ⟨hr, hfree⟩ := groupOf_of_judgeSetGroup h
    refine hP.sets hs (fun hfit => ?_) (by simp [setGroup_eq, withRecord]) (by simp [setGroup_eq, withRecord])
    obtain ⟨hrange, hsound⟩ := (Settings.fit_iff _).1 hfit
    obtain ⟨haddresses, hslots, hpool⟩ := (Settings.sound_iff _).1 hsound
    have hcfg : (s.setGroup g r).cfg = { s.cfg with groups := s.cfg.groups.set g r } := by simp [setGroup_eq, withRecord]
    rw [hcfg]
    exact (Settings.fit_iff _).2 ⟨{ hrange with groups := Table.forall_get_set GroupRecord.ok hrange.groups (ok_of_groupOf hr) },
      (Settings.sound_iff _).2 ⟨addressesApart_set haddresses hfree, hslots, hpool⟩⟩
  | setFixture f r h =>
    obtain ⟨hr, hfree⟩ := fixtureOf_of_judgeSetFixture h
    refine hP.sets hs (fun hfit => ?_) rfl rfl
    obtain ⟨hrange, hsound⟩ := (Settings.fit_iff _).1 hfit
    obtain ⟨haddresses, hslots, hpool⟩ := (Settings.sound_iff _).1 hsound
    exact (Settings.fit_iff _).2
      ⟨{ hrange with fixtures := Table.forall_get_set FixtureRecord.ok hrange.fixtures (ok_of_fixtureOf hr) },
      (Settings.sound_iff _).2 ⟨haddresses, slotsApart_set hslots hfree, hpool⟩⟩
  | setZone z r h =>
    obtain ⟨hr, hfree⟩ := zoneOf_of_judgeSetZone h
    refine hP.sets hs (fun hfit => ?_) rfl rfl
    obtain ⟨hrange, hsound⟩ := (Settings.fit_iff _).1 hfit
    obtain ⟨haddresses, hslots, -⟩ := (Settings.sound_iff _).1 hsound
    exact (Settings.fit_iff _).2
      ⟨{ hrange with zones := Table.forall_get_set ZoneRecord.ok hrange.zones (ok_of_zoneOf hr) },
      (Settings.sound_iff _).2 ⟨haddresses, hslots, hfree⟩⟩
  | setWind w h =>
    refine hP.sets hs (fun hfit => ?_) rfl rfl
    obtain ⟨hrange, hsound⟩ := (Settings.fit_iff _).1 hfit
    exact (Settings.fit_iff _).2 ⟨{ hrange with wind := ok_of_windOf (windOf_of_judgeSetWind h) }, hsound⟩
  | setLevel l h =>
    refine hP.sets hs (fun hfit => ?_) rfl rfl
    obtain ⟨hrange, hsound⟩ := (Settings.fit_iff _).1 hfit
    exact (Settings.fit_iff _).2 ⟨{ hrange with level := ok_of_levelOf (levelOf_of_judgeSetLevel h) }, hsound⟩
  | setFeeder f h =>
    refine hP.sets hs (fun hfit => ?_) rfl rfl
    obtain ⟨hrange, hsound⟩ := (Settings.fit_iff _).1 hfit
    exact (Settings.fit_iff _).2 ⟨{ hrange with feeder := ok_of_feederOf h }, hsound⟩
  | setCounter i k h => exact hP.settle (hP.setCounter (ok_of_counterOf (counterOf_of_judgeSetCounter h)) hs)
  | setDriveBus w h =>
    refine hP.sets hs (fun hfit => ?_) rfl rfl
    obtain ⟨hrange, hsound⟩ := (Settings.fit_iff _).1 hfit
    exact (Settings.fit_iff _).2 ⟨{ hrange with window := range_of_windowOf (windowOf_of_judgeSetDriveBus h) }, hsound⟩
  | setShowOptions o h =>
    have hcfg : (s.setShowOptions o).cfg = { s.cfg with options := o } := by
      unfold setShowOptions
      dsimp only
      split <;> simp
    have hsup : (s.setShowOptions o).sup = s.sup := by
      unfold setShowOptions
      dsimp only
      split <;> simp
    refine hP.sets hs (fun hfit => ?_) (by rw [hcfg]) (by rw [hsup])
    obtain ⟨hrange, hsound⟩ := (Settings.fit_iff _).1 hfit
    rw [hcfg]
    exact (Settings.fit_iff _).2 ⟨{ hrange with options := ok_of_optionsOf (optionsOf_of_judgeSetShowOptions h) }, hsound⟩
  | stop =>
    refine hP.same hs ?_ ?_ <;> unfold stopShow <;> split <;> simp
  | arm | start => exact hP.same hs (by simp) (by simp)
  | clipPlays | flashWrite | flashErase | save | reload =>
    exact hP.same hs (settleFlash_cfg _) (settleFlash_sup _)
  | clearTrip inputs => exact hP.settle (hP.frame hs rfl rfl)
  | clearFault g h => exact hP.settle (hP.frame hs (by simp) (by simp))
  | halt => exact hP.settle (hP.frame hs (by simp) (by simp))
  | release inputs => exact hP.settle (hP.releases hs (releasePart_cfg s inputs) (releasePart_channels s inputs))
  | _ => exact hP.same hs rfl rfl

theorem effect {t : State} (hs : P s) (h : Effect s t) : P t := by
  cases h with
  | idle => exact hs
  | reset kind inputs straps log => exact hP.resets s kind inputs straps log
  | identified answer => exact hP.settle (hP.identified answer hs)
  | cause pins c => exact hP.settle (hP.frame hs (by simp) (by simp))
  | windGate => exact hP.settle (hP.windGate hs)
  | levelSample reading => exact hP.settle (hP.levelSample reading hs)
  | poll e rest us => exact hP.settle (hP.frame hs (computePoll_cfg _ _) (computePoll_channels _ _))
  | jam e all => exact hP.settle (hP.jamLine e all hs)
  | pollEnd p o rep us => exact hP.settle (hP.endPoll p o rep us hs)
  | stroke g => exact hP.settle (hP.frame hs (by simp) (by simp))
  | window a e =>
    have haud : P { s with aud := a } := hP.same hs rfl rfl
    exact hP.frame (hP.evaluates 26 e haud) (settleSite_cfg _) (settleSite_channels _)
  | flashTimeout => exact hP.settle (hP.flashTimeout hs)
  | directoryRead bytes => exact hP.settle (hP.directoryRead bytes (hP.same hs rfl rfl))
  | settingsRead bytes => exact hP.settle (hP.settingsRead bytes (hP.same hs rfl rfl))
  | programmed t => exact hP.same hs (by simp [programmed_cfg]) (by simp [programmed_sup])
  | erased t => exact hP.same hs (by simp [erased_cfg]) (by simp [erased_sup])
  | erasedSuspended t => exact hP.same hs (by simp [erased_cfg, unsuspended]) (by simp [erased_sup, unsuspended])
  | request q st fields u hq hp h => exact hP.same (hP.acts h (hP.same hs rfl rfl)) rfl rfl
  | dropTimer | driveCycle | lampFrame | dispatch | stopping | loadRead | hostRead | received | receivedFrame =>
    exact hP.frame hs (by simp) (by simp)
  | flashRead | audio | guardEnd | deviceReset | chunkRead | chunkReadSuspended =>
    exact hP.same hs (settleFlash_cfg _) (settleFlash_sup _)
  | _ => exact hP.frame hs rfl rfl

end SettingsKept

theorem SettingsKept.step_keeps {P : State → Prop} (hP : SettingsKept P) {s t : State} (h : P s) (ht : step s = .next t) :
    P t :=
  step_keeps_of_effect (fun s _ hs => hP.same (s := s) hs rfl rfl) (fun _ _ hs he => hP.effect hs he) s t h ht

/-- A channel reset by SET_COUNTER or at the end of a settings load: a fatal one stays (R145). -/
def Channel.restarted (c : Channel) : Channel := if c.fatal then c else { c with counter := 0, valid := true }

theorem Channel.lawful_fresh {c : Channel} {k : CounterSettings} (hk : k.ok = true) (hfatal : c.fatal = false)
    (hcounter : c.counter = 0) (hvalid : c.valid = true) : c.lawful k = true := by
  have hlimit : 1 ≤ k.limit := by
    simp only [CounterSettings.ok, Bool.and_eq_true, within_iff] at hk
    exact hk.1.1
  rw [Channel.lawful_iff_of_not_fatal hfatal]
  refine ⟨hk, ?_, by omega⟩
  rw [hvalid, hcounter]
  simpa using Nat.one_le_iff_ne_zero.1 hlimit

theorem Channel.lawful_other {c : Channel} {k k' : CounterSettings} (hfatal : c.fatal = true) (h : c.lawful k = true)
    (hk : k'.ok = true) : c.lawful k' = true := by
  obtain ⟨-, hvalid, hcounter⟩ := (Channel.lawful_iff_of_fatal hfatal).1 h
  exact (Channel.lawful_iff_of_fatal hfatal).2 ⟨hk, hvalid, hcounter⟩

theorem Channel.lawful_restarted {c : Channel} {k k' : CounterSettings} (h : c.lawful k = true) (hk : k'.ok = true) :
    c.restarted.lawful k' = true := by
  unfold Channel.restarted
  split
  next hfatal => exact Channel.lawful_other hfatal h hk
  next hfatal => exact Channel.lawful_fresh hk (eq_false_of_ne_true hfatal) rfl rfl

theorem Channel.ok_of_lawful {c : Channel} {k : CounterSettings} (h : c.lawful k = true) : k.ok = true := by
  unfold Channel.lawful at h
  exact (Bool.and_eq_true_iff.1 h).1

theorem Channel.lawful_release {c : Channel} {k : CounterSettings} (h : c.lawful k = true) : c.release.lawful k = true := by
  unfold Channel.release
  split
  next hfatal =>
    rw [Channel.lawful_iff_of_fatal hfatal] at h
    exact (Channel.lawful_iff_of_fatal hfatal).2 h
  · exact Channel.lawful_fresh (Channel.ok_of_lawful h) rfl rfl rfl

namespace State

theorem resetChannel_channels (s : State) (i : Fin 27) :
    (s.resetChannel i).sup.channels = s.sup.channels.set i (s.sup.channels.get i).restarted := by
  unfold resetChannel Channel.restarted
  dsimp only
  split
  · rw [Table.set_get_self]
  · exact moveChannel_channels _ _ _

theorem foldl_resetChannel_channels (is : List (Fin 27)) (nodup : is.Nodup) (s : State) (i : Fin 27) :
    (is.foldl (fun t i => t.resetChannel i) s).sup.channels.get i =
      if i ∈ is then (s.sup.channels.get i).restarted else s.sup.channels.get i := by
  induction is generalizing s with
  | nil => simp
  | cons j rest ih =>
    obtain ⟨hj, hrest⟩ := List.nodup_cons.1 nodup
    rw [List.foldl_cons, ih hrest, resetChannel_channels, Table.get_set]
    by_cases hi : j = i
    · subst hi
      simp [hj]
    · simp [hi, Ne.symm hi]

/-- A settings load starts every channel anew that is not fatal. -/
theorem takeSettings_channels (s : State) (new : Settings) (i : Fin 27) :
    (s.takeSettings new).sup.channels.get i = (s.sup.channels.get i).restarted := by
  have hregroup : (s.regroupAll new).sup.channels = s.sup.channels :=
    eachGroup_field (fun a => a.sup.channels) (fun g (a : State) => a.regroup g (s.cfg.groups.get g))
      (fun _ _ => regroup_channels _ _ _) _
  have hreset := foldl_resetChannel_channels (List.finRange 27) (List.nodup_finRange 27) (s.regroupAll new) i
  rw [if_pos (List.mem_finRange i), hregroup] at hreset
  rw [takeSettings_eq, restartIfTripped_sup, relockAnnouncement_sup, refeed_sup]
  simpa only [eachChannel] using hreset

theorem resetTo_cfg (s : State) (kind : ResetKind) (inputs : Inputs) (straps : BitVec 2) (log : List TripRecord) :
    (s.resetTo kind inputs straps log).cfg = Settings.default :=
  judgeInputs_cfg _ _

/-! ## The settings -/

theorem settingsKept_fit : SettingsKept fun s => s.cfg.fit where
  frame h cfg _ := by rw [cfg]; exact h
  evaluates i e h := by rw [evaluate_cfg]; exact h
  resets s kind inputs straps log := by rw [resetTo_cfg]; exact Settings.default_fit
  takes fits _ := by rw [takeSettings_cfg]; exact fits
  releases h cfg _ := by rw [cfg]; exact h
  sets h fits _ _ := fits h
  setCounter {s i k} hk h := by
    rw [resetChannel_cfg]
    obtain ⟨hrange, hsound⟩ := (Settings.fit_iff _).1 h
    exact (Settings.fit_iff _).2
      ⟨{ hrange with counters := Table.forall_get_set CounterSettings.ok hrange.counters hk }, hsound⟩

/-! ## The channels -/


theorem settingsKept_channels : SettingsKept State.channelsLawful where
  frame {s t} h cfg channels i := by
    rw [cfg, channels]
    exact h i
  evaluates {s} i e h j := by
    unfold evaluate
    rw [moveChannel_cfg, moveChannel_channels, Table.get_set]
    split
    next hij =>
      subst hij
      exact Channel.lawful_evaluated _ (h i) e
    · exact h j
  resets s kind inputs straps log i := by
    rw [resetTo_cfg, resetTo_channels, Table.get_fill]
    exact Channel.lawful_fresh (((Settings.fit_iff _).1 Settings.default_fit).1.counters i) rfl rfl rfl
  takes {s new} fits h i := by
    rw [takeSettings_cfg, takeSettings_channels]
    exact Channel.lawful_restarted (h i) (((Settings.fit_iff _).1 fits).1.counters i)
  releases {s t} h cfg channels i := by
    rw [cfg, channels, Table.get_map]
    exact Channel.lawful_release (h i)
  sets {s t} h _ counters channels i := by
    rw [counters, channels]
    exact h i
  setCounter {s i k} hk h j := by
    rw [resetChannel_cfg, resetChannel_channels, Table.get_set]
    dsimp only
    rw [Table.get_set, markModified_sup]
    split
    next hij =>
      subst hij
      exact Channel.lawful_restarted (h i) hk
    · exact h j

end State

/-- Settles O4: both properties by the operations that move a channel or replace settings. -/
theorem stepKeepsChannelsAndSettingsLawful : Obligations.StepKeepsChannelsAndSettingsLawful :=
  ⟨fun _ _ => State.settingsKept_channels.step_keeps, fun _ _ => State.settingsKept_fit.step_keeps⟩

end Sys2Proof.Machine
end

section
/-! The locks and the services: what the show, the water, the site and the drive bus leave of them (R171, R172). -/

namespace Sys2Proof.Machine

/-- What holds of the settings and of the flash part's locks and services. -/
structure Held where
  locks : List Lock
  waiting : Option (Nat × Nat)
  work : Option FlashWork
  settings : Option SettingsWork
  cfg : Settings

/-- No more locks than before, and all else as before. -/
structure Held.Sheds (o n : Held) : Prop where
  locks : n.locks ⊆ o.locks
  waiting : n.waiting = o.waiting
  work : n.work = o.work
  settings : n.settings = o.settings
  cfg : n.cfg = o.cfg

theorem Held.Sheds.refl (o : Held) : o.Sheds o := ⟨List.Subset.refl _, rfl, rfl, rfl, rfl⟩

namespace State

def held (s : State) : Held := ⟨s.flp.locks, s.flp.annWaiting, s.flp.work, s.flp.settingsWork, s.cfg⟩

variable {o : Held} {s t : State}

theorem sheds_of_flp (h : o.Sheds s.held) (flp : t.flp = s.flp) (cfg : t.cfg = s.cfg) : o.Sheds t.held := by
  have hheld : t.held = s.held := by
    unfold held
    rw [flp, cfg]
  rwa [hheld]

theorem foldl_sheds {α : Type} {f : State → α → State} (hf : ∀ (a : State) (e : α), o.Sheds a.held → o.Sheds (f a e).held)
    {es : List α} (h : o.Sheds s.held) : o.Sheds (es.foldl f s).held := by
  induction es generalizing s with
  | nil => exact h
  | cons e es ih => exact ih (hf _ _ h)

theorem ite_sheds {c : Prop} [Decidable c] {t u : State} (ht : o.Sheds t.held) (hu : o.Sheds u.held) :
    o.Sheds (if c then t else u).held := by
  split
  · exact ht
  · exact hu

/-! ### Operations that leave the flash part -/

theorem report_sheds {x : Report} (h : o.Sheds s.held) : o.Sheds (s.report x).held := h

theorem sayShow_sheds {x : Option EndReason} (h : o.Sheds s.held) : o.Sheds (s.sayShow x).held := h

theorem endService_sheds {k : ServiceSlot} {f : Failure} {c : Option Nat} {i : Option ImageState} (h : o.Sheds s.held) : o.Sheds (s.endService k f c i).held := h

theorem sayGroup_sheds {g : Fin 24} {left : Option Interlock} {code : Option Byte} (h : o.Sheds s.held) : o.Sheds (s.sayGroup g left code).held := sheds_of_flp h (by simp) (by simp)

theorem judgeDrop_sheds (h : o.Sheds s.held) : o.Sheds s.judgeDrop.held := sheds_of_flp h (by simp) (by simp)

theorem postAtChange_sheds {g : Fin 24} {left into : Interlock} (h : o.Sheds s.held) : o.Sheds (s.postAtChange g left into).held := sheds_of_flp h (by simp) (by simp)

theorem postDemand_sheds {g : Fin 24} {v : Nat} (h : o.Sheds s.held) : o.Sheds (s.postDemand g v).held := sheds_of_flp h (by simp) (by simp)

theorem lowerPermit_sheds (h : o.Sheds s.held) : o.Sheds s.lowerPermit.held := h

theorem checkBudget_sheds (h : o.Sheds s.held) : o.Sheds s.checkBudget.held := sheds_of_flp h (checkBudget_flp s) (checkBudget_cfg s)

theorem deliver_sheds {t : Int} (h : o.Sheds s.held) : o.Sheds (s.deliver t).held := sheds_of_flp h (by simp) (by simp)

theorem startTxn_sheds {t : Txn} (h : o.Sheds s.held) : o.Sheds (s.startTxn t).held := h

theorem chooseTxn_sheds (h : o.Sheds s.held) : o.Sheds s.chooseTxn.held := by
  unfold chooseTxn
  split
  · exact startTxn_sheds h
  · split
    · exact h
    · exact startTxn_sheds h
    · exact startTxn_sheds h
    · split <;> exact startTxn_sheds h

theorem arbitrate_sheds (h : o.Sheds s.held) : o.Sheds s.arbitrate.held := by
  unfold arbitrate
  split
  · exact chooseTxn_sheds h
  · split
    · exact h
    · exact h
  all_goals exact h

theorem settleFlash_sheds (h : o.Sheds s.held) : o.Sheds s.settleFlash.held :=
  arbitrate_sheds (s := { s with aud := s.aud.seek }) (h)

theorem showIdle_sheds {r : EndReason} (h : o.Sheds s.held) : o.Sheds (s.showIdle r).held :=
  ⟨fun _ hl => h.locks (List.mem_of_mem_filter hl), h.waiting, h.work, h.settings, h.cfg⟩

theorem testStopping_sheds (h : o.Sheds s.held) : o.Sheds s.testStopping.held := by
  unfold testStopping
  split
  · split
    · exact showIdle_sheds h
    · exact h
  · exact h

theorem enterStopping_sheds {r : EndReason} (h : o.Sheds s.held) : o.Sheds (s.enterStopping r).held := by
  unfold enterStopping
  exact testStopping_sheds (sayShow_sheds h)

theorem failLoad_sheds {f : Failure} {c : Option Nat} {b : List Byte} {r : EndReason} (h : o.Sheds s.held) :
    o.Sheds (s.failLoad f c b r).held := by
  unfold failLoad
  exact endService_sheds (showIdle_sheds h)

theorem interruptLoad_sheds {f : Failure} {r : EndReason} (h : o.Sheds s.held) : o.Sheds (s.interruptLoad f r).held := by
  unfold interruptLoad
  exact failLoad_sheds h

theorem abortShow_sheds {f : Failure} {r : EndReason} (h : o.Sheds s.held) : o.Sheds (s.abortShow f r).held := by
  unfold abortShow
  split
  · exact h
  · exact interruptLoad_sheds h
  all_goals exact showIdle_sheds h

theorem askDirectory_sheds {w : CopyFor} (h : o.Sheds s.held) : o.Sheds (s.askDirectory w).held := by
  unfold askDirectory
  split <;> exact h

theorem loadReadFailed_sheds (h : o.Sheds s.held) : o.Sheds s.loadReadFailed.held := by
  unfold loadReadFailed
  split
  · dsimp only
    split <;> exact h
  · exact failLoad_sheds h

theorem dispatchEvent_sheds {t : Int} (h : o.Sheds s.held) : o.Sheds (s.dispatchEvent t).held := by
  unfold dispatchEvent
  dsimp only
  split
  · exact enterStopping_sheds (deliver_sheds h)
  · split
    · exact enterStopping_sheds (deliver_sheds h)
    · exact deliver_sheds h

theorem startShow_sheds (h : o.Sheds s.held) : o.Sheds s.startShow.held := by
  unfold startShow
  exact dispatchEvent_sheds (sayShow_sheds h)

theorem stopShow_sheds (h : o.Sheds s.held) : o.Sheds s.stopShow.held := by
  unfold stopShow
  split
  · exact interruptLoad_sheds h
  · exact enterStopping_sheds h

theorem offerChange_sheds (h : o.Sheds s.held) : o.Sheds s.offerChange.held := by
  unfold offerChange
  exact judgeDrop_sheds (testStopping_sheds h)

theorem changeInterlock_sheds {g : Fin 24} {left into : Interlock} {cause : FaultCause} {code : Option Byte} (h : o.Sheds s.held) :
    o.Sheds (s.changeInterlock g left into cause code).held := by
  unfold changeInterlock
  exact offerChange_sheds (postAtChange_sheds (sayGroup_sheds h))

theorem computePoll_sheds {g : Fin 24} (h : o.Sheds s.held) : o.Sheds (s.computePoll g).held := by
  unfold computePoll
  dsimp only
  split
  · exact h
  · split
    · split
      · exact offerChange_sheds (sayGroup_sheds (postDemand_sheds h))
      · exact offerChange_sheds (s := withGroup _ _ _) (postDemand_sheds h)
    · split
      · exact sayGroup_sheds (s := withGroup _ _ _) (postDemand_sheds h)
      · exact postDemand_sheds h

theorem takeReply_sheds {g : Fin 24} {rep : DriveReply} (h : o.Sheds s.held) : o.Sheds (s.takeReply g rep).held := by
  unfold takeReply
  dsimp only
  split
  · exact h
  · exact h
  · exact h
  · split
    · exact changeInterlock_sheds h
    · split
      · exact changeInterlock_sheds h
      · split
        · exact changeInterlock_sheds h
        · split
          · exact changeInterlock_sheds h
          · exact h

theorem strokeExpire_sheds {g : Fin 24} (h : o.Sheds s.held) : o.Sheds (s.strokeExpire g).held := by
  unfold strokeExpire
  split
  · exact changeInterlock_sheds h
  · exact h

theorem loseGroup_sheds {g : Fin 24} (h : o.Sheds s.held) : o.Sheds (s.loseGroup g).held := by
  unfold loseGroup
  split
  · exact h
  · exact h
  · exact changeInterlock_sheds h

theorem findGroup_sheds {g : Fin 24} (h : o.Sheds s.held) : o.Sheds (s.findGroup g).held := by
  unfold findGroup
  split
  · exact changeInterlock_sheds h
  · exact h

theorem bringDown_sheds {g : Fin 24} (h : o.Sheds s.held) : o.Sheds (s.bringDown g).held := by
  unfold bringDown
  split
  · exact h
  · dsimp only
    split
    · exact changeInterlock_sheds h
    · exact h

theorem waterDown_sheds (h : o.Sheds s.held) : o.Sheds s.waterDown.held := by
  unfold waterDown
  exact foldl_sheds (fun _ _ h => bringDown_sheds h) h

theorem configure_sheds {g : Fin 24} {left : Option Interlock} (h : o.Sheds s.held) : o.Sheds (s.configure g left).held := by
  unfold configure
  exact offerChange_sheds (sayGroup_sheds (postDemand_sheds h))

theorem regroup_sheds {g : Fin 24} {old : GroupRecord} (h : o.Sheds s.held) : o.Sheds (s.regroup g old).held := by
  unfold regroup
  dsimp only
  split
  · exact configure_sheds h
  · split
    · exact h
    · exact configure_sheds h
  · exact postDemand_sheds (s := withGroup _ _ _) h
  · exact h

theorem reenter_sheds {g : Fin 24} (h : o.Sheds s.held) : o.Sheds (s.reenter g).held := by
  unfold reenter
  split
  · exact h
  · dsimp only
    split
    · exact changeInterlock_sheds h
    · exact changeInterlock_sheds (changeInterlock_sheds h)

theorem enterDry_sheds (h : o.Sheds s.held) : o.Sheds s.enterDry.held := by
  unfold enterDry
  split
  · dsimp only
    split
    · exact enterStopping_sheds (s := { s with fresh := s.fresh + 1 }) h
    · exact enterStopping_sheds h
  · exact h

theorem levelMoved_sheds {before : LevelState} (h : o.Sheds s.held) : o.Sheds (s.levelMoved before).held := by
  unfold levelMoved
  split
  · exact h
  · split
    · exact enterDry_sheds h
    · exact h

theorem validityActs_sheds {i : Fin 27} {before : LevelState} (h : o.Sheds s.held) : o.Sheds (s.validityActs i before).held := by
  unfold validityActs
  dsimp only
  split
  · split <;> exact h
  · split
    · exact levelMoved_sheds h
    · split
      · exact h
      · split
        · split
          · exact findGroup_sheds h
          · exact loseGroup_sheds h
        · exact h

theorem moveChannel_sheds {i : Fin 27} {c : Channel} (h : o.Sheds s.held) : o.Sheds (s.moveChannel i c).held := by
  unfold moveChannel
  dsimp only
  split
  · exact h
  · exact validityActs_sheds (report_sheds h)

theorem evaluate_sheds {i : Fin 27} {e : Evaluation} (h : o.Sheds s.held) : o.Sheds (s.evaluate i e).held := by
  unfold evaluate
  exact moveChannel_sheds h

theorem resetChannel_sheds {i : Fin 27} (h : o.Sheds s.held) : o.Sheds (s.resetChannel i).held := by
  unfold resetChannel
  dsimp only
  split
  · exact h
  · exact moveChannel_sheds h

theorem tripActs_sheds (h : o.Sheds s.held) : o.Sheds s.tripActs.held := by
  have habort := abortShow_sheds (f := .tripped) (r := .trip) h
  unfold tripActs
  dsimp only
  exact ite_sheds (lowerPermit_sheds (waterDown_sheds (s := { abortShow s _ _ with lgt := _, aud := _ }) habort))
    (judgeDrop_sheds (waterDown_sheds (s := { abortShow s _ _ with lgt := _, aud := _ }) habort))

theorem latchCause_sheds {c : Causes} (h : o.Sheds s.held) : o.Sheds (s.latchCause c).held := by
  unfold latchCause
  split
  · dsimp only
    split <;> exact h
  · exact tripActs_sheds h

theorem judgeInputs_sheds {i : Inputs} (h : o.Sheds s.held) : o.Sheds (s.judgeInputs i).held := by
  unfold judgeInputs
  split
  · exact tripActs_sheds h
  · exact h

theorem deliverGood_sheds {g : Fin 24} {rep : DriveReply} (h : o.Sheds s.held) : o.Sheds (s.deliverGood g rep).held := by
  unfold deliverGood
  dsimp only
  split
  · exact evaluate_sheds (takeReply_sheds h)
  · exact takeReply_sheds (evaluate_sheds h)

theorem deliverOutcome_sheds {e : Due} {out : PollOutcome} {rep : DriveReply} (h : o.Sheds s.held) :
    o.Sheds (s.deliverOutcome e out rep).held := by
  unfold deliverOutcome
  split
  · split
    · exact deliverGood_sheds h
    · exact h
  · split
    · exact evaluate_sheds h
    · exact h

theorem endPoll_sheds {p : Poll} {out : PollOutcome} {rep : DriveReply} {us : Nat} (h : o.Sheds s.held) :
    o.Sheds (s.endPoll p out rep us).held := by
  unfold endPoll
  exact checkBudget_sheds (deliverOutcome_sheds h)

theorem jamLine_sheds {e : Due} {all : List Due} (h : o.Sheds s.held) : o.Sheds (s.jamLine e all).held := by
  unfold jamLine
  exact foldl_sheds (fun _ _ h => evaluate_sheds h) h

theorem haltPart_sheds (h : o.Sheds s.held) : o.Sheds s.haltPart.held := by
  have habort := abortShow_sheds (s := { s with lif := { s.lif with halted := true } }) (f := .aborted) (r := .halt) h
  unfold haltPart
  exact lowerPermit_sheds (waterDown_sheds habort)

theorem gateBand_sheds {third valid : Bool} (h : o.Sheds s.held) : o.Sheds (s.gateBand third valid).held :=
  sheds_of_flp h (gateBand_flp s third valid) (gateBand_cfg s third valid)

theorem windGate_sheds (h : o.Sheds s.held) : o.Sheds s.windGate.held := by
  unfold windGate
  exact gateBand_sheds (evaluate_sheds (s := { s with sup := _ }) h)

theorem levelSample_sheds {reading : BitVec 12} (h : o.Sheds s.held) : o.Sheds (s.levelSample reading).held := by
  unfold levelSample
  dsimp only
  split
  · exact evaluate_sheds h
  · exact levelMoved_sheds (evaluate_sheds h)

theorem settleSite_sheds (h : o.Sheds s.held) : o.Sheds s.settleSite.held := sheds_of_flp h (settleSite_flp s) (settleSite_cfg s)

theorem settle_sheds (h : o.Sheds s.held) : o.Sheds s.settle.held := settleSite_sheds (settleFlash_sheds h)

end State

end Sys2Proof.Machine
end

section
/-! The locks and the services through every step (R149, R171, R172, R173, R176). -/

namespace Sys2Proof.Machine

open State

/-- The FLASH service that is held meets an extent. -/
def Held.meets (o : Held) (e : Nat × Nat) : Bool :=
  match o.work with
  | some w => extentsMeet w.address (w.address + w.len) e.1 e.2
  | none => false

/-- The FLASH service has ended. -/
def Held.ended (o : Held) : Held :=
  match o.waiting with
  | some e => { o with work := none, locks := o.locks ++ [⟨.announcement, e.1, e.2⟩], waiting := none }
  | none => { o with work := none }

/-- The settings record of the wind has its thresholds and its derate table (R149). -/
def windWhole (w : WindSettings) : Prop := w.thresholds.length = 7 ∧ w.derate.length = 32

/-- A property of what is held that every operation on it keeps but the beginning of a FLASH service. -/
structure HeldKept (P : Held → Prop) : Prop where
  sheds : ∀ {o n : Held}, o.Sheds n → P o → P n
  locked : ∀ {o : Held} {ls : List Lock}, (∀ l ∈ ls, 0x10000 ≤ l.lo ∧ o.meets (l.lo, l.hi) = false) → P o →
    P { o with locks := o.locks ++ ls }
  waits : ∀ {o : Held} {w : Option (Nat × Nat)}, (∀ e, w = some e → 0x10000 ≤ e.1) → P o → P { o with waiting := w }
  ended : ∀ {o : Held}, P o → P o.ended
  settings : ∀ {o : Held} {w : Option SettingsWork},
    (∀ image seen, w = some (.save image seen) →
      (∃ before, o.settings = some (.save image before)) ∨ ∃ unused, image = o.cfg.image unused) → P o →
    P { o with settings := w }
  cfg : ∀ {o : Held} {c : Settings}, (windWhole o.cfg.wind → windWhole c.wind) → P o → P { o with cfg := c }
  reset : P State.reset.held

theorem windWhole_of_ok {w : WindSettings} (h : w.ok = true) : windWhole w := by
  simp only [WindSettings.ok, Bool.and_eq_true, decide_eq_true_eq] at h
  exact ⟨h.1.1.1.1.1.1.1.1.2, h.1.1.1.1.2⟩

/-! ### Operations after which the same is held -/

section
variable (s : State)

theorem marked_held (i : ImageState) : (s.marked i).held = { s.held with settings := none } := rfl

theorem raisePermit_held : s.raisePermit.held = s.held := rfl

theorem endService_held (k : ServiceSlot) (f : Failure) (c : Option Nat) (i : Option ImageState) :
    (s.endService k f c i).held = s.held := rfl

theorem startUpReady_held : s.startUpReady.held = s.relockAnnouncement.held := rfl

theorem nextDirectory_held : s.nextDirectory.held = s.held := by
  unfold State.nextDirectory
  split <;> rfl

end

theorem loadLocks_lo {clips : Table 64 (Option Clip)} {l : Lanes} {k : Lock} (h : k ∈ loadLocks clips l) :
    0x10000 ≤ k.lo := by
  simp only [loadLocks, List.mem_append, List.mem_filterMap, Option.map_eq_some_iff, List.mem_singleton] at h
  rcases h with ⟨_, _, c, _, rfl⟩ | rfl
  · simp only [clipExtent, Region.base]
    omega
  · simp [directoryExtent, Region.base]

namespace HeldKept

variable {P : Held → Prop} (hP : HeldKept P) {s t : State}
include hP

theorem of_eq (h : P s.held) (flp : t.flp = s.flp) (cfg : t.cfg = s.cfg) : P t.held :=
  hP.sheds (sheds_of_flp (.refl s.held) flp cfg) h

theorem noSettings (h : P s.held) : P { s.held with settings := none } := hP.settings (fun _ _ e => nomatch e) h

theorem windSame {c : Settings} (same : c.wind = s.cfg.wind) (h : P s.held) : P { s.held with cfg := c } :=
  hP.cfg (fun hw => by rw [same]; exact hw) h

/-! ### Services and locks -/

theorem settle (h : P s.held) : P s.settle.held := hP.sheds (settle_sheds (.refl _)) h

theorem settleFlash (h : P s.held) : P s.settleFlash.held := hP.sheds (settleFlash_sheds (.refl _)) h

theorem relockAnnouncement (h : P s.held) : P s.relockAnnouncement.held := by
  have hkept : P { s.held with locks := s.flp.locks.filter fun l => l.owner.ofShow } :=
    hP.sheds (o := s.held) ⟨List.filter_subset_self _, rfl, rfl, rfl, rfl⟩ h
  have hclip (c : Clip) : 0x10000 ≤ (clipExtent c).1 := by
    simp only [clipExtent, Region.base]
    omega
  unfold State.relockAnnouncement
  dsimp only
  split
  · exact hP.waits (w := none) (fun _ e => nomatch e) hkept
  next c hc =>
    split
    · exact hP.waits (fun _ he => Option.some.inj he ▸ hclip c) hkept
    next hmeets =>
      have hone : ∀ l ∈ [(⟨.announcement, (clipExtent c).1, (clipExtent c).2⟩ : Lock)],
          0x10000 ≤ l.lo ∧ Held.meets { s.held with locks := s.flp.locks.filter fun l => l.owner.ofShow } (l.lo, l.hi) = false := by
        intro l hl
        rw [List.mem_singleton] at hl
        subst hl
        exact ⟨hclip c, eq_false_of_ne_true hmeets⟩
      exact hP.waits (w := none) (fun _ e => nomatch e) (hP.locked hone hkept)

theorem endFlash (f : Failure) (h : P s.held) : P (s.endFlash f).held := by
  have hover : State.held { s with flp := s.flp.serviceOver } = s.held.ended := by
    cases hw : s.flp.annWaiting <;> simp [held, Held.ended, Flp.serviceOver, hw]
  have hended : P (State.held { s with flp := s.flp.serviceOver }) := hover ▸ hP.ended h
  exact hended

theorem askSettings (startUp : Bool) (read : List Byte) (h : P s.held) : P (s.askSettings startUp read).held :=
  hP.settings (w := some (.load startUp read)) (fun _ _ e => by cases e) h

theorem markModified (h : P s.held) : P s.markModified.held := by
  refine hP.settings (o := s.held) (fun image seen e => .inl ?_) h
  simp only [State.markModified] at e
  split at e
  next image' before hs =>
    cases e
    exact ⟨before, hs⟩
  next hother => exact ⟨seen, e⟩

theorem saveStep (n : Nat) (h : P s.held) : P (s.saveStep n).held := by
  unfold State.saveStep saveOn
  split
  · split
    · exact h
    · exact hP.noSettings h
  · exact h
  · exact h

theorem programmed (t : Txn) (h : P s.held) : P (s.programmed t).held := by
  unfold State.programmed
  dsimp only
  split
  · exact hP.endFlash (s := { s.withPort .free with flash := _ }) _ h
  · exact hP.saveStep (s := { s.withPort .free with flash := _ }) _ h
  all_goals exact h

theorem erased (t : Txn) (h : P s.held) : P (s.erased t).held := by
  unfold State.erased
  dsimp only
  split
  · exact hP.endFlash (s := { s.withPort .free with flash := _ }) _ h
  · exact hP.saveStep (s := { s.withPort .free with flash := _ }) _ h
  all_goals exact h

/-! ### Loads -/

theorem failLoad {f : Failure} {c : Option Nat} {l : List Byte} {r : EndReason} (h : P s.held) :
    P (s.failLoad f c l r).held := hP.sheds (failLoad_sheds (.refl _)) h

theorem finishLoad (hdr : ShowHeader) (records : List Byte) (h : P s.held) : P (s.finishLoad hdr records).held := by
  unfold State.finishLoad
  split
  · exact hP.failLoad h
  next cues clamps _ =>
    split
    · exact hP.failLoad h
    · dsimp only
      split
      · exact hP.failLoad h
      next hmeets =>
        have hlocks : ∀ l ∈ loadLocks s.aud.clips (buildLanes s.cfg cues), 0x10000 ≤ l.lo ∧ s.held.meets (l.lo, l.hi) = false :=
          fun l hl => ⟨loadLocks_lo hl, eq_false_of_ne_true fun hm => hmeets (List.any_eq_true.2 ⟨l, hl, hm⟩)⟩
        exact hP.locked hlocks h

theorem beginLoad (slot : Nat) (tag : Byte) (h : P s.held) : P (s.beginLoad slot tag).held := by
  have hone (hmeets : ¬ s.flp.serviceMeets (slotExtent slot) = true) :
      P { s.held with locks := s.flp.locks ++ [⟨.showSlot, (slotExtent slot).1, (slotExtent slot).2⟩] } := by
    refine hP.locked (fun l hl => ?_) h
    rw [List.mem_singleton] at hl
    subst hl
    refine ⟨?_, eq_false_of_ne_true hmeets⟩
    simp only [slotExtent, Region.base]
    omega
  unfold State.beginLoad
  dsimp only
  split
  · exact hP.failLoad (s := State.sayShow (State.beginService { s with seq := _ } _ _ _ _) _) h
  next hmeets => split <;> exact hone hmeets

theorem loadRead (bytes : List Byte) (h : P s.held) : P (s.loadRead bytes).held := by
  unfold State.loadRead
  split
  · dsimp only
    split <;> exact h
  · split
    · dsimp only
      split
      · exact h
      · exact hP.failLoad h
    · dsimp only
      split
      · exact h
      · split
        · exact hP.sheds (askDirectory_sheds (s := { s with seq := _ }) (.refl _)) h
        · exact hP.failLoad h
    · exact h

/-! ### Settings -/

theorem setGroup (g : Fin 24) (r : GroupRecord) (h : P s.held) : P (s.setGroup g r).held := by
  have hrecord : P (s.withRecord g r).held := hP.windSame (s := s.markModified) rfl (hP.markModified h)
  rw [setGroup_eq]
  exact hP.sheds (settleSite_sheds (sheds_of_flp (regroup_sheds (.refl _)) (rescale_flp _) (rescale_cfg _))) hrecord

theorem takeSettings {new : Settings} (fits : new.fit) (h : P s.held) : P (s.takeSettings new).held := by
  have hnew : P { s.held with cfg := new } := hP.cfg (fun _ => windWhole_of_ok ((Settings.fit_iff _).1 fits).1.wind) h
  have hall : P (s.regroupAll new).held :=
    hP.sheds (foldl_sheds (f := fun a g => a.regroup g (s.cfg.groups.get g)) (fun _ _ ha => regroup_sheds ha) (.refl _)) hnew
  have hchannels : P ((s.regroupAll new).eachChannel fun i a => a.resetChannel i).held :=
    hP.sheds (foldl_sheds (f := fun a i => a.resetChannel i) (fun _ _ ha => resetChannel_sheds ha) (.refl _)) hall
  rw [takeSettings_eq]
  exact hP.of_eq (hP.relockAnnouncement (hP.of_eq hchannels (refeed_flp _) (refeed_cfg _))) (restartIfTripped_flp _)
    (restartIfTripped_cfg _)

theorem settingsLoaded {new : Settings} (fits : new.fit) (image : ImageState) (h : P s.held) :
    P (s.settingsLoaded image new).held := by
  rw [settingsLoaded_eq]
  have hmarked : P ((s.takeSettings new).marked image).held := by
    rw [marked_held]
    exact hP.noSettings (hP.takeSettings fits h)
  exact hP.sheds (settleSite_sheds (by rw [raisePermit_held]; exact .refl _)) hmarked

theorem startUpReady (h : P s.held) : P s.startUpReady.held := by
  rw [startUpReady_held]
  exact hP.relockAnnouncement h

theorem releaseReady (h : P s.held) : P s.releaseReady.held := hP.relockAnnouncement h

theorem imageFound {new : Settings} (fits : new.fit) (startUp : Bool) (image : ImageState) (h : P s.held) :
    P (s.imageFound startUp image new).held := by
  have hflag : P (s.flagIf (decide (image = .bad)) .settingsBad).held := h
  unfold State.imageFound
  dsimp only
  split
  · exact hP.startUpReady (hP.settingsLoaded fits _ hflag)
  · unfold reloadFound
    split
    · exact hP.noSettings hflag
    · rw [endService_held]
      exact hP.settingsLoaded fits _ hflag

theorem settingsRead (bytes : List Byte) (h : P s.held) : P (s.settingsRead bytes).held := by
  unfold State.settingsRead
  split
  · split
    · exact hP.askSettings _ _ h
    next hfound => exact hP.imageFound (judgeImage_fit hfound) _ _ h
  · exact h
  · exact h

theorem settingsReadFailed (h : P s.held) : P s.settingsReadFailed.held := by
  unfold State.settingsReadFailed
  split
  · exact hP.imageFound Settings.default_fit _ _ h
  · exact hP.noSettings h
  · exact h
  · exact h

theorem identified (answer : Option DeviceIdent) (h : P s.held) : P (s.identified answer).held := by
  unfold State.identified
  dsimp only
  split
  · exact hP.sheds (askDirectory_sheds (s := { s with flp := _ }) (.refl _)) h
  next hsupported =>
    have hplain : P (State.held { s with flp := { s.flp with
        port := .free
        presence := if supportedDevice answer then .present else .missing
        ident := answer.map fun d => (d.id0, d.id1, d.id2) } }) := h
    unfold startWithoutFlash
    exact hP.startUpReady (hP.settingsLoaded Settings.default_fit _ hplain)

/-! ### The directory -/

omit hP in
theorem nextDirectory (h : P s.held) : P s.nextDirectory.held := by
  rw [nextDirectory_held]
  exact h

theorem withClips (t : Table 64 (Option Clip)) (h : P s.held) : P (s.withClips t).held :=
  hP.relockAnnouncement (s := { s with aud := { s.aud with clips := t } }) h

theorem afterCopy (why : CopyFor) (h : P s.held) : P (s.afterCopy why).held := by
  unfold State.afterCopy
  split
  · exact hP.askSettings _ _ (hP.of_eq h (restartIfTripped_flp _) (restartIfTripped_cfg _))
  · exact hP.releaseReady (hP.of_eq h (restartIfTripped_flp _) (restartIfTripped_cfg _))
  · split
    · exact hP.finishLoad _ _ h
    · exact h
  · exact h

theorem directoryRead (sector : List Byte) (h : P s.held) : P (s.directoryRead sector).held := by
  unfold State.directoryRead
  split
  · exact hP.afterCopy _ (hP.withClips _ (nextDirectory h))
  · exact h

theorem directoryFailed (h : P s.held) : P s.directoryFailed.held := by
  unfold State.directoryFailed
  split
  · exact hP.failLoad (nextDirectory h)
  · exact nextDirectory h
  · exact hP.afterCopy _ (hP.withClips _ (nextDirectory h))
  · exact h

theorem timedOut (t : Txn) (h : P s.held) : P (s.timedOut t).held := by
  unfold State.timedOut
  split
  · exact h
  · exact hP.sheds (loadReadFailed_sheds (.refl _)) h
  · exact hP.directoryFailed h
  · exact hP.settingsReadFailed h
  · exact hP.noSettings h
  · exact hP.noSettings h
  · exact hP.of_eq h (answerRead_flp _ _ _) (answerRead_cfg _ _ _)
  · exact hP.endFlash _ h
  · exact hP.endFlash _ h

theorem flashTimeout (h : P s.held) : P s.flashTimeout.held := by
  unfold State.flashTimeout
  split
  · exact hP.timedOut (s := s.resetDevice) _ h
  · exact hP.timedOut (s := (s.cutProgram _).resetDevice) _ h
  · exact hP.timedOut (s := (s.cutErase _).resetDevice) _ h
  · exact hP.timedOut (s := (s.cutErase _).resetDevice) _ h
  · exact hP.timedOut _ (hP.timedOut (s := (s.cutErase _).resetDevice) _ h)
  · exact h
  · exact h

/-! ### RELEASE and the reset -/

theorem releaseCopy (h : P s.held) : P s.releaseCopy.held := by
  unfold State.releaseCopy
  split
  · exact hP.releaseReady (s := { s with aud := _ }) h
  · exact hP.sheds (askDirectory_sheds (.refl _)) h

theorem releasePart (inputs : Inputs) (h : P s.held) : P (s.releasePart inputs).held := by
  have hreleased : P (s.released inputs).held := h
  have hreenter : P ((s.released inputs).eachGroup fun g a => a.reenter g).held :=
    hP.sheds (foldl_sheds (f := fun a g => a.reenter g) (fun _ _ ha => reenter_sheds ha) (.refl _)) hreleased
  have hjudged : P (if s.isTripped = true then ((s.released inputs).eachGroup fun g a => a.reenter g).restartIfTripped
      else ((s.released inputs).eachGroup fun g a => a.reenter g).judgeInputs inputs).held := by
    split
    · exact hP.of_eq hreenter (restartIfTripped_flp _) (restartIfTripped_cfg _)
    · exact hP.sheds (judgeInputs_sheds (.refl _)) hreenter
  rw [releasePart_eq]
  exact hP.releaseCopy (hP.of_eq hjudged (rescale_flp _) (rescale_cfg _))

theorem resetTo (s : State) (kind : ResetKind) (inputs : Inputs) (straps : BitVec 2) (log : List TripRecord) :
    P (s.resetTo kind inputs straps log).held := by
  have hblocks : P (s.resetBlocks kind inputs straps log).held := hP.reset
  have hjudged : P ((s.resetBlocks kind inputs straps log).judgeInputs inputs).held := hP.sheds (judgeInputs_sheds (.refl _)) hblocks
  exact hjudged

/-! ### The commands -/

/-- The beginning of a FLASH service, under its judgement, keeps the property too. -/
def Begins (P : Held → Prop) (p : List Byte) (s : State) : Prop :=
  ∀ w, s.judgeFlashWrite p = .ok w ∨ s.judgeFlashErase p = .ok w → P { s.held with work := some w }

theorem acts {p : List Byte} {u : State} (begins : Begins P p s) (h : Acts p s u) (hs : P s.held) : P u.held := by
  cases h with
  | setGroup g r => exact hP.setGroup g r hs
  | setFixture | setZone | setLevel | setDriveBus =>
    exact hP.windSame (s := s.markModified) rfl (hP.markModified hs)
  | setFeeder => exact hP.windSame (s := s.markModified) rfl (hP.markModified hs)
  | setWind w h =>
    exact hP.cfg (o := s.markModified.held) (fun _ => windWhole_of_ok (ok_of_windOf (windOf_of_judgeSetWind h)))
      (hP.markModified hs)
  | setCounter i k =>
    have hset : P (State.held { s.markModified with cfg := { s.cfg with counters := s.cfg.counters.set i k } }) :=
      hP.windSame (s := s.markModified) rfl (hP.markModified hs)
    exact hP.settle (hP.sheds (resetChannel_sheds (.refl _)) hset)
  | setShowOptions o =>
    have hset : P (State.held { s.markModified with cfg := { s.cfg with options := o } }) :=
      hP.windSame (s := s.markModified) rfl (hP.markModified hs)
    unfold State.setShowOptions
    dsimp only
    split
    · exact hset
    · exact hP.relockAnnouncement hset
  | arm slot tag => exact hP.settleFlash (hP.beginLoad slot tag hs)
  | disarm => exact hP.sheds (showIdle_sheds (.refl _)) hs
  | start => exact hP.settleFlash (hP.sheds (startShow_sheds (.refl _)) hs)
  | stop => exact hP.settleFlash (hP.sheds (stopShow_sheds (.refl _)) hs)
  | clipPlays => exact hP.settleFlash (s := s.giveClip _ _ _ _ _) hs
  | clearTrip => exact hP.settle (s := State.clearTrip _) hs
  | clearFault => exact hP.settle (hP.sheds (changeInterlock_sheds (.refl _)) hs)
  | flashWrite kind tag w h => exact hP.settleFlash (s := s.beginFlash _ _ _ _) (begins w (.inl h))
  | flashErase kind tag w h => exact hP.settleFlash (s := s.beginFlash _ _ _ _) (begins w (.inr h))
  | save q =>
    have hsave : P (s.beginSave q).held := hP.settings (fun image seen e => .inr ⟨_, by cases e; rfl⟩) hs
    exact hP.settleFlash hsave
  | reload => exact hP.settleFlash (hP.askSettings (s := s.beginService _ _ _ _) _ _ hs)
  | halt => exact hP.settle (hP.sheds (haltPart_sheds (.refl _)) hs)
  | release inputs => exact hP.settle (hP.releasePart inputs hs)
  | _ => exact hs

theorem effect {t : State} (begins : ∀ p a, a.held = s.held → Begins P p a) (h : Effect s t) (hs : P s.held) : P t.held := by
  cases h with
  | reset => exact hP.resetTo _ _ _ _ _
  | identified answer => exact hP.settle (hP.identified answer hs)
  | cause pins c => exact hP.settle (hP.sheds (latchCause_sheds (s := { s with pins := pins }) (.refl _)) hs)
  | windGate => exact hP.settle (hP.sheds (windGate_sheds (.refl _)) hs)
  | levelSample => exact hP.settle (hP.sheds (levelSample_sheds (.refl _)) hs)
  | dropTimer => exact hP.sheds (settleSite_sheds (.refl _)) hs
  | driveCycle => exact hP.of_eq hs (driveCycle_flp _) (driveCycle_cfg _)
  | poll e =>
    have hpoll : P (s.computePoll e.group).held := hP.sheds (computePoll_sheds (.refl _)) hs
    exact hP.settle (s := s.sendPoll _ _ _) hpoll
  | jam => exact hP.settle (hP.sheds (jamLine_sheds (.refl _)) hs)
  | pollEnd => exact hP.settle (hP.sheds (endPoll_sheds (.refl _)) hs)
  | stroke => exact hP.settle (hP.sheds (strokeExpire_sheds (.refl _)) hs)
  | lampFrame => exact hP.of_eq hs (lampFrame_flp _) (lampFrame_cfg _)
  | audio a n => exact hP.settleFlash (s := { s with aud := a, fresh := n }) hs
  | dispatch a now => exact hP.settleFlash (hP.sheds (dispatchEvent_sheds (s := { s with aud := a }) (.refl _)) hs)
  | stopping a => exact hP.settleFlash (hP.sheds (testStopping_sheds (s := { s with aud := a }) (.refl _)) hs)
  | window a e =>
    have hscored : P (State.evaluate { s with aud := a } 26 e).held := hP.sheds (evaluate_sheds (.refl _)) hs
    exact hP.sheds (settleSite_sheds (.refl _)) hscored
  | chunkRead => exact hP.settleFlash (s := { s.withPort _ with aud := _ }) hs
  | chunkReadSuspended => exact hP.settleFlash (s := { s.withPort _ with aud := _ }) hs
  | flashTimeout => exact hP.settle (hP.flashTimeout hs)
  | guardEnd => exact hP.settleFlash (s := s.withPort _) hs
  | deviceReset => exact hP.settleFlash (s := s.withPort _) hs
  | loadRead bytes => exact hP.settleFlash (hP.loadRead (s := s.withPort .free) bytes hs)
  | directoryRead bytes => exact hP.settle (hP.directoryRead (s := s.withPort .free) bytes hs)
  | settingsRead bytes => exact hP.settle (hP.settingsRead (s := s.withPort .free) bytes hs)
  | hostRead bytes =>
    exact hP.settleFlash (hP.of_eq (s := s.withPort .free) hs (answerRead_flp _ _ _) (answerRead_cfg _ _ _))
  | programmed t => exact hP.settleFlash (hP.programmed t hs)
  | erased t => exact hP.settleFlash (hP.erased t hs)
  | erasedSuspended t => exact hP.settleFlash (hP.erased (s := s.unsuspended) t hs)
  | received c => exact hP.of_eq hs (receive_flp _ _) (receive_cfg _ _)
  | receivedFrame c => exact hP.of_eq hs (receive_flp _ _) (receive_cfg _ _)
  | request q st fields u hq hp h => 
    have hu : P u.held := hP.acts (begins q.payload (s.taken.answer q st fields) rfl) h hs
    exact hu
  | flashRead => exact hP.settleFlash (s := s.taken.flashRead _ _ _) hs
  | _ => exact hs

end HeldKept

end Sys2Proof.Machine
end

section
/-! The lengths of what a settings image holds (R173). -/

namespace Sys2Proof.Machine

theorem length_flatMap_const {α β : Type} {f : α → List β} {n : Nat} (h : ∀ a, (f a).length = n) (l : List α) :
    (l.flatMap f).length = l.length * n := by
  induction l with
  | nil => simp
  | cons a l ih => rw [List.flatMap_cons, List.length_append, h, ih, List.length_cons, Nat.succ_mul, Nat.add_comm]

theorem pointBytes_length (pts : List Point) (pos n : Nat) (unused : Nat → Byte) : (pointBytes pts pos n unused).length = n * 4 := by
  unfold pointBytes
  rw [length_flatMap_const (n := 4), List.length_range]
  intro i
  split
  · rfl
  · simp

theorem GroupRecord.bytes_length (g : Fin 24) (r : GroupRecord) (unused : Nat → Byte) : (r.bytes g unused).length = 64 := by
  simp [GroupRecord.bytes, pointBytes_length, byte1, byte2, byte4, byteYes]

theorem FixtureRecord.bytes_length (f : Fin 96) (r : FixtureRecord) : (r.bytes f).length = 17 := by
  simp [FixtureRecord.bytes, byte1, byte2, Quad.toList]

theorem ZoneRecord.bytes_length (z : Fin 4) (r : ZoneRecord) : (r.bytes z).length = 5 := rfl

theorem WindSettings.bytes_length {w : WindSettings} (h : windWhole w) : w.bytes.length = 87 := by
  have htwo (n : Nat) : (byte2 n).length = 2 := rfl
  simp only [WindSettings.bytes, List.length_append, length_flatMap_const htwo, h.1, h.2]
  rfl

theorem LevelSettings.bytes_length (l : LevelSettings) : l.bytes.length = 8 := rfl

theorem FeederSettings.bytes_length (f : FeederSettings) : f.bytes.length = 6 := rfl

theorem CounterSettings.bytes_length (i : Fin 27) (k : CounterSettings) : (k.bytes i).length = 3 := rfl

theorem ShowOptions.bytes_length (o : ShowOptions) : o.bytes.length = 6 := rfl

theorem recordBytes_length (table index : Nat) (content : List Byte) :
    (recordBytes table index content).length = 4 + content.length := by
  simp [recordBytes, byte1, byte2]
  omega

theorem Settings.recordBytes_length {c : Settings} (h : windWhole c.wind) (unused : Nat → Byte) :
    (c.recordBytes unused).length = 4001 := by
  have hgroup (g : Fin 24) :
      (Machine.recordBytes 1 g.val (GroupRecord.bytes g (c.groups.get g) fun i => unused (64 * g.val + i))).length = 68 := by
    rw [Machine.recordBytes_length, GroupRecord.bytes_length]
  have hfixture (f : Fin 96) : (Machine.recordBytes 2 f.val (FixtureRecord.bytes f (c.fixtures.get f))).length = 21 := by
    rw [Machine.recordBytes_length, FixtureRecord.bytes_length]
  have hzone (z : Fin 4) : (Machine.recordBytes 3 z.val (ZoneRecord.bytes z (c.zones.get z))).length = 9 := by
    rw [Machine.recordBytes_length, ZoneRecord.bytes_length]
  have hcounter (i : Fin 27) : (Machine.recordBytes 7 i.val (CounterSettings.bytes i (c.counters.get i))).length = 7 := by
    rw [Machine.recordBytes_length, CounterSettings.bytes_length]
  simp only [Settings.recordBytes, List.length_append, length_flatMap_const hgroup, length_flatMap_const hfixture,
    length_flatMap_const hzone, length_flatMap_const hcounter, Machine.recordBytes_length, WindSettings.bytes_length h,
    LevelSettings.bytes_length, FeederSettings.bytes_length, ShowOptions.bytes_length, List.length_finRange]
  rfl

theorem Settings.image_length {c : Settings} (h : windWhole c.wind) (unused : Nat → Byte) : (c.image unused).length = 4013 := by
  simp only [Settings.image, List.length_append, Settings.recordBytes_length h]
  rfl

end Sys2Proof.Machine
end

section
/-! Where flash bytes change, and what the locks and the saves keep clear of (R165 to R167, R171 to R173, R176). -/

namespace Sys2Proof.Machine

open State

/-! ## Bytes outside an extent, whatever the memory's form -/

namespace Memory

theorem read_write_other {x y : Nat} (h : y ≠ x) (m : Memory) (v : Byte) : read (write m x v) y = read m y := by
  induction m with
  | nil =>
    unfold write
    split
    · rfl
    · simp [read, h.symm]
  | cons c m ih =>
    obtain ⟨a, b⟩ := c
    unfold write
    split
    · split
      · rfl
      · simp [read, h.symm]
    · split
      next hx =>
        subst hx
        split <;> simp [read, h.symm]
      · simp only [read]
        split
        · rfl
        · exact ih

theorem read_partProgram_outside (mask : Nat → Byte) {m : Memory} {a x : Nat} {ds : List Byte} (h : x < a ∨ a + ds.length ≤ x) :
    read (partProgram m a ds mask) x = read m x := by
  induction ds generalizing m a with
  | nil => rfl
  | cons d ds ih =>
    rw [List.length_cons] at h
    rw [partProgram, ih (by omega), read_write_other (by omega)]

theorem program_eq_partProgram (m : Memory) (a : Nat) (ds : List Byte) :
    program m a ds = partProgram m a ds fun _ => 0 := by
  induction ds generalizing m a with
  | nil => rfl
  | cons d ds ih =>
    rw [program, partProgram, ih]
    simp

theorem read_program_outside_any {m : Memory} {a x : Nat} {ds : List Byte} (h : x < a ∨ a + ds.length ≤ x) :
    read (program m a ds) x = read m x := by
  rw [program_eq_partProgram, read_partProgram_outside _ h]

theorem read_partErase_outside (mask : Nat → Byte) {a n x : Nat} (h : x < a ∨ a + n ≤ x) (m : Memory) :
    read (partErase m a n mask) x = read m x := by
  induction m with
  | nil => rfl
  | cons c m ih =>
    obtain ⟨k, b⟩ := c
    have hx (hk : a ≤ k ∧ k < a + n) : k ≠ x := by omega
    have ih' : read (partErase m a n mask) x = read m x := ih
    unfold partErase at ih' ⊢
    rw [List.filterMap_cons]
    by_cases hk : a ≤ k ∧ k < a + n
    · simp only [if_pos hk]
      split
      next hnone => simp [read, hx hk, ih']
      next hsome =>
        split at hsome
        · exact nomatch hsome
        · cases hsome
          simp [read, hx hk, ih']
    · simp only [if_neg hk, read]
      rw [ih']

end Memory

/-! ## A command changes bytes only where work is in progress -/

theorem inExtent_eq_false {e : Nat × Nat} {a : Nat} : inExtent e a = false ↔ a < e.1 ∨ e.2 ≤ a := by
  simp only [inExtent, Bool.and_eq_false_iff, decide_eq_false_iff_not, not_le, not_lt]

/-- Outside the work in progress of one state and of another, the bytes of the other are those of the first. -/
def State.SameOutside (s t : State) : Prop := ∀ a, inExtent s.workExtent a = false → inExtent t.workExtent a = false →
  Memory.read t.flash a = Memory.read s.flash a

/-- Outside the work in progress of one state, the bytes of another are the same. -/
def State.SameElsewhere (s t : State) : Prop := ∀ a, inExtent s.workExtent a = false →
  Memory.read t.flash a = Memory.read s.flash a

namespace State

variable {s t u : State}

theorem SameElsewhere.of_flash_eq (e : t.flash = s.flash) : s.SameElsewhere t := fun a _ => by rw [e]

theorem SameElsewhere.flash (h : s.SameElsewhere t) (e : u.flash = t.flash) : s.SameElsewhere u := fun a ha => by
  rw [e]
  exact h a ha

theorem SameElsewhere.outside (h : s.SameElsewhere t) : s.SameOutside t := fun a ha _ => h a ha

theorem workExtent_of_flp (e : t.flp = s.flp) : t.workExtent = s.workExtent := by
  unfold workExtent programOf
  rw [e]

theorem SameOutside.same (h : s.SameOutside t) (flp : u.flp = t.flp) (flash : u.flash = t.flash) : s.SameOutside u := by
  intro a ha hu
  rw [flash]
  exact h a ha (workExtent_of_flp flp ▸ hu)

theorem suspend_flash (s : State) (x : Txn) : (s.suspend x).flash = Memory.partErase s.flash (s.flp.eraseExtent x).1
    (s.flp.eraseExtent x).2 (fun a => if Config.eraseTaken s.fresh a then 0xFF else 0) := rfl

/-- The suspension of an erase, at the end of a command, changes bytes of that erase alone. -/
theorem SameElsewhere.settleFlash (h : s.SameElsewhere t) : s.SameOutside t.settleFlash := by
  intro a ha hnow
  rw [← h a ha]
  unfold State.settleFlash arbitrate at hnow ⊢
  dsimp only at hnow ⊢
  split
  · rw [chooseTxn_flash]
  next x hport =>
    split
    next hchunk =>
      rw [hport] at hnow
      simp only [if_pos hchunk] at hnow
      have hout : a < (t.flp.eraseExtent x).1 ∨ (t.flp.eraseExtent x).1 + (t.flp.eraseExtent x).2 ≤ a :=
        inExtent_eq_false.1 hnow
      rw [suspend_flash]
      exact Memory.read_partErase_outside _ hout t.flash
    · rfl
  all_goals rfl

theorem SameElsewhere.settle (h : s.SameElsewhere t) : s.SameOutside t.settle :=
  h.settleFlash.same (settleSite_flp _) (settleSite_flash _)

theorem programmed_sameElsewhere {x : Txn} (h : s.flp.port = .programming x) : s.SameElsewhere (s.programmed x) := by
  intro a ha
  unfold workExtent at ha
  rw [h] at ha
  rw [programmed_flash]
  exact Memory.read_program_outside_any (inExtent_eq_false.1 ha)

theorem workExtent_erasing {x : Txn} (h : s.flp.port = .erasing x ∨ s.flp.port = .suspended x ∨ s.flp.port = .guarded x) :
    s.workExtent = ((s.flp.eraseExtent x).1, (s.flp.eraseExtent x).1 + (s.flp.eraseExtent x).2) := by
  unfold workExtent
  rcases h with h | h | h <;> rw [h]

theorem erased_sameElsewhere {x : Txn} (h : s.flp.port = .erasing x ∨ s.flp.port = .suspended x ∨ s.flp.port = .guarded x) :
    s.SameElsewhere (s.erased x) := by
  intro a ha
  rw [workExtent_erasing h, inExtent_eq_false] at ha
  rw [erased_flash, Memory.read_erase, if_neg (by omega)]

theorem cutErase_sameElsewhere {x : Txn} (h : s.flp.port = .erasing x ∨ s.flp.port = .suspended x ∨ s.flp.port = .guarded x) :
    s.SameElsewhere (s.cutErase x) := by
  intro a ha
  rw [workExtent_erasing h, inExtent_eq_false] at ha
  exact Memory.read_partErase_outside _ ha _

theorem cutProgram_sameElsewhere {x : Txn} (h : s.flp.port = .programming x) : s.SameElsewhere (s.cutProgram x) := by
  intro a ha
  unfold workExtent at ha
  rw [h] at ha
  exact Memory.read_partProgram_outside _ (inExtent_eq_false.1 ha)

theorem cutOff_sameElsewhere (s : State) : s.SameElsewhere s.cutOff := by
  unfold cutOff
  split
  next h => exact cutProgram_sameElsewhere h
  next h => exact cutErase_sameElsewhere (.inl h)
  next h => exact cutErase_sameElsewhere (.inr (.inl h))
  next h => exact cutErase_sameElsewhere (.inr (.inr h))
  all_goals exact .of_flash_eq rfl

theorem resetTo_flash (s : State) (kind : ResetKind) (inputs : Inputs) (straps : BitVec 2) (log : List TripRecord) :
    (s.resetTo kind inputs straps log).flash = s.cutOff.flash := by simp [resetTo, resetBlocks]

theorem flashTimeout_sameElsewhere (s : State) : s.SameElsewhere s.flashTimeout := by
  unfold flashTimeout
  split
  · exact .of_flash_eq (by simp)
  next h => exact (cutProgram_sameElsewhere h).flash (by simp)
  next h => exact (cutErase_sameElsewhere (.inl h)).flash (by simp)
  next h => exact (cutErase_sameElsewhere (.inr (.inr h))).flash (by simp)
  next h => exact (cutErase_sameElsewhere (.inr (.inl h))).flash (by simp)
  all_goals exact .of_flash_eq rfl

end State

theorem acts_sameOutside {p : List Byte} {a u : State} (h : Acts p a u) : a.SameOutside u := by
  cases h with
  | arm | start | stop | clipPlays =>
    exact SameElsewhere.settleFlash (.of_flash_eq (by simp))
  | flashWrite | flashErase | save | reload =>
    exact SameElsewhere.settleFlash (.of_flash_eq (by simp [beginFlash, beginSave]))
  | clearTrip | clearFault | halt | release =>
    exact SameElsewhere.settle (.of_flash_eq (by simp [haltPart]))
  | setCounter => exact SameElsewhere.settle (.of_flash_eq (by simp))
  | _ => exact (SameElsewhere.of_flash_eq (by simp [setGroup, setFixture, setZone, setWind, setLevel, setFeeder, setDriveBus,
      State.directJet])).outside

theorem effect_sameOutside {s t : State} (h : Effect s t) : s.SameOutside t := by
  cases h with
  | reset => exact ((cutOff_sameElsewhere s).flash (resetTo_flash _ _ _ _ _)).outside
  | programmed x h => exact (programmed_sameElsewhere h).settleFlash.same rfl rfl
  | erased x h => exact (erased_sameElsewhere (h.imp_right .inr)).settleFlash.same rfl rfl
  | erasedSuspended x h =>
    have herased : s.unsuspended.SameElsewhere (s.unsuspended.erased x) := erased_sameElsewhere (.inr (.inl h))
    exact SameOutside.same (SameElsewhere.settleFlash (s := s) herased) rfl rfl
  | flashTimeout => exact (flashTimeout_sameElsewhere s).settle
  | identified | cause | windGate | levelSample | poll | jam | pollEnd | stroke | directoryRead | settingsRead =>
    exact SameElsewhere.settle (.of_flash_eq (by simp))
  | dispatch | stopping | loadRead | hostRead | flashRead =>
    exact (SameElsewhere.settleFlash (.of_flash_eq (by simp [State.flashRead]))).same rfl rfl
  | audio | chunkRead | chunkReadSuspended | guardEnd | deviceReset =>
    exact SameElsewhere.settleFlash (.of_flash_eq (by simp))
  | request q st fields u hq hp h =>
    have hacts : (s.taken.answer q st fields).SameOutside u := acts_sameOutside h
    exact fun a ha hu => hacts a ha hu
  | _ => exact (SameElsewhere.of_flash_eq (by simp)).outside

theorem exec_sameOutside {c : Instr} {s t : State} (h : exec c s = .next t) : s.SameOutside t := by
  obtain rfl := eq_after_of_exec h
  exact effect_sameOutside (after_effect c s)

/-! ## The locks keep clear (R171, R172) -/

/-- State.locksClear, of what is held. -/
def Held.clear (o : Held) : Prop :=
  (∀ l ∈ o.locks, 0x10000 ≤ l.lo ∧ o.meets (l.lo, l.hi) = false) ∧ (∀ e, o.waiting = some e → 0x10000 ≤ e.1)
    ∧ ∀ w data, o.work = some w → w.data = some data → data.length = w.len

theorem locksClear_iff (s : State) : s.locksClear ↔ s.held.clear := Iff.rfl

theorem heldKept_clear : HeldKept Held.clear where
  sheds {o n} h := by
    rintro ⟨hlocks, hwaits, hdata⟩
    unfold Held.clear Held.meets
    rw [h.waiting, h.work]
    exact ⟨fun l hl => hlocks l (h.locks hl), hwaits, hdata⟩
  locked {o ls} hls := by
    rintro ⟨hlocks, hwaits, hdata⟩
    refine ⟨fun l hl => ?_, hwaits, hdata⟩
    rcases List.mem_append.1 hl with hl | hl
    · exact hlocks l hl
    · exact hls l hl
  waits hw := by
    rintro ⟨hlocks, -, hdata⟩
    exact ⟨hlocks, hw, hdata⟩
  ended {o} := by
    rintro ⟨hlocks, hwaits, -⟩
    unfold Held.ended
    split
    next e he =>
      refine ⟨fun l hl => ⟨?_, rfl⟩, fun _ h => (nomatch h), fun _ _ h => nomatch h⟩
      rcases List.mem_append.1 hl with hl | hl
      · exact (hlocks l hl).1
      · rw [List.mem_singleton] at hl
        subst hl
        exact hwaits e he
    · exact ⟨fun l hl => ⟨(hlocks l hl).1, rfl⟩, hwaits, fun _ _ h => nomatch h⟩
  settings _ h := h
  cfg _ h := h
  reset := ⟨fun _ h => (nomatch h), fun _ h => (nomatch h), fun _ _ h => nomatch h⟩

theorem extentsMeet_comm (lo hi lo' hi' : Nat) : extentsMeet lo hi lo' hi' = extentsMeet lo' hi' lo hi := by
  simp only [extentsMeet, Bool.and_comm]

theorem needUnlocked_ok {s : State} {lo hi : Nat} {u : Unit} (h : s.needUnlocked lo hi = .ok u) :
    ∀ l ∈ s.flp.locks, extentsMeet lo hi l.lo l.hi = false := by
  obtain ⟨_, -, h⟩ := exists_ok_of_bind h
  have hmeets := eq_false_of_refuseIf_ok h
  unfold Flp.lockMeets at hmeets
  exact fun l hl => eq_false_of_ne_true (List.any_eq_false.1 hmeets l hl)

/-- A FLASH service that passes its judgement meets no lock, and a program has a byte for each byte of its extent. -/
theorem judgeFlash_clear {s : State} {p : List Byte} {w : FlashWork}
    (h : s.judgeFlashWrite p = .ok w ∨ s.judgeFlashErase p = .ok w) :
    (∀ l ∈ s.flp.locks, extentsMeet w.address (w.address + w.len) l.lo l.hi = false)
      ∧ ∀ data, w.data = some data → data.length = w.len := by
  rcases h with h | h
  · unfold State.judgeFlashWrite at h
    obtain ⟨_, -, h⟩ := exists_ok_of_bind h
    obtain ⟨_, -, h⟩ := exists_ok_of_bind h
    obtain ⟨_, -, h⟩ := exists_ok_of_bind h
    obtain ⟨_, -, h⟩ := exists_ok_of_bind h
    obtain ⟨_, -, h⟩ := exists_ok_of_bind h
    obtain ⟨_, hfree, h⟩ := exists_ok_of_bind h
    cases h
    exact ⟨needUnlocked_ok hfree, fun data hd => by cases hd; rfl⟩
  · unfold State.judgeFlashErase at h
    obtain ⟨_, -, h⟩ := exists_ok_of_bind h
    obtain ⟨_, -, h⟩ := exists_ok_of_bind h
    obtain ⟨_, -, h⟩ := exists_ok_of_bind h
    obtain ⟨_, -, h⟩ := exists_ok_of_bind h
    obtain ⟨_, -, h⟩ := exists_ok_of_bind h
    obtain ⟨_, hfree, h⟩ := exists_ok_of_bind h
    cases h
    exact ⟨needUnlocked_ok hfree, fun data hd => nomatch hd⟩

theorem begins_clear {s : State} {p : List Byte} (h : s.held.clear) : HeldKept.Begins Held.clear p s := by
  intro w hw
  obtain ⟨hfree, hdata⟩ := judgeFlash_clear hw
  obtain ⟨hlocks, hwaits, -⟩ := h
  refine ⟨fun l hl => ⟨(hlocks l hl).1, hfree l hl⟩, hwaits, fun w' data hw' hd => ?_⟩
  cases hw'
  exact hdata data hd

theorem effect_locksClear {s t : State} (hs : s.locksClear) (h : Effect s t) : t.locksClear :=
  heldKept_clear.effect (fun _ a ha => begins_clear (by rw [ha]; exact hs)) h hs

/-! ## The saves fit (R149, R173, R176) -/

/-- State.savesFit, of what is held. -/
def Held.savesFit (o : Held) : Prop :=
  (∀ image seen, o.settings = some (.save image seen) → image.length ≤ 0x10000) ∧ windWhole o.cfg.wind

theorem savesFit_iff (s : State) : s.savesFit ↔ s.held.savesFit := Iff.rfl

theorem heldKept_saves : HeldKept Held.savesFit where
  sheds {o n} h := by
    rintro ⟨hsaves, hwind⟩
    unfold Held.savesFit
    rw [h.settings, h.cfg]
    exact ⟨hsaves, hwind⟩
  locked _ h := h
  waits _ h := h
  ended {o} h := by
    unfold Held.ended
    split <;> exact h
  settings {o w} hw := by
    rintro ⟨hsaves, hwind⟩
    refine ⟨fun image seen e => ?_, hwind⟩
    rcases hw image seen e with ⟨before, hb⟩ | ⟨unused, rfl⟩
    · exact hsaves image before hb
    · rw [Settings.image_length hwind]
      decide
  cfg hc h := ⟨h.1, hc h.2⟩
  reset := ⟨fun _ _ e => (nomatch e), by unfold windWhole; decide⟩

theorem effect_savesFit {s t : State} (hs : s.savesFit) (h : Effect s t) : t.savesFit :=
  heldKept_saves.effect (fun _ a ha _ _ => by
    have hheld : a.held.savesFit := by
      rw [ha]
      exact hs
    exact hheld) h hs

/-! ## No byte of a lock is touched -/

/-- What is held keeps clear of one lock: the FLASH service does not meet it, and the saves stay in SETTINGS. -/
def Held.clearOf (l : Lock) (o : Held) : Prop :=
  o.meets (l.lo, l.hi) = false ∧ (∀ w data, o.work = some w → w.data = some data → data.length = w.len) ∧ o.savesFit

theorem heldKept_clearOf (l : Lock) : HeldKept (Held.clearOf l) where
  sheds {o n} h := by
    rintro ⟨hmeets, hdata, hsaves⟩
    refine ⟨?_, ?_, heldKept_saves.sheds h hsaves⟩
    · unfold Held.meets at hmeets ⊢
      rw [h.work]
      exact hmeets
    · rw [h.work]
      exact hdata
  locked _ h := h
  waits _ h := h
  ended {o} h := by
    obtain ⟨-, -, hsaves⟩ := h
    unfold Held.ended
    split <;> exact ⟨rfl, fun _ _ e => (nomatch e), hsaves⟩
  settings hw h := ⟨h.1, h.2.1, heldKept_saves.settings hw h.2.2⟩
  cfg hc h := ⟨h.1, h.2.1, heldKept_saves.cfg hc h.2.2⟩
  reset := ⟨rfl, fun _ _ e => (nomatch e), heldKept_saves.reset⟩

theorem pageOf_end (image : List Byte) (p : Nat) (h : image.length ≤ 0x10000) :
    pageOf image p = [] ∨ pageBytes * p + (pageOf image p).length ≤ 0x10000 := by
  unfold pageOf pageBytes
  rw [List.length_take, List.length_drop]
  rcases Nat.lt_or_ge (256 * p) image.length with hp | hp
  · omega
  · left
    rw [List.drop_eq_nil_of_le hp, List.take_nil]

/-- An address of a lock is not worked on while the work keeps clear of the lock. -/
theorem inExtent_work_of_clearOf {s : State} {l : Lock} {a : Nat} (h : s.held.clearOf l) (hbase : 0x10000 ≤ l.lo)
    (hlo : l.lo ≤ a) (hhi : a < l.hi) : inExtent s.workExtent a = false := by
  obtain ⟨hmeets, hdata, hsaves, -⟩ := h
  have hservice (w : FlashWork) (hw : s.flp.work = some w) : a < w.address ∨ w.address + w.len ≤ a := by
    have hw' : s.held.work = some w := hw
    unfold Held.meets at hmeets
    rw [hw'] at hmeets
    simp only [extentsMeet, Bool.and_eq_false_iff, decide_eq_false_iff_not] at hmeets
    omega
  have herase (x : Txn) : a < (s.flp.eraseExtent x).1 ∨ (s.flp.eraseExtent x).1 + (s.flp.eraseExtent x).2 ≤ a := by
    cases x with
    | settingsErase => simp [Flp.eraseExtent, Region.base, Region.size]; omega
    | hostErase =>
      cases hw : s.flp.work with
      | none => simp [Flp.eraseExtent, hw]
      | some w => simpa [Flp.eraseExtent, hw] using hservice w hw
    | _ => simp [Flp.eraseExtent]
  rw [inExtent_eq_false]
  unfold workExtent
  split
  next x _ =>
    cases x with
    | hostProgram =>
      cases hw : s.flp.work with
      | none => simp [programOf, hw]
      | some w =>
        have hw' := hservice w hw
        cases hd : w.data with
        | none => simp [programOf, hw, hd]; omega
        | some data =>
          have := hdata w data hw hd
          simp only [programOf, hw, hd, Option.getD_some]
          omega
    | settingsPage p =>
      cases hs : s.flp.settingsWork with
      | none => simp [programOf, hs]
      | some k =>
        cases k with
        | load => simp [programOf, hs]
        | save image seen =>
          have hpage := pageOf_end image p (hsaves image seen hs)
          simp only [programOf, hs, Region.base]
          rcases hpage with hnil | hend
          · rw [hnil, List.length_nil]
            omega
          · omega
    | _ => simp [programOf]
  · exact herase _
  · exact herase _
  · exact herase _
  all_goals exact .inr (Nat.zero_le a)

theorem clearOf_of_locksClear {s : State} {l : Lock} (hclear : s.locksClear) (hsaves : s.savesFit) (hl : l ∈ s.flp.locks) :
    s.held.clearOf l := ⟨(hclear.1 l hl).2, hclear.2.2, hsaves⟩

/-- What a command leaves held keeps clear of the locks that were in force before it. -/
theorem effect_clearOf {s t : State} {l : Lock} (hclear : s.locksClear) (hsaves : s.savesFit) (hl : l ∈ s.flp.locks)
    (h : Effect s t) : t.held.clearOf l := by
  have hs := clearOf_of_locksClear hclear hsaves hl
  refine (heldKept_clearOf l).effect (fun p a ha w hw => ?_) h hs
  obtain ⟨hfree, hdata⟩ := judgeFlash_clear hw
  have hlocks : a.flp.locks = s.flp.locks := congrArg Held.locks ha
  have hfits : a.held.savesFit := by
    rw [ha]
    exact hsaves
  refine ⟨hfree l (hlocks ▸ hl), fun w' data hw' hd => ?_, hfits⟩
  cases hw'
  exact hdata data hd

/-- Settles O9: bytes change by the end, the cut-off or the suspension of the work in progress; the locks and the saves are kept
by every operation on what is held; and work that keeps clear of a lock leaves its bytes. -/
theorem flashChangesOnlyWhereWorked : Obligations.FlashChangesOnlyWhereWorked := by
  refine ⟨fun c s t a h hs ht => exec_sameOutside h a hs ht, ?_, ?_, fun s l a hclear hsaves hl hlo hhi => ?_⟩
  · exact step_keeps_of_effect (fun _ _ h => h) fun _ _ => effect_locksClear
  · exact step_keeps_of_effect (fun _ _ h => h) fun _ _ => effect_savesFit
  · have hbase := (hclear.1 l hl).1
    have hbefore := inExtent_work_of_clearOf (clearOf_of_locksClear hclear hsaves hl) hbase hlo hhi
    refine ⟨hbefore, fun c t h => exec_sameOutside h a hbefore ?_⟩
    obtain rfl := eq_after_of_exec h
    exact inExtent_work_of_clearOf (effect_clearOf hclear hsaves hl (after_effect c s)) hbase hlo hhi

/-- Settles O8: each property, evaluated on the state after a reset. -/
theorem resetHasInvariants : Obligations.ResetHasInvariants := by
  refine ⟨by decide, ?_, Settings.default_fit, ?_, State.reset_siteJudged, ?_, ?_, ?_, ?_, ?_, heldKept_clear.reset,
    heldKept_saves.reset⟩
  · unfold State.channelsLawful
    decide +kernel
  · exact State.permitSafe_of_low rfl
  · unfold State.queuesFit
    decide
  · unfold State.interlocksFit
    decide +kernel
  · rintro (h | h) <;> exact nomatch h
  · unfold State.rampsFit
    decide +kernel
  · unfold State.strokesFit
    decide +kernel

end Sys2Proof.Machine
end

section
/-! A taken request: its judgement as a chain of conditions, and the requests that write few fields (R85, R113, R138). -/

namespace Sys2Proof.Machine

open State

/-! ## Judgements as chains of conditions -/

/-- A refusal stands first in a judgement. -/
@[simp] theorem refuseIf_bind {α : Type} (c : Bool) (st : Status) (f : Unit → Except Status α) :
    (refuseIf c st >>= f) = if c = true then .error st else f () := by
  cases c <;> rfl

/-- A part that is there is handed on. -/
@[simp] theorem ok_bind {α β : Type} (a : α) (f : α → Except Status β) : ((Except.ok a : Except Status α) >>= f) = f a := rfl

/-- A refusal ends the judgement. -/
@[simp] theorem error_bind {α β : Type} (st : Status) (f : α → Except Status β) :
    ((Except.error st : Except Status α) >>= f) = .error st := rfl

/-- The refusal alone. -/
theorem refuseIf_eq (c : Bool) (st : Status) : refuseIf c st = if c = true then .error st else .ok () := rfl

@[simp] theorem isIdle_eq_true (s : State) : s.isIdle = true ↔ s.seq.st = .idle := by simp [State.isIdle]

@[simp] theorem isTripped_eq_true (s : State) : s.isTripped = true ↔ s.sup.mode = .tripped := by simp [State.isTripped]

@[simp] theorem isDry_eq_true (s : State) : s.isDry = true ↔ s.sup.effective = .dry := by simp [State.isDry]

/-- A judgement that refuses answers the taken request with its status. -/
theorem judged_refused {α : Type} {s : State} {q : Request} {j : Except Status α} {act : α → State} {st : Status}
    (h : j = .error st) : (s.taken.judged q j act).kick = s.answered q st [] := by
  subst h; rfl

/-- A judgement that passes is carried out. -/
theorem judged_passed {α : Type} {s : State} {q : Request} {j : Except Status α} {act : α → State} {a : α}
    (h : j = .ok a) : s.judged q j act = act a := by
  subst h; rfl

/-- An index that is given by its number. -/
theorem indexOf_val {n k : Nat} (i : Fin n) (h : k = i.val) : indexOf n k = some i := by
  subst h; exact indexOf_lt i.isLt

/-! ## DIRECT_JET -/

/-- The refusals of DIRECT_JET in their order (R85). -/
theorem judgeDirectJet_eq (s : State) (p : List Byte) : s.judgeDirectJet p =
    if s.seq.st ≠ .idle then .error .showActive else if s.sup.mode = .tripped then .error .tripped
    else if s.sup.effective = .dry then .error .levelDry
    else if jetSet p = 0 ∨ ∃ g : Fin 24, (jetSet p).getLsbD g.val = true ∧ (s.groupRecord g).configured = false then
      .error .outOfRange
    else .ok (jetSet p, u16 p 3, u16 p 5) := by
  have h : (decide (jetSet p = 0) || !s.allConfigured (jetSet p)) = true ↔
      jetSet p = 0 ∨ ∃ g : Fin 24, (jetSet p).getLsbD g.val = true ∧ (s.groupRecord g).configured = false := by
    simp [State.allConfigured]
  simp only [State.judgeDirectJet, refuseIf_bind, h, Bool.not_eq_true', ← Bool.not_eq_true, isIdle_eq_true,
    isTripped_eq_true, isDry_eq_true]
  rfl

/-- Bits gathered one after the other: one is set where it was, or where its index is in the list and passes. -/
theorem getLsbD_gather {n : Nat} (c : Fin n → Bool) (l : List (Fin n)) (acc : BitVec n) (g : Fin n) :
    (l.foldl (fun b i => if c i = true then b ||| ((1 : BitVec n) <<< i.val) else b) acc).getLsbD g.val
      = (acc.getLsbD g.val || (decide (g ∈ l) && c g)) := by
  induction l generalizing acc with
  | nil => simp
  | cons i rest ih =>
    have bit : ((1 : BitVec n) <<< i.val).getLsbD g.val = decide (g = i) := by
      by_cases e : g = i
      · subst e; simp
      · have : g.val ≠ i.val := fun k => e (Fin.ext k)
        rcases Nat.lt_or_gt_of_ne this with lt | gt
        · simp [e, lt]
        · have : g.val - i.val ≠ 0 := by omega
          simp [e, this]
    rw [List.foldl_cons, ih]
    by_cases e : g = i
    · subst e; cases hc : c g
      · simp
      · simp only [if_true, BitVec.getLsbD_or, bit]; simp
    · cases hc : c i
      · simp [e]
      · simp only [if_true, BitVec.getLsbD_or, bit]; simp [e]

/-- A group is clamped where it is named and its max height is below the height (R86). -/
theorem clampedGroups_bit (s : State) (set : BitVec 24) (height : Nat) (g : Fin 24) :
    (s.clampedGroups set height).getLsbD g.val
      = (set.getLsbD g.val && decide ((s.groupRecord g).maxHeight < height)) := by
  unfold State.clampedGroups
  rw [getLsbD_gather (fun g : Fin 24 => set.getLsbD g.val && decide ((s.groupRecord g).maxHeight < height))]
  simp

/-- Settles O32: the judgement is R85's chain of refusals, and what passes writes only the fade records of the named groups. -/
theorem directJetWritesFades : Obligations.DirectJetWritesFades := by
  unfold Obligations.DirectJetWritesFades
  intro s q ht
  have run : exec .directJet s = .next (s.taken.judged q (s.judgeDirectJet q.payload) fun a =>
      (s.taken.answer q .ok (groupSetBytes (s.clampedGroups a.1 a.2.1) ++ byteYes (decide (fadeMax < a.2.2)))).directJet
        a.1 a.2.1 a.2.2).kick := congrArg Host.Outcome.next (serve_takes s _ anyOf _ q ht rfl)
  rw [run]
  refine ⟨fun st h => congrArg Host.Outcome.next (judged_refused ?_), fun h => ?_⟩
  · rw [judgeDirectJet_eq]
    split_ifs at h ⊢ <;> cases h <;> rfl
  · have hj : s.judgeDirectJet q.payload = .ok (jetSet q.payload, u16 q.payload 3, u16 q.payload 5) := by
      rw [judgeDirectJet_eq]
      split_ifs at h ⊢
      rfl
    rw [judged_passed hj]
    refine ⟨_, rfl, fun g => ?_, rfl, fun g => clampedGroups_bit s _ _ g, rfl⟩
    exact Sys2Proof.Table.get_mapIdx _ _ g

/-! ## The water scale (R118, R119) -/

/-- The scaled demand does not fall as the scale rises. -/
theorem scaledDemand_mono (loads : List (Nat × Nat)) {a b : Nat} (h : a ≤ b) :
    scaledDemand loads a ≤ scaledDemand loads b := by
  unfold scaledDemand power
  exact List.sum_le_sum fun p _ => by gcongr

/-- Nothing is demanded at a scale of 0. -/
theorem scaledDemand_zero (loads : List (Nat × Nat)) : scaledDemand loads 0 = 0 := by
  unfold scaledDemand power
  simp

/-- The largest fit is a multiple of 5 in its range that fits, and none above it does. -/
theorem largestFit_spec (loads : List (Nat × Nat)) (allowance n : Nat) :
    scaledDemand loads (largestFit loads allowance n) ≤ allowance ∧ largestFit loads allowance n % 5 = 0
      ∧ largestFit loads allowance n ≤ 5 * n
      ∧ ∀ i, i ≤ n → largestFit loads allowance n < 5 * i → allowance < scaledDemand loads (5 * i) := by
  induction n with
  | zero => exact ⟨by simp [largestFit, scaledDemand_zero], rfl, Nat.le_refl _, fun i hi hk => by simp [largestFit] at hk; omega⟩
  | succ n ih =>
    obtain ⟨fits, mult, small, above⟩ := ih
    unfold largestFit
    split
    next yes => exact ⟨yes, by omega, Nat.le_refl _, fun i hi hk => by omega⟩
    next no =>
      refine ⟨fits, mult, by omega, fun i hi hk => ?_⟩
      rcases Nat.lt_or_eq_of_le hi with lt | e
      · exact above i (by omega) hk
      · subst e; omega

/-- Settles O34: the search from the top down finds the greatest multiple that fits. -/
theorem waterScaleIsTheGreatestThatFits : Obligations.WaterScaleIsTheGreatestThatFits := by
  unfold Obligations.WaterScaleIsTheGreatestThatFits
  intro loads allowance k
  obtain ⟨fits, mult, small, above⟩ := largestFit_spec loads allowance 200
  have hk : k = if scaledDemand loads 1000 ≤ allowance then 1000 else largestFit loads allowance 200 := rfl
  refine ⟨fun _ => rfl, fun h => by rw [hk, if_pos h], ?_, ?_, ?_, fun j h5 hj hkj => ?_,
    fun a b h => scaledDemand_mono loads h, scaledDemand_zero loads⟩
  · rw [hk]; split <;> assumption
  · rw [hk]; split
    · rfl
    · exact mult
  · rw [hk]; split
    · exact Nat.le_refl _
    · exact small
  · rw [hk] at hkj
    split at hkj
    · omega
    · obtain ⟨i, rfl⟩ : ∃ i, j = 5 * i := ⟨j / 5, by omega⟩
      exact above i (by omega) hkj

/-! ## SET_FEEDER -/

/-- A flag that is set under a condition. -/
theorem raiseIf_decide (fs : Flags) (f : Flag) (c : Prop) [Decidable c] :
    fs.raiseIf (decide c) f = if c then fs.raise f else fs := by
  by_cases h : c <;> simp [Flags.raiseIf, h]

/-- A flag that has been set is set. -/
theorem raise_has (fs : Flags) (f : Flag) : (fs.raise f).has f = true := by
  cases f <;> simp [Flags.raise, Flags.has, Flag.bank, Flag.bit, Flag.mask]

/-- Feeder settings are read from a payload where both are in range (R113). -/
theorem feederOf_eq (p : List Byte) : feederOf p =
    if u32 p 0 ≤ 4000000 ∧ u16 p 4 ≤ 1000 then some ⟨u32 p 0, u16 p 4⟩ else none := by
  simp [feederOf, FeederSettings.ok]

/-- Settles O35: out of range no settings are read, and accepted settings are followed by FDA's recomputation. -/
theorem setFeederRecomputes : Obligations.SetFeederRecomputes := by
  unfold Obligations.SetFeederRecomputes
  intro s q ht b share
  have run : exec .setFeeder s = .next (s.taken.judged q (need (feederOf q.payload) .outOfRange) fun f =>
      (s.taken.answer q .ok []).setFeeder f).kick := congrArg Host.Outcome.next (serve_takes s _ anyOf _ q ht rfl)
  rw [run]
  refine ⟨fun h => congrArg Host.Outcome.next (judged_refused ?_), fun hb hs => ?_⟩
  · rw [feederOf_eq, if_neg (by omega), need_none]
  · rw [feederOf_eq, if_pos ⟨hb, hs⟩, need_some, judged_ok]
    intro cap allowance
    rw [← raiseIf_decide]
    rfl

/-! ## DIRECT_LIGHT -/

/-- The refusals of DIRECT_LIGHT in their order (R138). -/
theorem judgeDirectLight_eq (s : State) (p : List Byte) : s.judgeDirectLight p =
    if s.seq.st ≠ .idle then .error .showActive else if s.sup.mode = .tripped then .error .tripped
    else if u8 p 1 < u8 p 0 ∨ 95 < u8 p 1
        ∨ ∃ f : Fin 96, u8 p 0 ≤ f.val ∧ f.val ≤ u8 p 1 ∧ (s.cfg.fixtures.get f).base = 0 then .error .outOfRange
    else .ok () := by
  have h : (!s.rangeAssigned (u8 p 0) (u8 p 1)) = true ↔ u8 p 1 < u8 p 0 ∨ 95 < u8 p 1
      ∨ ∃ f : Fin 96, u8 p 0 ≤ f.val ∧ f.val ≤ u8 p 1 ∧ (s.cfg.fixtures.get f).base = 0 := by
    rw [Bool.not_eq_true', ← Bool.not_eq_true]
    simp only [State.rangeAssigned, Bool.and_eq_true, decide_eq_true_eq, List.all_eq_true, List.mem_finRange,
      Bool.or_eq_true, Bool.not_eq_true', ← Bool.not_eq_true, within_iff, FixtureRecord.assigned, forall_const]
    constructor
    · intro h
      by_contra k
      push Not at k
      obtain ⟨k1, k2, k3⟩ := k
      exact h ⟨⟨k1, k2⟩, fun f => by by_cases hw : u8 p 0 ≤ f.val ∧ f.val ≤ u8 p 1; exact .inr (k3 f hw.1 hw.2); exact .inl hw⟩
    · rintro h ⟨⟨k1, k2⟩, k3⟩
      rcases h with h | h | ⟨f, h1, h2, h3⟩
      · omega
      · omega
      · exact (k3 f).elim (fun k => k ⟨h1, h2⟩) fun k => k h3
  simp only [State.judgeDirectLight, refuseIf_bind]
  simp only [refuseIf_eq, h, Bool.not_eq_true', ← Bool.not_eq_true, isIdle_eq_true,
    isTripped_eq_true]

/-- What a direct colour overtakes: the waiting colours of the show in the range. -/
theorem overtaken_direct (l : Lgt) (first last : Nat) : l.overtaken first last .direct =
    (List.finRange 96).countP fun f => decide (first ≤ f.val) && decide (f.val ≤ last)
      && (l.fixtures.get f).latch.any fun x => decide (x.origin = .fromShow) := by
  unfold Lgt.overtaken
  congr 1
  funext f
  cases (l.fixtures.get f).latch <;> simp [overtakesLatch, within]

/-- Settles O40: the judgement is R138's chain of refusals, and what passes writes the latches of the range. -/
theorem directLightWritesLatches : Obligations.DirectLightWritesLatches := by
  unfold Obligations.DirectLightWritesLatches
  intro s q ht first last refused lost
  have run : exec .directLight s = .next (s.taken.judged q (s.judgeDirectLight q.payload) fun _ =>
      (s.taken.answer q .ok (byteYes (decide (fadeMax < u16 q.payload 6)))).latchRange first last
        (directLatch q.payload)).kick := congrArg Host.Outcome.next (serve_takes s _ anyOf _ q ht rfl)
  rw [run]
  refine ⟨fun st h => congrArg Host.Outcome.next (judged_refused ?_), fun h => ?_⟩
  · rw [judgeDirectLight_eq]
    simp only [refused, first, last] at h
    split_ifs at h ⊢ <;> cases h <;> rfl
  · have hj : s.judgeDirectLight q.payload = .ok () := by
      rw [judgeDirectLight_eq]
      simp only [refused, first, last] at h
      split_ifs at h ⊢
      rfl
    rw [judged_passed hj]
    have count : s.lgt.overtaken first last .direct = lost := overtaken_direct s.lgt first last
    refine ⟨_, rfl, fun f => ?_, ?_, fun pos => ?_, rfl, rfl⟩
    · refine (Sys2Proof.Table.get_mapIdx _ _ f).trans ?_
      simp only [within_iff]
      rfl
    · rw [← count]; rfl
    · have flags : (s.flags.raiseIf (decide (0 < s.lgt.overtaken first last .direct)) .lightOvertaken).has
          .lightOvertaken = true := by
        rw [raiseIf_decide, count, if_pos pos, raise_has]
      exact flags

end Sys2Proof.Machine
end

section
/-! Which records a payload gives: the readers of the settings requests, as equivalences (R60, R70 to R72, R124, R145, R149,
R153, R189). -/

namespace Sys2Proof.Machine

/-! ## Lists read point by point -/

/-- A list that is read position by position has the length and the entries that the reader gives. -/
theorem eq_map_range_iff {α : Type} (l : List α) (f : Nat → α) (n : Nat) :
    l = (List.range n).map f ↔ l.length = n ∧ ∀ i x, l[i]? = some x → x = f i := by
  constructor
  · rintro rfl
    refine ⟨by simp, fun i x h => ?_⟩
    obtain ⟨hi, hx⟩ := List.getElem?_eq_some_iff.1 h
    simpa using hx.symm
  · rintro ⟨hlen, h⟩
    refine List.ext_getElem (by simpa using hlen) fun i hi _ => ?_
    rw [h i l[i] (List.getElem?_eq_getElem hi)]
    simp

/-- What holds of every entry, by the entries' positions. -/
theorem forall_mem_iff_getElem? {α : Type} (l : List α) (P : α → Prop) :
    (∀ x ∈ l, P x) ↔ ∀ (i : Nat) (x : α), l[i]? = some x → P x :=
  ⟨fun h _ _ hx => h _ (List.mem_of_getElem? hx), fun h x hx => by
    obtain ⟨i, hi⟩ := List.mem_iff_getElem?.1 hx
    exact h i x hi⟩

/-- A list of numbers that is read position by position, by default entries. -/
theorem eq_map_range_iff_getD (l : List Nat) (f : Nat → Nat) (n : Nat) :
    l = (List.range n).map f ↔ l.length = n ∧ ∀ i, i < n → l.getD i 0 = f i := by
  rw [eq_map_range_iff]
  refine and_congr_right fun hlen => ⟨fun h i hi => ?_, fun h i x hx => ?_⟩
  · have hi' : i < l.length := hlen ▸ hi
    rw [List.getD_eq_getElem?_getD, List.getElem?_eq_getElem hi']
    exact h i _ (List.getElem?_eq_getElem hi')
  · obtain ⟨hi, -⟩ := List.getElem?_eq_some_iff.1 hx
    have := h i (hlen ▸ hi)
    rw [List.getD_eq_getElem?_getD, hx] at this
    exact this

/-- What holds of every entry of a list of numbers, by default entries. -/
theorem forall_mem_iff_getD (l : List Nat) (P : Nat → Prop) :
    (∀ x ∈ l, P x) ↔ ∀ i, i < l.length → P (l.getD i 0) := by
  rw [forall_mem_iff_getElem?]
  refine ⟨fun h i hi => ?_, fun h i x hx => ?_⟩
  · exact h i _ (by rw [List.getD_eq_getElem?_getD, List.getElem?_eq_getElem hi]; rfl)
  · obtain ⟨hi, -⟩ := List.getElem?_eq_some_iff.1 hx
    have := h i hi
    rw [List.getD_eq_getElem?_getD, hx] at this
    exact this

/-- A chain of numbers, by default entries. -/
theorem chain_iff_getD (r : Nat → Nat → Bool) (l : List Nat) :
    chain r l = true ↔ ∀ i, i + 1 < l.length → r (l.getD i 0) (l.getD (i + 1) 0) = true := by
  rw [chain_iff]
  refine ⟨fun h i hi => ?_, fun h i a b ha hb => ?_⟩
  · refine h i _ _ ?_ ?_ <;> rw [List.getD_eq_getElem?_getD, List.getElem?_eq_getElem (by omega)] <;> rfl
  · obtain ⟨hi, -⟩ := List.getElem?_eq_some_iff.1 hb
    have := h i hi
    rw [List.getD_eq_getElem?_getD, List.getD_eq_getElem?_getD, ha, hb] at this
    exact this

/-! ## Small records -/

theorem zoneSource_ofCode_iff (k : Nat) (z : ZoneSource) : ZoneSource.ofCode k = some z ↔ k = z.code := by
  constructor
  · intro h
    unfold ZoneSource.ofCode at h
    split at h <;> cases h <;> rfl
  · rintro rfl; cases z <;> rfl

theorem zoneOf_iff (p : List Byte) (z : ZoneRecord) : zoneOf p = some z ↔
    u8 p 1 = z.source.code ∧ z.gain = u16 p 2 ∧ z.gain ≤ 1000 ∧ z.delay = u8 p 4 ∧ z.delay ≤ 250 := by
  rw [← zoneSource_ofCode_iff]
  obtain ⟨source, gain, delay⟩ := z
  unfold zoneOf
  cases ZoneSource.ofCode (u8 p 1) with
  | none => simp
  | some code =>
    simp only [ZoneRecord.ok, Bool.and_eq_true, decide_eq_true_eq, Option.ite_none_right_eq_some, Option.some.injEq,
      ZoneRecord.mk.injEq]
    constructor
    · rintro ⟨⟨hg, hd⟩, rfl, rfl, rfl⟩; exact ⟨rfl, rfl, hg, rfl, hd⟩
    · rintro ⟨rfl, rfl, hg, rfl, hd⟩; exact ⟨⟨hg, hd⟩, rfl, rfl, rfl⟩

theorem levelOf_iff (p : List Byte) (l : LevelSettings) : levelOf p = some l ↔
    l.span = u16 p 0 ∧ 500 ≤ l.span ∧ l.span ≤ 10000 ∧ l.low = u16 p 2 ∧ l.dry = u16 p 4 ∧ 0 < l.dry ∧ l.dry < l.low
      ∧ l.low < l.span ∧ l.lowCap = u16 p 6 ∧ l.lowCap ≤ 800 := by
  obtain ⟨span, low, dry, lowCap⟩ := l
  simp only [levelOf, LevelSettings.ok, Bool.and_eq_true, decide_eq_true_eq, within_iff, Option.ite_none_right_eq_some,
    Option.some.injEq, LevelSettings.mk.injEq]
  constructor
  · rintro ⟨_, rfl, rfl, rfl, rfl⟩; omega
  · rintro ⟨rfl, _, _, rfl, rfl, _, _, _, rfl, _⟩; omega

theorem optionsOf_iff (p : List Byte) (o : ShowOptions) : optionsOf p = some o ↔
    o.masterGain = u16 p 0 ∧ o.masterGain ≤ 1000 ∧ o.annClip = u8 p 2 ∧ o.annClip ≤ 64 ∧ o.gap = u8 p 3 ∧ o.gap ≤ 30
      ∧ o.stopFade = u16 p 4 ∧ o.stopFade ≤ 10000 := by
  obtain ⟨gain, clip, gap, fade⟩ := o
  simp only [optionsOf, ShowOptions.ok, Bool.and_eq_true, decide_eq_true_eq, Option.ite_none_right_eq_some,
    Option.some.injEq, ShowOptions.mk.injEq]
  constructor
  · rintro ⟨_, rfl, rfl, rfl, rfl⟩; omega
  · rintro ⟨rfl, _, rfl, _, rfl, _, rfl, _⟩; omega

theorem counterOf_iff (p : List Byte) (k : CounterSettings) : counterOf p = some k ↔
    k = ⟨u8 p 1, u8 p 2⟩ ∧ 1 ≤ k.limit ∧ k.limit ≤ 200 ∧ k.hold ≤ 55 := by
  simp only [counterOf, CounterSettings.ok, Bool.and_eq_true, decide_eq_true_eq, within_iff,
    Option.ite_none_right_eq_some, Option.some.injEq]
  constructor
  · rintro ⟨⟨⟨h1, h2⟩, h3⟩, rfl⟩; exact ⟨rfl, h1, h2, h3⟩
  · rintro ⟨rfl, h1, h2, h3⟩; exact ⟨⟨⟨h1, h2⟩, h3⟩, rfl⟩

theorem windowOf_eq (p : List Byte) : windowOf p = if 1 ≤ u8 p 0 ∧ u8 p 0 ≤ 10 then some (u8 p 0) else none := by
  simp [windowOf, within_iff]

/-! ## Fixture records -/

theorem boundOf_iff (b : Nat) (o : Option (Fin 24)) : boundOf b = some o ↔
    (∀ g, o = some g → b = g.val) ∧ (o = none → b = 255) := by
  unfold boundOf
  cases o with
  | none =>
    split
    next h => simp; omega
    · split <;> simp_all
  | some g =>
    split
    next h =>
      simp only [Option.some.injEq, reduceCtorEq, IsEmpty.forall_iff, and_true, forall_eq']
      exact Fin.ext_iff
    next h =>
      have := g.isLt
      split <;> simp <;> omega

theorem fixtureOf_iff (p : List Byte) (r : FixtureRecord) : fixtureOf p = some r ↔
    r.base = u16 p 1 ∧ r.base ≤ 509 ∧ (∀ g, r.bound = some g → u8 p 3 = g.val) ∧ (r.bound = none → u8 p 3 = 255)
      ∧ r.rated = u16 p 4 ∧ r.rated ≤ 2000 ∧ r.dryCap = p.getD 6 0 ∧ r.dryGrace = u16 p 7 ∧ r.dryGrace ≤ 10000
      ∧ r.house = ⟨p.getD 9 0, p.getD 10 0, p.getD 11 0, p.getD 12 0⟩
      ∧ r.rescue = ⟨p.getD 13 0, p.getD 14 0, p.getD 15 0, p.getD 16 0⟩ := by
  have bound := boundOf_iff (u8 p 3) r.bound
  obtain ⟨base, bd, rated, dryCap, dryGrace, house, rescue⟩ := r
  unfold fixtureOf
  cases hb : boundOf (u8 p 3) with
  | none =>
    simp only [hb, reduceCtorEq, false_iff] at bound ⊢
    exact fun ⟨_, _, h1, h2, _⟩ => bound ⟨h1, h2⟩
  | some c =>
    simp only [hb, Option.some.injEq] at bound
    simp only [FixtureRecord.ok, Bool.and_eq_true, decide_eq_true_eq, Option.ite_none_right_eq_some, Option.some.injEq,
      FixtureRecord.mk.injEq, bound, colourAt]
    constructor
    · rintro ⟨⟨⟨h1, h2⟩, h3⟩, rfl, ⟨b1, b2⟩, rfl, rfl, rfl, rfl, rfl⟩
      exact ⟨rfl, h1, b1, b2, rfl, h2, rfl, rfl, h3, rfl, rfl⟩
    · rintro ⟨rfl, h1, b1, b2, rfl, h2, rfl, rfl, h3, rfl, rfl⟩
      exact ⟨⟨⟨h1, h2⟩, h3⟩, rfl, ⟨b1, b2⟩, rfl, rfl, rfl, rfl, rfl⟩

/-! ## Group records -/

/-- A curve is accepted: its points in range, heights rising, speeds not falling (R70). -/
theorem curveOk_iff (pts : List Point) : curveOk pts = true ↔
    (2 ≤ pts.length ∧ pts.length ≤ 6)
      ∧ (∀ (i : Nat) (x : Point), pts[i]? = some x → 1 ≤ x.h ∧ x.h ≤ 800 ∧ 1 ≤ x.v ∧ x.v ≤ 1000)
      ∧ ∀ (i : Nat) (x y : Point), pts[i]? = some x → pts[i + 1]? = some y → x.h < y.h ∧ x.v ≤ y.v := by
  simp only [curveOk, Bool.and_eq_true, within_iff, List.all_eq_true, chain_iff, decide_eq_true_eq, and_assoc]
  rw [forall_mem_iff_getElem? pts fun x => 1 ≤ x.h ∧ x.h ≤ 800 ∧ 1 ≤ x.v ∧ x.v ≤ 1000]

/-- A lead table is accepted: its points in range, heights rising (R71). -/
theorem leadsOk_iff (pts : List Point) : leadsOk pts = true ↔
    (2 ≤ pts.length ∧ pts.length ≤ 4)
      ∧ (∀ (i : Nat) (x : Point), pts[i]? = some x → 1 ≤ x.h ∧ x.h ≤ 800 ∧ x.v ≤ 8000)
      ∧ ∀ (i : Nat) (x y : Point), pts[i]? = some x → pts[i + 1]? = some y → x.h < y.h := by
  simp only [leadsOk, Bool.and_eq_true, within_iff, List.all_eq_true, chain_iff, decide_eq_true_eq, and_assoc]
  rw [forall_mem_iff_getElem? pts fun x => 1 ≤ x.h ∧ x.h ≤ 800 ∧ x.v ≤ 8000]

/-- A point table of a payload, by its length and its points. -/
theorem eq_pointsAt_iff (l : List Point) (p : List Byte) (pos n : Nat) : l = pointsAt p pos n ↔
    l.length = n ∧ ∀ (i : Nat) (x : Point), l[i]? = some x → x = ⟨u16 p (pos + 4 * i), u16 p (pos + 4 * i + 2)⟩ :=
  eq_map_range_iff l _ n

theorem groupOf_iff (p : List Byte) (r : GroupRecord) : groupOf p = some r ↔
    (u8 p 1 ≤ 1 ∧ r.configured = decide (u8 p 1 = 1) ∧ r.address = u8 p 2 ∧ 1 ≤ r.address ∧ r.address ≤ 31)
    ∧ (2 ≤ u8 p 3 ∧ u8 p 3 ≤ 6 ∧ r.curve.length = u8 p 3
      ∧ (∀ (i : Nat) (x : Point), r.curve[i]? = some x → x = ⟨u16 p (4 + 4 * i), u16 p (6 + 4 * i)⟩ ∧ 1 ≤ x.h ∧ x.h ≤ 800 ∧ 1 ≤ x.v
        ∧ x.v ≤ 1000)
      ∧ ∀ (i : Nat) (x y : Point), r.curve[i]? = some x → r.curve[i + 1]? = some y → x.h < y.h ∧ x.v ≤ y.v)
    ∧ (2 ≤ u8 p 28 ∧ u8 p 28 ≤ 4 ∧ r.leads.length = u8 p 28
      ∧ (∀ (i : Nat) (x : Point), r.leads[i]? = some x → x = ⟨u16 p (29 + 4 * i), u16 p (31 + 4 * i)⟩ ∧ 1 ≤ x.h ∧ x.h ≤ 800
        ∧ x.v ≤ 8000)
      ∧ ∀ (i : Nat) (x y : Point), r.leads[i]? = some x → r.leads[i + 1]? = some y → x.h < y.h)
    ∧ (r.offLead = u16 p 45 ∧ r.offLead ≤ 5000 ∧ r.maxHeight = u16 p 47 ∧ 1 ≤ r.maxHeight ∧ r.maxHeight ≤ 800
      ∧ r.rated = u32 p 49 ∧ 1 ≤ r.rated ∧ r.rated ≤ 300000 ∧ r.exposure = u8 p 53 ∧ r.exposure ≤ 3)
    ∧ (r.rampUp = u16 p 54 ∧ 20 ≤ r.rampUp ∧ r.rampUp ≤ 2000 ∧ r.rampDown = u16 p 56 ∧ 20 ≤ r.rampDown
      ∧ r.rampDown ≤ 2000 ∧ r.closeSpeed = u16 p 58 ∧ 1 ≤ r.closeSpeed ∧ r.closeSpeed ≤ 1000
      ∧ r.wetSpeed = u16 p 60 ∧ r.wetSpeed ≤ 1000 ∧ r.stroke = u16 p 62 ∧ 500 ≤ r.stroke ∧ r.stroke ≤ 10000) := by
  have curveAt (i : Nat) : (6 + 4 * i) = 4 + 4 * i + 2 := by omega
  have leadAt (i : Nat) : (31 + 4 * i) = 29 + 4 * i + 2 := by omega
  have curve := eq_pointsAt_iff r.curve p 4 (u8 p 3)
  have leads := eq_pointsAt_iff r.leads p 29 (u8 p 28)
  obtain ⟨configured, address, cpts, lpts, offLead, maxHeight, rated, exposure, rampUp, rampDown, closeSpeed, wetSpeed,
    stroke⟩ := r
  dsimp only at curve leads ⊢
  unfold groupOf
  dsimp only
  rw [Option.ite_none_right_eq_some]
  simp only [GroupRecord.ok, Bool.and_eq_true, decide_eq_true_eq, within_iff,
    curveOk_iff, leadsOk_iff, Option.some.injEq, GroupRecord.mk.injEq, curveAt, leadAt]
  constructor
  · rintro ⟨⟨h1, hc, hl, ok⟩, rfl, rfl, rfl, rfl, rfl, rfl, rfl, rfl, rfl, rfl, rfl, rfl, rfl⟩
    obtain ⟨⟨⟨⟨⟨⟨⟨⟨⟨⟨⟨ha, -, cin, crise⟩, -, lin, lrise⟩, ho⟩, hm⟩, hr⟩, he⟩, hu⟩, hd⟩, hs⟩, hw⟩, ht⟩ := ok
    obtain ⟨clen, cpt⟩ := curve.1 rfl
    obtain ⟨llen, lpt⟩ := leads.1 rfl
    exact ⟨⟨h1, rfl, rfl, ha⟩, ⟨hc.1, hc.2, clen, fun i x hx => ⟨cpt i x hx, cin i x hx⟩, crise⟩,
      ⟨hl.1, hl.2, llen, fun i x hx => ⟨lpt i x hx, lin i x hx⟩, lrise⟩,
      ⟨rfl, ho, rfl, hm.1, hm.2, rfl, hr.1, hr.2, rfl, he⟩,
      rfl, hu.1, hu.2, rfl, hd.1, hd.2, rfl, hs.1, hs.2, rfl, hw, rfl, ht.1, ht.2⟩
  · rintro ⟨⟨h1, rfl, rfl, ha⟩, ⟨c1, c2, clen, cpt, crise⟩, ⟨l1, l2, llen, lpt, lrise⟩,
      ⟨rfl, ho, rfl, m1, m2, rfl, r1, r2, rfl, he⟩,
      rfl, u1, u2, rfl, d1, d2, rfl, s1, s2, rfl, hw, rfl, t1, t2⟩
    have hcurve := curve.2 ⟨clen, fun i x hx => (cpt i x hx).1⟩
    have hleads := leads.2 ⟨llen, fun i x hx => (lpt i x hx).1⟩
    subst hcurve hleads
    refine ⟨⟨h1, ⟨c1, c2⟩, ⟨l1, l2⟩, ?_⟩, rfl, rfl, rfl, rfl, rfl, rfl, rfl, rfl, rfl, rfl, rfl, rfl, rfl⟩
    exact ⟨⟨⟨⟨⟨⟨⟨⟨⟨⟨⟨ha, by omega, fun i x hx => (cpt i x hx).2, crise⟩, by omega, fun i x hx => (lpt i x hx).2, lrise⟩, ho⟩,
      m1, m2⟩, r1, r2⟩, he⟩, u1, u2⟩, d1, d2⟩, s1, s2⟩, hw⟩, t1, t2⟩

/-! ## Wind settings -/

/-- A row of the derate table does not rise from one band to the next (R149). -/
theorem rowOk_iff (w : WindSettings) (c : Nat) : w.rowOk c = true ↔
    ∀ b, b < 7 → w.derate.getD (8 * c + (b + 1)) 0 ≤ w.derate.getD (8 * c + b) 0 := by
  rw [WindSettings.rowOk, chain_iff_getD]
  have entry (b : Nat) (h : b < 8) :
      ((List.range 8).map fun b => w.derateAt c b).getD b 0 = w.derate.getD (8 * c + b) 0 := by
    rw [List.getD_eq_getElem?_getD]
    simp [h, WindSettings.derateAt]
  have length : ((List.range 8).map fun b => w.derateAt c b).length = 8 := by simp
  rw [length]
  refine ⟨fun h b hb => ?_, fun h b hb => ?_⟩
  · have := h b (by omega)
    rw [entry b (by omega), entry (b + 1) (by omega)] at this
    exact of_decide_eq_true this
  · rw [entry b (by omega), entry (b + 1) (by omega)]
    exact decide_eq_true (h b (by omega))

theorem WindSettings.ok_iff (w : WindSettings) : w.ok = true ↔
    (1 ≤ w.factor ∧ w.factor ≤ 2000 ∧ 1 ≤ w.plausible ∧ w.plausible ≤ 65535 ∧ w.still ≤ 3600)
    ∧ (w.thresholds.length = 7
      ∧ (∀ i, i < 7 → 1 ≤ w.thresholds.getD i 0 ∧ w.thresholds.getD i 0 ≤ 2000)
      ∧ (∀ i, i < 6 → w.thresholds.getD i 0 < w.thresholds.getD (i + 1) 0)
      ∧ w.hysteresis ≤ 50 ∧ w.hysteresis < w.thresholds.getD 0 0)
    ∧ (5 ≤ w.calmHold ∧ w.calmHold ≤ 300)
    ∧ w.derate.length = 32 ∧ (∀ i, i < 32 → w.derate.getD i 0 ≤ 1000)
      ∧ ∀ c b, c < 4 → b < 7 → w.derate.getD (8 * c + (b + 1)) 0 ≤ w.derate.getD (8 * c + b) 0 := by
  have first : w.thresholds.headD 0 = w.thresholds.getD 0 0 := by cases w.thresholds <;> rfl
  simp only [WindSettings.ok, Bool.and_eq_true, within_iff, decide_eq_true_eq, List.all_eq_true, chain_iff_getD, first,
    List.mem_range, rowOk_iff]
  rw [forall_mem_iff_getD w.thresholds fun x => 1 ≤ x ∧ x ≤ 2000, forall_mem_iff_getD w.derate fun x => x ≤ 1000]
  constructor
  · rintro ⟨⟨⟨⟨⟨⟨⟨⟨⟨⟨⟨hf, hp⟩, hs⟩, tl⟩, tin⟩, hh⟩, hc⟩, dl⟩, din⟩, trise⟩, hht⟩, dfall⟩
    rw [tl] at tin trise
    rw [dl] at din
    exact ⟨⟨hf.1, hf.2, hp.1, hp.2, hs⟩, ⟨tl, tin, fun i hi => trise i (by omega), hh, hht⟩, hc, dl, din,
      fun c b hc hb => dfall c hc b hb⟩
  · rintro ⟨⟨f1, f2, p1, p2, hs⟩, ⟨tl, tin, trise, hh, hht⟩, hc, dl, din, dfall⟩
    refine ⟨⟨⟨⟨⟨⟨⟨⟨⟨⟨⟨⟨f1, f2⟩, p1, p2⟩, hs⟩, tl⟩, ?_⟩, hh⟩, hc⟩, dl⟩, ?_⟩, ?_⟩, hht⟩, fun c hc b hb => dfall c b hc hb⟩
    · rw [tl]; exact tin
    · rw [dl]; exact din
    · rw [tl]; exact fun i hi => trise i (by omega)

theorem windOf_iff (p : List Byte) (w : WindSettings) : windOf p = some w ↔
    (w.factor = u16 p 0 ∧ 1 ≤ w.factor ∧ w.factor ≤ 2000 ∧ w.plausible = u16 p 2 ∧ 1 ≤ w.plausible
      ∧ w.plausible ≤ 65535 ∧ w.still = u16 p 4 ∧ w.still ≤ 3600)
    ∧ (w.thresholds.length = 7
      ∧ (∀ i, i < 7 → w.thresholds.getD i 0 = u16 p (6 + 2 * i) ∧ 1 ≤ w.thresholds.getD i 0
        ∧ w.thresholds.getD i 0 ≤ 2000)
      ∧ (∀ i, i < 6 → w.thresholds.getD i 0 < w.thresholds.getD (i + 1) 0)
      ∧ w.hysteresis = u8 p 20 ∧ w.hysteresis ≤ 50 ∧ w.hysteresis < w.thresholds.getD 0 0)
    ∧ (w.calmHold = u16 p 21 ∧ 5 ≤ w.calmHold ∧ w.calmHold ≤ 300)
    ∧ (w.derate.length = 32
      ∧ (∀ i, i < 32 → w.derate.getD i 0 = u16 p (23 + 2 * i) ∧ w.derate.getD i 0 ≤ 1000)
      ∧ ∀ c b, c < 4 → b < 7 → w.derate.getD (8 * c + (b + 1)) 0 ≤ w.derate.getD (8 * c + b) 0) := by
  have thresholds := eq_map_range_iff_getD w.thresholds (fun i => u16 p (6 + 2 * i)) 7
  have derate := eq_map_range_iff_getD w.derate (fun i => u16 p (23 + 2 * i)) 32
  have ok := WindSettings.ok_iff w
  constructor
  · intro h
    obtain ⟨hok, e⟩ := eq_of_ite_some h
    rw [e, ok] at hok
    obtain ⟨⟨f1, f2, p1, p2, hs⟩, ⟨tl, tin, trise, hh, hht⟩, hc, dl, din, dfall⟩ := hok
    obtain ⟨-, tread⟩ := thresholds.1 (congrArg WindSettings.thresholds e).symm
    obtain ⟨-, dread⟩ := derate.1 (congrArg WindSettings.derate e).symm
    exact ⟨⟨(congrArg WindSettings.factor e).symm, f1, f2, (congrArg WindSettings.plausible e).symm, p1, p2,
        (congrArg WindSettings.still e).symm, hs⟩,
      ⟨tl, fun i hi => ⟨tread i hi, tin i hi⟩, trise, (congrArg WindSettings.hysteresis e).symm, hh, hht⟩,
      ⟨(congrArg WindSettings.calmHold e).symm, hc⟩, dl, fun i hi => ⟨dread i hi, din i hi⟩, dfall⟩
  · rintro ⟨⟨hf, f1, f2, hp, p1, p2, hst, hs⟩, ⟨tl, tin, trise, hhy, hh, hht⟩, ⟨hca, hc⟩, dl, din, dfall⟩
    have ht := thresholds.2 ⟨tl, fun i hi => (tin i hi).1⟩
    have hd := derate.2 ⟨dl, fun i hi => (din i hi).1⟩
    have e : w = ⟨u16 p 0, u16 p 2, u16 p 4, (List.range 7).map fun i => u16 p (6 + 2 * i), u8 p 20, u16 p 21,
        (List.range 32).map fun i => u16 p (23 + 2 * i)⟩ := by
      obtain ⟨factor, plausible, still, ts, hysteresis, calmHold, ds⟩ := w
      simp only [WindSettings.mk.injEq]
      exact ⟨hf, hp, hst, ht, hhy, hca, hd⟩
    have hok := ok.2 ⟨⟨f1, f2, p1, p2, hs⟩, ⟨tl, fun i hi => (tin i hi).2, trise, hh, hht⟩, hc, dl,
      fun i hi => (din i hi).2, dfall⟩
    unfold windOf
    dsimp only
    rw [← e, if_pos hok]

end Sys2Proof.Machine
end

section
/-! The settings requests that replace their settings and little else: SET_FIXTURE, SET_ZONE, SET_WIND, SET_LEVEL,
SET_DRIVE_BUS, SET_SHOW_OPTIONS (R60, R110, R124, R125, R149, R153, R189). -/

namespace Sys2Proof.Machine

open State

/-! ## The show state condition -/

theorem needIdle_active {s : State} (h : s.seq.st ≠ .idle) : s.needIdle = .error .showActive := by
  simp [State.needIdle, State.isIdle, h]

theorem needIdle_idle {s : State} (h : s.seq.st = .idle) : s.needIdle = .ok () := by
  simp [State.needIdle, State.isIdle, h]

/-! ## SET_FIXTURE -/

/-- A fixture that moves to another base forgets its latch and its timer, and is dark at once (R125). -/
theorem reassign_moved {x : Fixture} {old new : FixtureRecord} (start : Tick) (h : old.base ≠ new.base) :
    x.reassign old new start =
      { x with fade := FixtureFade.still (Quad.fill 0) start, latch := none, dryStart := none } := if_neg h

/-- A fixture that stays at its base keeps its fade and its latch (R125). -/
theorem reassign_stays {x : Fixture} {old new : FixtureRecord} (start : Tick) (h : old.base = new.base) :
    x.reassign old new start = if old.base ≠ 0 ∧ old.bound ≠ new.bound then { x with dryStart := none } else x := if_pos h

theorem exec_setFixture {s : State} {q : Request} (h : s.takes .setFixture q = true) :
    exec .setFixture s = .next (s.taken.judged q (s.judgeSetFixture q.payload) fun a =>
      (s.taken.answer q .ok []).setFixture a.1 a.2).kick := congrArg Host.Outcome.next (serve_takes s _ anyOf _ q h rfl)

/-- Settles O39: the payload's readings, the overlap test, and the accepted record's effect on the one fixture. -/
theorem setFixtureReplacesTheRecord : Obligations.SetFixtureReplacesTheRecord := by
  unfold Obligations.SetFixtureReplacesTheRecord
  refine ⟨fixtureOf_iff, slotTaken_iff, fun s q ht => ?_⟩
  rw [exec_setFixture ht]
  refine ⟨fun h => congrArg Host.Outcome.next (judged_refused ?_), fun f hf => ⟨fun h =>
    congrArg Host.Outcome.next (judged_refused ?_), fun hi hn => congrArg Host.Outcome.next (judged_refused ?_),
    fun r hi hr => ⟨fun h => congrArg Host.Outcome.next (judged_refused ?_), fun h => ?_⟩⟩⟩
  · simp [State.judgeSetFixture, indexOf_ge h]
  · simp [State.judgeSetFixture, indexOf_val f hf, needIdle_active h]
  · simp [State.judgeSetFixture, indexOf_val f hf, needIdle_idle hi, hn]
  · simp [State.judgeSetFixture, indexOf_val f hf, needIdle_idle hi, hr, h]
  · have hj : s.judgeSetFixture q.payload = .ok (f, r) := by
      simp [State.judgeSetFixture, indexOf_val f hf, needIdle_idle hi, hr, h]
    rw [judged_passed hj]
    refine ⟨_, rfl, rfl, rfl, rfl, ?_, fun g hg => ?_, rfl⟩
    · have at_f : (s.lgt.fixtures.modify f fun x =>
          x.reassign (s.cfg.fixtures.get f) r (Config.fixtureFadeStart s.fresh f.val)).get f
            = (s.lgt.fixtures.get f).reassign (s.cfg.fixtures.get f) r (Config.fixtureFadeStart s.fresh f.val) := by
        simp [Sys2Proof.Table.get_modify]
      intro old x y
      have hy : y = x.reassign old r (Config.fixtureFadeStart s.fresh f.val) := at_f
      rw [hy]
      refine ⟨fun hb => ?_, fun hb => ?_, fun hb h0 hne => ?_, fun hb he => ?_⟩
      · rw [reassign_moved _ hb]; exact ⟨rfl, rfl, rfl, rfl, rfl, rfl⟩
      · rw [reassign_stays _ hb]; split <;> exact ⟨rfl, rfl⟩
      · rw [reassign_stays _ hb, if_pos ⟨h0, hne⟩]
      · rw [reassign_stays _ hb, if_neg fun k => k.2 he]
    · refine (Sys2Proof.Table.get_modify _ f g _).trans ?_
      rw [if_neg (Ne.symm hg)]
      rfl

/-! ## SET_ZONE, SET_WIND, SET_LEVEL, SET_DRIVE_BUS -/

theorem poolTaken_sum (zones : Table 4 ZoneRecord) :
    poolTaken zones = ((List.finRange 4).map fun i => 48 * (zones.get i).delay).sum := by
  have hcells := Table.cells_eq_map zones
  unfold poolTaken
  rw [hcells, List.map_map]
  rfl

/-- SET_ZONE by its cases (R60). -/
theorem setZone_cases (s : State) (q : Request) (ht : s.takes .setZone q = true) :
    (4 ≤ u8 q.payload 0 → exec .setZone s = .next (s.answered q .outOfRange []))
    ∧ ∀ z : Fin 4, u8 q.payload 0 = z.val →
      (s.seq.st ≠ .idle → exec .setZone s = .next (s.answered q .showActive []))
      ∧ (s.seq.st = .idle → zoneOf q.payload = none → exec .setZone s = .next (s.answered q .outOfRange []))
      ∧ ∀ r, s.seq.st = .idle → zoneOf q.payload = some r →
        (poolSize < poolTaken (s.cfg.zones.set z r) → exec .setZone s = .next (s.answered q .delayPool []))
        ∧ (poolTaken (s.cfg.zones.set z r) ≤ poolSize →
          exec .setZone s = .next ((s.taken.answer q .ok []).setZone z r).kick) := by
  have run : exec .setZone s = .next (s.taken.judged q (s.judgeSetZone q.payload) fun a =>
      (s.taken.answer q .ok []).setZone a.1 a.2).kick := congrArg Host.Outcome.next (serve_takes s _ anyOf _ q ht rfl)
  rw [run]
  refine ⟨fun h => congrArg Host.Outcome.next (judged_refused ?_), fun z hz => ⟨fun h =>
    congrArg Host.Outcome.next (judged_refused ?_), fun hi hn => congrArg Host.Outcome.next (judged_refused ?_),
    fun r hi hr => ⟨fun h => congrArg Host.Outcome.next (judged_refused ?_), fun h => ?_⟩⟩⟩
  · simp [State.judgeSetZone, indexOf_ge h]
  · simp [State.judgeSetZone, indexOf_val z hz, needIdle_active h]
  · simp [State.judgeSetZone, indexOf_val z hz, needIdle_idle hi, hn]
  · simp [State.judgeSetZone, indexOf_val z hz, needIdle_idle hi, hr, h]
  · have hj : s.judgeSetZone q.payload = .ok (z, r) := by
      simp [State.judgeSetZone, indexOf_val z hz, needIdle_idle hi, hr, Nat.not_lt.2 h]
    rw [judged_passed hj]

/-- An accepted zone record leaves AUD but for its delay lines, which a changed delay clears (R60). -/
theorem setZone_eq (s : State) (z : Fin 4) (r : ZoneRecord) : s.setZone z r = { s.markModified with
    cfg := { s.cfg with zones := s.cfg.zones.set z r }
    aud := { s.aud with
      lines := if r.delay = (s.cfg.zones.get z).delay then s.aud.lines else zeroLines (s.cfg.zones.set z r) } } := by
  unfold State.setZone
  split <;> rfl

/-- The requests of one record without an index and their common shape: refused in a show, then where the payload gives
nothing, else acted on. -/
theorem judged_idle_need {α : Type} (s : State) (q : Request) (o : Option α) (st : Status) (act : α → State) :
    let run := (s.taken.judged q (s.needIdle >>= fun _ => need o st) act).kick
    (s.seq.st ≠ .idle → run = s.answered q .showActive []) ∧ (s.seq.st = .idle → o = none → run = s.answered q st [])
      ∧ ∀ a, s.seq.st = .idle → o = some a → run = (act a).kick := by
  refine ⟨fun h => judged_refused ?_, fun hi hn => judged_refused ?_, fun a hi ha => ?_⟩
  · rw [needIdle_active h]; rfl
  · rw [needIdle_idle hi, hn]; rfl
  · rw [needIdle_idle hi, ha]; rfl

/-! ## SET_SHOW_OPTIONS -/

theorem judgeSetShowOptions_eq (s : State) (p : List Byte) (o : ShowOptions) (ho : optionsOf p = some o) :
    s.judgeSetShowOptions p =
      if s.seq.st ≠ .idle ∧ ((o.annClip ≠ s.cfg.options.annClip ∨ o.gap ≠ s.cfg.options.gap)
        ∨ o.stopFade ≠ s.cfg.options.stopFade) then .error .showActive
      else if s.sup.mode = .tripped ∧ (o.annClip ≠ s.cfg.options.annClip ∨ o.gap ≠ s.cfg.options.gap) then .error .tripped
      else .ok o := by
  unfold State.judgeSetShowOptions
  rw [ho, need_some, ok_bind, refuseIf_bind]
  simp only [refuseIf_bind, Bool.and_eq_true, Bool.or_eq_true, decide_eq_true_eq, Bool.not_eq_true', ← Bool.not_eq_true,
    isIdle_eq_true, isTripped_eq_true, and_comm (b := ¬s.seq.st = .idle), and_comm (b := s.sup.mode = .tripped)]
  rfl

/-- The announcement's lock after a changed clip setting (R171, R172). -/
theorem relockAnnouncement_cases (s : State) : (lookupClip s.aud.clips s.cfg.options.annClip = none →
      (s.relockAnnouncement).flp.annWaiting = none
        ∧ (s.relockAnnouncement).flp.locks = s.flp.locks.filter fun k => k.owner.ofShow)
    ∧ ∀ c, lookupClip s.aud.clips s.cfg.options.annClip = some c →
      if s.flp.serviceMeets (clipExtent c) = true then
        (s.relockAnnouncement).flp.annWaiting = some (clipExtent c)
          ∧ (s.relockAnnouncement).flp.locks = s.flp.locks.filter fun k => k.owner.ofShow
      else (s.relockAnnouncement).flp.annWaiting = none ∧ (s.relockAnnouncement).flp.locks =
        (s.flp.locks.filter fun k => k.owner.ofShow) ++ [⟨.announcement, (clipExtent c).1, (clipExtent c).2⟩] := by
  refine ⟨fun h => ?_, fun c h => ?_⟩
  · simp [State.relockAnnouncement, h]
  · cases hm : s.flp.serviceMeets (clipExtent c) <;> simp [State.relockAnnouncement, h, hm]

/-- Moving the lock touches nothing but FLP. -/
theorem relockAnnouncement_eq (s : State) : s.relockAnnouncement = { s with flp := (s.relockAnnouncement).flp } := by
  unfold State.relockAnnouncement
  dsimp only
  split
  · rfl
  · split <;> rfl

/-- Moving the lock leaves the image state. -/
theorem relockAnnouncement_image (s : State) : (s.relockAnnouncement).flp.image = s.flp.image := by
  unfold State.relockAnnouncement
  dsimp only
  split
  · rfl
  · split <;> rfl

/-- The options replaced and the image MODIFIED, before the announcement's lock moves (R189). -/
def State.withOptions (s : State) (o : ShowOptions) : State :=
  { s.markModified with cfg := { s.cfg with options := o } }

theorem setShowOptions_same {s : State} {o : ShowOptions} (h : o.annClip = s.cfg.options.annClip) :
    s.setShowOptions o = s.withOptions o := if_pos h

theorem setShowOptions_moved {s : State} {o : ShowOptions} (h : o.annClip ≠ s.cfg.options.annClip) :
    s.setShowOptions o = (s.withOptions o).relockAnnouncement := if_neg h

/-- SET_SHOW_OPTIONS by its cases (R65, R171, R189). -/
theorem setShowOptions_cases (s : State) (q : Request) (ht : s.takes .setShowOptions q = true) :
    (optionsOf q.payload = none → exec .setShowOptions s = .next (s.answered q .outOfRange []))
    ∧ ∀ o, optionsOf q.payload = some o →
      (s.seq.st ≠ .idle → (o.annClip ≠ s.cfg.options.annClip ∨ o.gap ≠ s.cfg.options.gap)
          ∨ o.stopFade ≠ s.cfg.options.stopFade →
        exec .setShowOptions s = .next (s.answered q .showActive []))
      ∧ (s.seq.st = .idle → s.sup.mode = .tripped →
          o.annClip ≠ s.cfg.options.annClip ∨ o.gap ≠ s.cfg.options.gap →
        exec .setShowOptions s = .next (s.answered q .tripped []))
      ∧ (¬(s.seq.st ≠ .idle ∧ ((o.annClip ≠ s.cfg.options.annClip ∨ o.gap ≠ s.cfg.options.gap)
            ∨ o.stopFade ≠ s.cfg.options.stopFade)) →
          ¬(s.sup.mode = .tripped ∧ (o.annClip ≠ s.cfg.options.annClip ∨ o.gap ≠ s.cfg.options.gap)) →
        exec .setShowOptions s = .next ((s.taken.answer q .ok []).setShowOptions o).kick) := by
  have run : exec .setShowOptions s = .next (s.taken.judged q (s.judgeSetShowOptions q.payload) fun o =>
      (s.taken.answer q .ok []).setShowOptions o).kick := congrArg Host.Outcome.next (serve_takes s _ anyOf _ q ht rfl)
  rw [run]
  refine ⟨fun h => congrArg Host.Outcome.next (judged_refused ?_), fun o ho => ⟨fun hs ha =>
    congrArg Host.Outcome.next (judged_refused ?_), fun hi ht ha => congrArg Host.Outcome.next (judged_refused ?_),
    fun h1 h2 => ?_⟩⟩
  · simp [State.judgeSetShowOptions, h]
  · rw [judgeSetShowOptions_eq s _ o ho, if_pos ⟨hs, ha⟩]
  · rw [judgeSetShowOptions_eq s _ o ho, if_neg fun k => k.1 hi, if_pos ⟨ht, ha⟩]
  · rw [judged_passed (a := o)]
    rw [judgeSetShowOptions_eq s _ o ho, if_neg h1, if_neg h2]

/-- Settles O58: the payloads' readings, and each request by its cases. -/
theorem otherSettingsAreReplaced : Obligations.OtherSettingsAreReplaced := by
  unfold Obligations.OtherSettingsAreReplaced
  refine ⟨⟨fun p z => ?_, windOf_iff, levelOf_iff, optionsOf_iff⟩, fun s q => ?_⟩
  · rw [zoneOf_iff]; cases z.source <;> rfl
  intro done
  refine ⟨fun ht => ?_, fun ht => ?_, fun ht => ?_, fun ht => ?_, fun ht => ?_⟩
  · obtain ⟨out, at_z⟩ := setZone_cases s q ht
    refine ⟨out, fun z hz => ?_⟩
    obtain ⟨active, none, given⟩ := at_z z hz
    refine ⟨active, none, fun r hi hr => ?_⟩
    obtain ⟨full, fits⟩ := given r hi hr
    rw [poolTaken_sum] at full fits
    refine ⟨full, fun h => (fits h).trans ?_⟩
    rw [setZone_eq]
    rfl
  · have run : exec .setWind s = .next (s.taken.judged q (s.needIdle >>= fun _ => need (windOf q.payload) .outOfRange)
        fun w => (s.taken.answer q .ok []).setWind w).kick := congrArg Host.Outcome.next (serve_takes s _ anyOf _ q ht rfl)
    obtain ⟨active, none, given⟩ := judged_idle_need s q (windOf q.payload) .outOfRange
      fun w => (s.taken.answer q .ok []).setWind w
    rw [run]
    exact ⟨fun h => congrArg _ (active h), fun hi h => congrArg _ (none hi h), fun w hi h => congrArg _ (given w hi h)⟩
  · have run : exec .setLevel s = .next (s.taken.judged q (s.needIdle >>= fun _ => need (levelOf q.payload) .outOfRange)
        fun l => (s.taken.answer q .ok []).setLevel l).kick := congrArg Host.Outcome.next (serve_takes s _ anyOf _ q ht rfl)
    obtain ⟨active, none, given⟩ := judged_idle_need s q (levelOf q.payload) .outOfRange
      fun l => (s.taken.answer q .ok []).setLevel l
    rw [run]
    exact ⟨fun h => congrArg _ (active h), fun hi h => congrArg _ (none hi h), fun w hi h => congrArg _ (given w hi h)⟩
  · have run : exec .setDriveBus s = .next (s.taken.judged q
        (s.needIdle >>= fun _ => need (windowOf q.payload) .outOfRange)
        fun w => (s.taken.answer q .ok []).setDriveBus w).kick :=
      congrArg Host.Outcome.next (serve_takes s _ anyOf _ q ht rfl)
    obtain ⟨active, none, given⟩ := judged_idle_need s q (windowOf q.payload) .outOfRange
      fun w => (s.taken.answer q .ok []).setDriveBus w
    rw [run]
    refine ⟨fun h => congrArg _ (active h), fun hi h => congrArg _ (none hi ?_),
      fun hi h1 h2 => congrArg _ (given _ hi ?_)⟩
    · rw [windowOf_eq, if_neg (by omega)]
    · rw [windowOf_eq, if_pos ⟨h1, h2⟩]
  · obtain ⟨out, given⟩ := setShowOptions_cases s q ht
    refine ⟨out, fun o ho => ?_⟩
    obtain ⟨active, tripped, taken⟩ := given o ho
    refine ⟨active, tripped, fun h1 h2 => ⟨_, taken h1 h2, ?_⟩⟩
    by_cases same : o.annClip = s.cfg.options.annClip
    · rw [setShowOptions_same (s := s.taken.answer q .ok []) same]
      exact ⟨rfl, rfl, rfl, fun _ => rfl, fun h => absurd same h, rfl⟩
    · obtain ⟨absent, present⟩ := relockAnnouncement_cases ((s.taken.answer q .ok []).withOptions o)
      rw [setShowOptions_moved (s := s.taken.answer q .ok []) same, relockAnnouncement_eq]
      refine ⟨rfl, relockAnnouncement_image _, rfl, fun h => absurd h same, fun _ => ⟨absent, present⟩, rfl⟩

end Sys2Proof.Machine
end

section
/-! Two things that the requests and the events leave: what FLP knows beside its port, its queues and its locks, and the reports
that have been made (R168 to R171, R184, R185). -/

namespace Sys2Proof.Machine

/-! ## FLP without its port, its queues and its locks -/

/-- What FLP knows: the device, the service at work, the image's state, the settings work and the lock that waits. -/
def Flp.core (f : Flp) : Flp :=
  { f with port := .free, internalQ := [], lifQ := [], turn := .internal, locks := [], flagByNow := false }

namespace Flp

variable {f g : Flp}

theorem image_of_core (h : f.core = g.core) : f.image = g.image := (congrArg Flp.image h :)
theorem presence_of_core (h : f.core = g.core) : f.presence = g.presence := (congrArg Flp.presence h :)
theorem work_of_core (h : f.core = g.core) : f.work = g.work := (congrArg Flp.work h :)
theorem settingsWork_of_core (h : f.core = g.core) : f.settingsWork = g.settingsWork := (congrArg Flp.settingsWork h :)
theorem annWaiting_of_core (h : f.core = g.core) : f.annWaiting = g.annWaiting := (congrArg Flp.annWaiting h :)

end Flp

namespace State

variable (s : State)

@[simp] theorem startTxn_core (t : Txn) : (s.startTxn t).flp.core = s.flp.core := rfl

@[simp] theorem chooseTxn_core : s.chooseTxn.flp.core = s.flp.core := by
  unfold chooseTxn
  split
  · rfl
  · split
    · rfl
    · rfl
    · rfl
    · split <;> rfl

@[simp] theorem arbitrate_core : s.arbitrate.flp.core = s.flp.core := by
  unfold arbitrate
  split
  · exact chooseTxn_core s
  · split <;> rfl
  all_goals rfl

@[simp] theorem settleFlash_core : s.settleFlash.flp.core = s.flp.core := arbitrate_core _

theorem chooseTxn_locks : s.chooseTxn.flp.locks = s.flp.locks := by
  unfold chooseTxn
  split
  · rfl
  · split
    · rfl
    · rfl
    · rfl
    · split <;> rfl

@[simp] theorem settleFlash_locks : s.settleFlash.flp.locks = s.flp.locks := by
  unfold settleFlash arbitrate
  split
  · exact chooseTxn_locks _
  · split <;> rfl
  all_goals rfl

@[simp] theorem settle_core : s.settle.flp.core = s.flp.core := by
  unfold settle
  rw [kick_flp, settleSite_flp, settleFlash_core]

@[simp] theorem settle_locks : s.settle.flp.locks = s.flp.locks := by
  unfold settle
  rw [kick_flp, settleSite_flp, settleFlash_locks]

@[simp] theorem showIdle_core (r : EndReason) : (s.showIdle r).flp.core = s.flp.core := rfl

@[simp] theorem testStopping_core : s.testStopping.flp.core = s.flp.core := by
  unfold testStopping
  split
  · split <;> rfl
  · rfl

@[simp] theorem enterStopping_core (r : EndReason) : (s.enterStopping r).flp.core = s.flp.core := testStopping_core _

@[simp] theorem failLoad_core (f : Failure) (c : Option Nat) (l : List Byte) (r : EndReason) :
    (s.failLoad f c l r).flp.core = s.flp.core := by
  unfold failLoad
  rw [endService_flp]
  exact showIdle_core _ r

@[simp] theorem interruptLoad_core (f : Failure) (r : EndReason) : (s.interruptLoad f r).flp.core = s.flp.core :=
  failLoad_core _ _ _ _ _

@[simp] theorem abortShow_core (f : Failure) (r : EndReason) : (s.abortShow f r).flp.core = s.flp.core := by
  unfold abortShow
  split
  · rfl
  · exact interruptLoad_core _ _ _
  all_goals rfl

@[simp] theorem offerChange_core : s.offerChange.flp.core = s.flp.core := by
  unfold offerChange
  rw [judgeDrop_flp, testStopping_core]

@[simp] theorem changeInterlock_core (g : Fin 24) (left into : Interlock) (cause : FaultCause) (code : Option Byte) :
    (s.changeInterlock g left into cause code).flp.core = s.flp.core := by
  unfold changeInterlock
  rw [offerChange_core, postAtChange_flp, sayGroup_flp, withGroup_flp]

@[simp] theorem findGroup_core (g : Fin 24) : (s.findGroup g).flp.core = s.flp.core := by
  unfold findGroup
  split
  · exact changeInterlock_core _ _ _ _ _ _
  · rfl

@[simp] theorem loseGroup_core (g : Fin 24) : (s.loseGroup g).flp.core = s.flp.core := by
  unfold loseGroup
  split
  · rfl
  · rfl
  · exact changeInterlock_core _ _ _ _ _ _

@[simp] theorem bringDown_core (g : Fin 24) : (s.bringDown g).flp.core = s.flp.core := by
  unfold bringDown
  split
  · rfl
  · dsimp only
    split
    · exact changeInterlock_core _ _ _ _ _ _
    · rfl

@[simp] theorem waterDown_core : s.waterDown.flp.core = s.flp.core :=
  eachGroup_field (fun t : State => t.flp.core) (fun g (t : State) => t.bringDown g) (fun t g => bringDown_core t g) s

@[simp] theorem enterDry_core : s.enterDry.flp.core = s.flp.core := by
  unfold enterDry
  split
  · dsimp only
    split
    · rw [zeroFades_flp, enterStopping_core]
    · rw [enterStopping_core, zeroFades_flp]
  · rw [zeroFades_flp]

@[simp] theorem levelMoved_core (before : LevelState) : (s.levelMoved before).flp.core = s.flp.core := by
  unfold levelMoved
  split
  · rfl
  · split
    · rw [enterDry_core, oweSite_flp]
    · rfl

@[simp] theorem validityActs_core (i : Fin 27) (before : LevelState) : (s.validityActs i before).flp.core = s.flp.core := by
  unfold validityActs
  dsimp only
  split
  · split <;> rfl
  · split
    · exact levelMoved_core _ _
    · split
      · rfl
      · split
        · split
          · exact findGroup_core _ _
          · exact loseGroup_core _ _
        · rfl

@[simp] theorem moveChannel_core (i : Fin 27) (c : Channel) : (s.moveChannel i c).flp.core = s.flp.core := by
  unfold moveChannel
  dsimp only
  split
  · rfl
  · rw [validityActs_core, report_flp, withChannel_flp]

@[simp] theorem evaluate_core (i : Fin 27) (e : Evaluation) : (s.evaluate i e).flp.core = s.flp.core := moveChannel_core _ _ _

@[simp] theorem resetChannel_core (i : Fin 27) : (s.resetChannel i).flp.core = s.flp.core := by
  unfold resetChannel
  dsimp only
  split
  · rfl
  · exact moveChannel_core _ _ _

/-- Where no show is stopping, the end condition of STOPPING is not there to be tested. -/
theorem testStopping_other {s : State} (h : s.seq.st ≠ .stopping) : s.testStopping = s := by
  have : s.stopEndHolds = false := by
    unfold stopEndHolds
    split
    next hst _ _ => exact absurd hst h
    · rfl
  simp [testStopping, this]

end State

/-! ## Reports that have been made -/

/-- A report waits in the queue or is being sent. -/
def Lif.Carries (l : Lif) (r : Report) : Prop := r ∈ l.reports ∨ l.tx = some (.report r)

namespace Lif.Carries

variable {l m : Lif} {r : Report}

theorem kick (h : l.Carries r) : l.kick.Carries r := by
  rcases h with h | h
  · exact kick_keeps l r h
  · rw [kick_busy l (by rw [h]; rfl)]
    exact .inr h

theorem grows {n : Nat} (h : l.Carries r) (g : l.Grows n m) : m.Carries r :=
  h.imp g.mem fun e => g.tx.trans e

end Lif.Carries

theorem makes_of_enabled {l : Lif} {r : Report} (h : ∀ c, r.category = some c → l.enable.getLsbD c.bit = true) :
    l.makes r = true := by
  unfold Lif.makes
  split
  · rfl
  next c hc => exact h c hc

theorem makes_of_enable {l m : Lif} {r : Report} (h : m.enable = l.enable) : m.makes r = l.makes r := by
  unfold Lif.makes
  rw [h]

/-- A report that is made while its queue has room is there afterwards. -/
theorem carries_report {u : State} {r : Report} (on : u.lif.makes r = true) (room : u.lif.reports.length < 16) :
    (u.report r).lif.Carries r := by
  refine .inl ?_
  rw [report_queued u r on room]
  exact List.mem_append_right _ List.mem_cons_self

/-- A command says what it reports after at most n others, however the link goes on. -/
theorem says_of_report {s u t : State} {l : Lif} {n before : Nat} {r : Report} (enable : l.enable = s.lif.enable)
    (reports : l.reports = s.lif.reports) (g : l.Grows n u.lif) (le : n ≤ before)
    (goesOn : (u.report r).lif.Carries r → t.lif.Carries r) : s.says t before r := by
  intro on room
  refine goesOn (carries_report ?_ ?_)
  · rw [makes_of_enable (g.enable.trans enable)]
    exact makes_of_enabled on
  · have := g.length_le
    rw [reports] at this
    omega

end Sys2Proof.Machine
end

section
/-! SET_COUNTER and SET_GROUP: a channel and a group that take new settings (R72, R88, R109, R120, R145, R155). -/

namespace Sys2Proof.Machine

open State

/-! ## Channels that move -/

theorem groupOfChannel_drive (g : Fin 24) : groupOfChannel (driveChannel g) = some g := by
  have := g.isLt
  simp [groupOfChannel, driveChannel]

theorem driveChannel_val (g : Fin 24) : (driveChannel g).val = g.val + 2 := rfl

/-- A change of validity of a DRIVE channel finds its group or loses it (R144). -/
theorem validityActs_drive (s : State) (g : Fin 24) (before : LevelState) :
    s.validityActs (driveChannel g) before =
      if (s.sup.channels.get (driveChannel g)).valid = true then s.findGroup g else s.loseGroup g := by
  have := g.isLt
  have hv := driveChannel_val g
  unfold State.validityActs
  dsimp only
  rw [if_neg (by omega), if_neg (by omega), if_neg (by omega), groupOfChannel_drive]

/-- A channel that keeps its validity only takes its new values. -/
theorem moveChannel_same {s : State} {i : Fin 27} {c : Channel} (h : c.valid = (s.sup.channels.get i).valid) :
    s.moveChannel i c = s.withChannel i c := if_pos h

/-- A channel whose validity changes is reported, and its neighbours act. -/
theorem moveChannel_turned {s : State} {i : Fin 27} {c : Channel} (h : c.valid ≠ (s.sup.channels.get i).valid) :
    s.moveChannel i c =
      ((s.withChannel i c).report (.validity i c.valid c.counter c.fatal)).validityActs i s.sup.effective := if_neg h

theorem withChannel_get (s : State) (i : Fin 27) (c : Channel) : (s.withChannel i c).sup.channels.get i = c :=
  Sys2Proof.Table.get_set_self _ _ _

/-- A DRIVE channel that turns VALID finds its group (R99, R144). -/
theorem moveChannel_found {s : State} {g : Fin 24} {c : Channel} (h : (s.sup.channels.get (driveChannel g)).valid = false)
    (hc : c.valid = true) : s.moveChannel (driveChannel g) c =
      ((s.withChannel (driveChannel g) c).report (.validity (driveChannel g) c.valid c.counter c.fatal)).findGroup g := by
  rw [moveChannel_turned (by rw [h, hc]; exact Bool.noConfusion), validityActs_drive, report_sup, withChannel_get, if_pos hc]

/-- A DRIVE channel that turns INVALID loses its group (R99, R144). -/
theorem moveChannel_lost {s : State} {g : Fin 24} {c : Channel} (h : (s.sup.channels.get (driveChannel g)).valid = true)
    (hc : c.valid = false) : s.moveChannel (driveChannel g) c =
      ((s.withChannel (driveChannel g) c).report (.validity (driveChannel g) c.valid c.counter c.fatal)).loseGroup g := by
  rw [moveChannel_turned (by rw [h, hc]; exact Bool.noConfusion), validityActs_drive, report_sup, withChannel_get,
    if_neg (by rw [hc]; exact Bool.noConfusion)]

theorem resetChannel_fatal {s : State} {i : Fin 27} (h : (s.sup.channels.get i).fatal = true) : s.resetChannel i = s :=
  if_pos h

theorem resetChannel_live {s : State} {i : Fin 27} (h : (s.sup.channels.get i).fatal = false) :
    s.resetChannel i = s.moveChannel i { s.sup.channels.get i with counter := 0, valid := true } :=
  if_neg (by rw [h]; exact Bool.false_ne_true)

/-- A LOST group whose DRIVE channel turns VALID enters CLOSING afresh (R95, R99). -/
theorem findGroup_lost_groups {s : State} {g : Fin 24} (h : (s.groups.get g).interlock = some .lost) :
    (s.findGroup g).groups = s.groups.set g { s.groups.get g with
      interlock := some .closing, cause := .none, c0 := 0
      stroke := some ⟨s.clock, (s.groupRecord g).stroke⟩ } := by
  unfold State.findGroup
  rw [h]
  exact changeInterlock_groups s g .lost .closing .none none

/-! ## SET_COUNTER -/

/-- The state under a channel's new limit and hold, before the channel is reset. -/
def State.withCounter (s : State) (i : Fin 27) (k : CounterSettings) : State :=
  { s.markModified with cfg := { s.cfg with counters := s.cfg.counters.set i k } }

theorem setCounter_eq (s : State) (i : Fin 27) (k : CounterSettings) :
    s.setCounter i k = ((s.withCounter i k).resetChannel i).settle := rfl

/-- A VALID channel is reset without a word to its group (R145). -/
theorem resetChannel_groups_valid {s : State} {i : Fin 27} (h : (s.sup.channels.get i).valid = true) :
    (s.resetChannel i).groups = s.groups := by
  cases hf : (s.sup.channels.get i).fatal
  · rw [resetChannel_live hf, moveChannel_same h.symm, withChannel_groups]
  · rw [resetChannel_fatal hf]

/-- An INVALID DRIVE channel that is reset finds its LOST group (R99, R145). -/
theorem resetChannel_groups_lost {s : State} {g : Fin 24} (lost : (s.groups.get g).interlock = some .lost)
    (live : (s.sup.channels.get (driveChannel g)).fatal = false)
    (down : (s.sup.channels.get (driveChannel g)).valid = false) :
    (s.resetChannel (driveChannel g)).groups = s.groups.set g { s.groups.get g with
      interlock := some .closing, cause := .none, c0 := 0
      stroke := some ⟨s.clock, (s.groupRecord g).stroke⟩ } := by
  rw [resetChannel_live live, moveChannel_found down rfl]
  exact findGroup_lost_groups lost

theorem setCounter_channels (s : State) (i : Fin 27) (k : CounterSettings) :
    (s.setCounter i k).sup.channels = if (s.sup.channels.get i).fatal = true then s.sup.channels
      else s.sup.channels.set i { s.sup.channels.get i with counter := 0, valid := true } := by
  rw [setCounter_eq, State.settle, kick_sup, settleSite_channels, settleFlash_sup]
  cases hf : (s.sup.channels.get i).fatal
  · rw [resetChannel_live (s := s.withCounter i k) hf, moveChannel_channels]
    rfl
  · rw [resetChannel_fatal (s := s.withCounter i k) hf]
    rfl

/-- The link's course through the end of a step. -/
theorem settle_carries {s : State} {r : Report} (h : s.lif.Carries r) : s.settle.lif.Carries r :=
  Lif.Carries.kick (h.grows (settleSite_grows (settleFlash_grows (.refl 0 s.lif))))

/-- An INVALID channel that is reset is reported VALID (R144, R145). -/
theorem setCounter_says (s : State) (q : Request) (i : Fin 27) (k : CounterSettings)
    (live : (s.sup.channels.get i).fatal = false) (down : (s.sup.channels.get i).valid = false) :
    s.says ((s.taken.answer q .ok []).setCounter i k).kick 2 (.validity i true 0 false) := by
  rw [← live, setCounter_eq, resetChannel_live (s := (s.taken.answer q .ok []).withCounter i k) live,
    moveChannel_turned (s := (s.taken.answer q .ok []).withCounter i k) (fun h => Bool.noConfusion (h.trans down))]
  refine says_of_report (l := (s.taken.answer q .ok []).lif) rfl rfl (.refl 0 _) (Nat.zero_le 2) fun h =>
    Lif.Carries.kick (settle_carries (Lif.Carries.grows h (validityActs_grows (.refl 0 _))))

/-- Settles O47: the payload's reading, and what the reset channel does to the site and to its group. -/
theorem setCounterResetsTheChannel : Obligations.SetCounterResetsTheChannel := by
  unfold Obligations.SetCounterResetsTheChannel
  refine ⟨counterOf_iff, fun s q ht => ?_⟩
  have run : exec .setCounter s = .next (s.taken.judged q (s.judgeSetCounter q.payload) fun a =>
      (s.taken.answer q .ok []).setCounter a.1 a.2).kick := congrArg Host.Outcome.next (serve_takes s _ anyOf _ q ht rfl)
  rw [run]
  refine ⟨fun h => congrArg Host.Outcome.next (judged_refused ?_), fun i hi => ⟨fun h =>
    congrArg Host.Outcome.next (judged_refused ?_), fun idle hn => congrArg Host.Outcome.next (judged_refused ?_),
    fun k idle hk => ?_⟩⟩
  · simp [State.judgeSetCounter, indexOf_ge h]
  · simp [State.judgeSetCounter, indexOf_val i hi, needIdle_active h]
  · simp [State.judgeSetCounter, indexOf_val i hi, needIdle_idle idle, hn]
  · have hj : s.judgeSetCounter q.payload = .ok (i, k) := by
      simp [State.judgeSetCounter, indexOf_val i hi, needIdle_idle idle, hk]
    rw [judged_passed hj]
    refine ⟨_, rfl, ?_, ?_, setCounter_channels _ i k, fun live down => setCounter_says s q i k live down,
      kick_siteJudged (settle_siteJudged _), fun g hg lost live down => ?_, fun up => ?_, ?_, ?_, ?_⟩
    · rw [kick_cfg, setCounter_eq, settle_cfg, resetChannel_cfg]; rfl
    · rw [kick_flp, setCounter_eq]
      exact Flp.image_of_core ((settle_core _).trans (resetChannel_core _ _))
    · subst hg
      rw [kick_groups, setCounter_eq, settle_groups]
      exact resetChannel_groups_lost (s := (s.taken.answer q .ok []).withCounter (driveChannel g) k) lost live down
    · rw [kick_groups, setCounter_eq, settle_groups]
      exact resetChannel_groups_valid (s := (s.taken.answer q .ok []).withCounter i k) up
    · rw [kick_clock, setCounter_eq, settle_clock, resetChannel_clock]; rfl
    · rw [kick_dbm, setCounter_eq, settle_dbm, resetChannel_dbm]; rfl
    · rw [kick_pins, setCounter_eq, settle_pins, resetChannel_pins]; rfl

end Sys2Proof.Machine
end

section
/-! SET_GROUP: a group's record replaced, with its effect on the interlock, the schedule and FDA (R72, R88, R109, R120, R155). -/

namespace Sys2Proof.Machine

open State

/-! ## Demand posts -/

/-- After a post the group's demand is the speed posted (R118). -/
theorem postDemand_get (s : State) (g : Fin 24) (v : Nat) : (s.postDemand g v).fda.demand.get g = v := by
  obtain ⟨same, other⟩ := State.postDemand_fda s g v
  by_cases h : s.fda.demand.get g = v
  · rw [same h, h]
  · rw [(other h).1, Sys2Proof.Table.get_set_self]

/-- A post leaves the other groups' demands (R118). -/
theorem postDemand_get_other (s : State) {g h : Fin 24} (ne : h ≠ g) (v : Nat) :
    (s.postDemand g v).fda.demand.get h = s.fda.demand.get h := by
  obtain ⟨same, other⟩ := State.postDemand_fda s g v
  by_cases e : s.fda.demand.get g = v
  · rw [same e]
  · rw [(other e).1, Sys2Proof.Table.get_set, if_neg ne.symm]

/-- FDA as it was, but for the demands it holds and the water scale. -/
def Fda.Reposted (a b : Fda) : Prop := b = { a with demand := b.demand, k := b.k }

theorem Fda.Reposted.refl (a : Fda) : a.Reposted a := rfl

theorem Fda.Reposted.trans {a b c : Fda} (h : a.Reposted b) (h' : b.Reposted c) : a.Reposted c := by
  unfold Fda.Reposted at *
  rw [h'.trans (by rw [h])]

theorem postDemand_reposted (s : State) (g : Fin 24) (v : Nat) : s.fda.Reposted (s.postDemand g v).fda := by
  unfold State.postDemand
  split <;> rfl

/-! ## A group under a new record -/

/-- A state in which no show is stopping offers an interlock change to SUP alone. -/
theorem offerChange_other {s : State} (h : s.seq.st ≠ .stopping) : s.offerChange = s.judgeDrop := by
  unfold State.offerChange
  rw [testStopping_other h]

theorem configure_other {s : State} (h : s.seq.st ≠ .stopping) (g : Fin 24) (left : Option Interlock) :
    s.configure g left = (((s.withGroup g (s.freshGroup g)).postDemand g 0).sayGroup g left none).judgeDrop := by
  unfold State.configure
  exact offerChange_other (by rw [sayGroup_seq, postDemand_seq]; exact h)

/-- The state with the drives struck from the schedule that left their group's address (R109). -/
def State.struck (s : State) : State := { s with dbm := { s.dbm with schedule := s.dbm.stillDue s.cfg.groups } }

/-- The four cases of a group under a new record (R72). -/
theorem regroup_eq (s : State) (g : Fin 24) (old : GroupRecord) : s.regroup g old =
    if (s.groupRecord g).configured = true then
      if old.configured = true ∧ old.address = (s.groupRecord g).address then s.struck else s.struck.configure g none
    else if old.configured = true then s.struck.unconfigure g else s.struck := by
  unfold State.regroup
  cases old.configured <;> cases (s.groupRecord g).configured <;> simp [State.struck]

/-- A group's record has its effect on no other part than its group's and FDA's. -/
structure State.Regrouped (s t : State) (g : Fin 24) : Prop where
  seq : t.seq = s.seq
  flp : t.flp = s.flp
  fda : s.fda.Reposted t.fda
  demand : ∀ h : Fin 24, h ≠ g → t.fda.demand.get h = s.fda.demand.get h
  dbm : t.dbm = { s.dbm with schedule := s.dbm.stillDue s.cfg.groups }

theorem struck_regrouped (s : State) (g : Fin 24) : s.Regrouped s.struck g :=
  ⟨rfl, rfl, rfl, fun _ _ => rfl, rfl⟩

theorem struck_configure_regrouped {s : State} (h : s.seq.st ≠ .stopping) (g : Fin 24) :
    s.Regrouped (s.struck.configure g none) g := by
  rw [configure_other (s := s.struck) h]
  refine ⟨?_, ?_, ?_, fun k hk => ?_, ?_⟩
  · rw [judgeDrop_seq, sayGroup_seq, postDemand_seq]; rfl
  · rw [judgeDrop_flp, sayGroup_flp, postDemand_flp]; rfl
  · rw [judgeDrop_fda, sayGroup_fda]; exact postDemand_reposted _ _ _
  · rw [judgeDrop_fda, sayGroup_fda]; exact postDemand_get_other _ hk _
  · rw [judgeDrop_dbm, sayGroup_dbm, postDemand_dbm]; rfl

theorem struck_unconfigure_regrouped (s : State) (g : Fin 24) : s.Regrouped (s.struck.unconfigure g) g := by
  unfold State.unconfigure
  refine ⟨?_, ?_, postDemand_reposted _ _ _, fun k hk => postDemand_get_other _ hk _, ?_⟩
  · rw [postDemand_seq]; rfl
  · rw [postDemand_flp]; rfl
  · rw [postDemand_dbm]; rfl

theorem regroup_regrouped {s : State} (h : s.seq.st ≠ .stopping) (g : Fin 24) (old : GroupRecord) :
    s.Regrouped (s.regroup g old) g := by
  rw [regroup_eq]
  split
  · split
    · exact struck_regrouped s g
    · exact struck_configure_regrouped h g
  · split
    · exact struck_unconfigure_regrouped s g
    · exact struck_regrouped s g

/-- A group that enters the interlock afresh, or leaves it, demands nothing (R72). -/
theorem regroup_demand {s : State} (h : s.seq.st ≠ .stopping) {g : Fin 24} {old : GroupRecord}
    (changes : if (s.groupRecord g).configured = true then ¬(old.configured = true ∧ old.address = (s.groupRecord g).address)
      else old.configured = true) : (s.regroup g old).fda.demand.get g = 0 := by
  rw [regroup_eq]
  split at changes
  next hc =>
    rw [if_pos hc, if_neg changes, configure_other (s := s.struck) h, judgeDrop_fda, sayGroup_fda]
    exact postDemand_get _ _ _
  next hc =>
    rw [if_neg hc, if_pos changes]
    exact postDemand_get _ _ _

/-- A fresh group's report: no state left, nothing sent, nothing read. -/
theorem sayGroup_fresh {s t : State} {g : Fin 24} {i : Interlock} (hg : t.groups.get g = s.freshGroup g)
    (hi : (s.freshGroup g).interlock = some i) :
    t.sayGroup g none none = t.report (.groupState g none i .none false 0 0 none) := by
  have blank : (s.freshGroup g).cause = .none ∧ (s.freshGroup g).starved = false ∧ (s.freshGroup g).sent = 0
      ∧ (s.freshGroup g).actual = 0 := by
    unfold State.freshGroup
    split <;> exact ⟨rfl, rfl, rfl, rfl⟩
  obtain ⟨cause, starved, sent, actual⟩ := blank
  unfold State.sayGroup
  rw [hg, hi, cause, starved, sent, actual]

/-- A group that enters the interlock afresh is reported, whatever goes before and after on the link. -/
theorem regroup_carries {s : State} (h : s.seq.st ≠ .stopping) {g : Fin 24} {old : GroupRecord} {i : Interlock}
    (new : (s.groupRecord g).configured = true) (changes : ¬(old.configured = true ∧ old.address = (s.groupRecord g).address))
    (hi : (s.freshGroup g).interlock = some i)
    (on : s.lif.makes (.groupState g none i .none false 0 0 none) = true) (room : s.lif.reports.length < 16) :
    (s.regroup g old).lif.Carries (.groupState g none i .none false 0 0 none) := by
  have hg : ((s.struck.withGroup g (s.struck.freshGroup g)).postDemand g 0).groups.get g = s.freshGroup g := by
    rw [postDemand_groups]
    exact Sys2Proof.Table.get_set_self _ _ _
  rw [regroup_eq, if_pos new, if_neg changes, configure_other (s := s.struck) h, judgeDrop_lif, sayGroup_fresh hg hi]
  refine carries_report ?_ ?_
  · rw [postDemand_lif]; exact on
  · rw [postDemand_lif]; exact room

/-! ## The request -/

theorem groupMoves_iff (s : State) (g : Fin 24) : s.groupMoves g = true ↔ (s.groupRecord g).configured = true
    ∧ ((s.groups.get g).interlock = some .opening ∨ (s.groups.get g).interlock = some .running
      ∨ (s.groups.get g).interlock = some .closing) := by
  unfold State.groupMoves
  rw [Bool.and_eq_true]
  refine and_congr_right fun _ => ?_
  cases (s.groups.get g).interlock with
  | none => simp
  | some i => cases i <;> simp [Interlock.down]

/-- The group under an accepted record, in the words of R72. -/
theorem regroup_groups_cases {s : State} {g : Fin 24} {old : GroupRecord} : (s.regroup g old).groups =
    if (s.groupRecord g).configured = true then
      if old.configured = true ∧ old.address = (s.groupRecord g).address then s.groups else s.groups.set g (s.freshGroup g)
    else if old.configured = true then s.groups.set g Group.reset else s.groups := by
  rw [regroup_groups]
  unfold Group.regrouped
  split
  · split
    · rw [Table.set_get_self]
    · rfl
  · split
    · rfl
    · rw [Table.set_get_self]

theorem withRecord_record (s : State) (g : Fin 24) (r : GroupRecord) : (s.withRecord g r).groupRecord g = r :=
  Sys2Proof.Table.get_set_self _ _ _

/-- The loads that FDA scales, by the demands it holds and the settings. -/
theorem loads_congr {s t : State} (cfg : t.cfg = s.cfg) (demand : t.fda.demand = s.fda.demand) : t.loads = s.loads := by
  unfold State.loads State.groupRecord
  rw [cfg, demand]

/-- An accepted SET_GROUP leaves the rest of the machine (R72, R109, R120). -/
theorem setGroup_frame {s : State} (idle : s.seq.st = .idle) (g : Fin 24) (r : GroupRecord) :
    (s.setGroup g r).cfg = { s.cfg with groups := s.cfg.groups.set g r }
      ∧ (s.setGroup g r).flp.image = .modified
      ∧ (∀ h : Fin 24, h ≠ g → (s.setGroup g r).fda.demand.get h = s.fda.demand.get h)
      ∧ (s.setGroup g r).fda = { s.fda with demand := (s.setGroup g r).fda.demand
                                            k := waterScale (s.setGroup g r).loads (s.setGroup g r).fda.allowance }
      ∧ (s.setGroup g r).dbm = { s.dbm with schedule := s.dbm.stillDue (s.cfg.groups.set g r) }
      ∧ (s.setGroup g r).clock = s.clock ∧ (s.setGroup g r).seq = s.seq ∧ (s.setGroup g r).lgt = s.lgt
      ∧ (s.setGroup g r).flash = s.flash ∧ (s.setGroup g r).sup.channels = s.sup.channels := by
  have calm : (s.withRecord g r).seq.st ≠ .stopping := by
    rw [show (s.withRecord g r).seq = s.seq from rfl, idle]; exact ShowState.noConfusion
  have u := regroup_regrouped calm g (s.groupRecord g)
  have cfg : (s.setGroup g r).cfg = { s.cfg with groups := s.cfg.groups.set g r } := by
    rw [setGroup_eq, settleSite_cfg, rescale_cfg, regroup_cfg]; rfl
  rw [setGroup_eq] at cfg ⊢
  refine ⟨cfg, ?_, fun h hh => ?_, ?_, ?_, ?_, ?_, ?_, ?_, ?_⟩
  · rw [settleSite_flp, rescale_flp, u.flp]; rfl
  · rw [settleSite_fda]; exact u.demand h hh
  · have loads : (((s.withRecord g r).regroup g (s.groupRecord g)).rescale.settleSite).loads
        = ((s.withRecord g r).regroup g (s.groupRecord g)).loads :=
      loads_congr (by rw [settleSite_cfg, rescale_cfg]) (by rw [settleSite_fda]; rfl)
    rw [loads, settleSite_fda]
    have e := u.fda
    unfold Fda.Reposted at e
    unfold State.rescale
    dsimp only
    rw [e]
    rfl
  · rw [settleSite_dbm, rescale_dbm, u.dbm]; rfl
  · rw [settleSite_clock, rescale_clock, regroup_clock]; rfl
  · rw [settleSite_seq, rescale_seq, u.seq]; rfl
  · rw [settleSite_lgt, rescale_lgt, regroup_lgt]; rfl
  · rw [settleSite_flash, rescale_flash, regroup_flash]; rfl
  · rw [settleSite_channels, rescale_sup, regroup_channels]; rfl

theorem judgeSetGroup_eq {s : State} {p : List Byte} {g : Fin 24} {r : GroupRecord} (hg : u8 p 0 = g.val)
    (idle : s.seq.st = .idle) (hr : groupOf p = some r) : s.judgeSetGroup p =
      if s.groupMoves g = true then .error .wrongState
      else if r.configured = true ∧ addressTaken s.cfg.groups g r.address = true then .error .duplicate
      else .ok (g, r) := by
  unfold State.judgeSetGroup
  rw [indexOf_val g hg, need_some, ok_bind, needIdle_idle idle, ok_bind, hr, need_some, ok_bind, refuseIf_bind,
    refuseIf_bind]
  simp only [Bool.and_eq_true]
  rfl

/-- An accepted SET_GROUP reports a group that enters the interlock afresh (R72, R88). -/
theorem setGroup_says {s : State} (q : Request) (idle : s.seq.st = .idle) {g : Fin 24} {r : GroupRecord} {i : Interlock}
    (new : r.configured = true) (changes : ¬((s.groupRecord g).configured = true ∧ (s.groupRecord g).address = r.address))
    (hi : ((s.withRecord g r).freshGroup g).interlock = some i) :
    s.says ((s.taken.answer q .ok []).setGroup g r).kick 1 (.groupState g none i .none false 0 0 none) := by
  intro on room
  rw [setGroup_eq]
  refine Lif.Carries.kick (Lif.Carries.grows ?_ (settleSite_grows (.refl 0 _)))
  rw [rescale_lif]
  refine regroup_carries (s := (s.taken.answer q .ok []).withRecord g r) ?_ ?_ ?_ hi (makes_of_enabled on) ?_
  · rw [show ((s.taken.answer q .ok []).withRecord g r).seq = s.seq from rfl, idle]; exact ShowState.noConfusion
  · rw [withRecord_record]; exact new
  · rw [withRecord_record]; exact changes
  · exact Nat.lt_of_succ_lt room

/-- Settles O31: the payload's reading, the test for a second use of an address, the chain of refusals, and the accepted
record's effect. -/
theorem setGroupReplacesTheRecord : Obligations.SetGroupReplacesTheRecord := by
  unfold Obligations.SetGroupReplacesTheRecord
  refine ⟨groupOf_iff, addressTaken_iff, fun s q ht => ?_⟩
  have run : exec .setGroup s = .next (s.taken.judged q (s.judgeSetGroup q.payload) fun a =>
      (s.taken.answer q .ok []).setGroup a.1 a.2).kick := congrArg Host.Outcome.next (serve_takes s _ anyOf _ q ht rfl)
  rw [run]
  refine ⟨fun h => congrArg Host.Outcome.next (judged_refused ?_), fun g hg => ⟨fun h =>
    congrArg Host.Outcome.next (judged_refused ?_), fun idle hn => congrArg Host.Outcome.next (judged_refused ?_),
    fun r idle hr => ?_⟩⟩
  · simp [State.judgeSetGroup, indexOf_ge h]
  · simp [State.judgeSetGroup, indexOf_val g hg, needIdle_active h]
  · simp [State.judgeSetGroup, indexOf_val g hg, needIdle_idle idle, hn]
  intro moves twice
  have judge := judgeSetGroup_eq hg idle hr
  have hmoves := groupMoves_iff s g
  refine ⟨fun h => congrArg Host.Outcome.next (judged_refused ?_), fun hm h => congrArg Host.Outcome.next (judged_refused ?_),
    fun hm hd => ?_⟩
  · rw [judge, if_pos (hmoves.2 h)]
  · rw [judge, if_neg fun k => hm (hmoves.1 k), if_pos h]
  · rw [judged_passed (judge.trans ((if_neg fun k => hm (hmoves.1 k)).trans (if_neg hd)))]
    obtain ⟨cfg, image, others, fda, dbm, clock, seq, lgt, flash, channels⟩ :=
      setGroup_frame (s := s.taken.answer q .ok []) idle g r
    have calm : ((s.taken.answer q .ok []).withRecord g r).seq.st ≠ .stopping := by
      rw [show ((s.taken.answer q .ok []).withRecord g r).seq = s.seq from rfl, idle]; exact ShowState.noConfusion
    have record := withRecord_record (s.taken.answer q .ok []) g r
    refine ⟨_, rfl, cfg, image, ?_, others, fda, ?_, kick_siteJudged (settleSite_siteJudged _), clock, seq, lgt, flash,
      channels⟩
    · intro old fresh
      have hfresh : ((s.taken.answer q .ok []).withRecord g r).freshGroup g = fresh := by
        unfold State.freshGroup
        rw [record]
        rfl
      have groups := regroup_groups_cases (s := (s.taken.answer q .ok []).withRecord g r) (g := g) (old := old)
      have demand := regroup_demand calm (g := g) (old := old)
      rw [record] at groups demand
      rw [hfresh] at groups
      refine ⟨?_, fun new changes i hi => setGroup_says q idle new changes (hfresh ▸ hi), fun off on => ?_,
        fun new changes => ?_⟩
      · rw [kick_groups, setGroup_eq, settleSite_groups, rescale_groups]
        exact groups
      · rw [kick_fda, setGroup_eq, settleSite_fda]
        exact demand (by rw [if_neg (by rw [off]; exact Bool.noConfusion)]; exact on)
      · rw [kick_fda, setGroup_eq, settleSite_fda]
        exact demand (by rw [if_pos new]; exact changes)
    · rw [kick_dbm, kick_cfg, dbm, cfg]; rfl

end Sys2Proof.Machine
end

section
/-! READ_FLAGS and the places of the flags (R159, R160). -/

namespace Sys2Proof.Machine

open State

/-! ## Banks written one after the other -/

/-- A bank that is written or not, read back. -/
theorem Flags.read_writeIf (fs : Flags) (c : Bool) (b b' : Bank) (v : Byte) :
    (if c = true then fs.write b v else fs).read b' = if c = true ∧ b = b' then v else fs.read b' := by
  by_cases h : b = b'
  · subst h
    cases c <;> simp
  · have other : (fs.write b v).read b' = fs.read b' := by
      cases b <;> cases b' <;> first | rfl | exact absurd rfl h
    cases c <;> simp [h, other]

/-- Banks written in turn, each at most once: a bank of the list reads its own value where it is named. -/
theorem Flags.read_foldl_write (named : Bank → Bool) (v : Bank → Byte) (l : List Bank) (nodup : l.Nodup) (fs : Flags)
    (b : Bank) : (l.foldl (fun fs b => if named b = true then fs.write b (v b) else fs) fs).read b
      = if b ∈ l ∧ named b = true then v b else fs.read b := by
  induction l generalizing fs with
  | nil => simp
  | cons a rest ih =>
    obtain ⟨ha, hrest⟩ := List.nodup_cons.1 nodup
    rw [List.foldl_cons, ih hrest, Flags.read_writeIf]
    by_cases e : a = b
    · subst e; simp [ha]
    · simp [e, Ne.symm e]

theorem mem_allBanks (b : Bank) : b ∈ Bank.all := by cases b <;> decide

theorem flagsAfterRead_read (s : State) (named : Byte) (b : Bank) : (s.flagsAfterRead named).read b =
    if named.getLsbD b.bit = true then s.bankAfterRead b else s.flags.read b := by
  unfold State.flagsAfterRead
  rw [Flags.read_foldl_write (fun b => named.getLsbD b.bit) s.bankAfterRead Bank.all (by decide)]
  simp [mem_allBanks b]

/-! ## The banks that a request names -/

/-- The bits of the six banks stand in the bank set as they are sent (R193). -/
theorem banksNamed_bit (p : List Byte) (b : Bank) : (banksNamed p).getLsbD b.bit = (p.getD 0 0).getLsbD b.bit := by
  have mask : (0x3F : Byte).getLsbD b.bit = true := by cases b <;> decide
  unfold banksNamed
  rw [BitVec.getLsbD_and, mask, Bool.and_true]

theorem banksNamed_eq_zero (p : List Byte) : banksNamed p = 0 ↔ ∀ b : Bank, (p.getD 0 0).getLsbD b.bit = false := by
  constructor
  · intro h b
    rw [← banksNamed_bit, h]
    exact BitVec.getLsbD_zero
  · intro h
    refine BitVec.eq_of_getLsbD_eq fun i hi => ?_
    rw [show (0 : Byte).getLsbD i = false from BitVec.getLsbD_zero]
    by_cases low : i < 6
    · obtain ⟨b, rfl⟩ : ∃ b : Bank, i = b.bit := by
        match i, low with
        | 0, _ => exact ⟨.link, rfl⟩
        | 1, _ => exact ⟨.showBank, rfl⟩
        | 2, _ => exact ⟨.water, rfl⟩
        | 3, _ => exact ⟨.light, rfl⟩
        | 4, _ => exact ⟨.site, rfl⟩
        | 5, _ => exact ⟨.flash, rfl⟩
      rw [banksNamed_bit, h b]
    · have mask : (0x3F : Byte).getLsbD i = false := by
        have : i = 6 ∨ i = 7 := by omega
        rcases this with rfl | rfl <;> decide
      unfold banksNamed
      rw [BitVec.getLsbD_and, mask, Bool.and_false]

/-! ## Flags and their places -/

/-- Every flag, bank by bank. -/
def Flag.all : List Flag :=
  [.parity, .framing, .gapTimeout, .badCrc, .inboxBusy, .reportsDropped, .loadFailed, .compressedCues, .overtaken,
   .clipReplaced, .lightOvertaken, .strokeTimeout, .driveTrip, .switchConflict, .groupLost, .budgetLimited, .heightClamped,
   .busFault, .dryCapActive, .lightScaled, .windForced, .levelLow, .levelDry, .intrusion, .estop, .audioDegraded, .timeout,
   .lockedRefusal, .eraseSuspended, .settingsBad]

theorem mem_allFlags (f : Flag) : f ∈ Flag.all := by cases f <;> decide

/-- Two flags of one bank at one bit are the same flag. -/
theorem flag_eq_of_place (f g : Flag) (bank : g.bank = f.bank) (bit : g.bit = f.bit) : g = f := by
  have places : ∀ f ∈ Flag.all, ∀ g ∈ Flag.all, g.bank = f.bank → g.bit = f.bit → g = f := by decide
  exact places f (mem_allFlags f) g (mem_allFlags g) bank bit

/-- A flag that is set leaves every other flag. -/
theorem raise_has_other (fs : Flags) {f g : Flag} (h : g ≠ f) : (fs.raise f).has g = fs.has g := by
  unfold Flags.has Flags.raise
  by_cases bank : g.bank = f.bank
  · have bit : g.bit ≠ f.bit := fun e => h (flag_eq_of_place f g bank e)
    have clear : f.mask.getLsbD g.bit = false := by
      unfold Flag.mask
      rcases Nat.lt_or_gt_of_ne bit with lt | gt
      · simp [lt]
      · have : g.bit - f.bit ≠ 0 := by omega
        simp [this]
    rw [bank, read_write, BitVec.getLsbD_or, clear, Bool.or_false]
  · have other := Flags.read_writeIf fs true f.bank g.bank (fs.read f.bank ||| f.mask)
    rw [if_pos rfl, if_neg fun k => bank k.2.symm] at other
    rw [other]

/-- The cluster word gathered over a list of banks. -/
theorem cluster_foldl (fs : Flags) (l : List Bank) (acc : Byte) (b : Bank) :
    (l.foldl (fun w b => if fs.read b = 0 then w else w ||| ((1 : Byte) <<< b.bit)) acc).getLsbD b.bit
      = (acc.getLsbD b.bit || (decide (b ∈ l) && decide (fs.read b ≠ 0))) := by
  induction l generalizing acc with
  | nil => simp
  | cons a rest ih =>
    have bit : ((1 : Byte) <<< a.bit).getLsbD b.bit = decide (b = a) := by
      cases a <;> cases b <;> decide
    rw [List.foldl_cons, ih]
    by_cases z : fs.read a = 0
    · rw [if_pos z]
      by_cases e : b = a
      · subst e; simp [z]
      · simp [e]
    · rw [if_neg z, BitVec.getLsbD_or, bit]
      by_cases e : b = a
      · subst e
        rw [decide_eq_true z]
        simp
      · simp [e]

theorem cluster_bit (fs : Flags) (b : Bank) : fs.cluster.getLsbD b.bit = decide (fs.read b ≠ 0) := by
  unfold Flags.cluster
  rw [cluster_foldl]
  simp [mem_allBanks b]

/-! ## READ_FLAGS -/

/-- Settles O48: the banks named are answered and cleared but for the conditions that are present. -/
theorem readFlagsClearsWhatItReturns : Obligations.ReadFlagsClearsWhatItReturns := by
  unfold Obligations.ReadFlagsClearsWhatItReturns
  refine ⟨fun s q ht => ?_, fun fs f => ⟨raise_has fs f, fun g h => raise_has_other fs h⟩,
    fun fs => ⟨rfl, rfl, rfl, rfl, rfl, rfl, rfl, rfl⟩, cluster_bit⟩
  intro named
  have run : exec .readFlags s = .next (s.taken.judged q (refuseIf (decide (banksNamed q.payload = 0)) .outOfRange) fun _ =>
      State.answer { s.taken with flags := s.flagsAfterRead (banksNamed q.payload) } q .ok
        (s.flagFields (banksNamed q.payload))).kick := congrArg Host.Outcome.next (serve_takes s _ anyOf _ q ht rfl)
  rw [run]
  refine ⟨fun h => congrArg Host.Outcome.next (judged_refused ?_), fun ⟨b, hb⟩ =>
    ⟨s.flagsAfterRead (banksNamed q.payload), ?_, fun b => ?_⟩⟩
  · rw [decide_eq_true ((banksNamed_eq_zero _).2 h), refuseIf_true]
  · have some : banksNamed q.payload ≠ 0 := fun h => by
      rw [(banksNamed_eq_zero _).1 h b] at hb
      exact Bool.noConfusion hb
    have fields : s.flagFields (banksNamed q.payload)
        = Bank.all.map fun b => if named.getLsbD b.bit then s.flags.read b else 0 := by
      unfold State.flagFields
      simp only [banksNamed_bit]
      rfl
    rw [decide_eq_false some, refuseIf_false, judged_ok, fields]
    rfl
  · rw [flagsAfterRead_read, banksNamed_bit]
    have light := lightPresentMask_eq s.lgt s.fda.kL
    have site := sitePresentMask_eq s
    cases b <;> simp only [State.bankAfterRead, light, site, named]

end Sys2Proof.Machine
end

section
/-! What the status requests answer, byte by byte (R28, R87, R140, R144, R158, R186 to R188). -/

namespace Sys2Proof.Machine

open State

/-! ## Requests that only answer -/

/-- A request whose owner answers OK with fields of the machine as it stands. -/
theorem serve_answers {s : State} {r : RequestRule} {q : Request} (fields : State → List Byte) (h : s.takes r q = true) :
    s.serve r anyOf (fun t q => t.answer q .ok (fields t)) = s.answered q .ok (fields s.taken) := by
  rw [serve_takes s r anyOf _ q h rfl]
  rfl

/-! ## The fields -/

theorem bitRate_byte (b : BitVec 2) : byte1 b.toNat = [b.setWidth 8] := by
  simp [byte1, BitVec.ofNat_toNat]

theorem identFields_eq (s : State) : s.taken.identFields =
    [0x54, 0x45, 0x52, 0x47, 0x4F, 0x4C, 0x41, 0x4E] ++ [0x49, 0x4C, 0x42, 0x4F, 0x52, 0x41, 0x20, 0x20]
      ++ [0x46, 0x43, 0x32, 0x34, 0x20, 0x20, 0x20, 0x20] ++ [1, s.lif.bitRate.setWidth 8]
      ++ [if decide (s.flp.presence = .present) = true then 1 else 0]
      ++ (match s.flp.ident with | some i => [1, i.1, i.2.1, i.2.2] | none => [0, 0, 0, 0])
      ++ byte1 s.lif.lastReset.code := by
  unfold State.identFields
  rw [show s.taken.lif.bitRate = s.lif.bitRate from rfl, bitRate_byte, show s.taken.flp = s.flp from rfl]
  cases s.flp.ident <;> rfl

/-- The slot of the show state's report: none in IDLE. -/
theorem showSlot_field (s : State) :
    optField 1 (s.showSlot.map byte1) = if s.seq.st = .idle then [0, 0] else 1 :: byte1 s.seq.slot := by
  unfold State.showSlot
  split <;> rfl

theorem time_field (t : Option Int) : optField 4 (t.map byte4s) =
    (match t with | some n => 1 :: byte4 (BitVec.ofInt 32 n).toNat | none => [0, 0, 0, 0, 0]) := by
  cases t <;> rfl

theorem statusFields_length (s : State) : s.statusFields.length = 60 := by
  have slot : (optField 1 (s.showSlot.map byte1)).length = 2 := by rw [showSlot_field]; split <;> rfl
  have time : (optField 4 (s.showTime.map byte4s)).length = 5 := by cases s.showTime <;> rfl
  unfold State.statusFields
  simp only [List.length_append, slot, time]
  rfl

theorem clockByte (t : FadeTime) :
    byte1 t.clock.code = (match t with | .onShow _ => [0] | .onSite _ => [1]) := by cases t <;> rfl

theorem timeBytes (t : FadeTime) : t.bytes =
    (match t with | .onShow n => byte4 (BitVec.ofInt 32 n).toNat | .onSite n => byte4 n.toNat) := by cases t <;> rfl

theorem driveReplyFields_eq (r : Option DriveReply) : driveReplyFields r =
    (match r with
      | some d => byte2 d.actual ++ [if d.openSw = true then 1 else 0] ++ [if d.closedSw = true then 1 else 0]
        ++ (if d.drive = .trip then [1, 2, 1, d.code] else [0, 0, 0, 0])
      | none => [0, 0, 0, 0, 0, 0, 0, 0]) := by
  cases r with
  | none => rfl
  | some d =>
    unfold driveReplyFields
    by_cases h : d.drive = .trip
    · simp only [h, if_true]; rfl
    · simp only [h, if_false]; rfl

theorem lastPollFields_eq (l : Option LastPoll) : lastPollFields l =
    (match l with | some l => 1 :: (byte1 l.outcome.code ++ byte4 l.ended.toNat) | none => [0, 0, 0, 0, 0, 0]) := by
  cases l <;> rfl

theorem interlock_field (i : Option Interlock) : optField 1 (i.map fun i => byte1 i.code) =
    (match i with | some i => 1 :: byte1 i.code | none => [0, 0]) := by cases i <;> rfl

theorem tick_field (t : Option Tick) : optField 4 (t.map fun t => byte4 t.toNat) =
    (match t with | some t => 1 :: byte4 t.toNat | none => [0, 0, 0, 0, 0]) := by cases t <;> rfl

theorem optField_length {n : Nat} {o : Option (List Byte)} (h : ∀ l, o = some l → l.length = n) :
    (optField n o).length = n + 1 := by
  cases o with
  | none => simp [optField]
  | some l => simp [optField, h l rfl]

theorem groupFields_length (s : State) (g : Fin 24) : (s.groupFields g).length = 115 := by
  have reply : (driveReplyFields (s.groups.get g).reply).length = 8 := by
    rw [driveReplyFields_eq]
    cases (s.groups.get g).reply with
    | none => rfl
    | some d => by_cases h : d.drive = .trip <;> simp [h, byte2]
  have last (l : Option LastPoll) : (lastPollFields l).length = 6 := by rw [lastPollFields_eq]; split <;> rfl
  have interlock (i : Option Interlock) : (optField 1 (i.map fun i => byte1 i.code)).length = 2 := by
    rw [interlock_field]; split <;> rfl
  have tick (t : Option Tick) : (optField 4 (t.map fun t => byte4 t.toNat)).length = 5 := by
    rw [tick_field]; split <;> rfl
  have began (t : FadeTime) : t.bytes.length = 4 := by cases t <;> rfl
  unfold State.groupFields
  simp only [List.length_append, GroupRecord.bytes_length, interlock, began, reply, last, tick]
  rfl

/-- The points of a record, the unused positions filled with free bytes. -/
theorem pointBytes_eq (l : List Point) (pos n : Nat) (unused : Nat → Byte) : pointBytes l pos n unused =
    (List.range n).flatMap fun i => match l[i]? with
      | some p => byte2 p.h ++ byte2 p.v
      | none => (List.range 4).map fun j => unused (pos + 4 * i + j) := rfl

theorem latchFields_eq (l : Option Latch) : latchFields l =
    (match l with
      | some l => 1 :: ([l.colour.r, l.colour.g, l.colour.b, l.colour.w] ++ byte2 l.fade ++ byte1 l.clock.code
        ++ byte1 l.origin.code)
      | none => List.replicate 9 0) := by
  cases l <;> rfl

theorem latchFields_length (l : Option Latch) : (latchFields l).length = 9 := by cases l <;> rfl

/-- How long a fixture has been above its dry cap. -/
theorem dry_field (now : Tick) (d : Option Tick) : optField 4 (d.map fun d => byte4 (now - d).toNat) =
    (match d with
      | some d => 1 :: byte4 ((now.toNat + 4294967296 - d.toNat) % 4294967296)
      | none => [0, 0, 0, 0, 0]) := by
  cases d with
  | none => rfl
  | some d =>
    have : (now - d).toNat = (now.toNat + 4294967296 - d.toNat) % 4294967296 := by
      rw [BitVec.toNat_sub]
      have := d.isLt
      omega
    rw [Option.map_some, this]
    rfl

theorem fixtureFields_length (s : State) (f : Fin 96) : (s.fixtureFields f).length = 71 := by
  have tick (t : Option Tick) (now : Tick) : (optField 4 (t.map fun t => byte4 (now - t).toNat)).length = 5 := by
    cases t <;> rfl
  have began (t : FadeTime) : t.bytes.length = 4 := by cases t <;> rfl
  unfold State.fixtureFields
  dsimp only
  split
  · simp only [List.length_append, FixtureRecord.bytes_length, began, latchFields_length, tick]
    rfl
  · simp only [List.length_append, FixtureRecord.bytes_length, List.length_replicate]

theorem fixtureRecord_bytes_eq (f : Fin 96) (r : FixtureRecord) : FixtureRecord.bytes f r =
    byte1 f.val ++ byte2 r.base ++ (match r.bound with | some g => byte1 g.val | none => [0xFF])
      ++ byte2 r.rated ++ [r.dryCap] ++ byte2 r.dryGrace ++ [r.house.r, r.house.g, r.house.b, r.house.w]
      ++ [r.rescue.r, r.rescue.g, r.rescue.b, r.rescue.w] := by
  unfold FixtureRecord.bytes
  cases r.bound <;> rfl

theorem causes_byte (c : Causes) : c.byte = [(if c.estop = true then 1 else 0) + (if c.intrA = true then 2 else 0)
    + (if c.intrB = true then 4 else 0)] := by
  obtain ⟨e, a, b⟩ := c
  cases e <;> cases a <;> cases b <;> rfl

theorem tripRecord_bytes_eq (r : TripRecord) : r.bytes =
    [(if r.causes.estop = true then 1 else 0) + (if r.causes.intrA = true then 2 else 0)
        + (if r.causes.intrB = true then 4 else 0)] ++ byte4 r.clock.toNat
      ++ (match r.atShow with
        | some a => 1 :: (byte1 a.1 ++ byte4 (BitVec.ofInt 32 a.2).toNat)
        | none => [0, 0, 0, 0, 0, 0])
      ++ byte1 r.band ++ byte1 r.level.code := by
  unfold TripRecord.bytes
  rw [causes_byte]
  cases r.atShow <;> rfl

theorem slotRecord_bytes_eq (k : SlotRecord) : k.bytes =
    byte1 k.status.code ++ [k.kind, k.tag] ++ byte1 k.failure.code
      ++ (match k.cueIndex with | some i => 1 :: byte2 i | none => [0, 0, 0])
      ++ (match k.imageFound with | some i => 1 :: byte1 i.code | none => [0, 0]) := by
  unfold SlotRecord.bytes
  cases k.cueIndex <;> cases k.imageFound <;> rfl

theorem quadBytes_eq (l : Levels) : quadBytes l = byte2 l.r ++ byte2 l.g ++ byte2 l.b ++ byte2 l.w := rfl

/-- The bus values of levels behind other bytes, one by one. -/
theorem append_bus (x : List Byte) (l : Levels) : x ++ (Levels.bus l).toList =
    x ++ byte1 (l.r / 256) ++ byte1 (l.g / 256) ++ byte1 (l.b / 256) ++ byte1 (l.w / 256) := by
  simp only [List.append_assoc]
  rfl

theorem fixtureFields_eq (s : State) (f : Fin 96) : s.fixtureFields f =
    byte1 f.val ++ byte2 (s.cfg.fixtures.get f).base
      ++ (match (s.cfg.fixtures.get f).bound with | some g => byte1 g.val | none => [0xFF])
      ++ byte2 (s.cfg.fixtures.get f).rated ++ [(s.cfg.fixtures.get f).dryCap] ++ byte2 (s.cfg.fixtures.get f).dryGrace
      ++ (s.cfg.fixtures.get f).house.toList ++ (s.cfg.fixtures.get f).rescue.toList
      ++ (if (s.cfg.fixtures.get f).base = 0 then List.replicate 54 0
        else quadBytes (s.lgt.fixtures.get f).fade.starts ++ quadBytes (s.lgt.fixtures.get f).fade.targets
          ++ (s.lgt.fixtures.get f).fade.began.bytes ++ byte2 (s.lgt.fixtures.get f).fade.dur
          ++ byte1 (s.lgt.fixtures.get f).fade.began.clock.code
          ++ quadBytes ((s.lgt.fixtures.get f).fade.levels s.showTime s.clock)
          ++ (Levels.bus ((s.lgt.fixtures.get f).fade.levels s.showTime s.clock)).toList
          ++ latchFields (s.lgt.fixtures.get f).latch
          ++ optField 4 ((s.lgt.fixtures.get f).dryStart.map fun d => byte4 (s.clock - d).toNat)
          ++ byteYes (s.lgt.fixtures.get f).capped ++ (s.lgt.fixtures.get f).out.toList) := by
  unfold State.fixtureFields
  dsimp only
  rw [fixtureRecord_bytes_eq]
  by_cases h : (s.cfg.fixtures.get f).base = 0
  · rw [if_pos h, if_neg (by simp [FixtureRecord.assigned, h])]
    rfl
  · rw [if_neg h, if_pos (by simp [FixtureRecord.assigned, h])]
    rfl

theorem channelFields_eq (s : State) : s.channelFields = (List.finRange 27).flatMap fun i =>
    byte1 (s.sup.channels.get i).counter ++ byte1 (s.cfg.counters.get i).limit ++ byte1 (s.cfg.counters.get i).hold
      ++ [if (s.sup.channels.get i).valid = true then 0 else 1] ++ [if (s.sup.channels.get i).fatal = true then 1 else 0]
      ++ (match (s.sup.channels.get i).last with | some now => 1 :: byte4 now.toNat | none => [0, 0, 0, 0, 0]) := by
  unfold State.channelFields
  congr 1
  funext i
  dsimp only
  rw [tick_field]
  cases (s.sup.channels.get i).valid <;> rfl

theorem tripLogFields_eq (s : State) : s.tripLogFields = byte1 s.sup.tripLog.length
    ++ (List.range 8).flatMap fun i => match s.sup.tripLog[i]? with
      | some r => [(if r.causes.estop = true then 1 else 0) + (if r.causes.intrA = true then 2 else 0)
          + (if r.causes.intrB = true then 4 else 0)] ++ byte4 r.clock.toNat
        ++ (match r.atShow with
          | some a => 1 :: (byte1 a.1 ++ byte4 (BitVec.ofInt 32 a.2).toNat)
          | none => [0, 0, 0, 0, 0, 0])
        ++ byte1 r.band ++ byte1 r.level.code
      | none => List.replicate 13 0 := by
  unfold State.tripLogFields
  congr 2
  funext i
  cases s.sup.tripLog[i]? with
  | none => rfl
  | some r => exact tripRecord_bytes_eq r

theorem serviceFields_eq (s : State) : s.serviceFields =
    [s.lif.armSlot, s.lif.flashSlot, s.lif.settingsSlot].flatMap fun k =>
      byte1 k.status.code ++ [k.kind, k.tag] ++ byte1 k.failure.code
        ++ (match k.cueIndex with | some i => 1 :: byte2 i | none => [0, 0, 0])
        ++ (match k.imageFound with | some i => 1 :: byte1 i.code | none => [0, 0]) := by
  have slots : s.serviceFields = [s.lif.armSlot, s.lif.flashSlot, s.lif.settingsSlot].flatMap SlotRecord.bytes := by
    simp [State.serviceFields]
  rw [slots]
  congr 1
  funext k
  exact slotRecord_bytes_eq k

theorem loadFields_eq (s : State) : s.loadFields =
    byte1 s.seq.result.outcome.code ++ byte1 s.seq.result.failure.code ++ byte1 s.seq.result.slot ++ s.seq.result.label
      ++ (match s.seq.result.cueIndex with | some i => 1 :: byte2 i | none => [0, 0, 0])
      ++ (match s.seq.result.counts with
        | some k => 1 :: (byte2 k.cues ++ byte2 k.entries ++ byte2 k.clamps ++ byte2 k.compressed
            ++ byte2 k.overtaken ++ byte2 k.preroll)
        | none => List.replicate 13 0) := by
  unfold State.loadFields
  dsimp only
  cases s.seq.result.cueIndex <;> cases s.seq.result.counts <;> rfl

/-- Settles O57: each request answers its fields, which are written out here in the order of the manual. -/
theorem statusRequestsAnswer : Obligations.StatusRequestsAnswer := by
  unfold Obligations.StatusRequestsAnswer
  intro s q yes two time clock
  refine ⟨fun ht => ?_, fun ht => ⟨?_, statusFields_length _, ?_⟩, fun ht => ⟨fun g hg => ⟨?_, groupFields_length s g, ?_⟩,
    fun h => ?_⟩, fun ht => ⟨fun f hf => ⟨?_, fixtureFields_length s f, ?_⟩, fun h => ?_⟩, fun ht => ?_, fun ht => ?_,
    fun ht => ?_, fun ht => ?_⟩
  · refine congrArg Host.Outcome.next ((serve_answers State.identFields ht).trans ?_)
    rw [identFields_eq] <;> rfl
  · exact congrArg Host.Outcome.next (serve_answers State.statusFields ht)
  · intro gust effective
    unfold State.statusFields
    rw [showSlot_field, time_field]
    rfl
  · have run : exec .getGroup s = .next (s.taken.judged q (need (indexOf 24 (u8 q.payload 0)) .outOfRange) fun g =>
        (s.taken.answer q .ok (s.taken.groupFields g)).tick).kick := congrArg Host.Outcome.next (serve_takes s _ anyOf _ q ht rfl)
    rw [run, indexOf_val g hg]
    rfl
  · intro x r point
    unfold State.groupFields GroupRecord.bytes
    dsimp only
    rw [interlock_field, tick_field, lastPollFields_eq, driveReplyFields_eq, clockByte, timeBytes]
    rfl
  · have run : exec .getGroup s = .next (s.taken.judged q (need (indexOf 24 (u8 q.payload 0)) .outOfRange) fun g =>
        (s.taken.answer q .ok (s.taken.groupFields g)).tick).kick := congrArg Host.Outcome.next (serve_takes s _ anyOf _ q ht rfl)
    rw [run, indexOf_ge h]
    rfl
  · have run : exec .getFixture s = .next (s.taken.judged q (need (indexOf 96 (u8 q.payload 0)) .outOfRange) fun f =>
        s.taken.answer q .ok (s.taken.fixtureFields f)).kick := congrArg Host.Outcome.next (serve_takes s _ anyOf _ q ht rfl)
    rw [run, indexOf_val f hf]
    rfl
  · intro x r now
    rw [fixtureFields_eq, dry_field, latchFields_eq, clockByte, timeBytes, append_bus, quadBytes_eq, quadBytes_eq,
      quadBytes_eq]
    rfl
  · have run : exec .getFixture s = .next (s.taken.judged q (need (indexOf 96 (u8 q.payload 0)) .outOfRange) fun f =>
        s.taken.answer q .ok (s.taken.fixtureFields f)).kick := congrArg Host.Outcome.next (serve_takes s _ anyOf _ q ht rfl)
    rw [run, indexOf_ge h]
    rfl
  · refine congrArg Host.Outcome.next ((serve_answers State.channelFields ht).trans ?_)
    rw [channelFields_eq]
    rfl
  · refine congrArg Host.Outcome.next ((serve_answers State.tripLogFields ht).trans ?_)
    rw [tripLogFields_eq]
    rfl
  · refine congrArg Host.Outcome.next ((serve_answers State.serviceFields ht).trans ?_)
    rw [serviceFields_eq]
    rfl
  · refine congrArg Host.Outcome.next ((serve_answers State.loadFields ht).trans ?_)
    rw [loadFields_eq]
    rfl

end Sys2Proof.Machine
end

section
/-! AUD's buffers at the end of a step, and the requests DISARM, HOLD, RESUME and DIRECT_CLIP (R31, R38, R39, R47 to R50, R67). -/

namespace Sys2Proof.Machine

open State

/-! ## Buffers, but for where they fetch -/

/-- A stream buffer without its fetch position. -/
def Stream.atRest (st : Stream) : Stream := { st with fetch := 0 }

namespace Aud

variable (a : Aud) (i j : BufId)

@[simp] theorem buf_setBuf_same (st : Option Stream) : (a.setBuf i st).buf i = st := by cases i <;> rfl

theorem buf_setBuf_other {i j : BufId} (h : j ≠ i) (st : Option Stream) : (a.setBuf i st).buf j = a.buf j := by
  cases i <;> cases j <;> first | rfl | exact absurd rfl h

theorem other_ne : i.other ≠ i := by cases i <;> decide

theorem eq_other_of_ne {i j : BufId} (h : j ≠ i) : j = i.other := by
  cases i <;> cases j <;> first | rfl | exact absurd rfl h

/-- Seeking moves a fetch position and asks for a chunk; what the buffers hold stands (R50). -/
theorem seek_buf : (a.seek.buf j).map Stream.atRest = (a.buf j).map Stream.atRest := by
  unfold seek
  split
  next i _ _ =>
    split
    next st hst =>
      by_cases e : j = i
      · subst e
        have : (({ a.setBuf j (some { st with fetch := (st.nextChunk j).first + (st.nextChunk j).count }) with
            chunk := some (st.nextChunk j) } : Aud).buf j) =
            some { st with fetch := (st.nextChunk j).first + (st.nextChunk j).count } := by cases j <;> rfl
        rw [this, hst]
        rfl
      · have : (({ a.setBuf i (some { st with fetch := (st.nextChunk i).first + (st.nextChunk i).count }) with
            chunk := some (st.nextChunk i) } : Aud).buf j) = a.buf j := by
          cases i <;> cases j <;> first | rfl | exact absurd rfl e
        rw [this]
    · rfl
  · rfl

/-- Seeking touches the buffers and the chunk alone. -/
theorem seek_eq : a.seek = { a with bufA := a.seek.bufA, bufB := a.seek.bufB, chunk := a.seek.chunk } := by
  unfold seek
  split
  next i _ _ =>
    split
    · cases i <;> rfl
    · rfl
  · rfl

/-- What is PLAYING, by what the buffers hold. -/
theorem playing_congr {a b : Aud} (h : ∀ i, (b.buf i).map Stream.atRest = (a.buf i).map Stream.atRest) :
    b.playing = a.playing := by
  have any (i : BufId) : (b.buf i).any (·.playing) = (a.buf i).any (·.playing) := by
    have e := congrArg (Option.any Stream.playing) (h i)
    rwa [Option.any_map, Option.any_map] at e
  unfold playing
  rw [show b.bufA.any (·.playing) = a.bufA.any (·.playing) from any .a,
    show b.bufB.any (·.playing) = a.bufB.any (·.playing) from any .b]

@[simp] theorem seek_playing : a.seek.playing = a.playing := playing_congr a.seek_buf

/-- A buffer after a seek is the one before it but for where it fetches. -/
theorem seek_some {a : Aud} {i : BufId} {st : Stream} (h : a.buf i = some st) :
    ∃ n, a.seek.buf i = some { st with fetch := n } := by
  have e := a.seek_buf i
  rw [h] at e
  obtain ⟨st', hst', e'⟩ := Option.map_eq_some_iff.1 e
  refine ⟨st'.fetch, hst'.trans (congrArg some ?_)⟩
  obtain ⟨_, _, _, _, _, _, _, _, _⟩ := st
  obtain ⟨_, _, _, _, _, _, _, _, _⟩ := st'
  cases e'
  rfl

end Aud

/-! ## The end of a step at the flash port -/

@[simp] theorem settleFlash_aud (s : State) : s.settleFlash.aud = s.aud.seek := by
  unfold State.settleFlash
  rw [arbitrate_aud]

/-- Settling the flash port may set "erase suspended" and no other flag (R170). -/
theorem settleFlash_flags (s : State) :
    s.settleFlash.flags = s.flags ∨ s.settleFlash.flags = s.flags.raise .eraseSuspended := by
  unfold State.settleFlash State.arbitrate
  split
  · rw [chooseTxn_flags]; exact .inl rfl
  · split
    · exact .inr rfl
    · exact .inl rfl
  all_goals exact .inl rfl

theorem settleFlash_has (s : State) {f : Flag} (h : f ≠ .eraseSuspended) : s.settleFlash.flags.has f = s.flags.has f := by
  rcases settleFlash_flags s with e | e
  · rw [e]
  · rw [e, raise_has_other _ h]

/-! ## DISARM, HOLD, RESUME -/

/-- Settles O15: each is taken in its one show state and writes what its rule names. -/
theorem disarmHoldResumeChangeTheShow : Obligations.DisarmHoldResumeChangeTheShow := by
  unfold Obligations.DisarmHoldResumeChangeTheShow
  intro s q
  refine ⟨fun ht => ?_, fun ht => ?_, fun ht => ?_⟩
  · have run : exec .disarm s = .next (s.taken.judged q (refuseIf (decide (s.seq.st ≠ .armed)) .wrongState) fun _ =>
        (s.taken.answer q .ok []).showIdle .disarm).kick := congrArg Host.Outcome.next (serve_takes s _ anyOf _ q ht rfl)
    rw [run]
    refine ⟨fun h => congrArg Host.Outcome.next (judged_refused ?_), fun h => ?_⟩
    · rw [decide_eq_true h, refuseIf_true]
    · rw [decide_eq_false (not_not.2 h), refuseIf_false, judged_ok]
      rfl
  · have run : exec .hold s = .next (s.taken.judged q (refuseIf (decide (s.seq.st ≠ .running)) .wrongState) fun _ =>
        (s.taken.answer q .ok []).holdShow).kick := congrArg Host.Outcome.next (serve_takes s _ anyOf _ q ht rfl)
    rw [run]
    refine ⟨fun h => congrArg Host.Outcome.next (judged_refused ?_), fun h => ?_⟩
    · rw [decide_eq_true h, refuseIf_true]
    · rw [decide_eq_false (not_not.2 h), refuseIf_false, judged_ok]
      have time : s.showTime = some (s.aud.base + ((s.aud.count / 48 : Nat) : Int)) := by
        unfold State.showTime; rw [h]
      exact ⟨_, rfl, rfl, rfl, time.symm, rfl, rfl, rfl, rfl, rfl, rfl, rfl, rfl, rfl⟩
  · have run : exec .resume s = .next (s.taken.judged q (refuseIf (decide (s.seq.st ≠ .held)) .wrongState) fun _ =>
        (s.taken.answer q .ok []).resumeShow).kick := congrArg Host.Outcome.next (serve_takes s _ anyOf _ q ht rfl)
    rw [run]
    refine ⟨fun h => congrArg Host.Outcome.next (judged_refused ?_), fun h => ?_⟩
    · rw [decide_eq_true h, refuseIf_true]
    · rw [decide_eq_false (not_not.2 h), refuseIf_false, judged_ok]
      have time : s.showTime = some (s.aud.base + ((s.aud.count / 48 : Nat) : Int)) := by
        unfold State.showTime; rw [h]
      exact ⟨_, rfl, rfl, rfl, time.symm, rfl, rfl, rfl, rfl, rfl, rfl, rfl, rfl, rfl⟩

/-! ## DIRECT_CLIP -/

namespace Aud

/-- The buffer that a clip is given to is not the one that is PLAYING (R49). -/
theorem chooseBuf_of_playing {a : Aud} {i : BufId} (h : a.playing = some i) : a.chooseBuf = i.other := by
  unfold chooseBuf; rw [h]

theorem chooseBuf_of_quiet {a : Aud} (h : a.playing = none) :
    a.chooseBuf = if a.bufA = none ∧ a.bufB ≠ none then .b else .a := by
  unfold chooseBuf
  rw [h]
  unfold playing at h
  unfold pendingBuf
  cases ha : a.bufA with
  | some st =>
    rw [ha] at h
    cases hp : st.playing
    · simp [hp]
    · simp [hp] at h
  | none =>
    rw [ha] at h
    cases hb : a.bufB with
    | none => simp
    | some st =>
      rw [hb] at h
      cases hp : st.playing
      · simp [hp]
      · simp [hp] at h

end Aud

/-- Which buffer is PLAYING: A where A is, else B where B is. -/
theorem Aud.playing_eq_some {a : Aud} {i : BufId} (h : a.playing = some i) : (a.buf i).any (·.playing) = true := by
  unfold Aud.playing at h
  split at h
  next ha => cases h; exact ha
  · split at h
    next hb => cases h; exact hb
    · cases h

/-- No buffer is PLAYING. -/
theorem Aud.playing_eq_none {a : Aud} : a.playing = none ↔ ∀ i, (a.buf i).any (·.playing) = false := by
  unfold Aud.playing
  constructor
  · intro h i
    split at h
    · cases h
    next ha =>
      split at h
      · cases h
      next hb =>
        cases i
        · exact Bool.eq_false_iff.2 ha
        · exact Bool.eq_false_iff.2 hb
  · intro h
    have ha : ¬(a.bufA.any (·.playing)) = true := Bool.eq_false_iff.1 (h .a)
    have hb : ¬(a.bufB.any (·.playing)) = true := Bool.eq_false_iff.1 (h .b)
    rw [if_neg ha, if_neg hb]

/-- AUD after a clip has been given to its buffer (R49). -/
def Aud.given (a : Aud) (st : Stream) : Aud := (a.discard a.chooseBuf).setBuf a.chooseBuf (some st)

theorem giveClip_aud (s : State) (o : Origin) (id : Nat) (c : Clip) (n : Nat) (k : Int) :
    (s.giveClip o id c n k).aud = s.aud.given (Stream.given o id c n k) := rfl

theorem Aud.given_buf_same (a : Aud) (st : Stream) : (a.given st).buf a.chooseBuf = some st := Aud.buf_setBuf_same _ _ _

theorem Aud.given_buf_other (a : Aud) (st : Stream) {j : BufId} (h : j ≠ a.chooseBuf) : (a.given st).buf j = a.buf j := by
  unfold Aud.given
  rw [Aud.buf_setBuf_other _ h]
  unfold Aud.discard
  cases hc : a.chooseBuf <;> rw [hc] at h <;> cases j <;> first | rfl | exact absurd rfl h

/-- A clip that waits leaves what is PLAYING (R49). -/
theorem Aud.given_playing (a : Aud) {st : Stream} (waits : st.playing = false) : (a.given st).playing = a.playing := by
  have given : ((a.given st).buf a.chooseBuf).any (·.playing) = false := by
    rw [Aud.given_buf_same]; exact waits
  cases hp : a.playing with
  | none =>
    refine Aud.playing_eq_none.2 fun i => ?_
    by_cases e : i = a.chooseBuf
    · rw [e]; exact given
    · rw [Aud.given_buf_other a st e]; exact Aud.playing_eq_none.1 hp i
  | some i =>
    have choice := Aud.chooseBuf_of_playing hp
    have kept : ((a.given st).buf i).any (·.playing) = true := by
      rw [Aud.given_buf_other a st (by rw [choice]; exact (Aud.other_ne i).symm)]
      exact Aud.playing_eq_some hp
    rw [choice] at given
    unfold Aud.playing
    cases i with
    | a => exact if_pos kept
    | b =>
      have quiet : ¬((a.given st).bufA.any (·.playing)) = true := Bool.eq_false_iff.1 given
      rw [if_neg quiet]
      exact if_pos kept

/-- With both buffers discarded an outstanding read belongs to neither (R54). -/
theorem discardBoth_chunk {a : Aud} {k : Chunk} (h : a.discardBoth.chunk = some k) : k.owner = none := by
  unfold Aud.discardBoth Aud.discard at h
  cases hc : a.chunk with
  | none => simp [hc] at h
  | some c =>
    simp only [hc, Option.map_some, Option.some.injEq] at h
    subst h
    cases ho : c.owner with
    | none => simp [ho]
    | some i => cases i <;> simp [ho]

theorem judgePlay_eq {s : State} {p : List Byte} {c : Clip} (idle : s.seq.st = .idle) (run : s.sup.mode ≠ .tripped)
    (action : u8 p 0 = 1) (clip : lookupClip s.aud.clips (u8 p 1) = some c) : s.judgePlay p = .ok (u8 p 1, c) := by
  simp [State.judgePlay, State.needDirect, State.isIdle, State.isTripped, idle, run, action, clip, refuseIf_eq]

/-- Settles O59: the chain of refusals, and where the clip goes. -/
theorem directClipPlaysAndStops : Obligations.DirectClipPlaysAndStops := by
  unfold Obligations.DirectClipPlaysAndStops
  intro s q ht
  refine ⟨fun play => ?_, fun stop => ?_⟩
  · have run : exec .directClipPlay s = .next (s.taken.judged q (s.judgePlay q.payload) fun a =>
        ((s.taken.answer q .ok []).giveClip .direct a.1 a.2 0 0).settleFlash).kick :=
      congrArg Host.Outcome.next (serve_takes s _ (fun q => !saysStop q) _ q ht (by rw [play]; rfl))
    rw [run]
    refine ⟨fun h => congrArg Host.Outcome.next (judged_refused ?_), fun idle h =>
      congrArg Host.Outcome.next (judged_refused ?_), fun idle live => ⟨fun h =>
      congrArg Host.Outcome.next (judged_refused ?_), fun c action clip => ?_⟩⟩
    · simp [State.judgePlay, State.needDirect, State.isIdle, h]
    · simp [State.judgePlay, State.needDirect, State.isIdle, State.isTripped, idle, h, refuseIf_eq]
    · by_cases action : u8 q.payload 0 = 1
      · simp [State.judgePlay, State.needDirect, State.isIdle, State.isTripped, idle, live, action,
          h.resolve_left (not_not.2 action), refuseIf_eq]
      · simp [State.judgePlay, State.needDirect, State.isIdle, State.isTripped, idle, live, action, refuseIf_eq]
    · rw [judged_passed (judgePlay_eq idle live action clip)]
      have aud : (((s.taken.answer q .ok []).giveClip .direct (u8 q.payload 1) c 0 0).settleFlash.kick).aud
          = (s.aud.given (Stream.given .direct (u8 q.payload 1) c 0 0)).seek := by
        rw [kick_aud, settleFlash_aud, giveClip_aud]; rfl
      obtain ⟨n, held⟩ := Aud.seek_some (s.aud.given_buf_same (Stream.given .direct (u8 q.payload 1) c 0 0))
      refine ⟨_, rfl, ?_, ?_, fun i h => Aud.chooseBuf_of_playing h, fun h => Aud.chooseBuf_of_quiet h, ?_, fun h => ?_⟩
      · refine ⟨?_, ?_, ?_, ?_, ?_, ?_, ?_, ?_, ?_⟩ <;> simp
      · rw [aud, Aud.seek_playing, Aud.given_playing _ rfl]
      · rw [aud, held]
        exact ⟨_, rfl, rfl, rfl, rfl, rfl, rfl, rfl, rfl⟩
      · have flag : ((s.taken.answer q .ok []).giveClip .direct (u8 q.payload 1) c 0 0).flags.has .clipReplaced = true := by
          have e : ((s.taken.answer q .ok []).giveClip .direct (u8 q.payload 1) c 0 0).flags
              = s.flags.raiseIf (s.aud.buf s.aud.chooseBuf).isSome .clipReplaced := rfl
          rw [e, h, Flags.raiseIf, if_pos rfl]
          exact raise_has s.flags .clipReplaced
        rw [kick_flags, settleFlash_has _ (by decide)]
        exact flag
  · have run : exec .directClipStop s = .next (s.taken.judged q s.needDirect fun _ =>
        (s.taken.answer q .ok []).stopClips).kick := congrArg Host.Outcome.next (serve_takes s _ saysStop _ q ht stop)
    rw [run]
    refine ⟨fun h => congrArg Host.Outcome.next (judged_refused ?_), fun idle h =>
      congrArg Host.Outcome.next (judged_refused ?_), fun idle live => ?_⟩
    · simp [State.needDirect, State.isIdle, h]
    · simp [State.needDirect, State.isIdle, State.isTripped, idle, h, refuseIf_eq]
    · have hj : s.needDirect = .ok () := by
        simp [State.needDirect, State.isIdle, State.isTripped, idle, live, refuseIf_eq]
      rw [judged_passed hj]
      refine ⟨_, rfl, rfl, rfl, fun k hk => ?_, rfl, rfl⟩
      exact discardBoth_chunk hk

end Sys2Proof.Machine
end

section
/-! Requests that wait or are refused, and reports that queue (R182, R183, R185). -/

namespace Sys2Proof.Machine

open State

/-- A command serves a row of the catalogue: it hands a taken request of that row to an owner. -/
def servesRow (x : Instr × RequestRule × (Request → Bool)) : Prop :=
  ∃ owner : State → Request → State, ∀ s : State, exec x.1 s = .next (s.serve x.2.1 x.2.2 owner)

/-- Every request command serves its row. -/
theorem requestRows_serve (x : Instr × RequestRule × (Request → Bool)) (h : x ∈ requestRows) : servesRow x := by
  unfold requestRows at h
  rw [List.mem_append, List.mem_append, List.mem_append, List.mem_append, List.mem_flatMap] at h
  rcases h with (((h | h) | h) | h) | ⟨i, -, h⟩ <;> simp only [List.mem_cons, List.not_mem_nil, or_false] at h
  · rcases h with rfl | rfl | rfl | rfl | rfl | rfl | rfl | rfl | rfl <;> exact ⟨_, fun _ => rfl⟩
  · rcases h with rfl | rfl | rfl | rfl | rfl | rfl | rfl | rfl | rfl | rfl <;> exact ⟨_, fun _ => rfl⟩
  · rcases h with rfl | rfl | rfl | rfl | rfl | rfl | rfl | rfl | rfl | rfl <;> exact ⟨_, fun _ => rfl⟩
  · rcases h with rfl | rfl | rfl | rfl | rfl | rfl | rfl <;> exact ⟨_, fun _ => rfl⟩
  · rcases h with rfl | rfl <;> exact ⟨_, fun _ => rfl⟩

theorem serveUnknown_takes {s : State} {q : Request} (h : s.lif.inbox.head? = some q) (kind : q.kind ∉ requestKinds)
    (place : s.lif.placesUsed < 4) : s.serveUnknown = s.answered q .unknownKind [] := by
  obtain ⟨rest, hr⟩ := List.head?_eq_some_iff.1 h
  unfold State.serveUnknown
  rw [hr]
  dsimp only
  rw [if_pos ⟨kind, place⟩]
  rfl

theorem serveUnknown_waits {s : State} {q : Request} (h : s.lif.inbox.head? = some q)
    (other : q.kind ∈ requestKinds ∨ 4 ≤ s.lif.placesUsed) : s.serveUnknown = s := by
  obtain ⟨rest, hr⟩ := List.head?_eq_some_iff.1 h
  unfold State.serveUnknown
  rw [hr]
  dsimp only
  rw [if_neg]
  rintro ⟨kind, place⟩
  exact other.elim kind fun full => Nat.not_lt.2 full place

/-- A report is made exactly where its category, if it has one, is enabled. -/
theorem makes_iff (l : Lif) (r : Report) :
    l.makes r = true ↔ ∀ c, r.category = some c → l.enable.getLsbD c.bit = true := by
  refine ⟨fun h c hc => ?_, makes_of_enabled⟩
  unfold Lif.makes at h
  rw [hc] at h
  exact h

/-- Settles O56: each row's command is the one serving of its row, whose cases are known. -/
theorem requestsWaitOrAreRefused : Obligations.RequestsWaitOrAreRefused := by
  unfold Obligations.RequestsWaitOrAreRefused
  refine ⟨fun c r mine row s => ?_, fun s q h => ⟨fun kind place => ?_, fun other => ?_⟩, fun s q ht => ?_, fun s r => ?_⟩
  · obtain ⟨owner, serves⟩ := requestRows_serve (c, r, mine) row
    rw [serves s]
    exact ⟨fun h => congrArg _ (serve_empty s r mine owner h), fun q h =>
      ⟨fun hn => congrArg _ (serve_waits s r mine owner q h hn), fun st hk hm hp hr =>
        congrArg _ (serve_refused s r mine owner q st h hk hm hp hr)⟩⟩
  · exact congrArg Host.Outcome.next (serveUnknown_takes h kind place)
  · exact congrArg Host.Outcome.next (serveUnknown_waits h other)
  · exact congrArg Host.Outcome.next (serve_takes s _ anyOf _ q ht rfl)
  · intro made
    refine ⟨fun off => ?_, fun on room => ?_, fun on full => ?_⟩
    · exact report_disabled s r (Bool.eq_false_iff.2 fun h => off ((makes_iff s.lif r).1 h))
    · have h := makes_of_enabled on
      have free := Nat.not_le.2 room
      simp [State.report, Lif.withReport, Lif.drops, h, free, Flags.raiseIf]
    · have h := makes_of_enabled on
      simp [State.report, Lif.withReport, Lif.drops, h, full, Flags.raiseIf]

end Sys2Proof.Machine
end

section
/-! What a step owes the site until its end: a SITE report for every change, the condition flags left for the judgement, the trip
as it stands (R155, R158, R159). -/

namespace Sys2Proof.Machine

/-- From one state to a later one of the same step: mode and trip stand, no flag is cleared, the condition flags of the site are
untouched, and a SITE report is owed for every change of band, level state or PERMIT. -/
structure State.Owes (s u : State) : Prop where
  mode : u.sup.mode = s.sup.mode
  causes : u.sup.causes = s.sup.causes
  tripLog : u.sup.tripLog = s.sup.tripLog
  kept : ∀ f, s.flags.has f = true → u.flags.has f = true
  windForced : u.flags.has .windForced = s.flags.has .windForced
  levelLow : u.flags.has .levelLow = s.flags.has .levelLow
  levelDry : u.flags.has .levelDry = s.flags.has .levelDry
  mono : s.sup.siteDue = true → u.sup.siteDue = true
  due : u.sup.band ≠ s.sup.band ∨ u.levelNow ≠ s.levelNow ∨ u.sup.permit ≠ s.sup.permit → u.sup.siteDue = true

namespace State.Owes

variable {s u v : State}

theorem refl (s : State) : s.Owes s :=
  ⟨rfl, rfl, rfl, fun _ h => h, rfl, rfl, rfl, id, fun h => by simp at h⟩

theorem trans (h : s.Owes u) (h' : u.Owes v) : s.Owes v where
  mode := h'.mode.trans h.mode
  causes := h'.causes.trans h.causes
  tripLog := h'.tripLog.trans h.tripLog
  kept f hf := h'.kept f (h.kept f hf)
  windForced := h'.windForced.trans h.windForced
  levelLow := h'.levelLow.trans h.levelLow
  levelDry := h'.levelDry.trans h.levelDry
  mono := h'.mono ∘ h.mono
  due c := by
    by_cases later : v.sup.band ≠ u.sup.band ∨ v.levelNow ≠ u.levelNow ∨ v.sup.permit ≠ u.sup.permit
    · exact h'.due later
    · push Not at later
      obtain ⟨band, level, permit⟩ := later
      rw [band, level, permit] at c
      exact h'.mono (h.due c)

theorem ite {c : Prop} [Decidable c] {t : State} (hu : s.Owes u) (ht : s.Owes t) : s.Owes (if c then u else t) := by
  split
  · exact hu
  · exact ht

end State.Owes

/-! ## Flags that stay -/

/-- Setting a flag of another bank leaves the condition flags of the site. -/
theorem siteFlags_of_siteBank {fs gs : Flags} (h : gs.site = fs.site) :
    gs.has .windForced = fs.has .windForced ∧ gs.has .levelLow = fs.has .levelLow ∧ gs.has .levelDry = fs.has .levelDry := by
  have e (f : Flag) (hf : f.bank = .site) : gs.has f = fs.has f := by
    unfold Flags.has
    rw [hf]
    exact congrArg (fun b : Byte => b.getLsbD f.bit) h
  exact ⟨e _ rfl, e _ rfl, e _ rfl⟩

namespace State

variable {s u : State}

/-- A part of a step that leaves SUP, and of the SITE bank everything. -/
theorem owes_of_sup {v : State} (h : s.Owes u) (sup : v.sup = u.sup) (site : v.flags.site = u.flags.site)
    (kept : ∀ f, u.flags.has f = true → v.flags.has f = true) : s.Owes v := by
  obtain ⟨wind, low, dry⟩ := siteFlags_of_siteBank site
  have level : v.levelNow = u.levelNow := by rw [levelNow_eq, levelNow_eq, sup]
  exact h.trans ⟨by rw [sup], by rw [sup], by rw [sup], kept, wind, low, dry, by rw [sup]; exact id,
    fun c => by rw [sup, level] at c; simp at c⟩

/-- A part of a step that leaves SUP and the flags. -/
theorem owes_of_eq {v : State} (h : s.Owes u) (sup : v.sup = u.sup) (flags : v.flags = u.flags) : s.Owes v :=
  owes_of_sup h sup (by rw [flags]) fun f hf => by rw [flags]; exact hf

/-- A flag that is not one of the site's conditions. -/
abbrev notCondition (f : Flag) : Prop := f ≠ .windForced ∧ f ≠ .levelLow ∧ f ≠ .levelDry

theorem flag_owes {f : Flag} (h : s.Owes u) (hf : notCondition f) : s.Owes (u.flag f) := by
  obtain ⟨wind, low, dry⟩ := hf
  exact h.trans ⟨rfl, rfl, rfl, fun g hg => Flags.has_raise _ _ hg, raise_has_other _ wind.symm, raise_has_other _ low.symm,
    raise_has_other _ dry.symm, id, fun c => by simp [flag, levelNow_eq] at c⟩

theorem flagIf_owes {c : Bool} {f : Flag} (h : s.Owes u) (hf : notCondition f) : s.Owes (u.flagIf c f) := by
  cases c with
  | false => exact h
  | true => exact flag_owes h hf

theorem report_owes {r : Report} (h : s.Owes u) : s.Owes (u.report r) :=
  owes_of_sup h rfl (report_siteBank u r) fun _ hf => Flags.has_raiseIf _ _ _ hf

theorem sayShow_owes {r : Option EndReason} (h : s.Owes u) : s.Owes (u.sayShow r) := report_owes h

theorem sayGroup_owes {g : Fin 24} {left : Option Interlock} {code : Option Byte} (h : s.Owes u) :
    s.Owes (u.sayGroup g left code) := by
  unfold sayGroup
  split
  · exact report_owes h
  · exact h

theorem rescale_owes (h : s.Owes u) : s.Owes u.rescale :=
  owes_of_sup h rfl (rescale_siteBank u) fun _ hf => Flags.has_raiseIf _ _ _ hf

theorem withGroup_owes {g : Fin 24} {x : Group} (h : s.Owes u) : s.Owes (u.withGroup g x) := owes_of_eq h rfl rfl

theorem postDemand_owes {g : Fin 24} {v : Nat} (h : s.Owes u) : s.Owes (u.postDemand g v) := by
  unfold postDemand
  split
  · exact h
  · exact rescale_owes (owes_of_eq h rfl rfl)

theorem postAtChange_owes {g : Fin 24} {left into : Interlock} (h : s.Owes u) : s.Owes (u.postAtChange g left into) := by
  unfold postAtChange
  split
  · exact h
  · exact postDemand_owes h

theorem showIdle_owes {r : EndReason} (h : s.Owes u) : s.Owes (u.showIdle r) := sayShow_owes (owes_of_eq h rfl rfl)

theorem testStopping_owes (h : s.Owes u) : s.Owes u.testStopping := by
  unfold testStopping
  split
  · split
    · exact showIdle_owes (owes_of_eq h rfl rfl)
    · exact h
  · exact h

theorem enterStopping_owes {r : EndReason} (h : s.Owes u) : s.Owes (u.enterStopping r) :=
  testStopping_owes (sayShow_owes (owes_of_eq h rfl rfl))

/-- PERMIT goes low, and the change is owed. -/
theorem lowerPermit_owes (h : s.Owes u) : s.Owes u.lowerPermit := by
  refine h.trans ⟨rfl, rfl, rfl, fun _ hf => hf, rfl, rfl, rfl, fun due => by simp [lowerPermit, due], fun c => ?_⟩
  have permit : u.sup.permit = true := by
    by_contra off
    simp [lowerPermit, levelNow_eq, Sup.effective, Bool.eq_false_iff.2 off] at c
  simp [lowerPermit, permit]

theorem judgeDrop_owes (h : s.Owes u) : s.Owes u.judgeDrop := Owes.ite (lowerPermit_owes h) h

theorem offerChange_owes (h : s.Owes u) : s.Owes u.offerChange := judgeDrop_owes (testStopping_owes h)

theorem changeInterlock_owes {g : Fin 24} {left into : Interlock} {cause : FaultCause} {code : Option Byte} (h : s.Owes u) :
    s.Owes (u.changeInterlock g left into cause code) :=
  offerChange_owes (postAtChange_owes (sayGroup_owes (withGroup_owes h)))

theorem computePoll_owes {g : Fin 24} (h : s.Owes u) : s.Owes (u.computePoll g) := by
  unfold computePoll
  dsimp only
  split
  · exact h
  next i _ =>
    have posted := postDemand_owes (g := g) (v := demandSpeed i ((u.groupRecord g).speedAt (u.stage3 g))) h
    split <;> split
    · exact offerChange_owes (sayGroup_owes (withGroup_owes posted))
    · exact offerChange_owes (withGroup_owes posted)
    · exact sayGroup_owes (withGroup_owes posted)
    · exact withGroup_owes posted

theorem takeReply_owes {g : Fin 24} {rep : DriveReply} (h : s.Owes u) : s.Owes (u.takeReply g rep) := by
  unfold takeReply
  dsimp only
  split
  · exact h
  · exact withGroup_owes h
  · exact withGroup_owes h
  · split
    · exact changeInterlock_owes (flag_owes (withGroup_owes h) (by decide))
    · split
      · exact changeInterlock_owes (flag_owes (withGroup_owes h) (by decide))
      · split
        · exact changeInterlock_owes (withGroup_owes h)
        · split
          · exact changeInterlock_owes (withGroup_owes h)
          · exact withGroup_owes h

theorem strokeExpire_owes {g : Fin 24} (h : s.Owes u) : s.Owes (u.strokeExpire g) := by
  unfold strokeExpire
  split
  · exact changeInterlock_owes (flag_owes h (by decide))
  · exact h

theorem loseGroup_owes {g : Fin 24} (h : s.Owes u) : s.Owes (u.loseGroup g) := by
  unfold loseGroup
  split
  · exact h
  · exact h
  · exact changeInterlock_owes (flag_owes h (by decide))

theorem findGroup_owes {g : Fin 24} (h : s.Owes u) : s.Owes (u.findGroup g) := by
  unfold findGroup
  split
  · exact changeInterlock_owes h
  · exact h

theorem zeroFades_owes (h : s.Owes u) : s.Owes u.zeroFades := owes_of_eq h rfl rfl

theorem enterDry_owes (h : s.Owes u) : s.Owes u.enterDry := by
  have ticked : s.Owes { u with fresh := u.fresh + 1 } := owes_of_eq h rfl rfl
  unfold enterDry
  split
  · dsimp only
    split
    · exact zeroFades_owes (enterStopping_owes ticked)
    · exact enterStopping_owes (zeroFades_owes ticked)
  · exact zeroFades_owes h

/-- Where a SITE report is owed already, whatever SUP's figures have become since. -/
theorem oweSite_owes {a : State} {x : Sup} (mode : x.mode = a.sup.mode) (causes : x.causes = a.sup.causes)
    (log : x.tripLog = a.sup.tripLog) : a.Owes (oweSite { a with sup := x } true) :=
  ⟨mode, causes, log, fun _ hf => hf, rfl, rfl, rfl, fun _ => by simp [oweSite], fun _ => by simp [oweSite]⟩

theorem setBand_owes {band : Nat} (h : s.Owes u) : s.Owes (u.setBand band) := by
  refine h.trans ⟨rfl, rfl, rfl, fun _ hf => hf, rfl, rfl, rfl, fun due => by simp [setBand, due], fun c => ?_⟩
  have moved : band ≠ u.sup.band := by
    by_contra same
    simp [setBand, levelNow_eq, Sup.effective, same] at c
  simp [setBand, moved]

/-- SUP's figures that bear neither on the site's report nor on its trip. -/
theorem owes_of_figures {x : Sup} (h : s.Owes u) (mode : x.mode = u.sup.mode) (causes : x.causes = u.sup.causes)
    (log : x.tripLog = u.sup.tripLog) (band : x.band = u.sup.band) (level : x.effective = u.sup.effective)
    (permit : x.permit = u.sup.permit) (due : x.siteDue = u.sup.siteDue) : s.Owes { u with sup := x } :=
  h.trans ⟨mode, causes, log, fun _ hf => hf, rfl, rfl, rfl, fun d => due.trans d, fun c => by
    simp [levelNow_eq, band, level, permit] at c⟩

theorem settleFlash_owes (h : s.Owes u) : s.Owes u.settleFlash :=
  owes_of_sup h (settleFlash_sup u) (settleFlash_siteBank u) fun f hf => by
    rcases settleFlash_flags u with e | e
    · rw [e]; exact hf
    · rw [e]; exact Flags.has_raise _ _ hf

/-- What follows when figures of SUP have become others under which the level state may be another. -/
theorem levelMoved_owes {x : Sup} (h : s.Owes u) (mode : x.mode = u.sup.mode) (causes : x.causes = u.sup.causes)
    (log : x.tripLog = u.sup.tripLog) (band : x.band = u.sup.band) (permit : x.permit = u.sup.permit)
    (due : x.siteDue = u.sup.siteDue) : s.Owes (levelMoved { u with sup := x } u.sup.effective) := by
  unfold levelMoved
  split
  next same => exact owes_of_figures h mode causes log band same permit due
  · split
    · exact enterDry_owes (h.trans (oweSite_owes mode causes log))
    · exact h.trans (oweSite_owes mode causes log)

/-- The level state is read from the LEVEL channel alone. -/
theorem effective_withChannel {i : Fin 27} {c : Channel} (h : i ≠ 1 ∨ c.valid = (u.sup.channels.get 1).valid) :
    (u.withChannel i c).sup.effective = u.sup.effective := by
  have valid : ((u.sup.channels.set i c).get 1).valid = (u.sup.channels.get 1).valid := by
    rw [Sys2Proof.Table.get_set]
    split
    next e => exact h.resolve_left (not_not.2 e)
    · rfl
  unfold Sup.effective
  rw [show (u.withChannel i c).sup.channels = u.sup.channels.set i c from rfl, valid]
  rfl

theorem withChannel_owes {i : Fin 27} {c : Channel} (h : s.Owes u) (same : i ≠ 1 ∨ c.valid = (u.sup.channels.get 1).valid) :
    s.Owes (u.withChannel i c) :=
  owes_of_figures h rfl rfl rfl rfl (effective_withChannel same) rfl rfl

theorem validityActs_owes {i : Fin 27} {before : LevelState} (h : s.Owes u) (other : i ≠ 1) :
    s.Owes (u.validityActs i before) := by
  unfold validityActs
  dsimp only
  split
  · split
    · exact owes_of_figures h rfl rfl rfl rfl rfl rfl rfl
    · exact setBand_owes h
  · rw [if_neg (show ¬i.val = 1 from fun e => other (Fin.ext e))]
    split
    · exact flagIf_owes h (by decide)
    · split
      · split
        · exact findGroup_owes h
        · exact loseGroup_owes h
      · exact h

theorem moveChannel_owes {i : Fin 27} {c : Channel} (h : s.Owes u) : s.Owes (u.moveChannel i c) := by
  by_cases same : c.valid = (u.sup.channels.get i).valid
  · rw [moveChannel_same same]
    exact withChannel_owes h (by by_cases e : i = 1 <;> [exact .inr (e ▸ same); exact .inl e])
  · rw [moveChannel_turned same]
    by_cases e : i = 1
    · subst e
      exact levelMoved_owes (x := (u.withChannel 1 c).sup) (report_owes h (r := .validity 1 c.valid c.counter c.fatal))
        rfl rfl rfl rfl rfl rfl
    · exact validityActs_owes (report_owes (withChannel_owes h (.inl e))) e

theorem evaluate_owes {i : Fin 27} {e : Evaluation} (h : s.Owes u) : s.Owes (u.evaluate i e) := moveChannel_owes h

theorem resetChannel_owes {i : Fin 27} (h : s.Owes u) : s.Owes (u.resetChannel i) := by
  unfold resetChannel
  exact Owes.ite h (moveChannel_owes h)

end State

/-! ## The end of the step -/

/-- A step that owes what it must ends with the site judged, wherever the link then goes. -/
theorem judgesSite_of_owes {s u t : State} {l : Lif} {n before : Nat} (o : s.Owes u) (enable : l.enable = s.lif.enable)
    (reports : l.reports = s.lif.reports) (g : l.Grows n u.lif) (le : n ≤ before) (sup : t.sup = u.settleSite.sup)
    (site : t.flags.site = u.settleSite.flags.site) (cfg : t.cfg.groups = u.settleSite.cfg.groups)
    (goesOn : ∀ r, u.settleSite.lif.Carries r → t.lif.Carries r) : s.judgesSite t before := by
  have bits := presentMask_bits u.supSettled
  have figures : t.sup = u.supSettled := sup.trans (settleSite_sup u)
  have level : t.levelNow = u.sup.effective := by rw [levelNow_eq, figures]; rfl
  have has (f : Flag) (hf : f.bank = .site) : t.flags.has f = (u.flags.has f || u.supSettled.presentMask.getLsbD f.bit) := by
    rw [← settleSite_has u f hf]
    unfold Flags.has
    rw [hf]
    exact congrArg (fun b : Byte => b.getLsbD f.bit) site
  refine ⟨?_, ?_, fun gates valid => ?_, fun notLow => ?_, fun notDry => ?_, fun moved => ?_⟩
  · rw [figures, ← o.mode]
    exact State.judgedMode_tripped_iff u
  · exact State.siteJudged_same (settleSite_siteJudged u) sup cfg site
  · have clear : u.supSettled.forced = false := by
      rw [figures] at gates valid
      simp [Sup.forced, valid, Nat.not_lt.2 gates]
    rw [has .windForced rfl, bits.1, clear, Bool.or_false, o.windForced]
  · rw [level] at notLow
    rw [has .levelLow rfl, bits.2.1, show u.supSettled.effective = u.sup.effective from rfl, decide_eq_false notLow,
      Bool.or_false, o.levelLow]
  · rw [level] at notDry
    rw [has .levelDry rfl, bits.2.2, show u.supSettled.effective = u.sup.effective from rfl, decide_eq_false notDry,
      Bool.or_false, o.levelDry]
  · have owed : u.sup.siteDue = true ∨ u.judgedMode ≠ u.sup.mode := by
      rw [level, figures] at moved
      rcases moved with band | lev | mode | permit
      · exact .inl (o.due (.inl band))
      · exact .inl (o.due (.inr (.inl lev)))
      · exact .inr fun e => mode (e.trans o.mode)
      · exact .inl (o.due (.inr (.inr permit)))
    have said : Report.site t.sup.band (t.sup.winds.foldl max 0) t.levelNow t.sup.level t.sup.mode t.sup.permit
        = u.supSettled.siteReport := by
      rw [level, figures]; rfl
    rw [said]
    refine says_of_report (u := { u with sup := u.supSettled, flags := u.flags.judgeSite u.supSettled })
      (l := l) enable reports g le fun h => goesOn _ ?_
    unfold State.settleSite
    rw [if_pos owed]
    exact h

/-- A step that settles everything at its end. -/
theorem judgesSite_settle {s u : State} {n before : Nat} (o : s.Owes u) (g : s.lif.Grows n u.lif) (le : n ≤ before) :
    s.judgesSite u.settle before :=
  judgesSite_of_owes (u := u.settleFlash) (State.settleFlash_owes o) rfl rfl (State.settleFlash_grows g) le rfl rfl rfl
    fun _ h => h.kick

/-- A request that settles everything at its end. -/
theorem judgesSite_settle_kick {s u : State} {q : Request} {n before : Nat} (o : s.Owes u)
    (g : (s.taken.answer q .ok []).lif.Grows n u.lif) (le : n ≤ before) : s.judgesSite u.settle.kick before :=
  judgesSite_of_owes (l := (s.taken.answer q .ok []).lif) (u := u.settleFlash) (State.settleFlash_owes o) rfl rfl (State.settleFlash_grows g) le rfl rfl rfl
    fun _ h => h.kick.kick

end Sys2Proof.Machine
end

section
/-! Interlock changes in their parts; stroke timeouts and cleared faults (R88, R90, R95 to R98). -/

namespace Sys2Proof.Machine

open State

/-! ## Groups that are down -/

theorem groupsDown_iff_all (s : State) :
    s.groupsDown = true ↔ ∀ g : Fin 24, ((s.groups.get g).interlock.all Interlock.down) = true :=
  Sys2Proof.Table.all_cells s.groups _

/-- A group that moves keeps the groups from being down. -/
theorem groupsDown_of_moving {s : State} {g : Fin 24} {i : Interlock} (h : (s.groups.get g).interlock = some i)
    (up : i.down = false) : s.groupsDown = false := by
  rw [← Bool.not_eq_true, groupsDown_iff_all]
  intro all
  have := all g
  rw [h, Option.all_some, up] at this
  exact Bool.noConfusion this

theorem groupsDown_congr {s t : State} (h : t.groups = s.groups) : t.groupsDown = s.groupsDown := by
  unfold State.groupsDown
  rw [h]

/-- While a group moves neither STOPPING ends nor PERMIT drops. -/
theorem offerChange_up {s : State} (h : s.groupsDown = false) : s.offerChange = s := by
  have stopping : s.stopEndHolds = false := by
    unfold State.stopEndHolds
    split
    · rw [h, Bool.and_false]
    · rfl
  have drop : s.dropCalled = false := by rw [State.dropCalled, h, Bool.and_false]
  simp [State.offerChange, State.testStopping, stopping, State.judgeDrop, drop]

/-! ## An interlock change in its parts -/

/-- A group in its new interlock state, before the change is reported (R90, R95, R96). -/
def State.entered (s : State) (g : Fin 24) (left into : Interlock) (cause : FaultCause) : State :=
  s.withGroup g { s.groups.get g with
    interlock := some into, cause := cause, stroke := into.timer s.clock (s.groupRecord g).stroke
    c0 := c0AtChange left into (s.groups.get g).c0 }

theorem entered_get (s : State) (g : Fin 24) (left into : Interlock) (cause : FaultCause) :
    ((s.entered g left into cause).groups.get g).interlock = some into := by
  unfold State.entered State.withGroup
  rw [Sys2Proof.Table.get_set_self]

/-- A change is reported with what the group last sent and read (R88). -/
theorem changeInterlock_eq (s : State) (g : Fin 24) (left into : Interlock) (cause : FaultCause) (code : Option Byte) :
    s.changeInterlock g left into cause code =
      ((((s.entered g left into cause).report (.groupState g (some left) into cause (s.groups.get g).starved
        (s.groups.get g).sent (((s.groups.get g).reply.map (·.actual)).getD 0) code)).postAtChange g left into).offerChange) := by
  have say : (s.entered g left into cause).sayGroup g (some left) code =
      (s.entered g left into cause).report (.groupState g (some left) into cause (s.groups.get g).starved
        (s.groups.get g).sent (((s.groups.get g).reply.map (·.actual)).getD 0) code) := by
    unfold State.sayGroup
    rw [entered_get]
    unfold State.entered State.withGroup
    rw [Sys2Proof.Table.get_set_self]
    rfl
  rw [← say]
  rfl

@[simp] theorem changeInterlock_channels (s : State) (g : Fin 24) (left into : Interlock) (cause : FaultCause)
    (code : Option Byte) : (s.changeInterlock g left into cause code).sup.channels = s.sup.channels := by
  rw [changeInterlock_eq, offerChange_channels, postAtChange_sup]
  rfl

/-- A change into a moving state is offered in vain: nothing but the group, FDA and the report is written. -/
theorem changeInterlock_up (s : State) (g : Fin 24) (left : Interlock) {into : Interlock} (cause : FaultCause)
    (code : Option Byte) (up : into.down = false) : s.changeInterlock g left into cause code =
      ((s.entered g left into cause).report (.groupState g (some left) into cause (s.groups.get g).starved
        (s.groups.get g).sent (((s.groups.get g).reply.map (·.actual)).getD 0) code)).postAtChange g left into := by
  rw [changeInterlock_eq]
  refine offerChange_up (groupsDown_of_moving (g := g) ?_ up)
  rw [postAtChange_groups, report_groups]
  exact entered_get s g left into cause

theorem changeInterlock_up_grows {s : State} {l : Lif} {n : Nat} {g : Fin 24} {left into : Interlock} {cause : FaultCause}
    {code : Option Byte} (up : into.down = false) (h : l.Grows n s.lif) :
    l.Grows (n + 1) (s.changeInterlock g left into cause code).lif := by
  rw [changeInterlock_up s g left cause code up, postAtChange_lif]
  exact report_grows (of_lif_eq_grows rfl h)

theorem findGroup_up_grows {s : State} {l : Lif} {n : Nat} {g : Fin 24} (h : l.Grows n s.lif) :
    l.Grows (n + 1) (s.findGroup g).lif := by
  unfold State.findGroup
  split
  · exact changeInterlock_up_grows rfl h
  · exact h.mono (Nat.le_succ n)

/-- An interlock change says so, however the step goes on. -/
theorem changeInterlock_says {s u t : State} {l : Lif} {n before : Nat} {g : Fin 24} {left into : Interlock}
    {cause : FaultCause} {code : Option Byte} (enable : l.enable = s.lif.enable) (reports : l.reports = s.lif.reports)
    (grows : l.Grows n u.lif) (le : n ≤ before)
    (goesOn : ∀ r, (u.changeInterlock g left into cause code).lif.Carries r → t.lif.Carries r) :
    s.says t before (.groupState g (some left) into cause (u.groups.get g).starved (u.groups.get g).sent
      (((u.groups.get g).reply.map (·.actual)).getD 0) code) := by
  refine says_of_report (u := u.entered g left into cause) enable reports grows le fun h => goesOn _ ?_
  rw [changeInterlock_eq]
  exact h.grows (offerChange_grows (postAtChange_grows (.refl 0 _)))

/-- An entry into FAULT or LOST from another state posts a demand of 0 (R81). -/
theorem changeInterlock_demand {s : State} {g : Fin 24} {left into : Interlock} {cause : FaultCause} {code : Option Byte}
    (open_ : left.barred = false) (shut : into.barred = true) :
    (s.changeInterlock g left into cause code).fda.demand.get g = 0 := by
  rw [changeInterlock_eq, offerChange_fda]
  unfold State.postAtChange
  rw [if_neg (by rw [open_, shut]; exact Bool.noConfusion), if_pos shut]
  exact postDemand_get _ _ _

/-! ## Stroke timeouts and cleared faults -/

theorem strokeExpire_eq {s : State} {g : Fin 24} {i : Interlock} (h : (s.groups.get g).interlock = some i) :
    s.strokeExpire g = (s.flag .strokeTimeout).changeInterlock g i .fault .strokeTimeout none := by
  unfold State.strokeExpire
  rw [h]

theorem strokeDue_iff {s : State} {g : Fin 24} {timer : StrokeTimer} (h : (s.groups.get g).stroke = some timer) :
    s.strokeDue g = true ↔ timer.len ≤ (s.clock - timer.began).toNat := by
  unfold State.strokeDue
  rw [h]
  exact decide_eq_true_iff

/-- Settling at the end of a step keeps what the link carries, through the request's own transmitter too. -/
theorem settle_kick_carries {s : State} {r : Report} (h : s.lif.Carries r) : s.settle.kick.lif.Carries r :=
  (settle_carries h).kick

/-- Settling clears no flag. -/
theorem settle_kept {s : State} {f : Flag} (h : s.flags.has f = true) : s.settle.flags.has f = true := by
  have flash : s.settleFlash.flags.has f = true := (State.settleFlash_owes (State.Owes.refl s)).kept f h
  have site : s.settleFlash.settleSite.flags.has f = true := by
    unfold State.settleSite
    dsimp only
    have judged : (s.settleFlash.flags.judgeSite s.settleFlash.supSettled).has f = true := by
      unfold Flags.judgeSite Flags.has at *
      cases hb : f.bank <;> rw [hb] at flash <;> first | exact flash | skip
      exact (BitVec.getLsbD_or ..).trans (by rw [show s.settleFlash.flags.site.getLsbD f.bit = true from flash]; rfl)
    split
    · exact Flags.has_raiseIf _ _ _ judged
    · exact judged
  exact site

/-- The chain of refusals of CLEAR_GROUP_FAULT (R98). -/
theorem judgeClearFault_eq (s : State) (p : List Byte) : s.judgeClearFault p =
    if h : u8 p 0 < 24 then
      if (s.groupRecord ⟨u8 p 0, h⟩).configured = false then .error .outOfRange
      else if (s.groups.get ⟨u8 p 0, h⟩).interlock ≠ some .fault then .error .wrongState else .ok ⟨u8 p 0, h⟩
    else .error .outOfRange := by
  unfold State.judgeClearFault
  split
  next h =>
    rw [indexOf_lt h, need_some, ok_bind, refuseIf_bind]
    simp only [refuseIf_bind, Bool.not_eq_true', decide_eq_true_eq]
    rfl
  next h =>
    rw [indexOf_ge (Nat.le_of_not_lt h)]
    rfl

/-- Settles O30: both commands are one interlock change, settled at the end of the step. -/
theorem faultsAreEnteredAndCleared : Obligations.FaultsAreEnteredAndCleared := by
  unfold Obligations.FaultsAreEnteredAndCleared
  refine ⟨fun s g i timer hi ht => ⟨fun early => ?_, fun due => ?_⟩, fun s q ht => ⟨fun st h => ?_, fun g hg hc hf => ?_⟩⟩
  · have idle : s.strokeDue g = false := Bool.eq_false_iff.2 fun h => Nat.not_le.2 early ((strokeDue_iff ht).1 h)
    refine congrArg Host.Outcome.next ?_
    rw [idle]
    rfl
  · have expired : exec (.strokeTimeout g) s
        = .next ((s.flag .strokeTimeout).changeInterlock g i .fault .strokeTimeout none).settle := by
      refine congrArg Host.Outcome.next ?_
      rw [(strokeDue_iff ht).2 due, if_pos rfl, strokeExpire_eq hi]
    refine ⟨_, expired, ?_, ?_, ?_, ?_, fun h1 h2 => ?_, ?_, ?_, ?_, ?_, ?_⟩
    · rw [settle_groups, changeInterlock_groups, flag_groups]
      rfl
    · exact changeInterlock_says (u := s.flag .strokeTimeout) rfl rfl (.refl 0 s.lif) (Nat.zero_le 2)
        fun r h => settle_carries h
    · exact judgesSite_settle (State.changeInterlock_owes (State.flag_owes (.refl s) (by decide)))
        (changeInterlock_grows (.refl 0 s.lif)) (Nat.le_refl 2)
    · exact settle_kept ((State.changeInterlock_owes (.refl _)).kept _ (raise_has s.flags .strokeTimeout))
    · rw [settle_fda]
      exact changeInterlock_demand (by cases i <;> first | rfl | exact absurd rfl h1 | exact absurd rfl h2) rfl
    · simp
    · simp
    · simp
    · simp
    · rw [State.settle, kick_sup, settleSite_channels, settleFlash_sup, changeInterlock_channels, flag_sup]
  · refine congrArg Host.Outcome.next ((serve_takes s _ anyOf _ q ht rfl).trans (judged_refused ?_))
    refine (judgeClearFault_eq s q.payload).trans ?_
    split_ifs at h ⊢ <;> cases h <;> rfl
  · have hj : s.judgeClearFault q.payload = .ok g := by
      rw [judgeClearFault_eq, dif_pos (by rw [hg]; exact g.isLt)]
      have e : (⟨u8 q.payload 0, by rw [hg]; exact g.isLt⟩ : Fin 24) = g := Fin.ext hg
      rw [e, if_neg (by rw [hc]; exact Bool.noConfusion), if_neg (not_not.2 hf)]
    have done : exec .clearGroupFault s
        = .next (((s.taken.answer q .ok []).changeInterlock g .fault .closing .none none).settle).kick := by
      refine congrArg Host.Outcome.next ((serve_takes s _ anyOf _ q ht rfl).trans (congrArg State.kick ?_))
      exact judged_passed (s := s.taken) hj
    refine ⟨_, done, ?_, ?_, ?_, ?_, ?_, ?_, ?_, ?_⟩
    · rw [kick_groups, settle_groups, changeInterlock_groups]
      rfl
    · exact changeInterlock_says (u := s.taken.answer q .ok []) (l := (s.taken.answer q .ok []).lif) rfl rfl (.refl 0 _)
        (Nat.zero_le 1) fun r h => settle_kick_carries h
    · exact judgesSite_settle_kick
        (State.changeInterlock_owes (State.owes_of_eq (.refl s) (v := s.taken.answer q .ok []) rfl rfl))
        (changeInterlock_up_grows rfl (.refl 0 _)) (Nat.le_refl 1)
    · simp
    · simp
    · simp
    · simp
    · rw [kick_sup, State.settle, kick_sup, settleSite_channels, settleFlash_sup, changeInterlock_channels]
      rfl

end Sys2Proof.Machine
end

section
/-! CLEAR_TRIP and the wind gate (R66, R137, R142, R144, R146 to R148, R155 to R157). -/

namespace Sys2Proof.Machine

open State

/-! ## CLEAR_TRIP -/

theorem inputActive_iff (i : Inputs) : inputActive i = true ↔ i ≠ ⟨false, false, false⟩ := by
  obtain ⟨e, a, b⟩ := i
  cases e <;> cases a <;> cases b <;> decide

/-- A request that is taken only while the part runs finds it running. -/
theorem halted_of_takes {s : State} {r : RequestRule} {q : Request} (h : s.takes r q = true) (live : r.takenHalted = false) :
    s.lif.halted = false := by
  simp only [State.takes, Bool.and_eq_true, decide_eq_true_eq] at h
  obtain ⟨⟨⟨_, halted⟩, _⟩, _⟩ := h
  simpa [live] using halted

theorem settle_sup (s : State) : s.settle.sup = { s.sup with mode := s.judgedMode, siteDue := false } := by
  rw [State.settle, kick_sup, settleSite_sup]
  have mode : s.settleFlash.judgedMode = s.judgedMode := by
    unfold State.judgedMode State.channelDown State.groupRecord
    rw [settleFlash_sup, settleFlash_cfg]
  unfold State.supSettled
  rw [mode, settleFlash_sup]

@[simp] theorem settle_aud (s : State) : s.settle.aud = s.aud.seek := by
  rw [State.settle, kick_aud, settleSite_aud, settleFlash_aud]

/-- An empty buffer stays empty while AUD seeks. -/
theorem seek_none {a : Aud} {i : BufId} (h : a.buf i = none) : a.seek.buf i = none := by
  have e := a.seek_buf i
  rw [h] at e
  exact Option.map_eq_none_iff.1 e

/-- AUD seeking leaves the gap and the mute ramp. -/
theorem seek_gapLeft (a : Aud) : a.seek.gapLeft = a.gapLeft := (congrArg Aud.gapLeft a.seek_eq :)

theorem seek_m (a : Aud) : a.seek.m = a.m := (congrArg Aud.m a.seek_eq :)

/-- A step that owes a SITE report sends it. -/
theorem settle_says_site {s u t : State} {l : Lif} {n before : Nat} (enable : l.enable = s.lif.enable)
    (reports : l.reports = s.lif.reports) (g : l.Grows n u.lif) (le : n ≤ before) (due : u.sup.siteDue = true)
    (sup : t.sup = u.settle.sup) (goesOn : ∀ r, u.settle.lif.Carries r → t.lif.Carries r) :
    s.says t before (.site t.sup.band (t.sup.winds.foldl max 0) t.levelNow t.sup.level t.sup.mode t.sup.permit) := by
  have said : Report.site t.sup.band (t.sup.winds.foldl max 0) t.levelNow t.sup.level t.sup.mode t.sup.permit
      = u.settleFlash.supSettled.siteReport := by
    have e : t.sup = u.settleFlash.supSettled := by rw [sup, State.settle, kick_sup, settleSite_sup]
    rw [levelNow_eq, e]
    rfl
  rw [said]
  refine says_of_report (l := l) enable reports
    (u := { u.settleFlash with sup := u.settleFlash.supSettled, flags := u.settleFlash.flags.judgeSite u.settleFlash.supSettled })
    (settleFlash_grows g) le fun h => goesOn _ (Lif.Carries.kick ?_)
  unfold State.settleSite
  rw [if_pos (.inl (by rw [settleFlash_sup]; exact due))]
  exact h

/-- Outside TRIPPED the mode follows the conditions (R155). -/
theorem judgedMode_of_live {u : State} (h : u.sup.mode ≠ .tripped) : u.judgedMode =
    if 0 < u.sup.band ∨ u.sup.effective ≠ .normal ∨ u.channelDown = true then .restricted else .normal := if_neg h

/-- Settles O46: the chain of refusals, and what the accepted request writes before the step is settled. -/
theorem clearTripEndsTheTrip : Obligations.ClearTripEndsTheTrip := by
  unfold Obligations.ClearTripEndsTheTrip
  intro s q inputs ht
  have run : exec (.clearTrip inputs) s = .next (s.taken.judged q (s.judgeClearTrip inputs) fun _ =>
      (State.clearTrip { s.taken.answer q .ok [] with pins := inputs }).settle).kick :=
    congrArg Host.Outcome.next (serve_takes s _ anyOf _ q ht rfl)
  rw [run]
  refine ⟨fun h => congrArg Host.Outcome.next (judged_refused ?_), fun h active =>
    congrArg Host.Outcome.next (judged_refused ?_), fun h quiet => ?_⟩
  · simp [State.judgeClearTrip, State.isTripped, h]
  · simp [State.judgeClearTrip, State.isTripped, h, (inputActive_iff inputs).2 active]
  · have hj : s.judgeClearTrip inputs = .ok () := by
      subst quiet
      simp [State.judgeClearTrip, State.isTripped, h, inputActive]
    have permit : (State.clearTrip { s.taken.answer q .ok [] with pins := inputs }).sup.permit
        = (s.sup.permit || s.sup.startMark) := by
      have may : (s.sup.startMark && !s.lif.halted && true) = s.sup.startMark := by
        rw [halted_of_takes ht rfl]; simp
      exact congrArg (s.sup.permit || ·) may
    rw [judged_passed hj]
    refine ⟨_, rfl, ?_, ?_, ?_, ?_, ?_, ?_, ?_, ?_, ?_, fun f hf => ?_, ?_, ?_, ?_, ?_, ?_, ?_, ?_⟩
    · rw [kick_sup, settle_sup]; rfl
    · rw [kick_sup, settle_sup]; rfl
    · rw [kick_sup, settle_sup]; exact permit
    · rw [kick_sup, settle_sup]
      have calm : (State.clearTrip { s.taken.answer q .ok [] with pins := inputs }).sup.mode ≠ .tripped :=
        fun e => SiteMode.noConfusion e
      exact judgedMode_of_live calm
    · exact kick_siteJudged (settle_siteJudged _)
    · exact settle_says_site (u := State.clearTrip { s.taken.answer q .ok [] with pins := inputs })
        (l := (s.taken.answer q .ok []).lif) rfl rfl (.refl 0 _) (Nat.le_refl 0)
        (by simp [State.clearTrip, State.oweSite]) rfl fun r h => h.kick
    · rw [kick_aud, settle_aud]; exact seek_none (i := .a) rfl
    · rw [kick_aud, settle_aud, seek_gapLeft]; rfl
    · rw [kick_aud, settle_aud, seek_m]; rfl
    · rw [kick_lgt, settle_lgt]
      have at_f : (s.lgt.fixtures.mapIdx fun f x => if (s.cfg.fixtures.get f).assigned then
          { x with fade := FixtureFade.still (Colour.internal (s.cfg.fixtures.get f).rescue) s.clock } else x).get f
          = { s.lgt.fixtures.get f with
              fade := FixtureFade.still (Colour.internal (s.cfg.fixtures.get f).rescue) s.clock } := by
        rw [Sys2Proof.Table.get_mapIdx, hf, if_pos rfl]
      exact congrArg Fixture.fade at_f
    · rw [kick_sup, settle_sup]; rfl
    · rw [kick_groups, settle_groups]; rfl
    · rw [kick_seq, settle_seq]; rfl
    · rw [kick_cfg, settle_cfg]; rfl
    · rw [kick_clock, settle_clock]; rfl
    · rw [kick_dbm, settle_dbm]; rfl
    · rw [kick_fda, settle_fda]; rfl

/-! ## The wind gate -/

/-- A change of the WIND channel's validity ends the calm count or forces the band (R144, R148). -/
theorem validityActs_wind (s : State) (before : LevelState) : s.validityActs 0 before =
    if (s.sup.channels.get 0).valid = true then { s with sup := { s.sup with calm := 0 } } else s.setBand 7 := rfl

/-- The gate's count has been taken and the WIND channel evaluated: steps 1 to 4 (R146). -/
def State.gateScored (s : State) : State :=
  State.evaluate { s with sup := { s.sup with prevAnemo := s.sup.anemo, stillRun := s.sup.stillNext } } 0
    (if s.sup.windError s.cfg.wind then .error else .good)

/-- The gate wind has entered the history: step 5 (R146). -/
def State.gateEntered (s : State) : State :=
  { s.gateScored with sup := { s.gateScored.sup with
    winds := lastOf 3 (s.gateScored.sup.winds ++ [s.sup.gateWind s.cfg.wind]), gates := min 3 (s.gateScored.sup.gates + 1) } }

theorem windGate_eq (s : State) :
    s.windGate = s.gateEntered.gateBand (decide (s.sup.gates = 2)) (s.sup.channels.get 0).valid := rfl

/-- The WIND channel after the gate. -/
def State.windChannel (s : State) : Channel :=
  (s.sup.channels.get 0).evaluated (s.cfg.counters.get 0) s.clock (if s.sup.windError s.cfg.wind then .error else .good)

/-- The machine after steps 1 and 2 of the gate, with the WIND channel's new values. -/
def State.gateTaken (s : State) : State :=
  State.withChannel { s with sup := { s.sup with prevAnemo := s.sup.anemo, stillRun := s.sup.stillNext } } 0 s.windChannel

/-- What the gate's VALIDITY report says (R144). -/
def State.windValidity (s : State) : Report :=
  .validity 0 s.windChannel.valid s.windChannel.counter s.windChannel.fatal

theorem gateScored_same {s : State} (h : s.windChannel.valid = (s.sup.channels.get 0).valid) :
    s.gateScored = s.gateTaken :=
  moveChannel_same (s := { s with sup := { s.sup with prevAnemo := s.sup.anemo, stillRun := s.sup.stillNext } }) h

theorem gateScored_turned {s : State} (h : s.windChannel.valid ≠ (s.sup.channels.get 0).valid) : s.gateScored =
    if s.windChannel.valid = true then
      { s.gateTaken.report s.windValidity with sup := { s.gateTaken.sup with calm := 0 } }
    else (s.gateTaken.report s.windValidity).setBand 7 := by
  have valid : (s.gateTaken.sup.channels.get 0).valid = s.windChannel.valid := by
    rw [State.gateTaken, withChannel_get]
  rw [← valid]
  exact (moveChannel_turned (s := { s with sup := { s.sup with prevAnemo := s.sup.anemo, stillRun := s.sup.stillNext } })
    h).trans (validityActs_wind _ _)

/-- The gate leaves everything but SUP, the link and the flags until the step is settled. -/
structure State.GateFrame (s t : State) : Prop where
  cfg : t.cfg = s.cfg
  seq : t.seq = s.seq
  groups : t.groups = s.groups
  lgt : t.lgt = s.lgt
  fda : t.fda = s.fda
  prevAnemo : t.sup.prevAnemo = s.sup.anemo
  anemo : t.sup.anemo = s.sup.anemo
  stillRun : t.sup.stillRun = s.sup.stillNext
  channels : t.sup.channels = s.sup.channels.set 0 s.windChannel
  permit : t.sup.permit = s.sup.permit

theorem gateScored_frame (s : State) : s.GateFrame s.gateScored ∧ s.gateScored.sup.winds = s.sup.winds
    ∧ s.gateScored.sup.gates = s.sup.gates := by
  by_cases h : s.windChannel.valid = (s.sup.channels.get 0).valid
  · rw [gateScored_same h]
    exact ⟨⟨rfl, rfl, rfl, rfl, rfl, rfl, rfl, rfl, rfl, rfl⟩, rfl, rfl⟩
  · rw [gateScored_turned h]
    split
    · exact ⟨⟨rfl, rfl, rfl, rfl, rfl, rfl, rfl, rfl, rfl, rfl⟩, rfl, rfl⟩
    · exact ⟨⟨rfl, rfl, rfl, rfl, rfl, rfl, rfl, rfl, rfl, rfl⟩, rfl, rfl⟩

/-- Judging the band writes the band, the calm count and the report owed. -/
theorem gateBand_eq (s : State) (third was : Bool) : (s.gateBand third was).sup =
    { s.sup with band := (s.gateBand third was).sup.band, calm := (s.gateBand third was).sup.calm,
                 siteDue := (s.gateBand third was).sup.siteDue } := by
  unfold State.gateBand
  split
  · rfl
  · split
    · rfl
    · split
      · rfl
      · unfold State.judgeBand
        dsimp only
        split
        · rfl
        · split
          · split <;> rfl
          · rfl

theorem windGate_frame (s : State) : s.GateFrame s.windGate
    ∧ s.windGate.sup.winds = lastOf 3 (s.sup.winds ++ [s.sup.gateWind s.cfg.wind])
    ∧ s.windGate.sup.gates = min 3 (s.sup.gates + 1) := by
  obtain ⟨frame, winds, gates⟩ := gateScored_frame s
  have e := gateBand_eq s.gateEntered (decide (s.sup.gates = 2)) (s.sup.channels.get 0).valid
  rw [windGate_eq]
  refine ⟨⟨?_, ?_, ?_, ?_, ?_, ?_, ?_, ?_, ?_, ?_⟩, ?_, ?_⟩
  · rw [gateBand_cfg]; exact frame.cfg
  · rw [gateBand_seq]; exact frame.seq
  · rw [gateBand_groups]; exact frame.groups
  · rw [gateBand_lgt]; exact frame.lgt
  · rw [gateBand_fda]; exact frame.fda
  · rw [e]; exact frame.prevAnemo
  · rw [e]; exact frame.anemo
  · rw [e]; exact frame.stillRun
  · rw [e]; exact frame.channels
  · rw [e]; exact frame.permit
  · rw [e]; exact congrArg (fun l => lastOf 3 (l ++ [s.sup.gateWind s.cfg.wind])) winds
  · rw [e]; exact congrArg (fun n => min 3 (n + 1)) gates

/-- The band and the calm count after the channel has been scored (R144, R148). -/
theorem gateScored_band (s : State) :
    (s.windChannel.valid = (s.sup.channels.get 0).valid →
      s.gateScored.sup.band = s.sup.band ∧ s.gateScored.sup.calm = s.sup.calm)
    ∧ ((s.sup.channels.get 0).valid = false → s.windChannel.valid = true →
      s.gateScored.sup.band = s.sup.band ∧ s.gateScored.sup.calm = 0)
    ∧ ((s.sup.channels.get 0).valid = true → s.windChannel.valid = false → s.gateScored.sup.band = 7) := by
  refine ⟨fun h => ?_, fun was now => ?_, fun was now => ?_⟩
  · rw [gateScored_same h]; exact ⟨rfl, rfl⟩
  · rw [gateScored_turned (by rw [was, now]; exact Bool.noConfusion), if_pos now]; exact ⟨rfl, rfl⟩
  · rw [gateScored_turned (by rw [was, now]; exact Bool.noConfusion), if_neg (by rw [now]; exact Bool.noConfusion)]; rfl

theorem gateEntered_valid (s : State) : (s.gateEntered.sup.channels.get 0).valid = s.windChannel.valid := by
  have e : s.gateEntered.sup.channels = s.sup.channels.set 0 s.windChannel := (gateScored_frame s).1.channels
  rw [e, Sys2Proof.Table.get_set_self]

/-- Step 6 with WIND INVALID leaves the band (R148). -/
theorem windGate_invalid {s : State} (h : s.windChannel.valid = false) : s.windGate = s.gateEntered := by
  rw [windGate_eq]
  unfold State.gateBand
  rw [gateEntered_valid, if_pos h]

/-- Step 6 at the third gate takes the band of the gust (R148). -/
theorem windGate_third {s : State} (h : s.windChannel.valid = true) (third : s.sup.gates = 2) :
    s.windGate.sup.band = s.gateEntered.cfg.wind.bandOf s.gateEntered.sup.gust ∧ s.windGate.sup.calm = 0 := by
  rw [windGate_eq]
  unfold State.gateBand
  rw [gateEntered_valid, if_neg (by rw [h]; exact Bool.noConfusion), decide_eq_true third, if_pos rfl]
  exact ⟨rfl, rfl⟩

theorem gateEntered_gates (s : State) : s.gateEntered.sup.gates = min 3 (s.sup.gates + 1) :=
  congrArg (fun n => min 3 (n + 1)) (gateScored_frame s).2.2

/-- Step 6 before the third gate, and at a gate at which WIND has just turned VALID, leaves the band (R148). -/
theorem windGate_forced {s : State} (third : s.sup.gates ≠ 2)
    (forced : s.sup.gates < 2 ∨ (s.sup.channels.get 0).valid = false) : s.windGate = s.gateEntered := by
  rw [windGate_eq]
  unfold State.gateBand
  rw [gateEntered_gates, decide_eq_false third]
  split
  · rfl
  · rw [if_neg Bool.noConfusion, if_pos (forced.imp_left fun h => by omega)]

/-- Step 6 from the fourth gate on judges the band (R147). -/
theorem windGate_judged {s : State} (now : s.windChannel.valid = true) (was : (s.sup.channels.get 0).valid = true)
    (later : 3 ≤ s.sup.gates) : s.windGate = s.gateEntered.judgeBand := by
  rw [windGate_eq]
  unfold State.gateBand
  rw [gateEntered_valid, if_neg (by rw [now]; exact Bool.noConfusion), gateEntered_gates,
    decide_eq_false (show s.sup.gates ≠ 2 by omega), if_neg Bool.noConfusion, if_neg]
  rintro (few | off)
  · omega
  · rw [was] at off; exact Bool.noConfusion off

/-- The band judged, by the gust's own band and by the lull (R147). -/
theorem judgeBand_cases (s : State) :
    (s.sup.band < s.cfg.wind.bandOf s.sup.gust →
      s.judgeBand.sup.band = s.cfg.wind.bandOf s.sup.gust ∧ s.judgeBand.sup.calm = 0)
    ∧ (s.cfg.wind.bandOf s.sup.gust ≤ s.sup.band →
      (0 < s.sup.band ∧ s.sup.gust + s.cfg.wind.hysteresis < s.cfg.wind.thresholds.getD (s.sup.band - 1) 0 →
        (s.cfg.wind.calmHold ≤ s.sup.calm + 1 →
          s.judgeBand.sup.band = s.cfg.wind.bandOf s.sup.gust ∧ s.judgeBand.sup.calm = 0)
        ∧ (s.sup.calm + 1 < s.cfg.wind.calmHold →
          s.judgeBand.sup.band = s.sup.band ∧ s.judgeBand.sup.calm = s.sup.calm + 1))
      ∧ (¬(0 < s.sup.band ∧ s.sup.gust + s.cfg.wind.hysteresis < s.cfg.wind.thresholds.getD (s.sup.band - 1) 0) →
        s.judgeBand.sup.band = s.sup.band ∧ s.judgeBand.sup.calm = 0)) := by
  unfold State.judgeBand
  refine ⟨fun rise => ?_, fun fall => ⟨fun lull => ⟨fun long => ?_, fun short => ?_⟩, fun gusty => ?_⟩⟩
  · rw [if_pos rise]; exact ⟨rfl, rfl⟩
  · rw [if_neg (Nat.not_lt.2 fall), if_pos lull, if_pos long]; exact ⟨rfl, rfl⟩
  · rw [if_neg (Nat.not_lt.2 fall), if_pos lull, if_neg (Nat.not_le.2 short)]; exact ⟨rfl, rfl⟩
  · rw [if_neg (Nat.not_lt.2 fall), if_neg gusty]; exact ⟨rfl, rfl⟩

theorem gateScored_owes (s : State) : s.Owes s.gateScored :=
  State.evaluate_owes (State.owes_of_figures (.refl s) rfl rfl rfl rfl rfl rfl rfl)

theorem windGate_owes (s : State) : s.Owes s.windGate := by
  have entered : s.Owes s.gateEntered := State.owes_of_figures (gateScored_owes s) rfl rfl rfl rfl rfl rfl rfl
  have still (u : State) (h : s.Owes u) (n : Nat) : s.Owes { u with sup := { u.sup with calm := n } } :=
    State.owes_of_figures h rfl rfl rfl rfl rfl rfl rfl
  rw [windGate_eq]
  unfold State.gateBand
  refine .ite entered (.ite (State.setBand_owes (still _ entered 0)) (.ite entered ?_))
  unfold State.judgeBand
  exact .ite (State.setBand_owes (still _ entered 0)) (.ite (.ite (State.setBand_owes (still _ entered 0)) (still _ entered _))
    (still _ entered 0))

theorem gateScored_grows (s : State) : s.lif.Grows 1 s.gateScored.lif := by
  by_cases h : s.windChannel.valid = (s.sup.channels.get 0).valid
  · rw [gateScored_same h]
    exact .refl 1 s.lif
  · rw [gateScored_turned h]
    split
    · exact Lif.Grows.withReport s.lif s.windValidity
    · exact Lif.Grows.withReport s.lif s.windValidity

theorem windGate_lif (s : State) : s.windGate.lif = s.gateScored.lif := by
  rw [windGate_eq, gateBand_lif]
  rfl

/-- Settles O43: the gate's steps in their order, each by its own lemma. -/
theorem windGateJudgesTheBand : Obligations.WindGateJudgesTheBand := by
  unfold Obligations.WindGateJudgesTheBand
  intro s
  obtain ⟨frame, winds, gates⟩ := windGate_frame s
  refine ⟨s.windGate.settle, rfl, ?_, judgesSite_settle (windGate_owes s) (windGate_lif s ▸ gateScored_grows s) (Nat.le_refl 1),
    ?_, ?_, ?_, ?_, ?_, ?_, ?_, ?_, ?_, ?_⟩
  · intro pulses still w bad ch winds' gust target b lull
    have count : s.sup.pulses = pulses := by
      have := s.sup.prevAnemo.isLt
      simp only [Sup.pulses, BitVec.toNat_sub, pulses]
      omega
    have hstill : s.sup.stillNext = still := by
      simp only [Sup.stillNext, count, still]
    have hch : s.windChannel = ch := by
      have error : s.sup.windError s.cfg.wind = true ↔ bad := by
        simp [Sup.windError, hstill, count, bad, w, and_assoc]
      unfold State.windChannel
      simp only [error, ch]
    have hwinds : s.windGate.sup.winds = winds' := by
      rw [winds, Sup.gateWind, count]
    have hgust : s.gateEntered.sup.gust = gust := by
      have e : s.gateEntered.sup.winds = lastOf 3 (s.sup.winds ++ [s.sup.gateWind s.cfg.wind]) :=
        congrArg (fun l => lastOf 3 (l ++ [s.sup.gateWind s.cfg.wind])) (gateScored_frame s).2.1
      rw [Sup.gust, e, Sup.gateWind, count]
    have hwind : s.gateEntered.cfg.wind = w := congrArg Settings.wind (gateScored_frame s).1.cfg
    have htarget : s.gateEntered.cfg.wind.bandOf s.gateEntered.sup.gust = target := by rw [hwind, hgust]; rfl
    obtain ⟨same, up, down⟩ := gateScored_band s
    rw [← hch]
    rw [settle_sup]
    refine ⟨frame.prevAnemo, frame.stillRun.trans hstill, hwinds, gates, frame.channels, fun turned => ?_, fun was now => ?_,
      fun was now => ?_, fun now third => ?_, fun now few => ?_, fun was now later => ?_, fun was now later => ?_⟩
    · refine says_of_report (u := s.gateTaken) (l := s.lif) rfl rfl (.refl 0 _) (Nat.zero_le 1) fun h => settle_carries ?_
      rw [windGate_lif, gateScored_turned turned]
      split <;> exact h
    · rw [windGate_invalid now]; exact down was now
    · rw [windGate_invalid now]; exact (same (now.trans was.symm)).1
    · obtain ⟨band, calm⟩ := windGate_third now third
      exact ⟨band.trans htarget, calm⟩
    · rw [windGate_forced (by omega) (.inl few)]
      cases was : (s.sup.channels.get 0).valid
      · exact (up was now).1
      · exact (same (now.trans was.symm)).1
    · rw [windGate_forced (by omega) (.inr was)]
      exact up was now
    · obtain ⟨rise, fall⟩ := judgeBand_cases s.gateEntered
      obtain ⟨hb, hcalm⟩ : s.gateEntered.sup.band = b ∧ s.gateEntered.sup.calm = s.sup.calm := same (now.trans was.symm)
      rw [windGate_judged now was later]
      rw [htarget, hb] at rise fall
      rw [hwind, hgust, hcalm] at fall
      refine ⟨rise, fun le l long => ?_, fun le l short => ?_, fun le l => ?_⟩
      · exact ((fall le).1 l).1 long
      · exact ((fall le).1 l).2 short
      · exact (fall le).2 l
  · rw [settle_sup]; exact frame.permit
  · rw [settle_sup]; exact frame.anemo
  · rw [settle_cfg, frame.cfg]
  · rw [settle_clock, windGate_clock]
  · rw [settle_seq, frame.seq]
  · rw [settle_groups, frame.groups]
  · rw [settle_dbm, windGate_dbm]
  · rw [settle_lgt, frame.lgt]
  · rw [settle_fda, frame.fda]
  · rw [settle_pins, windGate_pins]

end Sys2Proof.Machine
end

section
/-! The entry into STOPPING and the passage through it to IDLE (R16, R40, R41, R47, R59). -/

namespace Sys2Proof.Machine

open State

/-! ## AUD without its show buffers -/

/-- Discarding show buffers leaves all of AUD but the buffers and the outstanding chunk. -/
theorem Aud.discardShow_eq (a : Aud) (pendingOnly : Bool) : a.discardShow pendingOnly =
    { a with bufA := (a.discardShow pendingOnly).bufA, bufB := (a.discardShow pendingOnly).bufB,
             chunk := (a.discardShow pendingOnly).chunk } := by
  unfold Aud.discardShow
  dsimp only
  split <;> split <;> rfl

/-! ## STOPPING entered, before its end is tested -/

/-- The show in STOPPING, with its SHOW_STATE report (R41). -/
def State.stoppingSaid (s : State) (reason : EndReason) : State :=
  State.sayShow
    { s with
      seq := { s.seq with
        st := .stopping
        lanes := Lanes.empty
        stopping := some ⟨reason, s.showTime.getD 0, s.cfg.options.stopFade⟩ }
      groups := s.groups.mapIdx fun g x =>
        x.withFade (GroupFade.stopping (Config.stoppingStart s.fresh g.val) (s.showTime.getD 0))
      lgt := s.lgt.house s.cfg
      aud := s.aud.stopping s.cfg.options.stopFade
      fresh := s.fresh + 1 }
    none

theorem enterStopping_eq (s : State) (r : EndReason) : s.enterStopping r = (s.stoppingSaid r).testStopping := rfl

theorem withFade_interlock (x : Group) (f : GroupFade) : (x.withFade f).interlock = x.interlock := by
  unfold Group.withFade
  split <;> rfl

theorem withFade_of_configured {x : Group} (h : x.interlock.isSome = true) (f : GroupFade) :
    x.withFade f = { x with fade := f } := if_pos h

/-- Groups are down by their interlock states alone. -/
theorem groupsDown_of_interlocks {s t : State} (h : ∀ g, (t.groups.get g).interlock = (s.groups.get g).interlock) :
    t.groupsDown = s.groupsDown := by
  rw [Bool.eq_iff_iff, groupsDown_iff_all, groupsDown_iff_all]
  exact forall_congr' fun g => by rw [h g]

namespace State

variable (s : State) (r : EndReason)

theorem stoppingSaid_group (g : Fin 24) : (s.stoppingSaid r).groups.get g = (s.groups.get g).withFade
    (GroupFade.stopping (Config.stoppingStart s.fresh g.val) (s.showTime.getD 0)) :=
  Sys2Proof.Table.get_mapIdx _ _ g

theorem stoppingSaid_groupsDown : (s.stoppingSaid r).groupsDown = s.groupsDown :=
  groupsDown_of_interlocks fun g => by rw [stoppingSaid_group, withFade_interlock]

/-- In a show that has a time the clock runs on in STOPPING. -/
theorem stoppingSaid_showTime {s : State} {now : Int} (h : s.showTime = some now) :
    (s.stoppingSaid r).showTime = some now := by
  have time : some (s.aud.base + ((s.aud.count / 48 : Nat) : Int)) = some now := by
    unfold showTime at h
    split at h
    · exact h
    · exact h
    · exact h
    all_goals exact nomatch h
  have aud := s.aud.discardShow_eq true
  have base : (s.stoppingSaid r).aud.base = s.aud.base := (congrArg Aud.base aud :)
  have count : (s.stoppingSaid r).aud.count = s.aud.count := (congrArg Aud.count aud :)
  exact (show (s.stoppingSaid r).showTime = some ((s.stoppingSaid r).aud.base + (((s.stoppingSaid r).aud.count / 48 : Nat) : Int))
    from rfl).trans (by rw [base, count]; exact time)

/-- STOPPING ends as it is entered where its fade is 0 and every configured group is down (R41; log entry 21). -/
theorem stoppingSaid_ends {s : State} {now : Int} (h : s.showTime = some now) :
    (s.stoppingSaid r).stopEndHolds = (decide (s.cfg.options.stopFade = 0) && s.groupsDown) := by
  have time := stoppingSaid_showTime r h
  have stopping : (s.stoppingSaid r).seq.stopping = some ⟨r, s.showTime.getD 0, s.cfg.options.stopFade⟩ := rfl
  have st : (s.stoppingSaid r).seq.st = .stopping := rfl
  unfold stopEndHolds
  rw [st, stopping, time, stoppingSaid_groupsDown, h]
  dsimp only [Option.getD_some]
  congr 1
  rw [decide_eq_decide]
  omega

theorem enterStopping_stays {s : State} {now : Int} (h : s.showTime = some now)
    (goes : 0 < s.cfg.options.stopFade ∨ s.groupsDown = false) : s.enterStopping r = s.stoppingSaid r := by
  have ends : (s.stoppingSaid r).stopEndHolds = false := by
    rw [stoppingSaid_ends r h]
    rcases goes with fade | up
    · rw [decide_eq_false (by omega), Bool.false_and]
    · rw [up, Bool.and_false]
  rw [enterStopping_eq, testStopping, ends]
  exact if_neg Bool.noConfusion

theorem enterStopping_ends {s : State} {now : Int} (h : s.showTime = some now) (fade : s.cfg.options.stopFade = 0)
    (down : s.groupsDown = true) :
    s.enterStopping r = State.showIdle { s.stoppingSaid r with aud := (s.stoppingSaid r).aud.stopped } r := by
  have ends : (s.stoppingSaid r).stopEndHolds = true := by
    rw [stoppingSaid_ends r h, decide_eq_true fade, down]; rfl
  have stopping : (s.stoppingSaid r).seq.stopping = some ⟨r, s.showTime.getD 0, s.cfg.options.stopFade⟩ := rfl
  rw [enterStopping_eq, testStopping, ends, if_pos rfl, stopping]

theorem enterStopping_groups : (s.enterStopping r).groups = (s.stoppingSaid r).groups := by
  rw [enterStopping_eq, testStopping_groups]

theorem enterStopping_lgt : (s.enterStopping r).lgt = s.lgt.house s.cfg := by
  rw [enterStopping_eq, testStopping_lgt]; rfl

end State

/-! ## The end of a step whose show has entered STOPPING -/

/-- A state after the end of a step: the show, the water, the lights and the site as they were, AUD having sought its chunk, and
what the link carried still carried. -/
structure State.EndsAs (u t : State) : Prop where
  seq : t.seq = u.seq
  groups : t.groups = u.groups
  lgt : t.lgt = u.lgt
  cfg : t.cfg = u.cfg
  clock : t.clock = u.clock
  dbm : t.dbm = u.dbm
  fda : t.fda = u.fda
  sup : t.sup = u.sup
  aud : t.aud = u.aud.seek
  locks : t.flp.locks = u.flp.locks
  carries : ∀ r, u.lif.Carries r → t.lif.Carries r
  dropped : t.lif.dropped = u.lif.dropped

theorem kick_dropped (l : Lif) : l.kick.dropped = l.dropped := by
  unfold Lif.kick
  split
  · rfl
  · split
    · rfl
    · split <;> rfl

theorem startTxn_dropped (s : State) (t : Txn) : (s.startTxn t).lif.dropped = s.lif.dropped := by
  unfold State.startTxn
  dsimp only
  split <;> rfl

theorem settleFlash_dropped (s : State) : s.settleFlash.lif.dropped = s.lif.dropped := by
  have choose (t : State) : t.chooseTxn.lif.dropped = t.lif.dropped := by
    unfold State.chooseTxn
    split
    · exact startTxn_dropped _ _
    · split
      · rfl
      · exact startTxn_dropped _ _
      · exact startTxn_dropped _ _
      · split <;> exact startTxn_dropped _ _
  unfold State.settleFlash State.arbitrate
  split
  · exact choose _
  · split <;> rfl
  all_goals rfl

theorem settleFlash_kick_endsAs (u : State) : u.EndsAs u.settleFlash.kick where
  seq := by simp
  groups := by simp
  lgt := by simp
  cfg := by simp
  clock := by simp
  dbm := by simp
  fda := by simp
  sup := by simp
  aud := by simp
  locks := by simp
  carries _ h := (h.grows (settleFlash_grows (.refl 0 u.lif))).kick
  dropped := (kick_dropped _).trans (settleFlash_dropped u)

/-! ## Stops -/

/-- A state that shares with another what the entry into STOPPING reads. -/
structure State.Near (s u : State) : Prop where
  time : u.showTime = s.showTime
  cfg : u.cfg = s.cfg
  clock : u.clock = s.clock
  dbm : u.dbm = s.dbm
  fda : u.fda = s.fda
  sup : u.sup = s.sup
  locks : u.flp.locks = s.flp.locks
  m : u.aud.m = s.aud.m
  interlock : ∀ g, (u.groups.get g).interlock = (s.groups.get g).interlock
  link : ∃ (l : Lif) (n : Nat), l.enable = s.lif.enable ∧ l.dropped = s.lif.dropped ∧ l.Grows n u.lif

theorem house_latch {g : Lgt} {cfg : Settings} {f : Fin 96} (h : (cfg.fixtures.get f).assigned = true) :
    ((g.house cfg).fixtures.get f).latch =
      some ⟨(cfg.fixtures.get f).house, cfg.options.stopFade, .showClock, .house⟩ := by
  unfold Lgt.house
  rw [Sys2Proof.Table.get_mapIdx, if_pos h]
  rfl

theorem stopping_group {u : State} (r : EndReason) {g : Fin 24} (h : (u.groups.get g).interlock.isSome = true) :
    (((u.stoppingSaid r).groups.get g).fade.target = 0 ∧ ((u.stoppingSaid r).groups.get g).fade.dur = 0
      ∧ ((u.stoppingSaid r).groups.get g).fade.began = .onShow (u.showTime.getD 0)) := by
  rw [State.stoppingSaid_group, withFade_of_configured h]
  exact ⟨rfl, rfl, rfl⟩

/-- The step enters STOPPING (R41). -/
theorem entersStopping_of {s u t : State} {r : EndReason} {now : Int} (near : s.Near u) (time : s.showTime = some now)
    (goes : 0 < s.cfg.options.stopFade ∨ s.groupsDown = false) (e : (u.enterStopping r).EndsAs t) : s.EntersStopping t r := by
  have stays : u.enterStopping r = u.stoppingSaid r := State.enterStopping_stays r (near.time.trans time)
    (by rw [near.cfg, groupsDown_of_interlocks near.interlock]; exact goes)
  rw [stays] at e
  have aud := u.aud.discardShow_eq true
  refine ⟨?_, ?_, ?_, fun g hg => ?_, fun f hf => ?_, ?_, ?_, ?_, ?_, ?_, ?_, ?_⟩
  · rw [e.seq]; rfl
  · rw [e.seq]; rfl
  · rw [e.seq, ← near.time, ← near.cfg]; rfl
  · rw [e.groups, ← near.time]
    exact stopping_group r (by rw [near.interlock]; exact hg)
  · rw [e.lgt, ← near.cfg]
    exact house_latch (by rw [near.cfg]; exact hf)
  · rw [e.aud, ← near.m, ← near.cfg]
    have sought := (u.stoppingSaid r).aud.seek_eq
    exact (congrArg Aud.stopFade sought :)
  · rw [e.aud]
    exact (congrArg Aud.counting (u.stoppingSaid r).aud.seek_eq :)
  · rw [e.cfg, ← near.cfg]; rfl
  · rw [e.clock, ← near.clock]; rfl
  · rw [e.dbm, ← near.dbm]; rfl
  · rw [e.fda, ← near.fda]; rfl
  · rw [e.sup, ← near.sup]; rfl

/-- A report that is made either waits afterwards or has been counted as dropped. -/
theorem report_carries_or_drops {u : State} {r : Report} (on : u.lif.makes r = true) :
    (u.report r).lif.Carries r ∨ (u.report r).lif.dropped = min 65535 (u.lif.dropped + 1) := by
  unfold State.report Lif.withReport
  dsimp only
  rw [if_pos on]
  split
  · exact .inr rfl
  · exact .inl (.inl (List.mem_append_right _ List.mem_cons_self))

/-- The show back in IDLE after STOPPING, before it says so (R16, R47). -/
def idleBeforeReport (u : State) : State :=
  { u with
    seq := { u.seq with st := .idle, cues := [], lanes := Lanes.empty, stopping := none, load := none }
    flp := u.flp.releaseShow
    aud := u.aud.stopped.clearClock }

/-- The step passes through STOPPING (R41; log entry 21). -/
theorem stopsAtOnce_of {s u t : State} {r : EndReason} {now : Int} (near : s.Near u) (time : s.showTime = some now)
    (fade : s.cfg.options.stopFade = 0) (down : s.groupsDown = true) (e : (u.enterStopping r).EndsAs t) :
    s.StopsAtOnce t r := by
  have ends := State.enterStopping_ends r (near.time.trans time) (by rw [near.cfg]; exact fade)
    (by rw [groupsDown_of_interlocks near.interlock]; exact down)
  rw [ends] at e
  have sought := (u.stoppingSaid r).aud.stopped.clearClock.seek_eq
  refine ⟨?_, ?_, ?_, ?_, fun g hg => ?_, fun f hf => ?_, ?_, ?_, ?_, ?_, ?_, ?_, fun on few same => ?_, ?_, ?_, ?_, ?_, ?_⟩
  · rw [e.seq]; rfl
  · rw [e.seq]; rfl
  · rw [e.seq]; rfl
  · rw [e.seq]; rfl
  · rw [e.groups, ← near.time]
    exact stopping_group r (by rw [near.interlock]; exact hg)
  · rw [e.lgt, ← fade, ← near.cfg]
    exact house_latch (by rw [near.cfg]; exact hf)
  · rw [e.aud]; exact (congrArg Aud.stopFade sought :)
  · rw [e.aud]; exact (congrArg Aud.m sought :)
  · rw [e.aud]; exact (congrArg Aud.target sought :)
  · rw [e.aud]; exact (congrArg Aud.count sought :)
  · rw [e.aud]; exact (congrArg Aud.counting sought :)
  · rw [e.locks, ← near.locks]; rfl
  · obtain ⟨l, n, enable, dropped, grown⟩ := near.link
    have more : l.Grows (n + 1) (u.stoppingSaid r).lif := grown.trans (.withReport u.lif _) le_rfl
    have makes : (u.stoppingSaid r).lif.makes (.showState .idle none none (some r)) = true := by
      rw [makes_of_enable (more.enable.trans enable)]
      exact on
    rcases report_carries_or_drops (u := idleBeforeReport (u.stoppingSaid r)) makes with there | full
    · exact e.carries _ there
    · have last := same.symm.trans (e.dropped.trans full)
      have least := (more.dropped (by omega)).1
      have : (idleBeforeReport (u.stoppingSaid r)).lif.dropped = (u.stoppingSaid r).lif.dropped := rfl
      omega
  · rw [e.cfg, ← near.cfg]; rfl
  · rw [e.clock, ← near.clock]; rfl
  · rw [e.dbm, ← near.dbm]; rfl
  · rw [e.fda, ← near.fda]; rfl
  · rw [e.sup, ← near.sup]; rfl

end Sys2Proof.Machine
end

section
/-! The lamp frame (R127 to R135). -/

namespace Sys2Proof.Machine

open State

/-! ## A fixture's levels (R127) -/

theorem fadeNow_none {start target dur : Nat} {began : FadeTime} {showNow : Option Int} {now : Tick}
    (h : began.elapsed showNow now = none) : fadeNow start target began dur showNow now = target := by
  unfold fadeNow
  rw [h]

theorem fadeNow_some {start target dur : Nat} {began : FadeTime} {showNow : Option Int} {now : Tick} {e : Int}
    (h : began.elapsed showNow now = some e) : fadeNow start target began dur showNow now =
      if e < dur then (start + ((target - start : Int) * e).tdiv dur).toNat else target := by
  unfold fadeNow fadeValue
  rw [h]
  dsimp only
  split <;> rfl

theorem tick_sub_toNat (now began : Tick) :
    (now - began).toNat = (now.toNat + 4294967296 - began.toNat) % 4294967296 := by
  have := began.isLt
  rw [BitVec.toNat_sub]
  congr 1
  omega

/-! ## Steps 1 to 3 of an assigned fixture (R129 to R132) -/

theorem fixtureDry_iff (s : State) (r : FixtureRecord) : s.fixtureDry r = true ↔
    ∃ g, r.bound = some g ∧ ((s.groups.get g).interlock ≠ some .running
      ∨ ((s.groups.get g).reply.map (·.actual)).getD 0 < (s.cfg.groups.get g).wetSpeed) := by
  unfold State.fixtureDry
  cases r.bound with
  | none => simp
  | some g =>
    simp only [Bool.or_eq_true, decide_eq_true_iff, Option.some.injEq, exists_eq_left']
    rfl

theorem cappedNow_iff (timer : Option Tick) (grace : Nat) (tripped : Bool) (now : Tick) :
    cappedNow timer grace tripped now = true ↔ tripped = false ∧ ∃ d, timer = some d ∧ grace ≤ (now - d).toNat := by
  unfold cappedNow
  cases timer <;> simp

/-- A fixture after the first step of the frame. -/
def State.latched (s : State) (f : Fin 96) : Fixture :=
  (s.lgt.fixtures.get f).takeLatch s.showTime s.clock (Config.latchShowStart s.fresh f.val)

section
variable {s : State} {f : Fin 96}

theorem latched_none (h : (s.lgt.fixtures.get f).latch = none) : s.latched f = s.lgt.fixtures.get f := by
  unfold State.latched Fixture.takeLatch
  rw [h]

theorem latched_dryStart : (s.latched f).dryStart = (s.lgt.fixtures.get f).dryStart := by
  unfold State.latched Fixture.takeLatch
  split <;> rfl

theorem latched_latch : (s.latched f).latch = none := by
  unfold State.latched Fixture.takeLatch
  split
  next h => exact h
  · rfl

theorem latched_some {l : Latch} (h : (s.lgt.fixtures.get f).latch = some l) : (s.latched f).fade =
    ⟨(s.lgt.fixtures.get f).fade.levels s.showTime s.clock, Colour.internal l.colour,
      match l.clock with
      | .showClock => .onShow (s.showTime.getD (Config.latchShowStart s.fresh f.val))
      | .siteClock => .onSite s.clock,
      l.fade⟩ := by
  unfold State.latched Fixture.takeLatch
  rw [h] <;> rfl

variable (assigned : (s.cfg.fixtures.get f).assigned = true)
include assigned

theorem lampFixture_fade : (s.lampFixture f).fade = (s.latched f).fade := by
  unfold State.lampFixture
  dsimp only
  rw [if_pos assigned]
  rfl

theorem lampFixture_latch : (s.lampFixture f).latch = none := by
  unfold State.lampFixture
  dsimp only
  rw [if_pos assigned]
  exact latched_latch

theorem lampFixture_dryStart : (s.lampFixture f).dryStart =
    dryTimerNext (s.lgt.fixtures.get f).dryStart (s.fixtureDry (s.cfg.fixtures.get f)) s.lif.halted s.clock := by
  rw [← latched_dryStart]
  unfold State.lampFixture
  dsimp only
  rw [if_pos assigned]
  rfl

theorem lampFixture_capped : (s.lampFixture f).capped =
    cappedNow (s.lampFixture f).dryStart (s.cfg.fixtures.get f).dryGrace s.isTripped s.clock := by
  unfold State.lampFixture
  dsimp only
  rw [if_pos assigned]

theorem lampFixture_out : (s.lampFixture f).out =
    (if (s.lampFixture f).capped then
      Quad.map (fun v => if (s.cfg.fixtures.get f).dryCap < v then (s.cfg.fixtures.get f).dryCap else v)
    else id) (Levels.bus ((s.latched f).frameLevels (s.cfg.fixtures.get f) s.lif.halted s.isTripped s.showTime s.clock)) := by
  unfold State.lampFixture
  dsimp only
  rw [if_pos assigned]
  dsimp only
  split <;> rfl

end

/-- Settles O36: the steps of a lamp fixture, from its fade's levels to the values after the dry cap. -/
theorem lampFixtureFollowsItsSteps : Obligations.LampFixtureFollowsItsSteps := by
  unfold Obligations.LampFixtureFollowsItsSteps
  refine ⟨fun x showNow now => ?_, fun s f assigned => ?_⟩
  · intro elapsed level
    have same : x.began.elapsed showNow now = elapsed := by
      unfold FadeTime.elapsed
      cases h : x.began with
      | onShow b => simp only [elapsed, h]
      | onSite b => simp only [elapsed, h, tick_sub_toNat]
    have each (a b : Nat) : fadeNow a b x.began x.dur showNow now = level a b := by
      cases h : elapsed with
      | none => rw [fadeNow_none (same.trans h)]; simp only [level, h]
      | some e => rw [fadeNow_some (same.trans h)]; simp only [level, h]
    simp only [FixtureFade.levels, Quad.zip, each]
  · intro x r y levels bus dry
    have tripped : s.isTripped = true ↔ s.sup.mode = .tripped := by simp [State.isTripped]
    have isDry := fixtureDry_iff s r
    have timer := lampFixture_dryStart assigned
    have out := lampFixture_out assigned
    have frame : (s.latched f).frameLevels r s.lif.halted s.isTripped s.showTime s.clock = levels := by
      unfold Fixture.frameLevels
      rw [← lampFixture_fade assigned]
      simp only [tripped]
      rfl
    refine ⟨fun none => ?_, lampFixture_latch assigned, fun l hl => ?_, fun halted => ?_, fun live wet => ?_,
      fun live wet => ?_, ?_, fun free => ?_, fun capped => ?_⟩
    · rw [lampFixture_fade assigned, latched_none none]
    · rw [lampFixture_fade assigned, latched_some hl]
      refine ⟨rfl, rfl, rfl, fun clock => ?_, fun now clock time => ?_⟩
      · rw [clock]
      · rw [clock, time]; rfl
    · rw [timer, dryTimerNext, halted, if_pos rfl]
    · rw [timer, dryTimerNext, live, if_neg Bool.noConfusion, if_pos (isDry.mpr wet)]
    · rw [timer, dryTimerNext, live, if_neg Bool.noConfusion, if_neg (wet ∘ isDry.mp)]
    · rw [lampFixture_capped assigned, cappedNow_iff, ← Bool.not_eq_true, tripped]
    · rw [out, free, if_neg Bool.noConfusion, frame]
      rfl
    · rw [out, capped, if_pos rfl, frame]
      rfl

/-! ## The slots of the frame (R135) -/

theorem assigned_iff (r : FixtureRecord) : r.assigned = true ↔ r.base ≠ 0 := decide_eq_true_iff

theorem slotValue_eq_none_iff {base slot : Nat} {c : Colour} :
    slotValue base slot c = none ↔ base = 0 ∨ slot < base ∨ base + 3 < slot := by
  unfold slotValue
  (repeat' split) <;> simp <;> omega

/-- The four slots of a base carry the four values. -/
theorem slotValue_at {base : Nat} (h : base ≠ 0) (c : Colour) (i : Nat) (hi : i < 4) :
    slotValue base (base + i) c = c.toList[i]? := by
  unfold slotValue
  rw [if_neg h]
  match i, hi with
  | 0, _ => simp [Quad.toList]
  | 1, _ => simp [Quad.toList]
  | 2, _ => simp [Quad.toList]
  | 3, _ => simp [Quad.toList]

section
variable {records : Table 96 FixtureRecord} {fixtures : Table 96 Fixture}

/-- The highest slot in use. -/
def highestSlot (records : Table 96 FixtureRecord) : Nat :=
  ((List.finRange 96).filter fun f => (records.get f).assigned).foldl (fun n f => max n ((records.get f).base + 3)) 0

/-- What a slot of the frame carries. -/
def slotByte (records : Table 96 FixtureRecord) (fixtures : Table 96 Fixture) (slot : Nat) : Byte :=
  (((List.finRange 96).filter fun f => (records.get f).assigned).findSome? fun f =>
    slotValue (records.get f).base slot (fixtures.get f).out).getD 0

theorem lampSlots_eq : lampSlots records fixtures =
    (List.range (highestSlot records)).map fun i => slotByte records fixtures (i + 1) := rfl

theorem foldl_max_base (l : List (Fin 96)) (n : Nat) :
    n ≤ l.foldl (fun n f => max n ((records.get f).base + 3)) n
      ∧ (∀ f ∈ l, (records.get f).base + 3 ≤ l.foldl (fun n f => max n ((records.get f).base + 3)) n)
      ∧ (l.foldl (fun n f => max n ((records.get f).base + 3)) n = n
        ∨ ∃ f ∈ l, l.foldl (fun n f => max n ((records.get f).base + 3)) n = (records.get f).base + 3) := by
  induction l generalizing n with
  | nil => simp
  | cons f fs ih =>
    obtain ⟨least, all, reached⟩ := ih (max n ((records.get f).base + 3))
    rw [List.foldl_cons]
    refine ⟨by omega, fun g hg => ?_, ?_⟩
    · rcases List.mem_cons.mp hg with rfl | hg
      · omega
      · exact all g hg
    · rcases reached with none | ⟨g, hg, e⟩
      · rcases Nat.le_total ((records.get f).base + 3) n with le | le
        · exact .inl (none.trans (max_eq_left le))
        · exact .inr ⟨f, List.mem_cons_self, none.trans (max_eq_right le)⟩
      · exact .inr ⟨g, List.mem_cons_of_mem f hg, e⟩

theorem base_le_highestSlot {f : Fin 96} (h : (records.get f).assigned = true) :
    (records.get f).base + 3 ≤ highestSlot records :=
  (foldl_max_base _ 0).2.1 f (List.mem_filter.mpr ⟨List.mem_finRange f, h⟩)

theorem highestSlot_reached (h : 0 < highestSlot records) :
    ∃ f, (records.get f).assigned = true ∧ highestSlot records = (records.get f).base + 3 := by
  rcases (foldl_max_base (records := records) ((List.finRange 96).filter fun f => (records.get f).assigned) 0).2.2 with
    none | ⟨f, hf, e⟩
  · exact absurd (show highestSlot records = 0 from none) (by omega)
  · exact ⟨f, (List.mem_filter.mp hf).2, e⟩

/-- A slot of no assigned fixture carries 0. -/
theorem slotByte_free {slot : Nat} (h : ∀ f : Fin 96, (records.get f).assigned = true →
    slot < (records.get f).base ∨ (records.get f).base + 3 < slot) : slotByte records fixtures slot = 0 := by
  unfold slotByte
  rw [List.findSome?_eq_none_iff.mpr fun f hf => slotValue_eq_none_iff.mpr (.inr (h f (List.mem_filter.mp hf).2))]
  rfl

theorem findSome_of_only {l : List (Fin 96)} {v : Fin 96 → Option Byte} {f : Fin 96} (mem : f ∈ l)
    (others : ∀ h, h ≠ f → v h = none) : l.findSome? v = v f := by
  induction l with
  | nil => simp at mem
  | cons x xs ih =>
    rw [List.findSome?_cons]
    by_cases eq : x = f
    · subst eq
      cases hv : v x with
      | some b => rfl
      | none =>
        dsimp only
        exact List.findSome?_eq_none_iff.mpr fun h _ => (em (h = x)).elim (fun e => e ▸ hv) (others h)
    · rw [others x eq]
      exact ih ((List.mem_cons.mp mem).resolve_left (Ne.symm eq))

/-- A slot of an assigned fixture that shares none carries that fixture's value. -/
theorem slotByte_of_fixture {f : Fin 96} (assigned : (records.get f).assigned = true)
    (alone : slotTaken records f (records.get f) = false) {i : Nat} (hi : i < 4) :
    some (slotByte records fixtures ((records.get f).base + i)) = (fixtures.get f).out.toList[i]? := by
  have base := (assigned_iff _).mp assigned
  have others (h : Fin 96) (ne : h ≠ f) :
      slotValue (records.get h).base ((records.get f).base + i) (fixtures.get h).out = none := by
    have apart := (slotTaken_iff records f (records.get f)).not.mp (by rw [alone]; exact Bool.noConfusion)
    refine slotValue_eq_none_iff.mpr ?_
    by_contra meets
    exact apart ⟨base, h, ne, by omega, by omega, by omega⟩
  unfold slotByte
  rw [findSome_of_only (List.mem_filter.mpr ⟨List.mem_finRange f, assigned⟩) others, slotValue_at base _ i hi]
  rw [List.getElem?_eq_getElem (by exact hi)]
  rfl

end

/-! ## The frame -/

theorem has_of_raiseIf_eq {fs : Flags} {f : Flag} {c : Bool} (h : c = true) : (fs.raiseIf c f).has f = true := by
  subst h
  exact raise_has fs f

theorem has_of_raiseIf {fs : Flags} {f : Flag} {c : Prop} [Decidable c] (h : c) : (fs.raiseIf (decide c) f).has f = true := by
  rw [raiseIf_decide, if_pos h]
  exact raise_has fs f

section
variable (s : State)

theorem lampFrame_lampOut : s.lampFrame.lgt.lampOut = lampStart :: lampSlots s.cfg.fixtures s.lampFrame.lgt.fixtures := rfl

theorem lampFrame_overtakes : s.lampFrame.lgt.overtakes = s.lgt.overtakes := rfl

theorem lampOut_length : s.lampFrame.lgt.lampOut.length = highestSlot s.cfg.fixtures + 1 := by
  rw [lampFrame_lampOut, lampSlots_eq, List.length_cons, List.length_map, List.length_range]

theorem lampOut_get {n : Nat} (least : 1 ≤ n) (most : n < s.lampFrame.lgt.lampOut.length) :
    s.lampFrame.lgt.lampOut[n]? = some (slotByte s.cfg.fixtures s.lampFrame.lgt.fixtures n) := by
  obtain ⟨m, rfl⟩ : ∃ m, n = m + 1 := ⟨n - 1, by omega⟩
  rw [lampOut_length] at most
  rw [lampFrame_lampOut, lampSlots_eq, List.getElem?_cons_succ, List.getElem?_map,
    List.getElem?_range (by omega), Option.map_some]

theorem Fixture.out_self {x y : Fixture} {out : Colour} (h : x = { y with out := out }) : x = { y with out := x.out } := by
  subst h
  rfl

/-- The load the frame asks for, in the words of R133. -/
theorem lightLoad_lampFixture : lightLoad s.cfg.fixtures (Table.ofFn s.lampFixture) =
    ((List.finRange 96).map fun f =>
      if (s.cfg.fixtures.get f).assigned then
        (s.cfg.fixtures.get f).rated * ((s.lampFixture f).out.r.toNat + (s.lampFixture f).out.g.toNat
          + (s.lampFixture f).out.b.toNat + (s.lampFixture f).out.w.toNat) / 1020
      else 0).sum := by
  unfold lightLoad fixturePower
  simp only [Table.get_ofFn]

theorem lampFrame_flags : s.lampFrame.flags =
    (s.postLight (lightLoad s.cfg.fixtures (Table.ofFn s.lampFixture))).flags.raiseIf
      ((Table.ofFn s.lampFixture).cells.any (·.capped)) .dryCapActive := rfl

end

/-- Settles O38: the lamp frame posts its load, applies FDA's light scale and carries the slots of the assigned fixtures. -/
theorem lampFramePostsAndSends : Obligations.LampFramePostsAndSends := by
  unfold Obligations.LampFramePostsAndSends
  intro s
  refine ⟨s.lampFrame, rfl, ?_, fun f assigned => ⟨?_, ?_, fun alone => ?_⟩, rfl, fun some => ?_, fun n least most free => ?_,
    fun none => ?_, lampFrame_overtakes s, by simp, by simp, by simp, by simp, by simp, by simp, by simp, by simp, by simp,
    by simp, by simp⟩
  · intro load
    have asked : lightLoad s.cfg.fixtures (Table.ofFn s.lampFixture) = load := lightLoad_lampFixture s
    rw [lampFrame_fda, lampFrame_flags, asked]
    clear_value load
    refine ⟨rfl, rfl, rfl, rfl, rfl, rfl, fun scaled => ?_, fun limited => ?_, fun capped => ?_⟩
    · exact Flags.has_raiseIf _ _ _ (Flags.has_raiseIf _ _ _ (has_of_raiseIf scaled))
    · exact Flags.has_raiseIf _ _ _ (has_of_raiseIf limited)
    · have any : (Table.ofFn s.lampFixture).cells.any (·.capped) = true := by
        rw [Table.any_cells]
        exact capped.imp fun f hf => (congrArg Fixture.capped (Table.get_ofFn _ f)).trans hf
      exact has_of_raiseIf_eq any
  · exact Fixture.out_self (lampFrame_fixtures_get s f)
  · have := base_le_highestSlot assigned
    rw [lampOut_length]
    omega
  · refine List.ext_getElem? fun i => ?_
    have most := base_le_highestSlot assigned
    have least := (assigned_iff _).mp assigned
    have length := lampOut_length s
    rw [List.getElem?_take]
    split
    next hi =>
      rw [List.getElem?_drop, lampOut_get s (by omega) (by omega), slotByte_of_fixture assigned alone hi]
    next hi => exact (List.getElem?_eq_none (by show 4 ≤ i; omega)).symm
  · rw [lampOut_length] at some ⊢
    obtain ⟨f, hf, e⟩ := highestSlot_reached (records := s.cfg.fixtures) (by omega)
    exact ⟨f, hf, by rw [e]⟩
  · rw [lampOut_get s least most, slotByte_free free]
  · have zero : highestSlot s.cfg.fixtures = 0 := by
      by_contra some
      obtain ⟨f, hf, -⟩ := highestSlot_reached (Nat.pos_of_ne_zero some)
      exact Bool.noConfusion ((none f).symm.trans hf)
    rw [lampFrame_lampOut, lampSlots_eq, zero]
    rfl

end Sys2Proof.Machine
end

section
/-! The level sample (R150 to R152). -/

namespace Sys2Proof.Machine

open State

/-! ## The channel under an error and under a good evaluation (R143) -/

theorem evaluated_error_valid {c : Channel} {k : CounterSettings} {now : Tick} (h : c.valid = false) :
    (c.evaluated k now .error).valid = false := by
  unfold Channel.evaluated
  dsimp only
  (repeat' split) <;> first | exact h | rfl

theorem evaluated_good_valid {c : Channel} {k : CounterSettings} {now : Tick} (h : c.valid = true) :
    (c.evaluated k now .good).valid = true := by
  unfold Channel.evaluated
  dsimp only
  split
  · exact h
  · rw [h, Bool.true_or]

/-! ## A change of the level state -/

/-- SUP where a SITE report is owed, or none. -/
def Sup.owing (u : Sup) (due : Bool) : Sup := { u with siteDue := due }

theorem Sup.owing_effective (u : Sup) (due : Bool) : (u.owing due).effective = u.effective := rfl

/-- All but the flags and SUP stand. -/
structure State.LevelKept (w u : State) : Prop where
  groups : u.groups = w.groups
  seq : u.seq = w.seq
  lgt : u.lgt = w.lgt
  aud : u.aud = w.aud
  lif : u.lif = w.lif
  cfg : u.cfg = w.cfg

namespace State.LevelKept

variable {u v w : State}

theorem refl (w : State) : LevelKept w w := ⟨rfl, rfl, rfl, rfl, rfl, rfl⟩

theorem trans (h : w.LevelKept u) (h' : u.LevelKept v) : w.LevelKept v :=
  ⟨h'.groups.trans h.groups, h'.seq.trans h.seq, h'.lgt.trans h.lgt, h'.aud.trans h.aud, h'.lif.trans h.lif,
    h'.cfg.trans h.cfg⟩

theorem withSup (h : w.LevelKept u) (x : Sup) : w.LevelKept { u with sup := x } :=
  ⟨h.groups, h.seq, h.lgt, h.aud, h.lif, h.cfg⟩

end State.LevelKept

/-- A step that enters DRY: WTR's zero fades, and STOPPING for a show that runs (R75, R152). -/
structure State.EntersDry (s t : State) : Prop where
  fades : ∀ g : Fin 24, (s.groups.get g).interlock.isSome = true →
    (t.groups.get g).fade.target = 0 ∧ (t.groups.get g).fade.dur = 0
  stops : s.seq.st = .running ∨ s.seq.st = .held →
    (0 < s.cfg.options.stopFade ∨ s.groupsDown = false → t.seq.st = .stopping
      ∧ t.seq.stopping = some ⟨.dry, s.showTime.getD 0, s.cfg.options.stopFade⟩)
    ∧ (s.cfg.options.stopFade = 0 → s.groupsDown = true → t.seq.st = .idle)
  stands : s.seq.st ≠ .running → s.seq.st ≠ .held → t.seq = s.seq

namespace State

theorem levelMoved_kept {u : State} {before : LevelState} (h : u.sup.effective = before ∨ u.sup.effective ≠ .dry) :
    u.LevelKept (u.levelMoved before) := by
  unfold levelMoved
  split
  · exact .refl u
  next moved =>
    rw [if_neg (h.resolve_left moved)]
    exact (LevelKept.refl u).withSup _

theorem levelMoved_dry {u : State} {before : LevelState} (moved : before ≠ .dry) (dry : u.sup.effective = .dry) :
    u.levelMoved before = (u.oweSite true).enterDry := by
  unfold levelMoved
  rw [if_neg (fun e => moved (e.symm.trans dry)), if_pos dry]

theorem levelMoved_sup (u : State) (before : LevelState) : ∃ due, (u.levelMoved before).sup = u.sup.owing due := by
  unfold levelMoved
  split
  · exact ⟨_, rfl⟩
  · split
    · exact ⟨_, enterDry_sup _⟩
    · exact ⟨_, rfl⟩

theorem zeroFades_group (u : State) (g : Fin 24) :
    u.zeroFades.groups.get g = (u.groups.get g).withFade (GroupFade.zero u.clock) := Sys2Proof.Table.get_map _ _ g

theorem zeroFades_groupsDown (u : State) : u.zeroFades.groupsDown = u.groupsDown :=
  groupsDown_of_interlocks fun g => by rw [zeroFades_group, withFade_interlock]

/-- The show of a state that enters STOPPING, by whether its end holds at once. -/
theorem enterStopping_seq_cases {u : State} {now : Int} (r : EndReason) (time : u.showTime = some now) :
    (0 < u.cfg.options.stopFade ∨ u.groupsDown = false →
      (u.enterStopping r).seq.st = .stopping
        ∧ (u.enterStopping r).seq.stopping = some ⟨r, u.showTime.getD 0, u.cfg.options.stopFade⟩)
    ∧ (u.cfg.options.stopFade = 0 → u.groupsDown = true → (u.enterStopping r).seq.st = .idle) := by
  refine ⟨fun goes => ?_, fun fade down => ?_⟩
  · rw [enterStopping_stays r time goes]; exact ⟨rfl, rfl⟩
  · rw [enterStopping_ends r time fade down]; rfl

theorem showTime_of_active {u : State} (h : u.seq.st = .running ∨ u.seq.st = .held) : ∃ now, u.showTime = some now := by
  unfold showTime
  rcases h with h | h <;> rw [h] <;> exact ⟨_, rfl⟩

theorem enterStopping_seq_of {s v : State} (r : EndReason) (time : v.showTime = s.showTime) (cfg : v.cfg = s.cfg)
    (down : v.groupsDown = s.groupsDown) (active : s.seq.st = .running ∨ s.seq.st = .held) :
    (0 < s.cfg.options.stopFade ∨ s.groupsDown = false → (v.enterStopping r).seq.st = .stopping
      ∧ (v.enterStopping r).seq.stopping = some ⟨r, s.showTime.getD 0, s.cfg.options.stopFade⟩)
    ∧ (s.cfg.options.stopFade = 0 → s.groupsDown = true → (v.enterStopping r).seq.st = .idle) := by
  obtain ⟨now, hnow⟩ := showTime_of_active active
  have cases := enterStopping_seq_cases r (time.trans hnow)
  rwa [time, cfg, down] at cases

/-- The entry into DRY, of a show that runs: the two writes in either order. -/
theorem enterDry_active {u : State} (active : u.seq.st = .running ∨ u.seq.st = .held) :
    u.enterDry = (enterStopping { u with fresh := u.fresh + 1 } .dry).zeroFades
      ∨ u.enterDry = (zeroFades { u with fresh := u.fresh + 1 }).enterStopping .dry := by
  unfold enterDry
  rw [if_pos active]
  dsimp only
  split
  · exact .inl rfl
  · exact .inr rfl

theorem enterDry_rest {u : State} (running : u.seq.st ≠ .running) (held : u.seq.st ≠ .held) : u.enterDry = u.zeroFades :=
  if_neg fun h => h.elim running held

theorem enterDry_enters {s u : State} (groups : u.groups = s.groups) (seq : u.seq = s.seq) (aud : u.aud = s.aud) (cfg : u.cfg = s.cfg) :
    s.EntersDry u.enterDry := by
  have time : u.showTime = s.showTime := by unfold showTime; rw [seq, aud]
  have down : u.groupsDown = s.groupsDown := groupsDown_of_interlocks fun g => by rw [groups]
  refine ⟨fun g hg => ?_, fun active => ?_, fun running held => ?_⟩
  · rw [← groups] at hg
    have zero (v : State) (hv : (v.groups.get g).interlock.isSome = true) :
        (v.zeroFades.groups.get g).fade.target = 0 ∧ (v.zeroFades.groups.get g).fade.dur = 0 := by
      rw [zeroFades_group, withFade_of_configured hv]
      exact ⟨rfl, rfl⟩
    by_cases active : u.seq.st = .running ∨ u.seq.st = .held
    · rcases enterDry_active active with e | e <;> rw [e]
      · refine zero _ ?_
        rw [enterStopping_groups, stoppingSaid_group, withFade_interlock]
        exact hg
      · rw [enterStopping_groups]
        have set := stopping_group (u := zeroFades { u with fresh := u.fresh + 1 }) .dry (g := g) (by
          rw [zeroFades_group, withFade_interlock]; exact hg)
        exact ⟨set.1, set.2.1⟩
    · rw [enterDry_rest (active ∘ .inl) (active ∘ .inr)]
      exact zero u hg
  · rcases enterDry_active (u := u) (by rw [seq]; exact active) with e | e <;> rw [e]
    · exact enterStopping_seq_of .dry (v := { u with fresh := u.fresh + 1 }) time cfg down active
    · exact enterStopping_seq_of .dry (v := zeroFades { u with fresh := u.fresh + 1 }) time cfg
        ((zeroFades_groupsDown _).trans down) active
  · rw [enterDry_rest (by rw [seq]; exact running) (by rw [seq]; exact held)]
    exact seq

/-! ## The sample -/

/-- The LEVEL channel after the sample's evaluation. -/
def levelChannel (s : State) (bad : Bool) : Channel :=
  (s.sup.channels.get 1).evaluated (s.cfg.counters.get 1) s.clock (if bad then .error else .good)

/-- The VALIDITY report of the sample's evaluation. -/
def levelValidity (s : State) (bad : Bool) : Report :=
  .validity 1 (s.levelChannel bad).valid (s.levelChannel bad).counter (s.levelChannel bad).fatal

/-- A sample with its evaluation reported where the channel turns, before what that causes. -/
def levelTaken (s : State) (bad : Bool) : State :=
  if (s.levelChannel bad).valid = (s.sup.channels.get 1).valid then s.withChannel 1 (s.levelChannel bad)
  else (s.withChannel 1 (s.levelChannel bad)).report (s.levelValidity bad)

section
variable {s : State} {bad : Bool}

theorem evaluateLevel_same (h : (s.levelChannel bad).valid = (s.sup.channels.get 1).valid) :
    s.evaluate 1 (if bad then .error else .good) = s.levelTaken bad :=
  (moveChannel_same h).trans (if_pos h).symm

theorem evaluateLevel_turned (h : (s.levelChannel bad).valid ≠ (s.sup.channels.get 1).valid) :
    s.evaluate 1 (if bad then .error else .good) = (s.levelTaken bad).levelMoved s.sup.effective :=
  (moveChannel_turned h).trans (congrArg (fun u : State => u.levelMoved s.sup.effective) (if_neg h).symm)

theorem levelTaken_sup : (s.levelTaken bad).sup = { s.sup with channels := s.sup.channels.set 1 (s.levelChannel bad) } := by
  unfold levelTaken
  split <;> rfl

theorem levelTaken_effective : (s.levelTaken bad).sup.effective =
    if (s.levelChannel bad).valid then s.sup.measured else .low := by
  rw [levelTaken_sup, Sup.effective]
  dsimp only
  rw [Sys2Proof.Table.get_set_self]

/-- Apart from the link and SUP nothing is touched before the level state is judged. -/
theorem levelTaken_frame : (s.levelTaken bad).groups = s.groups ∧ (s.levelTaken bad).seq = s.seq
    ∧ (s.levelTaken bad).lgt = s.lgt ∧ (s.levelTaken bad).aud = s.aud ∧ (s.levelTaken bad).cfg = s.cfg := by
  unfold levelTaken
  split <;> exact ⟨rfl, rfl, rfl, rfl, rfl⟩

theorem levelTaken_grows : s.lif.Grows 1 (s.levelTaken bad).lif := by
  unfold levelTaken
  split
  · exact .refl 1 s.lif
  · exact report_grows (s := s.withChannel 1 (s.levelChannel bad)) (.refl 0 s.lif)

/-- A sample with an error never turns DRY. -/
theorem evaluateLevel_bad : (s.levelTaken true).LevelKept (s.evaluate 1 .error) := by
  by_cases h : (s.levelChannel true).valid = (s.sup.channels.get 1).valid
  · rw [show s.evaluate 1 .error = s.levelTaken true from evaluateLevel_same h]
    exact .refl _
  · rw [show s.evaluate 1 .error = (s.levelTaken true).levelMoved s.sup.effective from evaluateLevel_turned h]
    have invalid : (s.levelChannel true).valid = false := by
      by_contra valid
      have was : (s.sup.channels.get 1).valid = false := by
        cases e : (s.sup.channels.get 1).valid
        · rfl
        · exact (h ((Bool.not_eq_false _ ▸ valid).trans e.symm)).elim
      exact valid (evaluated_error_valid was)
    refine levelMoved_kept (.inr ?_)
    rw [levelTaken_effective, invalid]
    exact nofun

/-! ### A sample without error -/

theorem entered_with (u : Sup) (ch : Table 27 Channel) (due : Bool) (k : LevelSettings) (current : Nat) :
    ({ u with channels := ch, siteDue := due } : Sup).entered k current =
      ({ u.entered k current with channels := ch } : Sup).owing due := by
  unfold Sup.entered
  dsimp only
  split <;> rfl

/-- SUP after a sample without error, but for the SITE report it owes. -/
def levelEntered (s : State) (current : Nat) : Sup :=
  { s.sup.entered s.cfg.level current with channels := s.sup.channels.set 1 (s.levelChannel false) }

/-- The sample enters DRY. -/
def levelEnters (s : State) (current : Nat) : Prop :=
  (s.levelChannel false).valid = true
    ∧ (((s.sup.channels.get 1).valid = true ∧ s.sup.measured ≠ .dry ∧ (s.levelEntered current).measured = .dry)
      ∨ ((s.sup.channels.get 1).valid = false ∧ (s.sup.measured = .dry ∨ (s.levelEntered current).measured = .dry)))

theorem levelEntered_effective (s : State) (current : Nat) : (s.levelEntered current).effective =
    if (s.levelChannel false).valid then (s.levelEntered current).measured else .low := by
  unfold Sup.effective levelEntered
  dsimp only
  rw [Sys2Proof.Table.get_set_self]

/-- The last part of a sample: its figures are entered over what the evaluation left, and the level state judged. -/
theorem levelSample_over {u : State} {reading : BitVec 12} (good : currentBad (currentOf reading) = false)
    (e : s.evaluate 1 .good = u) {due : Bool} (sup : u.sup = (s.levelTaken false).sup.owing due) (cfg : u.cfg = s.cfg) :
    s.levelSample reading =
      levelMoved { u with sup := (s.levelEntered (currentOf reading)).owing due } u.sup.effective := by
  subst e
  have entered : (s.evaluate 1 .good).sup.entered (s.evaluate 1 .good).cfg.level (currentOf reading)
      = (s.levelEntered (currentOf reading)).owing due := by
    rw [sup, cfg, levelTaken_sup]
    exact entered_with s.sup _ due s.cfg.level (currentOf reading)
  unfold levelSample
  dsimp only
  rw [good, if_neg Bool.noConfusion, if_neg Bool.noConfusion, entered]

/-- What the sample's figures leave to be judged. -/
theorem levelSample_sup {reading : BitVec 12} (good : currentBad (currentOf reading) = false) :
    ∃ due, (s.levelSample reading).sup = (s.levelEntered (currentOf reading)).owing due := by
  have cfg := (levelTaken_frame (s := s) (bad := false)).2.2.2.2
  by_cases same : (s.levelChannel false).valid = (s.sup.channels.get 1).valid
  · rw [levelSample_over good (evaluateLevel_same same) (due := s.sup.siteDue) (by rw [levelTaken_sup]; rfl) cfg]
    exact levelMoved_sup _ _
  · obtain ⟨due, sup⟩ := levelMoved_sup (s.levelTaken false) s.sup.effective
    rw [levelSample_over good (evaluateLevel_turned same) sup ((levelMoved_cfg _ _).trans cfg)]
    exact levelMoved_sup _ _

/-- The sample where the LEVEL channel does not turn. -/
theorem levelSample_same {reading : BitVec 12} (good : currentBad (currentOf reading) = false)
    (same : (s.levelChannel false).valid = (s.sup.channels.get 1).valid) :
    (s.levelEnters (currentOf reading) → ∃ v, (s.levelTaken false).LevelKept v ∧ v.enterDry.LevelKept (s.levelSample reading))
    ∧ (¬s.levelEnters (currentOf reading) → (s.levelTaken false).LevelKept (s.levelSample reading)) := by
  have before := levelTaken_effective (s := s) (bad := false)
  have after := levelEntered_effective s (currentOf reading)
  have figures := (LevelKept.refl (s.levelTaken false)).withSup
    ((s.levelEntered (currentOf reading)).owing s.sup.siteDue)
  rw [levelSample_over good (evaluateLevel_same same) (due := s.sup.siteDue) (by rw [levelTaken_sup]; rfl)
    (levelTaken_frame (s := s) (bad := false)).2.2.2.2]
  refine ⟨fun ⟨now, enters⟩ => ?_, fun stays => figures.trans (levelMoved_kept ?_)⟩
  · rw [if_pos now] at before after
    obtain ⟨-, wet, dry⟩ := enters.resolve_right fun h => Bool.noConfusion (h.1.symm.trans (same.symm.trans now))
    rw [levelMoved_dry (by rw [before]; exact wet) (after.trans dry)]
    exact ⟨_, figures.withSup _, .refl _⟩
  · rw [before, Sup.owing_effective, after]
    cases now : (s.levelChannel false).valid
    · exact .inl rfl
    · by_cases dry : (s.levelEntered (currentOf reading)).measured = .dry
      · have was : s.sup.measured = .dry := by
          by_contra wet
          exact stays ⟨now, .inl ⟨same.symm.trans now, wet, dry⟩⟩
        exact .inl (dry.trans was.symm)
      · exact .inr dry

/-- The sample where the LEVEL channel turns VALID: what the measured state was shows first. -/
theorem levelSample_turned {reading : BitVec 12} (good : currentBad (currentOf reading) = false)
    (turned : (s.levelChannel false).valid ≠ (s.sup.channels.get 1).valid) :
    (s.levelEnters (currentOf reading) → ∃ v, (s.levelTaken false).LevelKept v ∧ v.enterDry.LevelKept (s.levelSample reading))
    ∧ (¬s.levelEnters (currentOf reading) → (s.levelTaken false).LevelKept (s.levelSample reading)) := by
  have was : (s.sup.channels.get 1).valid = false := by
    by_contra valid
    rw [Bool.not_eq_false] at valid
    exact turned ((evaluated_good_valid valid).trans valid.symm)
  have now : (s.levelChannel false).valid = true := by
    rw [was] at turned
    exact Bool.not_eq_false _ ▸ turned
  have low : s.sup.effective = .low := by rw [Sup.effective, was]; rfl
  have shown := levelTaken_effective (s := s) (bad := false)
  have after := levelEntered_effective s (currentOf reading)
  rw [if_pos now] at shown after
  obtain ⟨due, sup⟩ := levelMoved_sup (s.levelTaken false) s.sup.effective
  have before : ((s.levelTaken false).levelMoved s.sup.effective).sup.effective = s.sup.measured := by
    rw [sup, Sup.owing_effective, shown]
  rw [levelSample_over good (evaluateLevel_turned turned) sup
    ((levelMoved_cfg _ _).trans (levelTaken_frame (s := s) (bad := false)).2.2.2.2), before]
  by_cases dry : s.sup.measured = .dry
  · have enters : s.levelEnters (currentOf reading) := ⟨now, .inr ⟨was, .inl dry⟩⟩
    refine ⟨fun _ => ⟨(s.levelTaken false).oweSite true, (LevelKept.refl _).withSup _, ?_⟩, fun stays => (stays enters).elim⟩
    rw [levelMoved_dry (u := s.levelTaken false) (by rw [low]; exact nofun) (shown.trans dry)]
    refine ((LevelKept.refl _).withSup _).trans (levelMoved_kept ?_)
    rw [Sup.owing_effective, after, dry]
    exact em _
  · have first : (s.levelTaken false).LevelKept ((s.levelTaken false).levelMoved s.sup.effective) :=
      levelMoved_kept (.inr (by rw [shown]; exact dry))
    refine ⟨fun ⟨_, enters⟩ => ?_, fun stays => (first.withSup _).trans (levelMoved_kept (.inr ?_))⟩
    · have later : (s.levelEntered (currentOf reading)).measured = .dry := by
        rcases enters with h | h
        · exact h.2.2
        · exact h.2.resolve_left dry
      rw [levelMoved_dry dry (after.trans later)]
      exact ⟨_, (first.withSup _).withSup _, .refl _⟩
    · rw [Sup.owing_effective, after]
      exact fun later => stays ⟨now, .inr ⟨was, .inr later⟩⟩

theorem levelSample_good {reading : BitVec 12} (good : currentBad (currentOf reading) = false) :
    (s.levelEnters (currentOf reading) → ∃ v, (s.levelTaken false).LevelKept v ∧ v.enterDry.LevelKept (s.levelSample reading))
    ∧ (¬s.levelEnters (currentOf reading) → (s.levelTaken false).LevelKept (s.levelSample reading)) := by
  by_cases same : (s.levelChannel false).valid = (s.sup.channels.get 1).valid
  · exact levelSample_same good same
  · exact levelSample_turned good same

end

end State

/-! ## The whole sample -/

theorem levelSample_bad {s : State} {reading : BitVec 12} (bad : currentBad (currentOf reading) = true) :
    s.levelSample reading = s.evaluate 1 .error := by
  unfold State.levelSample
  dsimp only
  rw [bad]
  rfl

theorem evaluateLevel_sup (s : State) (bad : Bool) :
    ∃ due, (s.evaluate 1 (if bad then .error else .good)).sup = (s.levelTaken bad).sup.owing due := by
  by_cases same : (s.levelChannel bad).valid = (s.sup.channels.get 1).valid
  · rw [evaluateLevel_same same]
    exact ⟨(s.levelTaken bad).sup.siteDue, rfl⟩
  · rw [evaluateLevel_turned same]
    exact levelMoved_sup _ _

theorem levelSample_channels (s : State) (reading : BitVec 12) : (s.levelSample reading).sup.channels =
    s.sup.channels.set 1 (s.levelChannel (currentBad (currentOf reading))) := by
  cases bad : currentBad (currentOf reading) with
  | true =>
    obtain ⟨due, sup⟩ := evaluateLevel_sup s true
    rw [levelSample_bad bad]
    exact (congrArg Sup.channels (sup.trans (congrArg (fun u => Sup.owing u due) levelTaken_sup)) :)
  | false =>
    obtain ⟨due, sup⟩ := levelSample_sup (s := s) bad
    rw [sup]
    rfl

/-- What follows the evaluation's own report adds at most the reports of an entry into STOPPING. -/
theorem levelSample_grows (s : State) (reading : BitVec 12) :
    (s.levelTaken (currentBad (currentOf reading))).lif.Grows 2 (s.levelSample reading).lif := by
  cases bad : currentBad (currentOf reading) with
  | true =>
    rw [levelSample_bad bad, evaluateLevel_bad.lif]
    exact .refl 2 _
  | false =>
    obtain ⟨enters, stays⟩ := levelSample_good (s := s) bad
    by_cases h : s.levelEnters (currentOf reading)
    · obtain ⟨v, before, after⟩ := enters h
      rw [after.lif]
      exact enterDry_grows (before.lif ▸ .refl 0 _)
    · rw [(stays h).lif]
      exact .refl 2 _

theorem entered_mode (u : Sup) (k : LevelSettings) (current : Nat) : (u.entered k current).mode = u.mode
    ∧ (u.entered k current).causes = u.causes ∧ (u.entered k current).tripLog = u.tripLog
    ∧ (u.entered k current).band = u.band ∧ (u.entered k current).permit = u.permit
    ∧ (u.entered k current).siteDue = u.siteDue := by
  unfold Sup.entered
  dsimp only
  split <;> exact ⟨rfl, rfl, rfl, rfl, rfl, rfl⟩

theorem levelSample_owes (s : State) (reading : BitVec 12) : s.Owes (s.levelSample reading) := by
  unfold State.levelSample
  obtain ⟨mode, causes, log, band, permit, due⟩ := entered_mode
    (s.evaluate 1 (if currentBad (currentOf reading) then .error else .good)).sup
    (s.evaluate 1 (if currentBad (currentOf reading) then .error else .good)).cfg.level (currentOf reading)
  exact .ite (evaluate_owes (.refl s)) (levelMoved_owes (evaluate_owes (.refl s)) mode causes log band permit due)

theorem evaluateLevel_fda (s : State) (bad : Bool) : (s.evaluate 1 (if bad then .error else .good)).fda = s.fda := by
  have taken : (s.levelTaken bad).fda = s.fda := by
    unfold State.levelTaken
    split <;> rfl
  by_cases same : (s.levelChannel bad).valid = (s.sup.channels.get 1).valid
  · rw [evaluateLevel_same same, taken]
  · rw [evaluateLevel_turned same, levelMoved_fda, taken]

theorem levelSample_fda (s : State) (reading : BitVec 12) : (s.levelSample reading).fda = s.fda := by
  unfold State.levelSample
  dsimp only
  split
  · exact evaluateLevel_fda s true
  · exact (levelMoved_fda _ _).trans (evaluateLevel_fda s false)

/-- The figures a sample without error leaves (R150, R151). -/
theorem entered_figures (u : Sup) (k : LevelSettings) (current : Nat) :
    (u.entered k current).currents = lastOf 4 (u.currents ++ [current])
    ∧ ((u.entered k current).currents.length < 4 →
      (u.entered k current).measured = u.measured ∧ (u.entered k current).level = u.level)
    ∧ (4 ≤ (u.entered k current).currents.length →
      (u.entered k current).average = (u.entered k current).currents.sum / 4
      ∧ (u.entered k current).level = levelOfCurrent k.span (u.entered k current).average
      ∧ (u.entered k current).measured = u.measured.judged k (u.entered k current).level) := by
  unfold Sup.entered
  dsimp only
  split
  next few => exact ⟨rfl, fun _ => ⟨rfl, rfl⟩, fun many => (Nat.not_le.2 few many).elim⟩
  next many => exact ⟨rfl, fun few => (many few).elim, fun _ => ⟨rfl, rfl, rfl⟩⟩

theorem currentBad_iff (current : Nat) : currentBad current = true ↔ current < 3600 ∨ 21000 < current := by
  simp [currentBad]

/-- Settles O44: the sample is evaluated, entered and judged; DRY is entered at most once. -/
theorem levelSampleJudgesTheLevel : Obligations.LevelSampleJudgesTheLevel := by
  unfold Obligations.LevelSampleJudgesTheLevel
  intro s reading
  have grown := levelSample_grows s reading
  refine ⟨(s.levelSample reading).settle, rfl, ?_, ?_, judgesSite_settle (levelSample_owes s reading)
    (levelTaken_grows.trans grown (Nat.le_refl 3)) (Nat.le_refl 3), by simp, by simp, by simp,
    (settle_fda _).trans (levelSample_fda s reading), by simp⟩
  · intro current bad
    have error : currentBad (currentOf reading) = true ↔ bad := currentBad_iff current
    have channel : s.levelChannel (currentBad (currentOf reading)) =
        (s.sup.channels.get 1).evaluated (s.cfg.counters.get 1) s.clock (if bad then .error else .good) := by
      unfold State.levelChannel
      simp only [error]
    rw [← channel, settle_sup, settle_groups, settle_seq, settle_lgt, settle_aud]
    refine ⟨?_, fun isBad => ?_, fun isGood => ?_, fun isGood => ?_⟩
    · exact levelSample_channels s reading
    · have isBad := error.mpr isBad
      obtain ⟨due, sup⟩ := evaluateLevel_sup s true
      obtain ⟨groups, seq, lgt, aud, -⟩ := levelTaken_frame (s := s) (bad := true)
      have kept := evaluateLevel_bad (s := s)
      have sup' : (s.levelSample reading).sup = (s.levelTaken true).sup.owing due := by rw [levelSample_bad isBad]; exact sup
      rw [sup', levelTaken_sup, levelSample_bad isBad, kept.groups, kept.seq, kept.lgt, kept.aud]
      exact ⟨rfl, rfl, rfl, rfl, rfl, rfl, groups, seq, lgt, by rw [aud]⟩
    · have isGood : currentBad (currentOf reading) = false := Bool.not_eq_true _ ▸ error.not.mpr isGood
      obtain ⟨due, sup⟩ := levelSample_sup (s := s) isGood
      obtain ⟨currents, few, many⟩ := entered_figures s.sup s.cfg.level (currentOf reading)
      rw [sup]
      refine ⟨currents, few, fun enough => ?_⟩
      obtain ⟨average, level, measured⟩ := many enough
      exact ⟨average, level, measured⟩
    · have isGood : currentBad (currentOf reading) = false := Bool.not_eq_true _ ▸ error.not.mpr isGood
      obtain ⟨due, sup⟩ := levelSample_sup (s := s) isGood
      obtain ⟨whenEnters, stays⟩ := levelSample_good (s := s) isGood
      obtain ⟨groups, seq, lgt, aud, cfg⟩ := levelTaken_frame (s := s) (bad := false)
      intro was now enters
      have same : enters ↔ s.levelEnters (currentOf reading) := by
        have valid : now = (s.levelChannel false).valid := by
          show (((s.levelSample reading).sup.channels).get 1).valid = _
          rw [sup]
          exact congrArg Channel.valid (Sys2Proof.Table.get_set_self _ _ _)
        have measured : (s.levelSample reading).sup.measured = (s.levelEntered (currentOf reading)).measured := by
          rw [sup]; rfl
        simp only [enters, State.levelEnters, valid, measured]
        rfl
      refine ⟨fun h => ?_, fun h => ?_⟩
      · obtain ⟨v, before, after⟩ := whenEnters (same.mp h)
        have dry := enterDry_enters (s := s) (before.groups.trans groups) (before.seq.trans seq) (before.aud.trans aud)
          (before.cfg.trans cfg)
        rw [after.groups, after.seq]
        exact ⟨dry.fades, dry.stops, dry.stands⟩
      · have kept := stays (h ∘ same.mpr)
        exact ⟨kept.groups.trans groups, kept.seq.trans seq⟩
  · intro ch turned
    have channel : ch = s.levelChannel (currentBad (currentOf reading)) := by
      show (s.levelSample reading).settle.sup.channels.get 1 = _
      rw [settle_sup]
      exact (congrArg (fun c => Sys2Proof.Table.get c 1) (levelSample_channels s reading)).trans
        (Sys2Proof.Table.get_set_self _ _ _)
    rw [channel] at turned ⊢
    refine says_of_report (u := s.withChannel 1 (s.levelChannel (currentBad (currentOf reading)))) (l := s.lif) rfl rfl
      (.refl 0 _) (Nat.zero_le 3) fun h => settle_carries (Lif.Carries.grows ?_ grown)
    unfold State.levelTaken
    rw [if_neg turned]
    exact h

end Sys2Proof.Machine
end

section
/-! Interlock changes offered to SEQ and SUP: what a step that brings groups down decides (R41, R59, R90, R157). -/

namespace Sys2Proof.Machine

open State

/-! ## What an offer decides -/

/-- STOPPING's fade has run: only moving groups keep the show in it (R41). -/
def State.stopDue (s : State) : Bool :=
  match s.seq.st, s.seq.stopping, s.showTime with
  | .stopping, some p, some t => decide (p.began + p.fade ≤ t)
  | _, _, _ => false

/-- An intrusion trip stands, whose PERMIT drop waits for the groups (R157). -/
def State.tripDrops (s : State) : Bool := s.isTripped && !s.sup.causes.estop

theorem stopEndHolds_eq (s : State) : s.stopEndHolds = (s.stopDue && s.groupsDown) := by
  unfold State.stopEndHolds State.stopDue
  generalize s.seq.st = st, s.seq.stopping = stopping, s.showTime = time
  cases st with
  | stopping =>
    cases stopping with
    | none => rfl
    | some p => cases time <;> rfl
  | _ => rfl

theorem dropCalled_eq (s : State) : s.dropCalled = (s.tripDrops && s.groupsDown) := rfl

/-- What the offers of interlock changes read of SEQ and SUP, and may write. -/
structure State.Unoffered (s u : State) : Prop where
  seq : u.seq = s.seq
  aud : u.aud = s.aud
  locks : u.flp.locks = s.flp.locks
  permit : u.sup.permit = s.sup.permit
  dropTimer : u.sup.dropTimer = s.sup.dropTimer

/-- The show has ended from STOPPING, said so, and made at most n reports before that (R41, R59). -/
structure State.EndedStop (s : State) (n : Nat) (u : State) : Prop where
  st : u.seq.st = .idle
  cues : u.seq.cues = []
  lanes : u.seq.lanes = Lanes.empty
  stopping : u.seq.stopping = none
  locks : u.flp.locks = s.flp.locks.filter fun k => !k.owner.ofShow
  aud : u.aud.stopFade = none ∧ u.aud.m = 960 ∧ u.aud.target = 960 ∧ u.aud.count = 0 ∧ u.aud.counting = false
  said : ∃ (p : Stopping) (w : State), s.seq.stopping = some p ∧ s.lif.Grows n w.lif
    ∧ ∀ r, (w.report (.showState .idle none none (some p.reason))).lif.Carries r → u.lif.Carries r

/-- An offer with every configured group down has been acted on by SEQ and by SUP. -/
structure State.Offered (s : State) (n : Nat) (u : State) : Prop where
  ends : s.stopDue = true → s.EndedStop n u
  goesOn : s.stopDue = false → u.seq = s.seq ∧ u.aud = s.aud ∧ u.flp.locks = s.flp.locks
  drops : s.tripDrops = true → u.sup.permit = false ∧ u.sup.dropTimer = none
  stands : s.tripDrops = false → u.sup.permit = s.sup.permit ∧ u.sup.dropTimer = s.sup.dropTimer

/-- A step so far, with at most n reports beside the show's: it has decided exactly where a change has left the groups down. -/
structure State.Brings (s : State) (n : Nat) (decided : Bool) (u : State) : Prop where
  mode : u.sup.mode = s.sup.mode
  causes : u.sup.causes = s.sup.causes
  grows : s.lif.Grows (n + 1) u.lif
  pending : decided = false → s.Unoffered u ∧ s.lif.Grows n u.lif
  done : decided = true → s.Offered n u ∧ u.groupsDown = true ∧ s.interlockMoved u
  moved : s.interlockMoved u → u.groupsDown = true → decided = true

namespace State

variable {s u v : State} {n k : Nat} {d : Bool}

theorem Unoffered.refl (s : State) : s.Unoffered s := ⟨rfl, rfl, rfl, rfl, rfl⟩

theorem Unoffered.trans (h : s.Unoffered u) (h' : u.Unoffered v) : s.Unoffered v :=
  ⟨h'.seq.trans h.seq, h'.aud.trans h.aud, h'.locks.trans h.locks, h'.permit.trans h.permit, h'.dropTimer.trans h.dropTimer⟩

theorem Unoffered.showTime (h : s.Unoffered u) : u.showTime = s.showTime := by
  unfold State.showTime
  rw [h.seq, h.aud]

theorem stopDue_congr (seq : u.seq = s.seq) (aud : u.aud = s.aud) : u.stopDue = s.stopDue := by
  unfold stopDue State.showTime
  rw [seq, aud]

theorem tripDrops_congr (mode : u.sup.mode = s.sup.mode) (causes : u.sup.causes = s.sup.causes) : u.tripDrops = s.tripDrops := by
  unfold tripDrops isTripped
  rw [mode, causes]

theorem EndedStop.later (h : s.EndedStop n u) (same : u.Unoffered v) (grown : u.lif.Grows k v.lif) : s.EndedStop (n + k) v := by
  obtain ⟨p, w, hp, before, after⟩ := h.said
  exact ⟨same.seq ▸ h.st, same.seq ▸ h.cues, same.seq ▸ h.lanes, same.seq ▸ h.stopping, same.locks.trans h.locks,
    same.aud ▸ h.aud, p, w, hp, before.mono (by omega), fun r hr => (after r hr).grows grown⟩

theorem Offered.later (h : s.Offered n u) (same : u.Unoffered v) (grown : u.lif.Grows k v.lif) : s.Offered (n + k) v := by
  refine ⟨fun due => (h.ends due).later same grown, fun due => ?_, fun due => ?_, fun due => ?_⟩
  · rw [same.seq, same.aud, same.locks]; exact h.goesOn due
  · rw [same.permit, same.dropTimer]; exact h.drops due
  · rw [same.permit, same.dropTimer]; exact h.stands due

theorem Brings.refl (s : State) : s.Brings 0 false s :=
  ⟨rfl, rfl, .refl 1 _, fun _ => ⟨.refl s, .refl 0 _⟩, nofun, fun ⟨_, h⟩ => (h rfl).elim⟩

/-- What touches neither an interlock state nor what the offers read and write. -/
theorem Brings.later (h : s.Brings n d u) (mode : v.sup.mode = u.sup.mode) (causes : v.sup.causes = u.sup.causes)
    (same : u.Unoffered v) (interlock : ∀ g, (v.groups.get g).interlock = (u.groups.get g).interlock)
    (grown : u.lif.Grows k v.lif) : s.Brings (n + k) d v where
  mode := mode.trans h.mode
  causes := causes.trans h.causes
  grows := h.grows.trans grown (by omega)
  pending e := ⟨(h.pending e).1.trans same, (h.pending e).2.trans grown (Nat.le_refl _)⟩
  done e := by
    obtain ⟨offered, down, g, hg⟩ := h.done e
    exact ⟨offered.later same grown, (groupsDown_of_interlocks interlock).trans down, g, by rw [interlock g]; exact hg⟩
  moved := by
    rintro ⟨g, hg⟩ down
    exact h.moved ⟨g, by rw [← interlock g]; exact hg⟩ ((groupsDown_of_interlocks interlock).symm.trans down)

theorem Brings.mono (h : s.Brings n d u) (le : n ≤ k) : s.Brings k d u := by
  obtain ⟨m, rfl⟩ := Nat.exists_eq_add_of_le le
  exact h.later rfl rfl (.refl u) (fun _ => rfl) (.refl m _)

theorem EndedStop.judged (h : s.EndedStop n u) : s.EndedStop n u.judgeDrop := by
  obtain ⟨p, w, hp, before, after⟩ := h.said
  refine ⟨?_, ?_, ?_, ?_, ?_, ?_, p, w, hp, before, ?_⟩
  · rw [judgeDrop_seq]; exact h.st
  · rw [judgeDrop_seq]; exact h.cues
  · rw [judgeDrop_seq]; exact h.lanes
  · rw [judgeDrop_seq]; exact h.stopping
  · rw [judgeDrop_flp]; exact h.locks
  · rw [judgeDrop_aud]; exact h.aud
  · rw [judgeDrop_lif]; exact after

theorem stopDue_of_other (h : u.seq.st ≠ .stopping) : u.stopDue = false := by
  unfold stopDue
  split
  next st _ _ => exact (h st).elim
  · rfl

/-- An offer acted on leaves nothing due. -/
theorem Offered.not_due (h : s.Offered n u) : u.stopDue = false := by
  cases due : s.stopDue
  · obtain ⟨seq, aud, -⟩ := h.goesOn due
    exact (stopDue_congr seq aud).trans due
  · exact stopDue_of_other (by rw [(h.ends due).st]; exact nofun)

/-! ## An offer -/

theorem judgeDrop_flag (u : State) : u.judgeDrop.sup.permit = (if u.dropCalled then false else u.sup.permit)
    ∧ u.judgeDrop.sup.dropTimer = (if u.dropCalled then none else u.sup.dropTimer) := by
  unfold judgeDrop
  split <;> exact ⟨rfl, rfl⟩

theorem testStopping_of_not_due (h : u.stopDue = false) : u.testStopping = u := by
  unfold testStopping
  rw [stopEndHolds_eq, h, Bool.false_and]
  exact if_neg Bool.noConfusion

/-- The end of STOPPING that an offer finds, its report after the n that went before. -/
theorem testStopping_ends (due : u.stopDue = true) (down : u.groupsDown = true) (same : s.Unoffered u)
    (grown : s.lif.Grows n u.lif) : s.EndedStop n u.testStopping := by
  obtain ⟨p, hp⟩ : ∃ p, u.seq.stopping = some p := by
    unfold stopDue at due
    split at due
    next hp _ => exact ⟨_, hp⟩
    · exact absurd due Bool.noConfusion
  have ends : u.testStopping = showIdle { u with aud := u.aud.stopped } p.reason := by
    unfold testStopping
    rw [stopEndHolds_eq, due, down, hp]
    rfl
  have locks : (showIdle { u with aud := u.aud.stopped } p.reason).flp.locks = u.flp.locks.filter fun k => !k.owner.ofShow := rfl
  rw [ends]
  exact ⟨rfl, rfl, rfl, rfl, locks.trans (by rw [same.locks]), ⟨rfl, rfl, rfl, rfl, rfl⟩, p,
    { u with seq := { u.seq with st := .idle, cues := [], lanes := Lanes.empty, stopping := none, load := none },
             flp := u.flp.releaseShow, aud := u.aud.stopped.clearClock }, same.seq ▸ hp, grown, fun _ h => h⟩

/-- A change, written and reported over a step so far, is offered. -/
theorem Brings.offer (h : s.Brings n d u) (mode : v.sup.mode = u.sup.mode) (causes : v.sup.causes = u.sup.causes)
    (same : u.Unoffered v) (grown : u.lif.Grows k v.lif) (keep : d = true → v.groupsDown = true)
    (moves : v.groupsDown = true → s.interlockMoved v) : s.Brings (n + k) v.groupsDown v.offerChange := by
  cases down : v.groupsDown with
  | false =>
    have pending : d = false := by
      cases d
      · rfl
      · exact (Bool.noConfusion (down.symm.trans (keep rfl)))
    obtain ⟨open_, reports⟩ := h.pending pending
    rw [offerChange_up down]
    exact ⟨mode.trans h.mode, causes.trans h.causes, h.grows.trans grown (by omega),
      fun _ => ⟨open_.trans same, reports.trans grown (Nat.le_refl _)⟩, nofun, fun _ now => down.symm.trans now⟩
  | true =>
    have dropDue : v.tripDrops = s.tripDrops := tripDrops_congr (mode.trans h.mode) (causes.trans h.causes)
    have tested : v.testStopping.groupsDown = true := (groupsDown_congr (testStopping_groups v)).trans down
    have dropCalled : v.testStopping.dropCalled = s.tripDrops := by
      rw [dropCalled_eq, tested, Bool.and_true, ← dropDue]
      exact tripDrops_congr (by rw [testStopping_sup]) (by rw [testStopping_sup])
    obtain ⟨permit, timer⟩ := judgeDrop_flag v.testStopping
    rw [dropCalled, testStopping_sup] at permit timer
    have supOf : v.offerChange.sup.mode = v.sup.mode ∧ v.offerChange.sup.causes = v.sup.causes := by
      have o := offerChange_owes (Owes.refl v)
      exact ⟨o.mode, o.causes⟩
    have all : s.Offered (n + k) v.offerChange ∧ s.lif.Grows (n + k + 1) v.offerChange.lif := by
      unfold offerChange
      cases d with
      | false =>
        obtain ⟨open_, reports⟩ := h.pending rfl
        have here := open_.trans same
        have stopDue : v.stopDue = s.stopDue := stopDue_congr here.seq here.aud
        have sofar : s.lif.Grows (n + k) v.lif := reports.trans grown (Nat.le_refl _)
        refine ⟨⟨fun due => ?_, fun due => ?_, fun due => ?_, fun due => ?_⟩, judgeDrop_grows (testStopping_grows sofar)⟩
        · exact (testStopping_ends (stopDue.trans due) down here sofar).judged
        · rw [testStopping_of_not_due (stopDue.trans due), judgeDrop_seq, judgeDrop_aud, judgeDrop_flp]
          exact ⟨here.seq, here.aud, here.locks⟩
        · rw [permit, timer, due]; exact ⟨rfl, rfl⟩
        · rw [permit, timer, due]; exact ⟨here.permit, here.dropTimer⟩
      | true =>
        obtain ⟨closed, -, -⟩ := h.done rfl
        have later := closed.later same grown
        have idle : v.stopDue = false := later.not_due
        rw [testStopping_of_not_due idle] at permit timer ⊢
        refine ⟨⟨fun due => ?_, fun due => ?_, fun due => ?_, fun due => ?_⟩,
          judgeDrop_grows (h.grows.trans grown (by omega))⟩
        · exact (later.ends due).judged
        · rw [judgeDrop_seq, judgeDrop_aud, judgeDrop_flp]
          exact later.goesOn due
        · rw [permit, timer, due]; exact ⟨rfl, rfl⟩
        · rw [permit, timer, due]; exact later.stands due
    exact ⟨supOf.1.trans (mode.trans h.mode), supOf.2.trans (causes.trans h.causes), all.2, nofun,
      fun _ => ⟨all.1, (groupsDown_congr (offerChange_groups v)).trans down, by
        unfold interlockMoved
        rw [offerChange_groups]
        exact moves down⟩, fun _ _ => rfl⟩

/-! ## Interlock changes -/

/-- A group's change of interlock state, with its own report and at most the show's. -/
theorem Brings.change (h : s.Brings n d u) {g : Fin 24} {left into : Interlock} {cause : FaultCause} {code : Option Byte}
    (keep : d = true → into.down = true) (other : into.down = true → (s.groups.get g).interlock ≠ some into) :
    ∃ e, s.Brings (n + 1) e (u.changeInterlock g left into cause code)
      ∧ (e = true → into.down = true) ∧ ((u.changeInterlock g left into cause code).groups.get g).interlock = some into := by
  have get (f : Fin 24) : ((u.entered g left into cause).groups.get f).interlock =
      if f = g then some into else (u.groups.get f).interlock := by
    split
    next e => rw [e, entered_get]
    next e =>
      unfold State.entered State.withGroup
      rw [Sys2Proof.Table.get_set_ne _ _ (Ne.symm e)]
  rw [changeInterlock_eq]
  have groups := (postAtChange_groups ((u.entered g left into cause).report (.groupState g (some left) into cause
    (u.groups.get g).starved (u.groups.get g).sent (((u.groups.get g).reply.map (·.actual)).getD 0) code)) g left into).trans
    (report_groups _ _)
  have downs (down : State.groupsDown (((u.entered g left into cause).report (.groupState g (some left) into cause
      (u.groups.get g).starved (u.groups.get g).sent (((u.groups.get g).reply.map (·.actual)).getD 0) code)).postAtChange g
      left into) = true) : into.down = true := by
    have here := (groupsDown_iff_all _).mp down g
    rw [groups, get, if_pos rfl] at here
    exact here
  refine ⟨_, h.offer (k := 1) ?_ ?_ ⟨?_, ?_, ?_, ?_, ?_⟩ ?_ (fun hd => ?_) fun down => ⟨g, ?_⟩, downs, ?_⟩
  · rw [postAtChange_sup]; rfl
  · rw [postAtChange_sup]; rfl
  · rw [postAtChange_seq]; rfl
  · rw [postAtChange_aud]; rfl
  · rw [postAtChange_flp]; rfl
  · rw [postAtChange_sup]; rfl
  · rw [postAtChange_sup]; rfl
  · rw [postAtChange_lif]
    exact report_grows (s := u.entered g left into cause) (.refl 0 _)
  · rw [groupsDown_iff_all]
    intro f
    rw [groups, get]
    split
    · exact keep hd
    · exact (groupsDown_iff_all u).mp (h.done hd).2.1 f
  · rw [groups, get, if_pos rfl]
    exact (other (downs down)).symm
  · rw [offerChange_groups, groups, get, if_pos rfl]

end State

end Sys2Proof.Machine
end

section
/-! The commands that may bring the last group down: replies, missing replies, jammed lines, stroke timeouts (R90, R96, R99,
R105, R108). -/

namespace Sys2Proof.Machine

namespace State

variable {s u v : State} {n k : Nat} {d : Bool}

/-! ## What a step's parts bring -/

/-- The link left alone too. -/
theorem Brings.same (h : s.Brings n d u) (mode : v.sup.mode = u.sup.mode) (causes : v.sup.causes = u.sup.causes)
    (same : u.Unoffered v) (interlock : ∀ g, (v.groups.get g).interlock = (u.groups.get g).interlock)
    (lif : v.lif = u.lif) : s.Brings n d v :=
  h.later (k := 0) mode causes same interlock (by rw [lif]; exact .refl 0 _)

theorem Brings.flag (h : s.Brings n d u) (f : Flag) : s.Brings n d (u.flag f) :=
  h.same rfl rfl ⟨rfl, rfl, rfl, rfl, rfl⟩ (fun _ => rfl) rfl

/-- A step after which the groups that were LOST are so still. -/
def lostStays (s u : State) : Prop := ∀ g : Fin 24, (s.groups.get g).interlock = some .lost → (u.groups.get g).interlock = some .lost

theorem lostStays_of_groups (h : s.lostStays u) (e : v.groups = u.groups) : s.lostStays v := fun g hg => by rw [e]; exact h g hg

theorem loseGroup_lost (h : s.lostStays u) (g : Fin 24) : s.lostStays (u.loseGroup g) := by
  unfold State.loseGroup
  split
  · exact h
  · exact h
  · intro f hf
    rw [changeInterlock_groups, Sys2Proof.Table.get_set]
    split
    · rfl
    · exact h f hf

theorem Brings.loseGroup (h : s.Brings n d u) (g : Fin 24) (lost : s.lostStays u) :
    ∃ e, s.Brings (n + 1) e (u.loseGroup g) := by
  unfold State.loseGroup
  split
  · exact ⟨d, h.mono (Nat.le_succ n)⟩
  · exact ⟨d, h.mono (Nat.le_succ n)⟩
  next i other here =>
    obtain ⟨e, he, -⟩ := (h.flag .groupLost).change (g := g) (left := i) (into := .lost) (cause := .none) (code := none)
      (fun _ => rfl) fun _ was => by
        rw [lost g was] at here
        exact other (Option.some.inj here).symm
    exact ⟨e, he⟩

theorem Brings.findGroup (h : s.Brings n d u) (g : Fin 24)
    (keep : d = true → (u.groups.get g).interlock ≠ some .lost) : ∃ e, s.Brings (n + 1) e (u.findGroup g) := by
  unfold State.findGroup
  split
  next lost =>
    obtain ⟨e, he, -⟩ := h.change (g := g) (left := .lost) (into := .closing) (cause := .none) (code := none)
      (fun hd => (keep hd lost).elim) nofun
    exact ⟨e, he⟩
  · exact ⟨d, h.mono (Nat.le_succ n)⟩

theorem findGroup_other {g : Fin 24} (h : (u.groups.get g).interlock ≠ some .lost) : u.findGroup g = u := by
  unfold State.findGroup
  split
  next lost => exact (h lost).elim
  · rfl

theorem Brings.withChannel (h : s.Brings n d u) (i : Fin 27) (c : Channel) : s.Brings n d (u.withChannel i c) :=
  h.same rfl rfl ⟨rfl, rfl, rfl, rfl, rfl⟩ (fun _ => rfl) rfl

/-- A channel's new values with their report. -/
theorem Brings.turned (h : s.Brings n d u) (i : Fin 27) (c : Channel) :
    s.Brings (n + 1) d ((u.withChannel i c).report (.validity i c.valid c.counter c.fatal)) :=
  (h.withChannel i c).later rfl rfl ⟨rfl, rfl, rfl, rfl, rfl⟩ (fun _ => rfl) (report_grows (.refl 0 _))

theorem evaluated_valid_of_bad {c : Channel} {k : CounterSettings} {now : Tick} {e : Evaluation} (h : e ≠ .good)
    (valid : (c.evaluated k now e).valid = true) : c.valid = true := by
  revert valid
  unfold Channel.evaluated
  cases e with
  | good => exact (h rfl).elim
  | fatal =>
    dsimp only
    split
    · exact id
    · exact fun e => Bool.noConfusion e
  | error =>
    dsimp only
    (repeat' split) <;> first | exact id | exact fun e => Bool.noConfusion e

/-- Any outcome but a good one can only lose its group. -/
theorem evaluateBad_cases (u : State) (g : Fin 24) {e : Evaluation} (bad : e ≠ .good) :
    ∃ c, u.evaluate (driveChannel g) e = u.withChannel (driveChannel g) c
      ∨ u.evaluate (driveChannel g) e =
        ((u.withChannel (driveChannel g) c).report (.validity (driveChannel g) c.valid c.counter c.fatal)).loseGroup g := by
  refine ⟨(u.sup.channels.get (driveChannel g)).evaluated (u.cfg.counters.get (driveChannel g)) u.clock e, ?_⟩
  unfold State.evaluate
  by_cases same : ((u.sup.channels.get (driveChannel g)).evaluated (u.cfg.counters.get (driveChannel g)) u.clock e).valid
      = (u.sup.channels.get (driveChannel g)).valid
  · exact .inl (moveChannel_same same)
  · have now : ((u.sup.channels.get (driveChannel g)).evaluated (u.cfg.counters.get (driveChannel g)) u.clock e).valid = false := by
      by_contra valid
      rw [Bool.not_eq_false] at valid
      exact same (valid.trans (evaluated_valid_of_bad bad valid).symm)
    exact .inr (moveChannel_lost (by rw [now] at same; exact Bool.not_eq_false _ ▸ Ne.symm same) now)

theorem Brings.evaluateBad (h : s.Brings n d u) (lost : s.lostStays u) (g : Fin 24) {e : Evaluation} (bad : e ≠ .good) :
    (∃ e', s.Brings (n + 2) e' (u.evaluate (driveChannel g) e)) ∧ s.lostStays (u.evaluate (driveChannel g) e) := by
  obtain ⟨c, same | turned⟩ := evaluateBad_cases u g bad
  · rw [same]
    exact ⟨⟨d, (h.withChannel (driveChannel g) c).mono (by omega)⟩, lostStays_of_groups lost rfl⟩
  · have stays : s.lostStays ((u.withChannel (driveChannel g) c).report (.validity (driveChannel g) c.valid c.counter c.fatal)) :=
      lostStays_of_groups lost rfl
    rw [turned]
    exact ⟨(h.turned (driveChannel g) c).loseGroup g stays, loseGroup_lost stays g⟩

/-- A good outcome can only find its group. -/
theorem evaluateGood_cases (u : State) (g : Fin 24) :
    ∃ c, u.evaluate (driveChannel g) .good = u.withChannel (driveChannel g) c
      ∨ u.evaluate (driveChannel g) .good =
        ((u.withChannel (driveChannel g) c).report (.validity (driveChannel g) c.valid c.counter c.fatal)).findGroup g := by
  refine ⟨(u.sup.channels.get (driveChannel g)).evaluated (u.cfg.counters.get (driveChannel g)) u.clock .good, ?_⟩
  unfold State.evaluate
  by_cases same : ((u.sup.channels.get (driveChannel g)).evaluated (u.cfg.counters.get (driveChannel g)) u.clock .good).valid
      = (u.sup.channels.get (driveChannel g)).valid
  · exact .inl (moveChannel_same same)
  · have was : (u.sup.channels.get (driveChannel g)).valid = false := by
      by_contra valid
      rw [Bool.not_eq_false] at valid
      exact same ((evaluated_good_valid valid).trans valid.symm)
    exact .inr (moveChannel_found was (by rw [was] at same; exact Bool.not_eq_false _ ▸ same))

theorem Brings.evaluateGood (h : s.Brings n d u) (g : Fin 24) (keep : d = true → (u.groups.get g).interlock ≠ some .lost) :
    (∃ e, s.Brings (n + 2) e (u.evaluate (driveChannel g) .good))
    ∧ ((u.groups.get g).interlock = some .lost
      ∨ ((u.evaluate (driveChannel g) .good).groups.get g).interlock = (u.groups.get g).interlock) := by
  obtain ⟨c, same | turned⟩ := evaluateGood_cases u g
  · rw [same]
    exact ⟨⟨d, (h.withChannel (driveChannel g) c).mono (by omega)⟩, .inr rfl⟩
  · rw [turned]
    refine ⟨(h.turned (driveChannel g) c).findGroup g keep, (em _).imp_right fun other => ?_⟩
    rw [findGroup_other (u := (u.withChannel (driveChannel g) c).report _) other]
    rfl

/-- A step that has decided has left no group moving. -/
theorem Brings.undecided (h : s.Brings n d u) {g : Fin 24} {i : Interlock} (here : (u.groups.get g).interlock = some i)
    (up : i.down = false) : d ≠ true :=
  fun hd => Bool.noConfusion ((groupsDown_of_moving here up).symm.trans (h.done hd).2.1)

/-- A good reply at the interlock; what it decides leaves its group other than LOST. -/
theorem Brings.takeReply (h : s.Brings n d u) (g : Fin 24) (rep : DriveReply)
    (was : (s.groups.get g).interlock = some .lost ∨ (u.groups.get g).interlock = (s.groups.get g).interlock) :
    ∃ e, s.Brings (n + 1) e (u.takeReply g rep)
      ∧ (e = true → d = true ∨ ((u.takeReply g rep).groups.get g).interlock ≠ some .lost) := by
  have noted : s.Brings n d (u.withGroup g { u.groups.get g with reply := some rep }) := by
    refine h.same rfl rfl ⟨rfl, rfl, rfl, rfl, rfl⟩ (fun f => ?_) rfl
    show ((u.groups.set g _).get f).interlock = _
    rw [Sys2Proof.Table.get_set]
    split
    next e => subst e; rfl
    · rfl
  have stay : ∃ e, s.Brings (n + 1) e (u.withGroup g { u.groups.get g with reply := some rep }) ∧ (e = true → d = true) :=
    ⟨d, noted.mono (Nat.le_succ n), id⟩
  have change {w : State} (hw : s.Brings n d w) {left into : Interlock} {cause : FaultCause} {code : Option Byte}
      (keep : d = true → into.down = true) (other : into ≠ .lost)
      (moves : into.down = true → (u.groups.get g).interlock ≠ some into) :
      ∃ e, s.Brings (n + 1) e (w.changeInterlock g left into cause code)
        ∧ (e = true → d = true ∨ ((w.changeInterlock g left into cause code).groups.get g).interlock ≠ some .lost) := by
    obtain ⟨e, he, -, at_⟩ := hw.change (g := g) (left := left) (into := into) (cause := cause) (code := code) keep
      fun down same => was.elim (fun lost => other (Option.some.inj (same.symm.trans lost)))
        fun kept => moves down (kept.trans same)
    exact ⟨e, he, fun _ => .inr (by rw [at_]; exact fun e => other (Option.some.inj e))⟩
  unfold State.takeReply
  dsimp only
  split
  · exact ⟨d, h.mono (Nat.le_succ n), .inl⟩
  · obtain ⟨e, he, hd⟩ := stay; exact ⟨e, he, .inl ∘ hd⟩
  · obtain ⟨e, he, hd⟩ := stay; exact ⟨e, he, .inl ∘ hd⟩
  next i notFault _ here =>
    have leaves {into : Interlock} (ne : i ≠ into) : (u.groups.get g).interlock ≠ some into := by
      rw [here]
      exact fun e => ne (Option.some.inj e)
    split
    · exact change (noted.flag _) (fun _ => rfl) nofun fun _ => leaves notFault
    split
    · exact change (noted.flag _) (fun _ => rfl) nofun fun _ => leaves notFault
    split
    next opens => exact change noted (fun hd => (h.undecided here (by rw [opens.1]; rfl) hd).elim) nofun nofun
    split
    next shuts => exact change noted (fun _ => rfl) nofun fun _ => leaves (by rw [shuts.1]; exact nofun)
    · obtain ⟨e, he, hd⟩ := stay; exact ⟨e, he, .inl ∘ hd⟩

theorem Brings.checkBudget (h : s.Brings n d u) : s.Brings n d u.checkBudget := by
  unfold State.checkBudget
  split
  · exact h
  · split
    · exact h.same rfl rfl ⟨rfl, rfl, rfl, rfl, rfl⟩ (fun _ => rfl) rfl
    · exact h

theorem deliverGood_brings (h : s.Brings n false u) (g : Fin 24) (rep : DriveReply) (groups : u.groups = s.groups) :
    ∃ e, s.Brings (n + 3) e (u.deliverGood g rep) := by
  have ticked : s.Brings n false { u with fresh := u.fresh + 1 } :=
    h.same rfl rfl ⟨rfl, rfl, rfl, rfl, rfl⟩ (fun _ => rfl) rfl
  unfold deliverGood
  dsimp only
  split
  · obtain ⟨e, taken, other⟩ := ticked.takeReply g rep (.inr (by rw [← groups]))
    exact (taken.evaluateGood g fun he => (other he).resolve_left Bool.noConfusion).1
  · obtain ⟨⟨e, scored⟩, kept⟩ := ticked.evaluateGood g nofun
    obtain ⟨e', taken, -⟩ := scored.takeReply g rep (by rw [← groups]; exact kept)
    exact ⟨e', taken⟩

theorem score_ne_good {o : PollOutcome} (h : o ≠ .good) : o.score ≠ .good := by
  cases o with
  | good => exact (h rfl).elim
  | _ => exact nofun

theorem endPoll_brings (s : State) (p : Poll) (o : PollOutcome) (rep : DriveReply) (elapsedUs : Nat) :
    ∃ e, s.Brings (if o = .good then 3 else 2) e (s.endPoll p o rep elapsedUs) := by
  have ended : s.Brings 0 false { s with dbm := s.dbm.pollEnded p o s.clock elapsedUs } :=
    (Brings.refl s).same rfl rfl ⟨rfl, rfl, rfl, rfl, rfl⟩ (fun _ => rfl) rfl
  unfold endPoll deliverOutcome
  by_cases good : o = .good
  · rw [if_pos good, if_pos good]
    split
    · exact (deliverGood_brings ended p.due.group rep rfl).imp fun _ h => h.checkBudget
    · exact ⟨false, (ended.mono (Nat.zero_le 3)).checkBudget⟩
  · rw [if_neg good, if_neg good]
    split
    · exact (ended.evaluateBad (fun _ h => h) p.due.group (score_ne_good good)).1.imp fun _ h => h.checkBudget
    · exact ⟨false, (ended.mono (Nat.zero_le 2)).checkBudget⟩

theorem jamLine_brings (s : State) (e : Due) (all : List Due) : ∃ e', s.Brings (2 * all.length) e' (s.jamLine e all) := by
  have each : ∀ (l : List Due) {n : Nat} {d : Bool} {u : State}, s.Brings n d u → s.lostStays u →
      ∃ e', s.Brings (n + 2 * l.length) e' (l.foldl (fun t d => t.evaluate (driveChannel d.group) .error) u) := by
    intro l
    induction l with
    | nil => exact fun h _ => ⟨_, h⟩
    | cons x xs ih =>
      intro n d u h lost
      obtain ⟨⟨e', he⟩, lost'⟩ := h.evaluateBad lost x.group (e := .error) nofun
      obtain ⟨e'', he'⟩ := ih he lost'
      exact ⟨e'', he'.mono (by rw [List.length_cons]; omega)⟩
  have begun : s.Brings 0 false { s with
      dbm := { s.dbm with schedule := [], rotation := e.address }, flags := s.flags.raise .busFault } :=
    (Brings.refl s).same rfl rfl ⟨rfl, rfl, rfl, rfl, rfl⟩ (fun _ => rfl) rfl
  obtain ⟨e', he⟩ := each all begun fun _ h => h
  exact ⟨e', he.mono (by omega)⟩

theorem strokeExpire_brings {s : State} {g : Fin 24} (h : (s.groups.get g).interlock ≠ some .fault) :
    ∃ e, s.Brings 1 e (s.strokeExpire g) := by
  unfold strokeExpire
  split
  · obtain ⟨e, he, -⟩ := ((Brings.refl s).flag .strokeTimeout).change (g := g) (into := .fault) (cause := .strokeTimeout)
      (code := none) (fun _ => rfl) fun _ => h
    exact ⟨e, he⟩
  · exact ⟨false, (Brings.refl s).mono (Nat.zero_le 1)⟩

theorem endPoll_owes (s : State) (p : Poll) (o : PollOutcome) (rep : DriveReply) (elapsedUs : Nat) :
    s.Owes (s.endPoll p o rep elapsedUs) := by
  have budget {u : State} (h : s.Owes u) : s.Owes u.checkBudget := by
    unfold checkBudget
    split
    · exact h
    · exact .ite (owes_of_eq (flag_owes (f := .budgetLimited) h (by decide)) rfl rfl) h
  have ended : s.Owes { s with dbm := s.dbm.pollEnded p o s.clock elapsedUs } := owes_of_eq (.refl s) rfl rfl
  have ticked : s.Owes { s with dbm := s.dbm.pollEnded p o s.clock elapsedUs, fresh := s.fresh + 1 } :=
    owes_of_eq (.refl s) rfl rfl
  unfold endPoll deliverOutcome deliverGood
  exact budget (.ite (.ite (.ite (evaluate_owes (takeReply_owes ticked)) (takeReply_owes (evaluate_owes ticked))) ended)
    (.ite (evaluate_owes ended) ended))

theorem jamLine_owes (s : State) (e : Due) (all : List Due) : s.Owes (s.jamLine e all) := by
  have each : ∀ (l : List Due) {u : State}, s.Owes u →
      s.Owes (l.foldl (fun t d => t.evaluate (driveChannel d.group) .error) u) := by
    intro l
    induction l with
    | nil => exact fun h => h
    | cons x xs ih => exact fun h => ih (evaluate_owes h)
  exact each all (owes_of_eq (flag_owes (f := .busFault) (.refl s) (by decide)) rfl rfl)

/-- A command that may bring the last group down does nothing, or settles what its change has brought. -/
theorem mayBringDown_cases {s : State} {c : Instr} {before : Nat} (fit : s.strokesFit) (h : s.mayBringDown c before) : exec c s = .next s
    ∨ ∃ (u : State) (e : Bool) (n : Nat), exec c s = .next u.settle ∧ s.Brings n e u ∧ n + 1 ≤ before ∧ s.Owes u := by
  rcases h with ⟨r, f, us, rfl, rfl⟩ | ⟨rfl, rfl⟩ | ⟨rfl, rfl⟩ | ⟨g, rfl, rfl⟩
  · show execDriveReply r f us s = _ ∨ ∃ _ _ _, execDriveReply r f us s = _ ∧ _
    unfold execDriveReply
    split
    next p _ =>
      split
      · obtain ⟨e, he⟩ := endPoll_brings s p (judgeReply p r f) (replyFields r) (p.quietUs + sendUs + us)
        refine .inr ⟨_, e, 3, rfl, he.mono (by split <;> omega), Nat.le_refl 4, endPoll_owes ..⟩
      · exact .inl rfl
    · exact .inl rfl
  · show execReplyWindowExpiry s = _ ∨ ∃ _ _ _, execReplyWindowExpiry s = _ ∧ _
    unfold execReplyWindowExpiry
    split
    next p _ =>
      obtain ⟨e, he⟩ := endPoll_brings s p .noReply noReplyFields (p.quietUs + sendUs + s.dbm.windowUs)
      exact .inr ⟨_, e, 2, rfl, he, Nat.le_refl 3, endPoll_owes ..⟩
    · exact .inl rfl
  · show execLineJammed s = _ ∨ ∃ _ _ _, execLineJammed s = _ ∧ _
    unfold execLineJammed
    split
    next e rest _ schedule =>
      obtain ⟨e', he⟩ := jamLine_brings s e (e :: rest)
      exact .inr ⟨_, e', _, rfl, he, by rw [schedule], jamLine_owes ..⟩
    · exact .inl rfl
  · show execStrokeTimeout g s = _ ∨ ∃ _ _ _, execStrokeTimeout g s = _ ∧ _
    unfold execStrokeTimeout
    split
    next due =>
      have moving : (s.groups.get g).interlock ≠ some .fault := by
        have runs : (s.groups.get g).stroke.isSome = true := by
          unfold strokeDue at due
          split at due
          next e => rw [e]; rfl
          · exact absurd due Bool.noConfusion
        rcases fit g runs with e | e <;> rw [e] <;> exact nofun
      obtain ⟨e, he⟩ := strokeExpire_brings moving
      exact .inr ⟨_, e, 1, rfl, he, Nat.le_refl 2, strokeExpire_owes (.refl s)⟩
    · exact .inl rfl

end State

end Sys2Proof.Machine
end

section
/-! A trip: what its inputs latch, what the entry into TRIPPED does, and the intrusion drop of PERMIT (R42, R63, R69, R75, R100,
R137, R154, R157, R158). -/

namespace Sys2Proof.Machine

namespace State

variable {s u : State}

/-! ## The water brought down -/

/-- Bringing a group down writes groups, the link and flags alone: the change into CLOSING is offered in vain (R100, R102). -/
theorem bringDown_only (s : State) (g : Fin 24) :
    ∃ gs l fl, s.bringDown g = { s with groups := gs, lif := l, flags := fl } := by
  unfold bringDown
  split
  · exact ⟨s.groups, s.lif, s.flags, rfl⟩
  · dsimp only
    split
    · rw [changeInterlock_up _ _ _ _ _ rfl]
      exact ⟨_, _, _, rfl⟩
    · exact ⟨_, s.lif, s.flags, rfl⟩

theorem waterDown_only (s : State) : ∃ gs l fl, s.waterDown = { s with groups := gs, lif := l, flags := fl } := by
  have each : ∀ (is : List (Fin 24)) (s : State),
      ∃ gs l fl, is.foldl (fun t g => t.bringDown g) s = { s with groups := gs, lif := l, flags := fl } := by
    intro is
    induction is with
    | nil => exact fun s => ⟨s.groups, s.lif, s.flags, rfl⟩
    | cons g gs ih =>
      intro s
      obtain ⟨a, b, c, first⟩ := bringDown_only s g
      obtain ⟨a', b', c', rest⟩ := ih (s.bringDown g)
      rw [List.foldl_cons, rest, first]
      exact ⟨a', b', c', rfl⟩
  exact each (List.finRange 24) s

theorem waterDown_sup (s : State) : s.waterDown.sup = s.sup := by
  obtain ⟨_, _, _, e⟩ := waterDown_only s
  rw [e]

theorem waterDown_seq (s : State) : s.waterDown.seq = s.seq := by
  obtain ⟨_, _, _, e⟩ := waterDown_only s
  rw [e]

theorem waterDown_aud (s : State) : s.waterDown.aud = s.aud := by
  obtain ⟨_, _, _, e⟩ := waterDown_only s
  rw [e]

theorem waterDown_fda (s : State) : s.waterDown.fda = s.fda := by
  obtain ⟨_, _, _, e⟩ := waterDown_only s
  rw [e]

theorem bringDown_owes {g : Fin 24} (h : s.Owes u) : s.Owes (u.bringDown g) := by
  unfold bringDown
  split
  · exact h
  · exact .ite (changeInterlock_owes (withGroup_owes h)) (withGroup_owes h)

theorem waterDown_owes (h : s.Owes u) : s.Owes u.waterDown := by
  have each : ∀ (is : List (Fin 24)) {u : State}, s.Owes u → s.Owes (is.foldl (fun t g => t.bringDown g) u) := by
    intro is
    induction is with
    | nil => exact fun h => h
    | cons g gs ih => exact fun h => ih (bringDown_owes h)
  unfold waterDown eachGroup
  exact each _ h

/-- An OPENING group that is brought down still moves. -/
theorem downGroup_down (s : State) (g : Fin 24) :
    (s.downGroup g).interlock.all Interlock.down = (s.groups.get g).interlock.all Interlock.down := by
  unfold downGroup
  dsimp only
  split
  · rfl
  next h => rw [h]; rfl
  · rfl

theorem waterDown_groupsDown (s : State) : s.waterDown.groupsDown = s.groupsDown := by
  rw [Bool.eq_iff_iff, groupsDown_iff_all, groupsDown_iff_all]
  exact forall_congr' fun g => by rw [waterDown_groups, downGroup_down]

/-! ## The show aborted -/

theorem abortShow_idle (s : State) (f : Failure) (r : EndReason) : (s.abortShow f r).seq.st = .idle := by
  unfold abortShow
  split
  next h => exact h
  all_goals rfl

/-- What an aborted show leaves of AUD: its clock is cleared, and no copy belongs to a load any more. -/
theorem abortShow_aud (s : State) (f : Failure) (r : EndReason) : ∃ c q n b k m, (s.abortShow f r).aud =
    { s.aud with copying := c, copyQueue := q, count := n, base := b, counting := k, msDue := m }
    ∧ (s.seq.st ≠ .idle → n = 0 ∧ k = false) := by
  unfold abortShow
  split
  next h => exact ⟨_, _, _, _, _, _, rfl, fun e => (e h).elim⟩
  all_goals exact ⟨_, _, _, _, _, _, rfl, fun _ => ⟨rfl, rfl⟩⟩

theorem failLoad_owes {f : Failure} {c : Option Nat} {l : List Byte} {r : EndReason} (h : s.Owes u) :
    s.Owes (u.failLoad f c l r) :=
  report_owes (owes_of_eq (showIdle_owes (owes_of_eq (flag_owes (f := .loadFailed) h (by decide)) rfl rfl)) rfl rfl)

theorem abortShow_owes {f : Failure} {r : EndReason} (h : s.Owes u) : s.Owes (u.abortShow f r) := by
  unfold abortShow
  split
  · exact h
  · exact failLoad_owes (owes_of_eq h rfl rfl)
  all_goals exact showIdle_owes h

/-! ## The entry into TRIPPED -/

theorem tripStopped_owes (h : s.Owes u) : s.Owes u.tripStopped := owes_of_eq (abortShow_owes (f := .tripped) (r := .trip) h) rfl rfl

theorem tripActs_owes (h : s.Owes u) : s.Owes u.tripActs := by
  have water := waterDown_owes (tripStopped_owes h)
  rw [tripActs_eq]
  exact .ite (lowerPermit_owes water) (judgeDrop_owes water)

/-- The end of a trip's entry, for PERMIT and its drop timer. -/
theorem tripActs_cases (s : State) : s.tripActs = s.tripStopped.waterDown ∨ s.tripActs = s.tripStopped.waterDown.lowerPermit := by
  rw [tripActs_eq]
  unfold judgeDrop
  split
  · exact .inr rfl
  · split
    · exact .inr rfl
    · exact .inl rfl

theorem tripStopped_sup (s : State) : s.tripStopped.sup = s.sup := by simp [tripStopped]

theorem tripActs_permit (s : State) :
    (s.sup.causes.estop = true → s.tripActs.sup.permit = false ∧ s.tripActs.sup.dropTimer = none)
    ∧ (s.sup.causes.estop = false → s.sup.mode = .tripped →
      (s.groupsDown = true → s.tripActs.sup.permit = false ∧ s.tripActs.sup.dropTimer = none)
      ∧ (s.groupsDown = false → s.tripActs.sup.permit = s.sup.permit ∧ s.tripActs.sup.dropTimer = s.sup.dropTimer)) := by
  have sup : s.tripStopped.waterDown.sup = s.sup := (waterDown_sup _).trans (tripStopped_sup s)
  have down : s.tripStopped.waterDown.groupsDown = s.groupsDown :=
    (waterDown_groupsDown _).trans (groupsDown_congr (by simp [tripStopped]))
  rw [tripActs_eq, sup]
  refine ⟨fun estop => ?_, fun loops tripped => ?_⟩
  · rw [estop, if_pos rfl]
    exact ⟨rfl, rfl⟩
  · obtain ⟨permit, timer⟩ := judgeDrop_flag s.tripStopped.waterDown
    rw [dropCalled_eq, tripDrops, isTripped, sup, loops, tripped, down] at permit timer
    rw [loops, if_neg Bool.noConfusion, permit, timer]
    refine ⟨fun d => ?_, fun d => ?_⟩ <;> rw [d] <;> exact ⟨rfl, rfl⟩

/-- The blocks beside SUP after the entry into TRIPPED. -/
theorem tripActs_frame (s : State) : s.tripActs.seq = (s.abortShow .tripped .trip).seq
    ∧ s.tripActs.lgt = s.lgt.dropLatches
    ∧ s.tripActs.aud = (if (s.abortShow .tripped .trip).lif.halted then (s.abortShow .tripped .trip).aud
        else (s.abortShow .tripped .trip).aud.trip s.cfg.options)
    ∧ s.tripActs.cfg = s.cfg ∧ s.tripActs.clock = s.clock ∧ s.tripActs.dbm = s.dbm ∧ s.tripActs.fda = s.fda
    ∧ s.tripActs.pins = s.pins := by
  have stopped : s.tripStopped.lgt = s.lgt.dropLatches ∧ s.tripStopped.aud =
      (if (s.abortShow .tripped .trip).lif.halted then (s.abortShow .tripped .trip).aud
        else (s.abortShow .tripped .trip).aud.trip s.cfg.options) := by simp [tripStopped]
  obtain ⟨lgt, aud⟩ := stopped
  have frame : s.tripStopped.seq = (s.abortShow .tripped .trip).seq ∧ s.tripStopped.cfg = s.cfg ∧ s.tripStopped.clock = s.clock
      ∧ s.tripStopped.dbm = s.dbm ∧ s.tripStopped.fda = s.fda ∧ s.tripStopped.pins = s.pins := by simp [tripStopped]
  obtain ⟨seq, cfg, clock, dbm, fda, pins⟩ := frame
  have water (u : State) : u.waterDown.seq = u.seq ∧ u.waterDown.lgt = u.lgt ∧ u.waterDown.aud = u.aud
      ∧ u.waterDown.cfg = u.cfg ∧ u.waterDown.clock = u.clock ∧ u.waterDown.dbm = u.dbm ∧ u.waterDown.fda = u.fda
      ∧ u.waterDown.pins = u.pins := by
    obtain ⟨_, _, _, e⟩ := waterDown_only u
    rw [e]
    exact ⟨rfl, rfl, rfl, rfl, rfl, rfl, rfl, rfl⟩
  rw [← seq, ← lgt, ← aud, ← cfg, ← clock, ← dbm, ← fda, ← pins]
  rcases tripActs_cases s with e | e
  · rw [e]
    exact water _
  · rw [e, lowerPermit_seq, lowerPermit_lgt, lowerPermit_aud, lowerPermit_cfg, lowerPermit_clock, lowerPermit_dbm,
      lowerPermit_fda, lowerPermit_pins]
    exact water _

end State

/-! ## The music -/

/-- AUD but for what a trip does not touch: the copies and the show clock. -/
structure Aud.Muted (a b : Aud) : Prop where
  bufA : b.bufA = a.bufA
  bufB : b.bufB = a.bufB
  m : b.m = a.m
  target : b.target = a.target
  muting : b.muting = a.muting
  stopFade : b.stopFade = a.stopFade
  clips : b.clips = a.clips

theorem Aud.Muted.playing {a b : Aud} (h : a.Muted b) : b.playing = a.playing := by
  unfold Aud.playing
  rw [h.bufA, h.bufB]

theorem Aud.Muted.factor {a b : Aud} (h : a.Muted b) : b.factor = a.factor := by
  unfold Aud.factor
  rw [h.stopFade, h.m]

theorem seek_parts (a : Aud) : a.seek.m = a.m ∧ a.seek.target = a.target ∧ a.seek.muting = a.muting
    ∧ a.seek.stopFade = a.stopFade ∧ a.seek.rundown = a.rundown ∧ a.seek.gapLeft = a.gapLeft ∧ a.seek.count = a.count
    ∧ a.seek.counting = a.counting ∧ a.seek.clips = a.clips :=
  have e := a.seek_eq
  ⟨(congrArg Aud.m e :), (congrArg Aud.target e :), (congrArg Aud.muting e :), (congrArg Aud.stopFade e :),
    (congrArg Aud.rundown e :), (congrArg Aud.gapLeft e :), (congrArg Aud.count e :), (congrArg Aud.counting e :),
    (congrArg Aud.clips e :)⟩

/-- A field of a buffer that seeking leaves. -/
theorem seek_buf_map {β : Type} {f : Stream → β} (rest : ∀ st, f st.atRest = f st) (a : Aud) (i : BufId) :
    (a.seek.buf i).map f = (a.buf i).map f := by
  have e := congrArg (Option.map f) (a.seek_buf i)
  rw [Option.map_map, Option.map_map] at e
  have same : f ∘ Stream.atRest = f := funext rest
  rwa [same] at e

theorem giveAnnouncement_parts (a : Aud) (o : ShowOptions) : (a.giveAnnouncement o).m = a.m
    ∧ (a.giveAnnouncement o).target = a.target ∧ (a.giveAnnouncement o).muting = a.muting
    ∧ (a.giveAnnouncement o).stopFade = a.stopFade ∧ (a.giveAnnouncement o).rundown = a.rundown
    ∧ (a.giveAnnouncement o).gapLeft = a.gapLeft ∧ (a.giveAnnouncement o).count = a.count
    ∧ (a.giveAnnouncement o).counting = a.counting ∧ (a.giveAnnouncement o).bufB = a.bufB := by
  unfold Aud.giveAnnouncement
  split <;> exact ⟨rfl, rfl, rfl, rfl, rfl, rfl, rfl, rfl, rfl⟩

/-- Buffer A after an announcement is given to it while it is EMPTY, wherever AUD then fetches. -/
theorem announces_of_given {a : Aud} {o : ShowOptions} (empty : a.bufA = none) :
    (a.giveAnnouncement o).seek.announces a.clips o.annClip := by
  refine ⟨fun none => ?_, fun c found => ?_⟩
  · have given : a.giveAnnouncement o = a := by
      unfold Aud.giveAnnouncement
      rw [none]
    rw [given]
    exact seek_none (i := .a) empty
  · have given : (a.giveAnnouncement o).buf .a = some (Stream.given .announcement o.annClip c 0 0) := by
      unfold Aud.giveAnnouncement
      rw [found]
      rfl
    obtain ⟨n, hn⟩ := Aud.seek_some given
    exact ⟨_, hn, rfl, rfl, rfl, rfl, rfl, rfl⟩

end Sys2Proof.Machine
end

section
/-! The trip inputs, the intrusion drop timer, and the commands that may bring the last group down, at SUP (R63, R69, R90, R154,
R157). -/

namespace Sys2Proof.Machine

open State

/-! ## SUP at the end of a step -/

theorem settle_mode (s : State) : s.settle.sup.mode = s.judgedMode := by rw [settle_sup]

theorem settle_causes (s : State) : s.settle.sup.causes = s.sup.causes := by rw [settle_sup]

theorem settle_tripLog (s : State) : s.settle.sup.tripLog = s.sup.tripLog := by rw [settle_sup]

theorem settle_permit (s : State) : s.settle.sup.permit = s.sup.permit := by rw [settle_sup]

theorem settle_dropTimer (s : State) : s.settle.sup.dropTimer = s.sup.dropTimer := by rw [settle_sup]

/-! ## What a trip does to the music -/

theorem trip_muting {a : Aud} {o : ShowOptions} (plays : a.playing ≠ none) (loud : a.factor ≠ 0) :
    a.trip o = { a with m := a.factor, target := 0, stopFade := none, muting := true } :=
  if_neg fun h => h.elim plays loud

theorem trip_muted {a : Aud} {o : ShowOptions} (quiet : a.playing = none ∨ a.factor = 0) : a.trip o = a.muteDone o := if_pos quiet

theorem trip_clock (a : Aud) (o : ShowOptions) : (a.trip o).count = a.count ∧ (a.trip o).counting = a.counting := by
  unfold Aud.trip Aud.muteDone
  split
  · obtain ⟨-, -, -, -, -, -, count, counting, -⟩ := giveAnnouncement_parts
      { a.discardBoth with m := 960, target := 960, stopFade := none, rundown := none, muting := false, gapLeft := none } o
    rw [count, counting]
    exact ⟨rfl, rfl⟩
  · exact ⟨rfl, rfl⟩

/-- AUD at a trip, from what the aborted show leaves of it (R63, R69). -/
theorem mutes_of {s t : State} {b : Aud} (muted : s.aud.Muted b)
    (clock : s.seq.st ≠ .idle → b.count = 0 ∧ b.counting = false)
    (e : t.aud = (if s.lif.halted then b else b.trip s.cfg.options).seek) : s.mutes t := by
  have bufs (i : BufId) : b.buf i = s.aud.buf i := by
    cases i
    · exact muted.bufA
    · exact muted.bufB
  refine ⟨fun halted => ?_, fun live plays loud => ?_, fun live quiet => ?_, fun active => ?_⟩
  · rw [halted, if_pos rfl] at e
    obtain ⟨m, target, muting, -⟩ := seek_parts b
    rw [e, m, target, muting]
    refine ⟨muted.m, muted.target, muted.muting, fun i => ?_⟩
    rw [seek_buf_map (f := (·.held)) (fun _ => rfl), bufs]
  · rw [← muted.playing] at plays
    rw [← muted.factor] at loud
    rw [live, if_neg Bool.noConfusion, trip_muting plays loud] at e
    obtain ⟨m, target, muting, stopFade, -⟩ := seek_parts
      { b with m := b.factor, target := 0, stopFade := none, muting := true }
    rw [e, m, target, muting, stopFade, Aud.seek_playing]
    refine ⟨rfl, muted.factor, rfl, rfl, muted.playing, fun i => ?_⟩
    rw [seek_buf_map (f := fun st => (st.clip, st.read, st.held)) (fun _ => rfl), ← bufs]
    cases i <;> rfl
  · rw [← muted.playing, ← muted.factor] at quiet
    rw [live, if_neg Bool.noConfusion, trip_muted quiet] at e
    obtain ⟨m, target, muting, stopFade, rundown, gapLeft, -, -, -⟩ := seek_parts (b.muteDone s.cfg.options)
    obtain ⟨m', target', muting', stopFade', rundown', gapLeft', -, -, bufB⟩ := giveAnnouncement_parts
      { b.discardBoth with m := 960, target := 960, stopFade := none, rundown := none, muting := false, gapLeft := none }
      s.cfg.options
    rw [e, m, target, muting, stopFade, rundown, gapLeft]
    refine ⟨muting', m', target', stopFade', rundown', gapLeft', seek_none (i := .b) (bufB.trans rfl), ?_⟩
    rw [← muted.clips]
    exact announces_of_given (a := { b.discardBoth with
      m := 960, target := 960, stopFade := none, rundown := none, muting := false, gapLeft := none }) rfl
  · obtain ⟨count, counting⟩ := clock active
    have kept : (if s.lif.halted then b else b.trip s.cfg.options).count = b.count
        ∧ (if s.lif.halted then b else b.trip s.cfg.options).counting = b.counting := by
      split
      · exact ⟨rfl, rfl⟩
      · exact trip_clock b _
    obtain ⟨-, -, -, -, -, -, count', counting', -⟩ := seek_parts (if s.lif.halted then b else b.trip s.cfg.options)
    rw [e, count', counting', kept.1, kept.2]
    exact ⟨count, counting⟩

theorem muted_of_abort (s : State) (f : Failure) (r : EndReason) : s.aud.Muted (s.abortShow f r).aud
    ∧ (s.seq.st ≠ .idle → (s.abortShow f r).aud.count = 0 ∧ (s.abortShow f r).aud.counting = false) := by
  obtain ⟨_, _, _, _, _, _, e, clock⟩ := abortShow_aud s f r
  rw [e]
  exact ⟨⟨rfl, rfl, rfl, rfl, rfl, rfl, rfl⟩, clock⟩

/-! ## The site enters TRIPPED -/

/-- The pins as a trip input leaves them. -/
def State.pinned (s : State) (i : Inputs) : State := { s with pins := i }

/-- A state at which a trip has been latched in SUP, and nothing else has acted (R154, R158). -/
structure State.Latched (s : State) (pins : Inputs) (c : Causes) (u : State) : Prop where
  groups : u.groups = s.groups
  seq : u.seq = s.seq
  aud : u.aud = s.aud
  lgt : u.lgt = s.lgt
  cfg : u.cfg = s.cfg
  clock : u.clock = s.clock
  dbm : u.dbm = s.dbm
  fda : u.fda = s.fda
  pins : u.pins = pins
  mode : u.sup.mode = .tripped
  causes : u.sup.causes = c
  tripLog : u.sup.tripLog = (⟨c, s.clock, s.showTime.map fun n => (s.seq.slot, n), s.sup.band, s.sup.effective⟩
    :: s.sup.tripLog).take 8
  permit : u.sup.permit = s.sup.permit
  dropTimer : c.estop = false → u.sup.dropTimer = some s.clock
  halted : u.lif.halted = s.lif.halted
  said : ∀ {t : State} {before : Nat}, (∀ r, u.lif.Carries r → t.lif.Carries r) → s.says t before (.trip c false s.clock)
  estop : c.estop = true → u.flags.has .estop = true
  intrusion : (c.intrA || c.intrB) = true → u.flags.has .intrusion = true

theorem latchTrip_latched {s : State} {pins : Inputs} {c : Causes} (clear : s.sup.causes = Causes.none) :
    s.Latched pins c ((s.pinned pins).latchTrip c) := by
  have union : s.sup.causes.union c = c := by rw [clear]; simp [Causes.union, Causes.none]
  refine ⟨rfl, rfl, rfl, rfl, rfl, rfl, rfl, rfl, rfl, rfl, union, rfl, rfl, fun loops => ?_, ?_, fun goesOn => ?_, ?_, ?_⟩
  · show (if (s.sup.causes.union c).estop = true then none else some s.clock) = _
    rw [union, loops]
    rfl
  · exact (Lif.Grows.withReport s.lif (.trip c false s.clock)).halted
  · exact says_of_report (u := { s.pinned pins with
        sup := { s.sup with
          causes := s.sup.causes.union c, mode := .tripped, siteDue := true
          tripLog := (s.tripRecord c :: s.sup.tripLog).take 8
          dropTimer := if (s.sup.causes.union c).estop then none else some s.clock }
        flags := (s.flags.raiseIf c.estop .estop).raiseIf (c.intrA || c.intrB) .intrusion })
      (l := s.lif) rfl rfl (.refl 0 _) (Nat.zero_le _) (goesOn _)
  · exact fun h => Flags.has_raiseIf _ _ _ (Flags.has_raiseIf _ _ _ (has_of_raiseIf_eq h))
  · exact fun h => Flags.has_raiseIf _ _ _ (has_of_raiseIf_eq h)

/-- The site after a trip's entry, settled (R42, R63, R75, R100, R137, R154, R157, R158). -/
theorem trips_of_latched {s u : State} {pins : Inputs} {c : Causes} (h : s.Latched pins c u)
    (groups : ∀ g, u.tripActs.groups.get g = s.downGroup g) : s.Trips u.tripActs.settle c := by
  have owes := tripActs_owes (Owes.refl u)
  obtain ⟨seq, lgt, aud, cfg, clock, dbm, fda, -⟩ := tripActs_frame u
  obtain ⟨muted, cleared⟩ := muted_of_abort u .tripped .trip
  have halted : (u.abortShow .tripped .trip).lif.halted = s.lif.halted :=
    (abortShow_grows (.refl 0 _)).halted.trans h.halted
  rw [h.aud] at muted
  rw [h.seq] at cleared
  refine ⟨?_, ?_, h.said fun r hr => ?_, ?_, ?_, fun f => ?_, fun g => ?_, ?_, ?_, ?_, ?_, ?_⟩
  · rw [settle_mode]
    exact (judgedMode_tripped_iff u.tripActs).mpr (owes.mode.trans h.mode)
  · rw [settle_causes]
    exact owes.causes.trans h.causes
  · exact settle_carries (hr.grows (tripActs_grows (.refl 0 _)))
  · rw [settle_tripLog]
    exact owes.tripLog.trans h.tripLog
  · rw [settle_seq, seq]; exact abortShow_idle _ _ _
  · rw [settle_lgt, lgt, h.lgt]
    exact congrArg Fixture.latch (Sys2Proof.Table.get_map _ _ f)
  · rw [settle_groups, groups]
  · refine mutes_of muted cleared ?_
    rw [settle_aud, aud, halted, h.cfg]
  · rw [settle_cfg, cfg, h.cfg]
  · rw [settle_clock, clock, h.clock]
  · rw [settle_dbm, dbm, h.dbm]
  · rw [settle_fda, fda, h.fda]

/-- PERMIT after the entry into TRIPPED, by the cause (R157). -/
theorem permit_of_latched {s u : State} {pins : Inputs} {c : Causes} (h : s.Latched pins c u) :
    (c.estop = true → u.tripActs.settle.sup.permit = false ∧ u.tripActs.settle.sup.dropTimer = none)
    ∧ (c.estop = false → s.DropsByGroups u.tripActs.settle) := by
  obtain ⟨emergency, loops⟩ := tripActs_permit u
  rw [h.causes] at emergency loops
  rw [groupsDown_congr h.groups, h.permit] at loops
  refine ⟨fun estop => ?_, fun noEstop => ?_⟩
  · rw [settle_permit, settle_dropTimer]
    exact emergency estop
  · obtain ⟨drops, stands⟩ := loops noEstop h.mode
    unfold State.DropsByGroups
    rw [settle_permit, settle_dropTimer]
    split
    next all => exact drops all
    next some =>
      obtain ⟨permit, timer⟩ := stands (Bool.not_eq_true _ ▸ some)
      exact ⟨permit, timer.trans (h.dropTimer noEstop)⟩

theorem flags_of_latched {s u : State} {pins : Inputs} {c : Causes} (h : s.Latched pins c u) :
    (c.estop = true → u.tripActs.settle.flags.has .estop = true)
    ∧ ((c.intrA || c.intrB) = true → u.tripActs.settle.flags.has .intrusion = true)
    ∧ u.tripActs.settle.pins = pins := by
  have kept := (tripActs_owes (Owes.refl u)).kept
  obtain ⟨-, -, -, -, -, -, -, pinned⟩ := tripActs_frame u
  exact ⟨fun e => settle_kept (kept _ (h.estop e)), fun e => settle_kept (kept _ (h.intrusion e)),
    by rw [settle_pins, pinned, h.pins]⟩

/-- A cause latched outside TRIPPED enters it. -/
theorem latchCause_live {s : State} {pins : Inputs} {c : Causes} (live : s.sup.mode ≠ .tripped) :
    (s.pinned pins).latchCause c = ((s.pinned pins).latchTrip c).tripActs :=
  if_neg fun e => live (of_decide_eq_true (p := s.sup.mode = .tripped) e)

theorem latchTrip_groups_down {s : State} {pins : Inputs} {c : Causes} (g : Fin 24) :
    ((s.pinned pins).latchTrip c).tripActs.groups.get g = s.downGroup g :=
  latchTrip_tripActs_groups (s.pinned pins) c g

/-! ## A cause that joins a trip -/

/-- A cause that has joined the set, with its flag and its report (R154). -/
def State.joined (s : State) (pins : Inputs) (c : Causes) : State :=
  State.report
    { s.pinned pins with
      sup := { s.sup with causes := s.sup.causes.union c }
      flags := (s.flags.raiseIf c.estop .estop).raiseIf (c.intrA || c.intrB) .intrusion }
    (.trip c true s.clock)

theorem joined_flags {s : State} {pins : Inputs} {c : Causes} :
    (c.estop = true → (s.joined pins c).flags.has .estop = true)
    ∧ ((c.intrA || c.intrB) = true → (s.joined pins c).flags.has .intrusion = true) :=
  ⟨fun h => Flags.has_raiseIf _ _ _ (Flags.has_raiseIf _ _ _ (has_of_raiseIf_eq h)),
    fun h => Flags.has_raiseIf _ _ _ (has_of_raiseIf_eq h)⟩

theorem latchCause_tripped {s : State} {pins : Inputs} {c : Causes} (tripped : s.sup.mode = .tripped) :
    (s.pinned pins).latchCause c = if c.estop then (s.joined pins c).lowerPermit else s.joined pins c :=
  if_pos (decide_eq_true (p := s.sup.mode = .tripped) tripped)

/-- A step after which the trip stands, at its settlement. -/
theorem tripStands_of {s u : State} (tripped : s.sup.mode = .tripped) (mode : u.sup.mode = s.sup.mode)
    (log : u.sup.tripLog = s.sup.tripLog) (groups : u.groups = s.groups) (seq : u.seq = s.seq) (lgt : u.lgt = s.lgt)
    (cfg : u.cfg = s.cfg) (clock : u.clock = s.clock) (dbm : u.dbm = s.dbm) (fda : u.fda = s.fda) :
    s.TripStands u.settle := by
  refine ⟨?_, ?_, ?_, ?_, ?_, ?_, ?_, ?_, ?_⟩
  · rw [settle_mode]; exact (judgedMode_tripped_iff u).mpr (mode.trans tripped)
  · rw [settle_tripLog, log]
  · rw [settle_groups, groups]
  · rw [settle_seq, seq]
  · rw [settle_lgt, lgt]
  · rw [settle_cfg, cfg]
  · rw [settle_clock, clock]
  · rw [settle_dbm, dbm]
  · rw [settle_fda, fda]

theorem joined_says {s t : State} {pins : Inputs} {c : Causes} (goesOn : ∀ r, (s.joined pins c).lif.Carries r → t.lif.Carries r) :
    s.says t 1 (.trip c true s.clock) :=
  says_of_report (u := { s.pinned pins with
    sup := { s.sup with causes := s.sup.causes.union c }
    flags := (s.flags.raiseIf c.estop .estop).raiseIf (c.intrA || c.intrB) .intrusion }) (l := s.lif)
    rfl rfl (.refl 0 _) (Nat.zero_le 1) (goesOn _)

/-- An emergency stop added in TRIPPED. -/
theorem latchEstop_joins {s : State} {pins : Inputs} (tripped : s.sup.mode = .tripped) :
    ((s.pinned pins).latchCause ⟨true, false, false⟩).settle.sup.causes = { s.sup.causes with estop := true }
    ∧ s.says ((s.pinned pins).latchCause ⟨true, false, false⟩).settle 1 (.trip ⟨true, false, false⟩ true s.clock)
    ∧ ((s.pinned pins).latchCause ⟨true, false, false⟩).settle.flags.has .estop = true
    ∧ ((s.pinned pins).latchCause ⟨true, false, false⟩).settle.sup.permit = false
    ∧ ((s.pinned pins).latchCause ⟨true, false, false⟩).settle.sup.dropTimer = none
    ∧ s.TripStands ((s.pinned pins).latchCause ⟨true, false, false⟩).settle := by
  rw [latchCause_tripped tripped, if_pos rfl]
  have said : s.says (s.joined pins ⟨true, false, false⟩).lowerPermit.settle 1 (.trip ⟨true, false, false⟩ true s.clock) := by
    refine joined_says (pins := pins) fun r h => settle_carries ?_
    rw [lowerPermit_lif]
    exact h
  have stands : s.TripStands (s.joined pins ⟨true, false, false⟩).lowerPermit.settle := by
    refine tripStands_of tripped ?_ ?_ ?_ ?_ ?_ ?_ ?_ ?_ ?_
    · rfl
    · rfl
    · rw [lowerPermit_groups]; rfl
    · rw [lowerPermit_seq]; rfl
    · rw [lowerPermit_lgt]; rfl
    · rw [lowerPermit_cfg]; rfl
    · rw [lowerPermit_clock]; rfl
    · rw [lowerPermit_dbm]; rfl
    · rw [lowerPermit_fda]; rfl
  refine ⟨?_, said, settle_kept ?_, ?_, ?_, stands⟩
  · rw [settle_causes]
    show s.sup.causes.union _ = _
    simp [Causes.union]
  · rw [lowerPermit_flags]
    exact joined_flags.1 rfl
  · rw [settle_permit]; rfl
  · rw [settle_dropTimer]; rfl

/-- An intrusion added in TRIPPED. -/
theorem latchLoop_joins {s : State} {pins : Inputs} {c : Causes} (tripped : s.sup.mode = .tripped) (loops : c.estop = false)
    (some : (c.intrA || c.intrB) = true) :
    ((s.pinned pins).latchCause c).settle.sup.causes = s.sup.causes.union c
    ∧ s.says ((s.pinned pins).latchCause c).settle 1 (.trip c true s.clock)
    ∧ ((s.pinned pins).latchCause c).settle.flags.has .intrusion = true
    ∧ ((s.pinned pins).latchCause c).settle.sup.permit = s.sup.permit
    ∧ ((s.pinned pins).latchCause c).settle.sup.dropTimer = s.sup.dropTimer
    ∧ s.TripStands ((s.pinned pins).latchCause c).settle := by
  rw [latchCause_tripped tripped, if_neg (by rw [loops]; exact Bool.noConfusion)]
  refine ⟨?_, joined_says fun r h => settle_carries h, settle_kept ?_, ?_, ?_, tripStands_of tripped rfl rfl rfl rfl rfl rfl rfl rfl rfl⟩
  · rw [settle_causes]; rfl
  · exact joined_flags.2 some
  · rw [settle_permit]; rfl
  · rw [settle_dropTimer]; rfl

/-! ## Offers to SUP -/

/-- Settling moves no interlock. -/
theorem interlockMoved_settle (s u : State) : s.interlockMoved u.settle ↔ s.interlockMoved u := by
  unfold State.interlockMoved
  rw [settle_groups]

theorem settle_groupsDown (u : State) : u.settle.groupsDown = u.groupsDown := groupsDown_congr (settle_groups u)

theorem tripDrops_iff (s : State) : s.tripDrops = true ↔ s.sup.mode = .tripped ∧ s.sup.causes.estop = false := by
  simp [State.tripDrops, State.isTripped]

/-- A step that brings groups down, at SUP (R157). -/
theorem drops_of_brings {s u : State} {n before : Nat} {e : Bool} (h : s.Brings n e u) (le : n + 1 ≤ before) (owes : s.Owes u) :
    s.judgesSite u.settle before
    ∧ (s.interlockMoved u.settle → u.settle.groupsDown = true → s.sup.mode = .tripped → s.sup.causes.estop = false →
      u.settle.sup.permit = false ∧ u.settle.sup.dropTimer = none)
    ∧ (¬s.interlockMoved u.settle ∨ u.settle.groupsDown = false ∨ s.sup.mode ≠ .tripped ∨ s.sup.causes.estop = true →
      u.settle.sup.permit = s.sup.permit ∧ u.settle.sup.dropTimer = s.sup.dropTimer)
    ∧ u.settle.sup.causes = s.sup.causes ∧ u.settle.sup.tripLog = s.sup.tripLog := by
  rw [interlockMoved_settle, settle_groupsDown, settle_permit, settle_dropTimer, settle_causes, settle_tripLog]
  refine ⟨judgesSite_settle owes h.grows le, fun moved down tripped loops => ?_, fun stays => ?_, owes.causes, owes.tripLog⟩
  · exact (h.done (h.moved moved down)).1.drops ((tripDrops_iff s).mpr ⟨tripped, loops⟩)
  · cases e with
    | false =>
      obtain ⟨open_, -⟩ := h.pending rfl
      exact ⟨open_.permit, open_.dropTimer⟩
    | true =>
      obtain ⟨offered, down, moved⟩ := h.done rfl
      refine offered.stands (Bool.eq_false_iff.mpr fun drops => ?_)
      obtain ⟨tripped, loops⟩ := (tripDrops_iff s).mp drops
      rcases stays with still | up | live | estop
      · exact still moved
      · exact Bool.noConfusion (up.symm.trans down)
      · exact live tripped
      · exact Bool.noConfusion (loops.symm.trans estop)

/-- Settles O45: each input by what it latches, and the offers by what they bring. -/
theorem tripInputsTripTheSite : Obligations.TripInputsTripTheSite := by
  unfold Obligations.TripInputsTripTheSite
  refine ⟨fun s live clear => ?_, fun s tripped => ?_, fun s c before strokes may => ?_, fun s stopped => ?_,
    fun s d timer => ⟨fun early => ?_, fun due => ?_⟩⟩
  · have enter {pins : Inputs} {c : Causes} : s.Trips ((s.pinned pins).latchCause c).settle c := by
      rw [latchCause_live live]
      exact trips_of_latched (latchTrip_latched clear) latchTrip_groups_down
    have permit {pins : Inputs} {c : Causes} :
        (c.estop = true → ((s.pinned pins).latchCause c).settle.sup.permit = false
          ∧ ((s.pinned pins).latchCause c).settle.sup.dropTimer = none)
        ∧ (c.estop = false → s.DropsByGroups ((s.pinned pins).latchCause c).settle) := by
      rw [latchCause_live live]
      exact permit_of_latched (latchTrip_latched clear)
    have flags {pins : Inputs} {c : Causes} :
        (c.estop = true → ((s.pinned pins).latchCause c).settle.flags.has .estop = true)
        ∧ ((c.intrA || c.intrB) = true → ((s.pinned pins).latchCause c).settle.flags.has .intrusion = true)
        ∧ ((s.pinned pins).latchCause c).settle.pins = pins := by
      rw [latchCause_live live]
      exact flags_of_latched (latchTrip_latched clear)
    refine ⟨⟨_, rfl, enter (pins := { s.pins with estop := true }), ?_⟩,
      ⟨_, rfl, enter (pins := { s.pins with intrA := true }), ?_⟩,
      ⟨_, rfl, enter (pins := { s.pins with intrB := true }), ?_⟩⟩
    · obtain ⟨low, stopped⟩ := permit (pins := { s.pins with estop := true }) (c := ⟨true, false, false⟩) |>.1 rfl
      obtain ⟨estop, -, pinned⟩ := flags (pins := { s.pins with estop := true }) (c := ⟨true, false, false⟩)
      exact ⟨estop rfl, low, stopped, pinned⟩
    · obtain ⟨-, intrusion, pinned⟩ := flags (pins := { s.pins with intrA := true }) (c := ⟨false, true, false⟩)
      exact ⟨intrusion rfl, (permit (pins := { s.pins with intrA := true }) (c := ⟨false, true, false⟩)).2 rfl, pinned⟩
    · obtain ⟨-, intrusion, pinned⟩ := flags (pins := { s.pins with intrB := true }) (c := ⟨false, false, true⟩)
      exact ⟨intrusion rfl, (permit (pins := { s.pins with intrB := true }) (c := ⟨false, false, true⟩)).2 rfl, pinned⟩
  · refine ⟨⟨_, rfl, latchEstop_joins (pins := { s.pins with estop := true }) tripped⟩, ⟨_, rfl, ?_⟩, ⟨_, rfl, ?_⟩⟩
    · obtain ⟨causes, rest⟩ := latchLoop_joins (pins := { s.pins with intrA := true }) (c := ⟨false, true, false⟩) tripped rfl rfl
      exact ⟨causes.trans (by simp [Causes.union]), rest⟩
    · obtain ⟨causes, rest⟩ := latchLoop_joins (pins := { s.pins with intrB := true }) (c := ⟨false, false, true⟩) tripped rfl rfl
      exact ⟨causes.trans (by simp [Causes.union]), rest⟩
  · rcases mayBringDown_cases strokes may with run | ⟨u, e, n, run, brings, le, owes⟩
    · have still : ¬s.interlockMoved s := fun ⟨_, h⟩ => h rfl
      exact ⟨s, run, fun h => (still h).elim, fun h => (still h).elim, fun _ => ⟨rfl, rfl⟩, rfl, rfl⟩
    · obtain ⟨site, rest⟩ := drops_of_brings brings le owes
      exact ⟨_, run, fun _ => site, rest⟩
  · show execIntrusionDropTimer s = _
    unfold execIntrusionDropTimer State.dropDue
    rw [stopped]
    rfl
  · show execIntrusionDropTimer s = _
    unfold execIntrusionDropTimer State.dropDue
    rw [timer, if_neg]
    exact fun e => absurd (of_decide_eq_true e) (by omega)
  · have run : exec .intrusionDropTimer s = .next s.lowerPermit.settleSite.kick := by
      show execIntrusionDropTimer s = _
      unfold execIntrusionDropTimer State.dropDue
      rw [timer, if_pos (decide_eq_true due)]
    refine ⟨_, run, ?_, judgesSite_of_owes (u := s.lowerPermit) (l := s.lif) (lowerPermit_owes (.refl s)) rfl rfl
      (of_lif_eq_grows (lowerPermit_lif s) (.refl 0 _)) (Nat.le_refl 0) (kick_sup _) (by rw [kick_flags]) (by rw [kick_cfg])
      fun r h => h.kick, ?_, ?_, ?_, ?_, ?_, ?_, ?_, ?_, ?_, ?_, ?_⟩
    · rw [kick_sup, settleSite_sup]; rfl
    · rw [kick_sup, settleSite_sup]; rfl
    · rw [kick_sup, settleSite_sup]; rfl
    all_goals simp

end Sys2Proof.Machine
end

section
/-! Loads that fail, dispatch as STOPPING finds it, and the entry into STOPPING and its end (R16, R20, R28, R30, R33, R40, R41,
R59, R90). -/

namespace Sys2Proof.Machine

open State

/-! ## The end of a step, for the link's slots and the flags -/

theorem kick_armSlot (l : Lif) : l.kick.armSlot = l.armSlot := by
  unfold Lif.kick
  split
  · rfl
  · split
    · rfl
    · split <;> rfl

theorem settleFlash_armSlot (s : State) : s.settleFlash.lif.armSlot = s.lif.armSlot := by
  have start (s : State) (t : Txn) : (s.startTxn t).lif.armSlot = s.lif.armSlot := by
    unfold State.startTxn
    dsimp only
    split <;> rfl
  have choose (t : State) : t.chooseTxn.lif.armSlot = t.lif.armSlot := by
    unfold State.chooseTxn
    split
    · exact start _ _
    · split
      · rfl
      · exact start _ _
      · exact start _ _
      · split <;> exact start _ _
  unfold State.settleFlash State.arbitrate
  split
  · exact choose _
  · split <;> rfl
  all_goals rfl

theorem settleFlash_kept {s : State} {f : Flag} (h : s.flags.has f = true) : s.settleFlash.flags.has f = true := by
  rcases settleFlash_flags s with e | e
  · rw [e]; exact h
  · rw [e]; exact Flags.has_raise _ _ h

/-- A state after the end of a step that has ended a load. -/
structure State.EndsLoad (u t : State) : Prop extends u.EndsAs t where
  arm : t.lif.armSlot = u.lif.armSlot
  kept : ∀ f, u.flags.has f = true → t.flags.has f = true
  pins : t.pins = u.pins

theorem settleFlash_kick_endsLoad (u : State) : u.EndsLoad u.settleFlash.kick where
  toEndsAs := settleFlash_kick_endsAs u
  arm := (kick_armSlot _).trans (settleFlash_armSlot u)
  kept _ h := by rw [kick_flags]; exact settleFlash_kept h
  pins := by simp

/-! ## A load that fails -/

theorem withReport_armSlot (l : Lif) (r : Report) : (l.withReport r).armSlot = l.armSlot := by
  unfold Lif.withReport
  (repeat' split) <;> rfl

/-- A load that has ended FAILED, before its service does (R16, R28). -/
def State.loadIdle (u : State) (failure : Failure) (cue : Option Nat) (label : List Byte) (reason : EndReason) : State :=
  State.showIdle
    { u with
      seq := { u.seq with result := ⟨.failed, failure, u.seq.slot, label, cue, none⟩ }
      flags := u.flags.raise .loadFailed }
    reason

/-- The ARM slot of a load that has ended FAILED (R186). -/
def State.failedArm (u : State) (failure : Failure) (cue : Option Nat) : SlotRecord :=
  { u.lif.armSlot with status := .failed, failure := failure, cueIndex := cue, imageFound := none }

section
variable (u : State) {failure : Failure} (cue : Option Nat) (label : List Byte) (reason : EndReason)

theorem loadIdle_armSlot : (u.loadIdle failure cue label reason).lif.armSlot = u.lif.armSlot := withReport_armSlot _ _

theorem loadIdle_grows {l : Lif} {n : Nat} (h : l.Grows n u.lif) :
    l.Grows (n + 1) (u.loadIdle failure cue label reason).lif := h.trans (.withReport u.lif _) (Nat.le_refl _)

theorem failLoad_eq (bad : failure ≠ .none) : u.failLoad failure cue label reason =
    State.report { u.loadIdle failure cue label reason with
      lif := (u.loadIdle failure cue label reason).lif.withSlot .arm (u.failedArm failure cue) }
      (.serviceDone .arm (u.failedArm failure cue)) := by
  have record : ({ (u.loadIdle failure cue label reason).lif.armSlot with
      status := if failure = .none then .done else .failed, failure := failure, cueIndex := cue, imageFound := none } : SlotRecord)
      = u.failedArm failure cue := by
    rw [if_neg bad, loadIdle_armSlot]
    rfl
  rw [← record]
  rfl

theorem failLoad_armSlot (bad : failure ≠ .none) :
    (u.failLoad failure cue label reason).lif.armSlot = u.failedArm failure cue := by
  rw [failLoad_eq u cue label reason bad]
  exact withReport_armSlot _ _

theorem report_has {s : State} {r : Report} {f : Flag} (h : s.flags.has f = true) : (s.report r).flags.has f = true :=
  Flags.has_raiseIf s.flags _ _ h

theorem loadIdle_flag : (u.loadIdle failure cue label reason).flags.has .loadFailed = true :=
  report_has (s := { u with
    seq := { u.seq with
      st := .idle, cues := [], lanes := Lanes.empty, stopping := none, load := none
      result := ⟨.failed, failure, u.seq.slot, label, cue, none⟩ }
    flags := u.flags.raise .loadFailed
    flp := u.flp.releaseShow
    aud := u.aud.clearClock }) (raise_has u.flags .loadFailed)

theorem failLoad_flag (bad : failure ≠ .none) : (u.failLoad failure cue label reason).flags.has .loadFailed = true := by
  rw [failLoad_eq u cue label reason bad]
  exact report_has (loadIdle_flag u cue label reason)

end

/-- A load that ends FAILED, from a state that has still what the load holds (R20, R28, R29, R186). -/
theorem loadFailed_of {s u t : State} {failure : Failure} {cue : Option Nat} {label : List Byte} {reason : EndReason} {l : Lif}
    (bad : failure ≠ .none) (slot : u.seq.slot = s.seq.slot) (locks : u.flp.locks = s.flp.locks)
    (arm : u.lif.armSlot = s.lif.armSlot) (cfg : u.cfg = s.cfg) (clock : u.clock = s.clock) (groups : u.groups = s.groups)
    (dbm : u.dbm = s.dbm) (lgt : u.lgt = s.lgt) (fda : u.fda = s.fda) (pins : u.pins = s.pins)
    (enable : l.enable = s.lif.enable) (reports : l.reports = s.lif.reports) (grown : l.Grows 0 u.lif)
    (e : (u.failLoad failure cue label reason).EndsLoad t) : s.LoadFailed t failure cue label := by
  have record : t.lif.armSlot = u.failedArm failure cue := e.arm.trans (failLoad_armSlot u cue label reason bad)
  refine ⟨?_, ?_, ?_, ?_, ?_, ?_, ?_, ?_, ?_, ?_, ?_, ?_, ?_, ?_, ?_, ?_⟩
  · rw [e.seq]; rfl
  · rw [e.seq]; rfl
  · rw [e.seq]; rfl
  · rw [e.seq]; rfl
  · rw [e.seq, ← slot]; rfl
  · rw [record, State.failedArm, arm]
  · rw [record]
    refine says_of_report (u := { u.loadIdle failure cue label reason with
      lif := (u.loadIdle failure cue label reason).lif.withSlot .arm (u.failedArm failure cue) }) (l := l) enable reports
      (n := 1)
      ((loadIdle_grows u cue label reason grown).trans (.withSlot _ .arm _) (Nat.le_refl 1)) (Nat.le_refl 1) fun h => e.carries _ ?_
    rw [failLoad_eq u cue label reason bad]
    exact h
  · rw [e.locks, ← locks]; rfl
  · exact e.kept _ (failLoad_flag u cue label reason bad)
  · rw [e.cfg, failLoad_cfg, cfg]
  · rw [e.clock, failLoad_clock, clock]
  · rw [e.groups, failLoad_groups, groups]
  · rw [e.dbm, failLoad_dbm, dbm]
  · rw [e.lgt, failLoad_lgt, lgt]
  · rw [e.fda, failLoad_fda, fda]
  · rw [e.pins, failLoad_pins, pins]

end Sys2Proof.Machine
end

section
/-! What the due entries of a dispatch event do: lights, clips and marks (R33 to R37, R49, R128). -/

namespace Sys2Proof.Machine

open State

theorem raiseIf_has_same (fs : Flags) (c : Bool) (f : Flag) : (fs.raiseIf c f).has f = (fs.has f || c) := by
  cases c with
  | false => rw [Bool.or_false]; rfl
  | true => rw [Bool.or_true]; exact raise_has fs f

theorem raiseIf_has_other (fs : Flags) (c : Bool) {f g : Flag} (h : g ≠ f) : (fs.raiseIf c f).has g = fs.has g := by
  cases c with
  | false => rfl
  | true => exact raise_has_other fs h

/-! ## Lights (R35, R128) -/

/-- The light entries that write a fixture's latch. -/
def coveringLights (es : List LightEntry) (f : Fin 96) : List LightEntry :=
  es.filter fun e => decide (e.first ≤ f.val) && decide (f.val ≤ e.last)

/-- A fixture's latch holds a colour of the show's. -/
def State.latchWaits (s : State) (f : Fin 96) : Bool :=
  (s.lgt.fixtures.get f).latch.any fun l => decide (l.origin = .fromShow)

/-- The colours that light entries overtake. -/
def State.lostColours (s : State) (es : List LightEntry) : Nat :=
  ((List.finRange 96).map fun f =>
    if s.latchWaits f = true then (coveringLights es f).length else (coveringLights es f).length - 1).sum

/-- The due light entries taken in order. -/
def State.takeLights (s : State) (es : List LightEntry) : State :=
  es.foldl (fun a e => a.latchRange e.first e.last e.latch) s

theorem countP_add_sum {α : Type} {p : α → Bool} {g h : α → Nat} (each : ∀ x, (if p x then 1 else 0) + g x = h x) (l : List α) :
    l.countP p + (l.map g).sum = (l.map h).sum := by
  induction l with
  | nil => rfl
  | cons x xs ih =>
    have here := each x
    rw [List.countP_cons, List.map_cons, List.map_cons, List.sum_cons, List.sum_cons]
    split at here <;> simp_all <;> omega

section
variable (s : State) (e : LightEntry) (es : List LightEntry) (f : Fin 96)

theorem takeLights_cons : s.takeLights (e :: es) = (s.latchRange e.first e.last e.latch).takeLights es := rfl

theorem latchRange_fixture (l : Latch) : (s.latchRange e.first e.last l).lgt.fixtures.get f =
    if within e.first e.last f.val then { s.lgt.fixtures.get f with latch := some l } else s.lgt.fixtures.get f :=
  Sys2Proof.Table.get_mapIdx _ _ f

theorem coveringLights_cons : coveringLights (e :: es) f =
    if within e.first e.last f.val then e :: coveringLights es f else coveringLights es f := List.filter_cons

theorem coveringLights_concat : coveringLights (es ++ [e]) f =
    if within e.first e.last f.val then coveringLights es f ++ [e] else coveringLights es f := by
  unfold coveringLights
  rw [List.filter_append, List.filter_cons, List.filter_nil]
  split
  next h => exact (if_pos (show within e.first e.last f.val = true from h)).symm
  next h =>
    rw [List.append_nil]
    exact (if_neg (show ¬within e.first e.last f.val = true from h)).symm

theorem takeLights_fixture : (s.takeLights es).lgt.fixtures.get f =
    match (coveringLights es f).getLast? with
    | some e => { s.lgt.fixtures.get f with latch := some ⟨e.colour, e.fade, .showClock, .fromShow⟩ }
    | none => s.lgt.fixtures.get f := by
  induction es using List.reverseRecOn with
  | nil => rfl
  | append_singleton es e ih =>
    unfold State.takeLights at ih ⊢
    rw [List.foldl_append, List.foldl_cons, List.foldl_nil, latchRange_fixture, coveringLights_concat, ih]
    split
    · rw [List.getLast?_append, List.getLast?_singleton]
      cases (coveringLights es f).getLast? <;> rfl
    · rfl

theorem latchRange_waits : (s.latchRange e.first e.last e.latch).latchWaits f =
    (s.latchWaits f || within e.first e.last f.val) := by
  unfold State.latchWaits
  rw [latchRange_fixture]
  cases within e.first e.last f.val
  · rw [Bool.or_false]; rfl
  · rw [Bool.or_true]; rfl

theorem lostColours_cons : s.lgt.overtaken e.first e.last .fromShow + (s.latchRange e.first e.last e.latch).lostColours es =
    s.lostColours (e :: es) := by
  unfold Lgt.overtaken State.lostColours
  refine countP_add_sum (fun f => ?_) _
  rw [latchRange_waits, coveringLights_cons]
  have waits : overtakesLatch (s.lgt.fixtures.get f).latch .fromShow = s.latchWaits f := by
    unfold overtakesLatch State.latchWaits
    cases (s.lgt.fixtures.get f).latch <;> simp
  rw [waits]
  cases within e.first e.last f.val <;> cases s.latchWaits f <;> simp <;> omega

theorem takeLights_overtakes : (s.takeLights es).lgt.overtakes =
    if es = [] then s.lgt.overtakes else min 65535 (s.lgt.overtakes + s.lostColours es) := by
  induction es generalizing s with
  | nil => rfl
  | cons e es ih =>
    rw [takeLights_cons, ih, if_neg (List.cons_ne_nil e es), ← lostColours_cons]
    have first : (s.latchRange e.first e.last e.latch).lgt.overtakes =
        min 65535 (s.lgt.overtakes + s.lgt.overtaken e.first e.last .fromShow) := rfl
    rw [first]
    split
    next nil =>
      subst nil
      have none : (s.latchRange e.first e.last e.latch).lostColours [] = 0 := by
        unfold State.lostColours coveringLights
        simp
      rw [none]
      rfl
    · omega

theorem takeLights_flag : (s.takeLights es).flags.has .lightOvertaken =
    (s.flags.has .lightOvertaken || decide (0 < s.lostColours es)) := by
  induction es generalizing s with
  | nil =>
    have none : s.lostColours [] = 0 := by
      unfold State.lostColours coveringLights
      simp
    rw [none, decide_eq_false (Nat.lt_irrefl 0), Bool.or_false]
    rfl
  | cons e es ih =>
    have first : (s.latchRange e.first e.last e.latch).flags.has .lightOvertaken =
        (s.flags.has .lightOvertaken || decide (0 < s.lgt.overtaken e.first e.last .fromShow)) := raiseIf_has_same _ _ _
    rw [takeLights_cons, ih, first, ← lostColours_cons, Bool.or_assoc, ← Bool.decide_or]
    generalize s.lgt.overtaken e.first e.last .fromShow = a
    generalize (s.latchRange e.first e.last e.latch).lostColours es = b
    exact congrArg (s.flags.has .lightOvertaken || ·) (decide_eq_decide.mpr (by omega))

theorem takeLights_flags {g : Flag} (h : g ≠ .lightOvertaken) : (s.takeLights es).flags.has g = s.flags.has g :=
  foldl_field (fun a => a.flags.has g) (fun a (e : LightEntry) => a.latchRange e.first e.last e.latch)
    (fun _ _ => raiseIf_has_other _ _ h) es s

theorem takeLights_lampOut : (s.takeLights es).lgt.lampOut = s.lgt.lampOut :=
  foldl_field (fun a => a.lgt.lampOut) (fun a (e : LightEntry) => a.latchRange e.first e.last e.latch) (fun _ _ => rfl) es s

theorem takeLights_aud : (s.takeLights es).aud = s.aud :=
  foldl_field State.aud (fun a (e : LightEntry) => a.latchRange e.first e.last e.latch) (fun _ _ => rfl) es s

theorem takeLights_lif : (s.takeLights es).lif = s.lif :=
  foldl_field State.lif (fun a (e : LightEntry) => a.latchRange e.first e.last e.latch) (fun _ _ => rfl) es s

theorem takeLights_seq : (s.takeLights es).seq = s.seq :=
  foldl_field State.seq (fun a (e : LightEntry) => a.latchRange e.first e.last e.latch) (fun _ _ => rfl) es s

end

/-! ## Clips (R36, R49) -/

/-- The due clip entries taken in order. -/
def State.takeClips (s : State) (es : List ClipEntry) : State := es.foldl (fun a e => a.dispatchClip e) s

/-- The buffer record of a clip entry (R36, R49). -/
def ClipEntry.stream (e : ClipEntry) (c : Clip) : Stream := Stream.given .fromShow e.id c e.offset (48 * (e.time : Int))

section
variable (s : State) (e : ClipEntry) (es : List ClipEntry)

theorem dispatchClip_found {c : Clip} (h : lookupClip s.aud.clips e.id = some c) :
    s.dispatchClip e = s.giveClip .fromShow e.id c e.offset (48 * (e.time : Int)) := by
  unfold State.dispatchClip
  rw [h]

theorem dispatchClip_absent (h : lookupClip s.aud.clips e.id = none) : s.dispatchClip e = s := by
  unfold State.dispatchClip
  rw [h]

theorem given_parts (a : Aud) (st : Stream) :
    a.given st = { a with bufA := (a.given st).bufA, bufB := (a.given st).bufB, chunk := (a.given st).chunk } := by
  unfold Aud.given
  cases a.chooseBuf <;> rfl

/-- A clip that waits is replaced in its own buffer. -/
theorem given_chooseBuf (a : Aud) {st : Stream} (waits : st.playing = false) : (a.given st).chooseBuf = a.chooseBuf := by
  have plays := a.given_playing waits
  cases hp : a.playing with
  | some i => rw [Aud.chooseBuf_of_playing hp, Aud.chooseBuf_of_playing (plays.trans hp)]
  | none =>
    have same := a.given_buf_same st
    rw [Aud.chooseBuf_of_quiet (plays.trans hp)]
    have choice := Aud.chooseBuf_of_quiet hp
    split at choice
    next h =>
      rw [choice] at same ⊢
      have first : (a.given st).bufA = none :=
        (a.given_buf_other st (j := .a) (by rw [choice]; exact nofun)).trans h.1
      have second : (a.given st).bufB = some st := same
      rw [if_pos ⟨first, by rw [second]; exact nofun⟩]
    · rw [choice] at same ⊢
      have first : (a.given st).bufA = some st := same
      rw [if_neg fun h => by rw [first] at h; exact nomatch h.1]

theorem dispatchClip_chooseBuf : (s.dispatchClip e).aud.chooseBuf = s.aud.chooseBuf := by
  cases h : lookupClip s.aud.clips e.id with
  | none => rw [dispatchClip_absent s e h]
  | some c => rw [dispatchClip_found s e h, giveClip_aud, given_chooseBuf _ rfl]

theorem dispatchClip_parts : (s.dispatchClip e).aud = { s.aud with
    bufA := (s.dispatchClip e).aud.bufA, bufB := (s.dispatchClip e).aud.bufB, chunk := (s.dispatchClip e).aud.chunk } := by
  cases h : lookupClip s.aud.clips e.id with
  | none => rw [dispatchClip_absent s e h]
  | some c => rw [dispatchClip_found s e h, giveClip_aud]; exact given_parts _ _

theorem dispatchClip_other {j : BufId} (h : j ≠ s.aud.chooseBuf) : (s.dispatchClip e).aud.buf j = s.aud.buf j := by
  cases hc : lookupClip s.aud.clips e.id with
  | none => rw [dispatchClip_absent s e hc]
  | some c => rw [dispatchClip_found s e hc, giveClip_aud, Aud.given_buf_other _ _ h]

theorem dispatchClip_flag {g : Flag} (h : g ≠ .clipReplaced) : (s.dispatchClip e).flags.has g = s.flags.has g := by
  cases hc : lookupClip s.aud.clips e.id with
  | none => rw [dispatchClip_absent s e hc]
  | some c => rw [dispatchClip_found s e hc]; exact raiseIf_has_other _ _ h

/-- A clip that waits is not lost, but for a clip that replaces it. -/
theorem dispatchClip_keeps (h : (s.aud.buf s.aud.chooseBuf).isSome = true) :
    ((s.dispatchClip e).aud.buf s.aud.chooseBuf).isSome = true := by
  cases hc : lookupClip s.aud.clips e.id with
  | none => rw [dispatchClip_absent s e hc]; exact h
  | some c => rw [dispatchClip_found s e hc, giveClip_aud, Aud.given_buf_same]; rfl

theorem takeClips_concat : s.takeClips (es ++ [e]) = (s.takeClips es).dispatchClip e := by
  unfold State.takeClips
  rw [List.foldl_append, List.foldl_cons, List.foldl_nil]

theorem takeClips_parts : (s.takeClips es).aud = { s.aud with
    bufA := (s.takeClips es).aud.bufA, bufB := (s.takeClips es).aud.bufB, chunk := (s.takeClips es).aud.chunk } := by
  induction es using List.reverseRecOn with
  | nil => rfl
  | append_singleton es e ih =>
    rw [takeClips_concat]
    refine (dispatchClip_parts (s.takeClips es) e).trans ?_
    rw [ih]

theorem takeClips_clips : (s.takeClips es).aud.clips = s.aud.clips := (congrArg Aud.clips (takeClips_parts s es) :)

theorem takeClips_chooseBuf : (s.takeClips es).aud.chooseBuf = s.aud.chooseBuf := by
  induction es using List.reverseRecOn with
  | nil => rfl
  | append_singleton es e ih => rw [takeClips_concat, dispatchClip_chooseBuf, ih]

theorem takeClips_other {j : BufId} (h : j ≠ s.aud.chooseBuf) : (s.takeClips es).aud.buf j = s.aud.buf j := by
  induction es using List.reverseRecOn with
  | nil => rfl
  | append_singleton es e ih => rw [takeClips_concat, dispatchClip_other _ _ (by rw [takeClips_chooseBuf]; exact h), ih]

theorem takeClips_flag {g : Flag} (h : g ≠ .clipReplaced) : (s.takeClips es).flags.has g = s.flags.has g := by
  induction es using List.reverseRecOn with
  | nil => rfl
  | append_singleton es e ih => rw [takeClips_concat, dispatchClip_flag _ _ h, ih]

theorem takeClips_keeps (h : (s.aud.buf s.aud.chooseBuf).isSome = true) :
    ((s.takeClips es).aud.buf s.aud.chooseBuf).isSome = true := by
  induction es using List.reverseRecOn with
  | nil => exact h
  | append_singleton es e ih =>
    rw [takeClips_concat, ← takeClips_chooseBuf s es]
    exact dispatchClip_keeps _ e (by rw [takeClips_chooseBuf]; exact ih)

/-- The last due entry whose clip is there stands in the buffer. -/
theorem takeClips_last {c : Clip} (h : es.getLast? = some e) (hc : lookupClip s.aud.clips e.id = some c) :
    (s.takeClips es).aud.buf s.aud.chooseBuf = some (e.stream c)
    ∧ ∀ init, es = init ++ [e] → ((s.takeClips init).aud.buf s.aud.chooseBuf).isSome = true →
      (s.takeClips es).flags.has .clipReplaced = true := by
  obtain ⟨init, rfl⟩ := List.getLast?_eq_some_iff.mp h
  have found := dispatchClip_found (s.takeClips init) e (by rw [takeClips_clips]; exact hc)
  refine ⟨?_, fun init' same full => ?_⟩
  · rw [takeClips_concat, found, giveClip_aud, ← takeClips_chooseBuf s init, Aud.given_buf_same]
    rfl
  · obtain rfl : init' = init := (List.append_cancel_right same).symm
    rw [takeClips_concat, found]
    refine has_of_raiseIf_eq ?_
    rw [takeClips_chooseBuf]
    exact full

end

end Sys2Proof.Machine
end

section
/-! SHOW_MILLISECOND in RUNNING (R33 to R37). -/

namespace Sys2Proof.Machine

open State

/-! ## Marks (R37) -/

/-- The due marks taken in order. -/
def State.takeMarks (s : State) (t : Int) (es : List MarkEntry) : State := es.foldl (fun a e => a.dispatchMark t e) s

/-- The reports of due marks. -/
def markReports (t : Int) (es : List MarkEntry) : List Report := es.filterMap fun e => e.marker.map fun n => Report.mark n e.cue t

section
variable (s : State) (t : Int) (es : List MarkEntry)

theorem takeMarks_cons (e : MarkEntry) : s.takeMarks t (e :: es) = (s.dispatchMark t e).takeMarks t es := rfl

theorem markReports_cons (e : MarkEntry) : markReports t (e :: es) =
    (match e.marker with
      | some n => [Report.mark n e.cue t]
      | none => []) ++ markReports t es := by
  unfold markReports
  rw [List.filterMap_cons]
  cases e.marker <;> rfl

/-- With the category on and room for every report, the queue takes them in order. -/
theorem takeMarks_on (on : s.lif.enable.getLsbD Category.mark.bit = true)
    (room : s.lif.reports.length + (markReports t es).length ≤ 16) :
    (s.takeMarks t es).lif = { s.lif with reports := s.lif.reports ++ markReports t es } := by
  induction es generalizing s with
  | nil =>
    show s.lif = _
    rw [show markReports t [] = [] from rfl, List.append_nil]
  | cons e es ih =>
    rw [markReports_cons] at room ⊢
    rw [takeMarks_cons]
    cases hm : e.marker with
    | none =>
      have same : s.dispatchMark t e = s := by unfold State.dispatchMark; rw [hm]
      rw [hm] at room
      rw [same]
      exact ih s on room
    | some n =>
      have said : s.dispatchMark t e = s.report (.mark n e.cue t) := by unfold State.dispatchMark; rw [hm]
      rw [hm, List.length_append, List.length_singleton] at room
      have queued : (s.report (.mark n e.cue t)).lif = { s.lif with reports := s.lif.reports ++ [.mark n e.cue t] } := by
        unfold State.report Lif.withReport
        dsimp only
        rw [if_pos (makes_of_enabled fun c hc => by cases hc; exact on), if_neg (by omega)]
      rw [said, ih _ (by rw [queued]; exact on) (by rw [queued, List.length_append, List.length_singleton]; omega), queued,
        List.append_assoc]

/-- With the category off no report is made. -/
theorem takeMarks_off (off : s.lif.enable.getLsbD Category.mark.bit = false) : (s.takeMarks t es).lif = s.lif := by
  induction es generalizing s with
  | nil => rfl
  | cons e es ih =>
    have same : (s.dispatchMark t e).lif = s.lif := by
      unfold State.dispatchMark
      split
      next n _ =>
        have makes : s.lif.makes (.mark n e.cue t) = false := by
          unfold Lif.makes
          exact off
        unfold State.report Lif.withReport
        dsimp only
        rw [makes, if_neg Bool.noConfusion]
      · rfl
    rw [takeMarks_cons, ih _ (by rw [same]; exact off), same]

theorem takeMarks_flag {g : Flag} (h : g ≠ .reportsDropped) : (s.takeMarks t es).flags.has g = s.flags.has g :=
  foldl_field (fun a => a.flags.has g) (fun a (e : MarkEntry) => a.dispatchMark t e) (fun a e => by
    unfold State.dispatchMark
    split
    · exact raiseIf_has_other _ _ h
    · rfl) es s

theorem takeMarks_frame : (s.takeMarks t es).seq = s.seq ∧ (s.takeMarks t es).aud = s.aud ∧ (s.takeMarks t es).lgt = s.lgt :=
  ⟨foldl_field State.seq (fun a (e : MarkEntry) => a.dispatchMark t e) (fun a e => by simp) es s,
    foldl_field State.aud (fun a (e : MarkEntry) => a.dispatchMark t e) (fun a e => by simp) es s,
    foldl_field State.lgt (fun a (e : MarkEntry) => a.dispatchMark t e) (fun a e => by simp) es s⟩

end

/-! ## A delivery -/

/-- The lanes moved past a show time and the jets' fades begun: the first part of a delivery (R33, R34). -/
def State.jetted (s : State) (t : Int) : State :=
  { s with
    seq := { s.seq with lanes := s.seq.lanes.past t }
    groups := s.groups.mapIdx fun g x => x.dispatched ((s.seq.lanes.jets.get g).due (·.dispatch) t) t s.clock }

section
variable (s : State) (t : Int)

theorem deliver_eq : s.deliver t =
    ((((s.jetted t).takeLights (s.seq.lanes.lights.due LightEntry.at_ t)).takeClips (s.seq.lanes.clips.due ClipEntry.at_ t)).takeMarks
      t (s.seq.lanes.marks.due MarkEntry.at_ t)) := rfl

theorem takeClips_frame (es : List ClipEntry) : (s.takeClips es).seq = s.seq ∧ (s.takeClips es).lgt = s.lgt
    ∧ (s.takeClips es).lif = s.lif :=
  ⟨foldl_field State.seq (fun a (e : ClipEntry) => a.dispatchClip e) (fun a e => by simp) es s,
    foldl_field State.lgt (fun a (e : ClipEntry) => a.dispatchClip e) (fun a e => by simp) es s,
    foldl_field State.lif (fun a (e : ClipEntry) => a.dispatchClip e) (fun a e => by simp) es s⟩

theorem deliver_seq : (s.deliver t).seq = { s.seq with lanes := s.seq.lanes.past t } := by
  rw [deliver_eq, (takeMarks_frame _ _ _).1, (takeClips_frame _ _).1, takeLights_seq]
  rfl

theorem deliver_lgt : (s.deliver t).lgt = ((s.jetted t).takeLights (s.seq.lanes.lights.due LightEntry.at_ t)).lgt := by
  rw [deliver_eq, (takeMarks_frame _ _ _).2.2, (takeClips_frame _ _).2.1]

theorem deliver_aud : (s.deliver t).aud =
    (((s.jetted t).takeLights (s.seq.lanes.lights.due LightEntry.at_ t)).takeClips (s.seq.lanes.clips.due ClipEntry.at_ t)).aud := by
  rw [deliver_eq, (takeMarks_frame _ _ _).2.1]

theorem deliver_aud_parts : (s.deliver t).aud = { s.aud with
    bufA := (s.deliver t).aud.bufA, bufB := (s.deliver t).aud.bufB, chunk := (s.deliver t).aud.chunk } := by
  have e := takeClips_parts ((s.jetted t).takeLights (s.seq.lanes.lights.due LightEntry.at_ t))
    (s.seq.lanes.clips.due ClipEntry.at_ t)
  rw [← deliver_aud, takeLights_aud] at e
  exact e

theorem deliver_lif (rest : Lif) (h : s.lif = rest) : (((s.jetted t).takeLights
    (s.seq.lanes.lights.due LightEntry.at_ t)).takeClips (s.seq.lanes.clips.due ClipEntry.at_ t)).lif = rest := by
  rw [(takeClips_frame _ _).2.2, takeLights_lif]
  exact h

/-- The flags of a delivery but those of its own parts. -/
theorem deliver_flag {g : Flag} (marks : g ≠ .reportsDropped) : (s.deliver t).flags.has g =
    (((s.jetted t).takeLights (s.seq.lanes.lights.due LightEntry.at_ t)).takeClips
      (s.seq.lanes.clips.due ClipEntry.at_ t)).flags.has g := by
  rw [deliver_eq, takeMarks_flag _ _ _ marks]

/-- A delivery leaves the show clock and its time. -/
theorem deliver_showTime : (s.deliver t).showTime = s.showTime := by
  have parts := deliver_aud_parts s t
  have base : (s.deliver t).aud.base = s.aud.base := (congrArg Aud.base parts :)
  have count : (s.deliver t).aud.count = s.aud.count := (congrArg Aud.count parts :)
  unfold State.showTime
  rw [deliver_seq, base, count]

end

/-! ## The millisecond -/

/-- The millisecond that was due has been taken. -/
def State.msTaken (s : State) : State := { s with aud := { s.aud with msDue := false } }

theorem exec_showMillisecond_running {s : State} {now : Int} (st : s.seq.st = .running) (due : s.aud.msDue = true)
    (time : s.showTime = some now) :
    exec .showMillisecond s = .next (s.msTaken.dispatchEvent now).settleFlash.kick := by
  show execShowMillisecond s = _
  unfold execShowMillisecond
  dsimp only
  rw [due, if_pos rfl, st, time]
  rfl

theorem kick_line {l m : Lif} (tx : l.tx = m.tx) (reports : l.reports = m.reports) (answers : l.answers = m.answers) :
    (l.kick.tx, l.kick.reports, l.kick.answers) = (m.kick.tx, m.kick.reports, m.kick.answers) := by
  unfold Lif.kick
  rw [tx, reports, answers]
  (repeat' split) <;> simp [*]

theorem settleFlash_line (s : State) : s.settleFlash.lif.tx = s.lif.tx ∧ s.settleFlash.lif.reports = s.lif.reports
    ∧ s.settleFlash.lif.answers = s.lif.answers := by
  have g : s.lif.Grows 0 s.settleFlash.lif := settleFlash_grows (.refl 0 s.lif)
  obtain ⟨rs, reports, none⟩ := g.reports
  rw [List.length_eq_zero_iff.mp (Nat.le_zero.mp none), List.append_nil] at reports
  exact ⟨g.tx, reports, g.answers⟩

/-- What the transmitter takes at the end of a step that settles the flash port. -/
theorem settleFlash_kick_line (s : State) :
    (s.settleFlash.kick.lif.tx, s.settleFlash.kick.lif.reports, s.settleFlash.kick.lif.answers) =
      (s.lif.kick.tx, s.lif.kick.reports, s.lif.kick.answers) := by
  obtain ⟨tx, reports, answers⟩ := settleFlash_line s
  exact kick_line tx reports answers

/-- Settles O17: the parts of a delivery, each by its own lemma, through the end of the step. -/
theorem millisecondDispatchesDueEntries : Obligations.MillisecondDispatchesDueEntries := by
  unfold Obligations.MillisecondDispatchesDueEntries
  intro s now st msDue time notEnd inTime
  have run : exec .showMillisecond s = .next (s.msTaken.deliver now).settleFlash.kick := by
    rw [exec_showMillisecond_running st msDue time]
    unfold State.dispatchEvent
    dsimp only
    rw [if_neg (by rw [show s.msTaken.seq = s.seq from rfl, notEnd]; exact Bool.noConfusion), if_neg]
    exact Int.not_le.mpr inTime
  have parts := deliver_aud_parts s.msTaken now
  have aud : (s.msTaken.deliver now).settleFlash.kick.aud = (s.msTaken.deliver now).aud.seek := by
    rw [kick_aud, settleFlash_aud]
  have flag {g : Flag} (h : g ≠ .eraseSuspended) :
      (s.msTaken.deliver now).settleFlash.kick.flags.has g = (s.msTaken.deliver now).flags.has g := by
    rw [kick_flags, settleFlash_has _ h]
  refine ⟨_, run, ?_, ?_, ?_, fun g => ?_, ?_, ?_, ?_, by simp [State.msTaken], by simp [State.msTaken],
    by simp [State.msTaken], by simp [State.msTaken], by simp [State.msTaken]⟩
  · rw [kick_seq, settleFlash_seq, deliver_seq]; rfl
  · rw [aud, Aud.seek_eq, parts]; rfl
  · rw [aud, Aud.seek_eq, parts]; rfl
  · rw [kick_groups, settleFlash_groups, deliver_groups, Sys2Proof.Table.get_mapIdx]
    rfl
  · intro due covering waits lost
    have lgt : (s.msTaken.deliver now).settleFlash.kick.lgt = ((s.msTaken.jetted now).takeLights due).lgt := by
      rw [kick_lgt, settleFlash_lgt, deliver_lgt]
      rfl
    have colours : (s.msTaken.jetted now).lostColours due = lost := rfl
    have overtaken : (s.msTaken.deliver now).settleFlash.kick.flags.has .lightOvertaken =
        (s.flags.has .lightOvertaken || decide (0 < lost)) := by
      rw [flag (g := .lightOvertaken) (by decide), deliver_flag _ _ (by decide), takeClips_flag _ _ (by decide), ← colours]
      exact takeLights_flag (s.msTaken.jetted now) due
    rw [lgt, overtaken]
    refine ⟨fun f => takeLights_fixture (s.msTaken.jetted now) due f, takeLights_overtakes (s.msTaken.jetted now) due,
      takeLights_lampOut (s.msTaken.jetted now) due, fun some => ?_, fun none => ?_⟩
    · rw [decide_eq_true some, Bool.or_true]
    · rw [none, decide_eq_false (Nat.lt_irrefl 0), Bool.or_false]
  · intro due i
    have lit : ((s.msTaken.jetted now).takeLights (s.seq.lanes.lights.due LightEntry.at_ now)).aud = s.msTaken.aud :=
      takeLights_aud _ _
    generalize hu : (s.msTaken.jetted now).takeLights (s.seq.lanes.lights.due LightEntry.at_ now) = u at lit
    have given : (s.msTaken.deliver now).aud = (u.takeClips due).aud := by
      rw [deliver_aud, ← hu]
      rfl
    have replaced : (s.msTaken.deliver now).settleFlash.kick.flags.has .clipReplaced = (u.takeClips due).flags.has .clipReplaced := by
      rw [flag (g := .clipReplaced) (by decide), deliver_flag _ _ (by decide), ← hu]
      rfl
    have chosen : u.aud.chooseBuf = i := (congrArg Aud.chooseBuf lit).trans rfl
    have clips : u.aud.clips = s.aud.clips := (congrArg Aud.clips lit).trans rfl
    have bufs (j : BufId) : u.aud.buf j = s.aud.buf j := by rw [lit]; cases j <;> rfl
    rw [aud, given, replaced]
    refine ⟨fun e c last found => ?_, fun two all => ?_, fun j free => ?_, fun none => ?_⟩
    · obtain ⟨init, hinit⟩ := List.getLast?_eq_some_iff.mp last
      obtain ⟨stands, full⟩ := takeClips_last u e due last (by rw [clips]; exact found)
      rw [chosen] at stands full
      obtain ⟨n, hn⟩ := Aud.seek_some stands
      refine ⟨⟨_, hn, rfl, rfl, rfl, rfl, rfl, rfl, rfl, rfl⟩, fun waits => full init hinit ?_⟩
      rw [← chosen]
      exact takeClips_keeps u init (by rw [chosen, bufs]; exact waits)
    · obtain ⟨init, last, hinit⟩ : ∃ init e, due = init ++ [e] :=
        ⟨due.dropLast, due.getLast (by rw [← List.length_pos_iff_ne_nil]; omega), (List.dropLast_append_getLast _).symm⟩
      obtain ⟨before, middle, hbefore⟩ : ∃ before e, init = before ++ [e] := by
        rw [hinit, List.length_append, List.length_singleton] at two
        exact ⟨init.dropLast, init.getLast (by rw [← List.length_pos_iff_ne_nil]; omega), (List.dropLast_append_getLast _).symm⟩
      have mem (e : ClipEntry) (he : e ∈ due) : ∃ c, lookupClip u.aud.clips e.id = some c := by
        rw [clips]
        exact Option.isSome_iff_exists.mp (all e he)
      obtain ⟨c, hc⟩ := mem last (by rw [hinit]; simp)
      obtain ⟨c', hc'⟩ := mem middle (by rw [hinit, hbefore]; simp)
      refine (takeClips_last u last due (by rw [hinit, List.getLast?_append]; rfl) hc).2 init hinit ?_
      rw [(takeClips_last u middle init (by rw [hbefore, List.getLast?_append]; rfl) hc').1]
      rfl
    · have same : (u.takeClips due).aud.buf j = s.aud.buf j := by
        rcases free with other | none
        · rw [takeClips_other u due (by rw [chosen]; exact other), bufs]
        · rw [none]
          exact bufs j
      rw [← same]
      exact Aud.seek_buf _ j
    · rw [none, ← hu]
      exact (takeLights_flags _ _ (by decide)).trans rfl
  · intro due sent
    have marks := deliver_eq s.msTaken now
    have before := deliver_lif s.msTaken now s.lif rfl
    refine ⟨fun on room => ?_, fun off => ?_⟩
    · rw [settleFlash_kick_line, marks, takeMarks_on _ _ _ (by rw [before]; exact on) (by rw [before]; exact room), before]
      rfl
    · rw [settleFlash_kick_line, marks, takeMarks_off _ _ _ (by rw [before]; exact off), before]

end Sys2Proof.Machine
end

section
/-! STOPPING entered by STOP, by an END and by the duration, and left; START (R16, R30, R32, R40, R41, R59, R90). -/

namespace Sys2Proof.Machine

open State

/-! ## The entry -/

theorem stops_of {s u t : State} {r : EndReason} {now : Int} (near : s.Near u) (time : s.showTime = some now)
    (e : (u.enterStopping r).EndsAs t) : s.Stops t r :=
  ⟨fun goes => entersStopping_of near time goes e, fun fade down => stopsAtOnce_of near time fade down e⟩

theorem near_answered (s : State) (q : Request) : s.Near (s.taken.answer q .ok []) :=
  ⟨rfl, rfl, rfl, rfl, rfl, rfl, rfl, rfl, fun _ => rfl, (s.taken.answer q .ok []).lif, 0, rfl, rfl, .refl 0 _⟩

theorem dispatched_interlock (x : Group) (due : List JetEntry) (t : Int) (now : Tick) :
    (x.dispatched due t now).interlock = x.interlock := by
  unfold Group.dispatched
  split <;> rfl

/-- A delivery leaves what the entry into STOPPING reads. -/
theorem State.Near.deliver {s u : State} (near : s.Near u) (t : Int) : s.Near (u.deliver t) := by
  obtain ⟨l, n, enable, dropped, grown⟩ := near.link
  refine ⟨(deliver_showTime u t).trans near.time, ?_, ?_, ?_, ?_, ?_, ?_, ?_, fun g => ?_, l, _, enable, dropped, deliver_grows grown⟩
  · rw [deliver_cfg, near.cfg]
  · rw [deliver_clock, near.clock]
  · rw [deliver_dbm, near.dbm]
  · rw [deliver_fda, near.fda]
  · rw [deliver_sup, near.sup]
  · rw [deliver_flp, near.locks]
  · exact (congrArg Aud.m (deliver_aud_parts u t) :).trans near.m
  · rw [deliver_groups, Sys2Proof.Table.get_mapIdx, dispatched_interlock, near.interlock]

theorem near_msTaken (s : State) : s.Near s.msTaken :=
  ⟨rfl, rfl, rfl, rfl, rfl, rfl, rfl, rfl, fun _ => rfl, _, 0, rfl, rfl, .refl 0 _⟩

theorem dispatchEvent_ended {s : State} {t : Int} (h : s.seq.lanes.endsAt t = true) :
    s.dispatchEvent t = (s.deliver t).enterStopping .ended := if_pos h

theorem dispatchEvent_duration {s : State} {t : Int} (h : s.seq.lanes.endsAt t = false) (long : (s.seq.duration : Int) ≤ t) :
    s.dispatchEvent t = (s.deliver t).enterStopping .duration :=
  (if_neg (by rw [h]; exact Bool.noConfusion)).trans (if_pos long)

theorem dispatchEvent_goesOn {s : State} {t : Int} (h : s.seq.lanes.endsAt t = false) (short : t < (s.seq.duration : Int)) :
    s.dispatchEvent t = s.deliver t :=
  (if_neg (by rw [h]; exact Bool.noConfusion)).trans (if_neg (Int.not_le.mpr short))

/-! ## STOP -/

theorem exec_stop {s : State} {q : Request} (ht : s.takes .stop q = true) : exec .stop s =
    .next (s.taken.judged q s.taken.judgeStop fun _ => (s.taken.answer q .ok []).stopShow.settleFlash).kick :=
  congrArg Host.Outcome.next (serve_takes s _ anyOf _ q ht rfl)

/-- STOP is judged by the show state alone (R40). -/
theorem judgeStop_eq (s : State) : s.judgeStop =
    if s.seq.st = .loading ∨ s.seq.st = .running ∨ s.seq.st = .held then .ok () else .error .wrongState := by
  unfold State.judgeStop
  cases s.seq.st <;> rfl

theorem stop_active {s : State} {q : Request} (ht : s.takes .stop q = true) (h : s.seq.st = .running ∨ s.seq.st = .held) :
    ∃ t, exec .stop s = .next t ∧ s.Stops t .stop := by
  obtain ⟨now, time⟩ := showTime_of_active h
  have passed : s.taken.judgeStop = .ok () := (judgeStop_eq s.taken).trans (if_pos (.inr h))
  have enters : (s.taken.answer q .ok []).stopShow = (s.taken.answer q .ok []).enterStopping .stop :=
    if_neg (show ¬s.seq.st = .loading by rcases h with h | h <;> rw [h] <;> exact nofun)
  refine ⟨_, exec_stop ht, ?_⟩
  rw [judged_passed passed, enters]
  exact stops_of (near_answered s q) time (settleFlash_kick_endsAs _)

/-- A load under way as an interruption finds it (R30). -/
def State.interrupting (s : State) : State :=
  { s with
    seq := { s.seq with staleRead := s.seq.staleRead || LoadPhase.reading s.seq.load }
    aud := { s.aud with
      copying := s.aud.copying.map CopyFor.interrupted
      copyQueue := s.aud.copyQueue.filter fun w => decide (w ≠ .armLoad) } }

theorem interruptLoad_eq (s : State) (f : Failure) (r : EndReason) :
    s.interruptLoad f r = s.interrupting.failLoad f none (LoadPhase.label s.seq.load) r := rfl

/-- While an answer waits the transmitter takes no report. -/
theorem kick_reports_of_answers {l : Lif} (h : l.answers ≠ []) : l.kick.reports = l.reports := by
  unfold Lif.kick
  split
  · rfl
  · split
    · rfl
    next none => exact (h none).elim

theorem stop_loading {s : State} {q : Request} (ht : s.takes .stop q = true) (h : s.seq.st = .loading) :
    ∃ t, exec .stop s = .next t ∧ s.LoadFailed t .aborted none (LoadPhase.label s.seq.load)
      ∧ t.seq.staleRead = (s.seq.staleRead || LoadPhase.reading s.seq.load)
      ∧ t.aud.copying = s.aud.copying.map CopyFor.interrupted ∧ t.aud.clips = s.aud.clips
      ∧ (s.lif.enable.getLsbD Category.showCat.bit = true → s.lif.reports.length < 16 →
        Report.showState .idle none none (some .stop) ∈ t.lif.reports) := by
  have passed : s.taken.judgeStop = .ok () := (judgeStop_eq s.taken).trans (if_pos (.inl h))
  have enters : (s.taken.answer q .ok []).stopShow = (s.taken.answer q .ok []).interruptLoad .aborted .stop := if_pos h
  have ends := settleFlash_kick_endsLoad ((s.taken.answer q .ok []).interruptLoad .aborted .stop)
  refine ⟨_, exec_stop ht, ?_⟩
  rw [judged_passed passed, enters]
  refine ⟨loadFailed_of (u := (s.taken.answer q .ok []).interrupting) (l := (s.taken.answer q .ok []).lif) nofun rfl rfl rfl rfl
    rfl rfl rfl rfl rfl rfl rfl rfl (.refl 0 _) ends, ?_, ?_, ?_, fun on room => ?_⟩
  · rw [ends.seq]; rfl
  · rw [ends.aud]
    exact (congrArg Aud.copying (Aud.seek_eq _) :).trans rfl
  · rw [ends.aud]
    exact (congrArg Aud.clips (Aud.seek_eq _) :).trans rfl
  · have made : Report.showState .idle none none (some .stop) ∈
        ((s.taken.answer q .ok []).interrupting.loadIdle .aborted none (LoadPhase.label s.seq.load) .stop).lif.reports := by
      have queued := report_queued
        { (s.taken.answer q .ok []).interrupting with
          seq := { (s.taken.answer q .ok []).interrupting.seq with
            st := .idle, cues := [], lanes := Lanes.empty, stopping := none, load := none
            result := ⟨.failed, .aborted, s.seq.slot, LoadPhase.label s.seq.load, none, none⟩ }
          flags := s.flags.raise .loadFailed
          flp := s.flp.releaseShow
          aud := (s.taken.answer q .ok []).interrupting.aud.clearClock }
        (.showState .idle none none (some .stop)) (makes_of_enabled fun c hc => by cases hc; exact on) room
      exact (congrArg (Report.showState .idle none none (some .stop) ∈ ·) queued).mpr
        (List.mem_append_right _ List.mem_cons_self)
    have answers : ((s.taken.answer q .ok []).interruptLoad .aborted .stop).settleFlash.lif.answers ≠ [] := by
      have grown : (s.taken.answer q .ok []).lif.Grows 2 ((s.taken.answer q .ok []).interruptLoad .aborted .stop).settleFlash.lif :=
        settleFlash_grows (interruptLoad_grows (.refl 0 _))
      rw [grown.answers]
      exact List.append_ne_nil_of_right_ne_nil _ (List.cons_ne_nil _ _)
    show _ ∈ ((s.taken.answer q .ok []).interruptLoad .aborted .stop).settleFlash.lif.kick.reports
    rw [kick_reports_of_answers answers, (settleFlash_line _).2.1, interruptLoad_eq, failLoad_eq (failure := .aborted) _ _ _ _ nofun]
    exact report_keeps _ _ _ made

/-! ## STOPPING goes on or ends -/

theorem exec_showMillisecond_stopping {s : State} {now : Int} (st : s.seq.st = .stopping) (due : s.aud.msDue = true)
    (time : s.showTime = some now) : exec .showMillisecond s = .next s.msTaken.testStopping.settleFlash.kick := by
  show execShowMillisecond s = _
  unfold execShowMillisecond
  dsimp only
  rw [due, if_pos rfl, st, time]
  rfl

theorem stopDue_iff {s : State} {p : Stopping} {now : Int} (st : s.seq.st = .stopping) (stopping : s.seq.stopping = some p)
    (time : s.showTime = some now) : s.stopDue = true ↔ p.began + p.fade ≤ now := by
  unfold State.stopDue
  rw [st, stopping, time]
  exact decide_eq_true_iff

/-- What an offer of a change has brought to the show, at the settlement of the step (R41, R90). -/
theorem stops_of_brings {s u : State} {n before : Nat} {e : Bool} {p : Stopping} {now : Int} (h : s.Brings n e u)
    (le : n + 1 ≤ before) (st : s.seq.st = .stopping) (stopping : s.seq.stopping = some p) (time : s.showTime = some now) :
    (s.interlockMoved u.settle → u.settle.groupsDown = true → p.began + p.fade ≤ now →
      u.settle.seq.st = .idle ∧ u.settle.seq.cues = [] ∧ u.settle.seq.lanes = Lanes.empty ∧ u.settle.seq.stopping = none
        ∧ u.settle.flp.locks = s.flp.locks.filter (fun k => !k.owner.ofShow)
        ∧ u.settle.aud.stopFade = none ∧ u.settle.aud.m = 960 ∧ u.settle.aud.target = 960 ∧ u.settle.aud.count = 0
        ∧ u.settle.aud.counting = false ∧ s.says u.settle before (.showState .idle none none (some p.reason)))
    ∧ (¬s.interlockMoved u.settle ∨ u.settle.groupsDown = false ∨ now < p.began + p.fade →
      u.settle.seq = s.seq ∧ u.settle.flp.locks = s.flp.locks ∧ u.settle.showTime = s.showTime) := by
  have due := stopDue_iff st stopping time
  obtain ⟨m, target, -, stopFade, -, -, count, counting, -⟩ := seek_parts u.aud
  have sameTime (seq : u.seq = s.seq) (aud : u.aud = s.aud) : u.settle.showTime = s.showTime := by
    have base : u.settle.aud.base = u.aud.base := by rw [settle_aud]; exact (congrArg Aud.base u.aud.seek_eq :)
    have counted : u.settle.aud.count = u.aud.count := by rw [settle_aud, count]
    unfold State.showTime
    rw [settle_seq, base, counted, seq, aud]
  rw [interlockMoved_settle, settle_groupsDown, settle_seq, settle_locks, settle_aud, m, target, stopFade, count, counting]
  refine ⟨fun moved down run => ?_, fun stays => ?_⟩
  · obtain ⟨idle, cues, lanes, none, locks, ⟨noFade, full, full', zero, still⟩, p', w, hp, grown, after⟩ :=
      (h.done (h.moved moved down)).1.ends (due.mpr run)
    obtain rfl : p' = p := Option.some.inj (hp.symm.trans stopping)
    exact ⟨idle, cues, lanes, none, locks, noFade, full, full', zero, still,
      says_of_report (l := s.lif) rfl rfl grown (by omega) fun hr => settle_carries (after _ hr)⟩
  · cases e with
    | false =>
      obtain ⟨open_, -⟩ := h.pending rfl
      exact ⟨open_.seq, open_.locks, sameTime open_.seq open_.aud⟩
    | true =>
      obtain ⟨offered, down, moved⟩ := h.done rfl
      have early : s.stopDue = false := by
        refine Bool.eq_false_iff.mpr fun run => ?_
        have := due.mp run
        rcases stays with still | up | short
        · exact still moved
        · exact Bool.noConfusion (up.symm.trans down)
        · omega
      obtain ⟨seq, aud, locks⟩ := offered.goesOn early
      exact ⟨seq, locks, sameTime seq aud⟩

theorem groupsDown_iff (s : State) : s.groupsDown = true ↔ ∀ g : Fin 24, (s.groups.get g).interlock = none
    ∨ (s.groups.get g).interlock = some .shut ∨ (s.groups.get g).interlock = some .fault
    ∨ (s.groups.get g).interlock = some .lost := by
  rw [groupsDown_iff_all]
  refine forall_congr' fun g => ?_
  generalize (s.groups.get g).interlock = i
  cases i with
  | none => simp
  | some i => cases i <;> simp [Interlock.down]

/-- The millisecond in STOPPING tests the end (R41). -/
theorem millisecond_stopping {s : State} {p : Stopping} {now : Int} (st : s.seq.st = .stopping)
    (stopping : s.seq.stopping = some p) (ms : s.aud.msDue = true) (time : s.showTime = some now) :
    ∃ t, exec .showMillisecond s = .next t ∧ t.groups = s.groups ∧ t.lgt = s.lgt ∧ t.cfg = s.cfg ∧ t.sup = s.sup
      ∧ (if p.began + p.fade ≤ now ∧ s.groupsDown = true then
          t.seq.st = .idle ∧ t.seq.cues = [] ∧ t.flp.locks = s.flp.locks.filter fun k => !k.owner.ofShow
        else t.seq = s.seq ∧ t.flp.locks = s.flp.locks) := by
  have due := stopDue_iff (s := s.msTaken) st stopping time
  refine ⟨_, exec_showMillisecond_stopping st ms time, by simp [State.msTaken], by simp [State.msTaken], by simp [State.msTaken],
    by simp [State.msTaken], ?_⟩
  rw [kick_seq, settleFlash_seq, kick_flp, settleFlash_locks]
  split
  next ends =>
    have ended := testStopping_ends (n := 0) (due.mpr ends.1) (groupsDown_congr (t := s.msTaken) rfl |>.trans ends.2)
      (.refl s.msTaken) (.refl 0 _)
    exact ⟨ended.st, ended.cues, ended.locks⟩
  next stays =>
    have same : s.msTaken.testStopping = s.msTaken := by
      unfold State.testStopping
      rw [stopEndHolds_eq]
      refine if_neg fun h => stays ?_
      rw [Bool.and_eq_true] at h
      exact ⟨due.mp h.1, h.2⟩
    rw [same]
    exact ⟨rfl, rfl⟩

/-- Settles O18: each entry into STOPPING by what it finds, and each test of its end. -/
theorem stoppingIsEnteredAndEnds : Obligations.StoppingIsEnteredAndEnds := by
  unfold Obligations.StoppingIsEnteredAndEnds
  refine ⟨fun s => ⟨fun q ht active => stop_active ht active, fun now st ms time => ⟨fun ends => ?_, fun goes long => ?_⟩⟩,
    fun s p now st stopping ms time => millisecond_stopping st stopping ms time,
    fun s p now c before st stopping time fit may => ?_, groupsDown_iff, fun s q ht => ⟨fun other => ?_, fun loading => ?_⟩⟩
  · refine ⟨_, exec_showMillisecond_running st ms time, ?_⟩
    rw [dispatchEvent_ended (s := s.msTaken) ends]
    exact stops_of ((near_msTaken s).deliver now) time (settleFlash_kick_endsAs _)
  · refine ⟨_, exec_showMillisecond_running st ms time, ?_⟩
    rw [dispatchEvent_duration (s := s.msTaken) goes long]
    exact stops_of ((near_msTaken s).deliver now) time (settleFlash_kick_endsAs _)
  · rcases mayBringDown_cases fit may with run | ⟨u, e, n, run, brings, le, -⟩
    · exact ⟨s, run, fun ⟨_, h⟩ => (h rfl).elim, fun _ => ⟨rfl, rfl, rfl⟩⟩
    · exact ⟨_, run, stops_of_brings brings le st stopping time⟩
  · rw [exec_stop ht]
    refine congrArg Host.Outcome.next (judged_refused ((judgeStop_eq s.taken).trans (if_neg ?_)))
    show ¬(s.seq.st = .loading ∨ s.seq.st = .running ∨ s.seq.st = .held)
    rcases other with h | h | h <;> rw [h] <;> decide
  · obtain ⟨t, run, failed, stale, copying, clips, said⟩ := stop_loading ht loading
    refine ⟨t, run, failed, fun reads => ?_, fun waits => ?_, fun mine => ?_, fun other => ?_, clips, said⟩
    · rw [stale]
      rcases reads with e | ⟨h, got, e⟩ <;> rw [e] <;> exact Bool.or_true _
    · rw [stale]
      rcases waits with e | ⟨h, got, e⟩ <;> rw [e] <;> exact Bool.or_false _
    · rw [copying, mine]; rfl
    · rw [copying]
      cases hc : s.aud.copying with
      | none => rfl
      | some w =>
        rw [hc] at other
        cases w with
        | armLoad => exact (other rfl).elim
        | _ => rfl

end Sys2Proof.Machine
end

section
/-! START (R32, R47, R68). -/

namespace Sys2Proof.Machine

open State

theorem exec_start {s : State} {q : Request} (ht : s.takes .start q = true) : exec .start s =
    .next (s.taken.judged q s.taken.judgeStart fun _ => (s.taken.answer q .ok []).startShow.settleFlash).kick :=
  congrArg Host.Outcome.next (serve_takes s _ anyOf _ q ht rfl)

/-- START is judged by the show state, then by the level (R32). -/
theorem judgeStart_eq (s : State) : s.judgeStart =
    if s.seq.st ≠ .armed then .error .wrongState else if s.sup.effective = .dry then .error .levelDry else .ok () := by
  unfold State.judgeStart
  rw [refuseIf_bind, refuseIf_eq]
  simp only [decide_eq_true_eq, State.isDry]

/-- The show running, its groups and fixtures held, with its SHOW_STATE report: START before its dispatch event (R32). -/
def State.startSaid (s : State) : State :=
  State.sayShow
    { s with
      seq := { s.seq with st := .running }
      aud := { s.aud.discardBoth with count := 0, base := -(s.seq.preroll : Int), counting := true, msDue := false }
      groups := s.groups.map fun x => x.withFade (GroupFade.hold (x.fade.height s.showTime s.clock) (-(s.seq.preroll : Int)))
      lgt := s.lgt.start s.clock }
    none

theorem startShow_eq (s : State) (q : Request) : (s.taken.answer q .ok []).startShow =
    (s.taken.answer q .ok []).startSaid.dispatchEvent (-(s.seq.preroll : Int)) := rfl

theorem startSaid_group (s : State) (g : Fin 24) : s.startSaid.groups.get g = (s.groups.get g).withFade
    (GroupFade.hold ((s.groups.get g).fade.height s.showTime s.clock) (-(s.seq.preroll : Int))) :=
  Sys2Proof.Table.get_map _ _ g

theorem startSaid_fixture (s : State) (f : Fin 96) :
    (s.startSaid.lgt.fixtures.get f).fade = (s.lgt.fixtures.get f).fade.atStart s.clock :=
  congrArg Fixture.fade (Sys2Proof.Table.get_map _ _ f)

/-- A delivery writes latches, not fades. -/
theorem deliver_fade (s : State) (t : Int) (f : Fin 96) :
    ((s.deliver t).lgt.fixtures.get f).fade = (s.lgt.fixtures.get f).fade := by
  rw [deliver_lgt, takeLights_fixture]
  split <;> rfl

theorem house_fade (g : Lgt) (cfg : Settings) (f : Fin 96) :
    ((g.house cfg).fixtures.get f).fade = (g.fixtures.get f).fade := by
  unfold Lgt.house
  rw [Sys2Proof.Table.get_mapIdx]
  split <;> rfl

theorem enterStopping_fade (s : State) (r : EndReason) (f : Fin 96) :
    ((s.enterStopping r).lgt.fixtures.get f).fade = (s.lgt.fixtures.get f).fade := by
  rw [enterStopping_lgt, house_fade]

/-- The show of a state as START begins it. -/
def State.begun (s : State) : State :=
  { s with
    seq := { s.seq with st := .running }, aud := { s.aud with count := 0, base := -(s.seq.preroll : Int), counting := true } }

theorem begun_showTime (s : State) : s.begun.showTime = some (-(s.seq.preroll : Int)) := by
  show some (-(s.seq.preroll : Int) + ((0 / 48 : Nat) : Int)) = _
  simp

theorem near_startSaid (s : State) (q : Request) : s.begun.Near (s.taken.answer q .ok []).startSaid := by
  refine ⟨rfl, rfl, rfl, rfl, rfl, rfl, rfl, rfl, fun g => ?_, (s.taken.answer q .ok []).lif, 1, rfl, rfl,
    .withReport (s.taken.answer q .ok []).lif _⟩
  rw [startSaid_group, withFade_interlock]
  rfl

theorem startSaid_says {s t : State} {q : Request} {before : Nat}
    (goesOn : ∀ r, (s.taken.answer q .ok []).startSaid.lif.Carries r → t.lif.Carries r) :
    s.says t before (.showState .running (some s.seq.slot) (some (-(s.seq.preroll : Int))) none) := by
  rw [← begun_showTime s]
  exact says_of_report (u := { s.taken.answer q .ok [] with
      seq := { s.seq with st := .running }
      aud := { s.aud.discardBoth with count := 0, base := -(s.seq.preroll : Int), counting := true, msDue := false }
      groups := s.groups.map fun x => x.withFade (GroupFade.hold (x.fade.height s.showTime s.clock) (-(s.seq.preroll : Int)))
      lgt := s.lgt.start s.clock }) (l := (s.taken.answer q .ok []).lif) rfl rfl (.refl 0 _) (Nat.zero_le _) (goesOn _)

/-- Settles O16: the refusals, and the dispatch event of the show that has begun. -/
theorem startRunsTheShow : Obligations.StartRunsTheShow := by
  unfold Obligations.StartRunsTheShow
  intro s q ht
  have run := exec_start ht
  have judged := judgeStart_eq s.taken
  refine ⟨fun other => ?_, fun armed dry => ?_, fun armed wet => ?_, fun armed wet goes inTime => ?_⟩
  · rw [run]
    exact congrArg Host.Outcome.next (judged_refused (judged.trans (if_pos other)))
  · rw [run]
    exact congrArg Host.Outcome.next (judged_refused (judged.trans ((if_neg (not_not.mpr armed)).trans (if_pos dry))))
  · have passed : s.taken.judgeStart = .ok () := judged.trans ((if_neg (not_not.mpr armed)).trans (if_neg wet))
    rw [judged_passed passed, startShow_eq] at run
    intro now begun lit
    have near : begun.Near ((s.taken.answer q .ok []).startSaid.deliver now) := (near_startSaid s q).deliver now
    have fades (r : EndReason) :
        lit (((s.taken.answer q .ok []).startSaid.deliver now).enterStopping r).settleFlash.kick := by
      intro f
      rw [kick_lgt, settleFlash_lgt, enterStopping_fade, deliver_fade]
      exact startSaid_fixture _ f
    refine ⟨fun ends => ⟨_, run, ?_⟩, fun goes long => ⟨_, run, ?_⟩⟩
    · rw [dispatchEvent_ended (s := (s.taken.answer q .ok []).startSaid) ends]
      exact ⟨stops_of near (begun_showTime s) (settleFlash_kick_endsAs _), fades .ended⟩
    · rw [dispatchEvent_duration (s := (s.taken.answer q .ok []).startSaid) goes long]
      exact ⟨stops_of near (begun_showTime s) (settleFlash_kick_endsAs _), fades .duration⟩
  · have passed : s.taken.judgeStart = .ok () := judged.trans ((if_neg (not_not.mpr armed)).trans (if_neg wet))
    rw [judged_passed passed, startShow_eq, dispatchEvent_goesOn (s := (s.taken.answer q .ok []).startSaid) goes inTime] at run
    have aud := (Aud.seek_eq ((s.taken.answer q .ok []).startSaid.deliver (-(s.seq.preroll : Int))).aud)
    have parts := deliver_aud_parts (s.taken.answer q .ok []).startSaid (-(s.seq.preroll : Int))
    have none : s.showTime = none := by unfold State.showTime; rw [armed]
    refine ⟨_, run, ?_, startSaid_says (q := q) fun r h => ?_, ?_, ?_, ?_, ?_, fun g notDue => ?_, fun f => ?_, ?_, ?_, ?_, ?_, ?_⟩
    · rw [kick_seq, settleFlash_seq, deliver_seq]; rfl
    · exact Lif.Carries.kick (Lif.Carries.grows h (settleFlash_grows (deliver_grows (.refl 0 _))))
    · rw [kick_aud, settleFlash_aud]
      exact (congrArg Aud.count aud :).trans (congrArg Aud.count parts :)
    · rw [kick_aud, settleFlash_aud]
      exact (congrArg Aud.base aud :).trans (congrArg Aud.base parts :)
    · rw [kick_aud, settleFlash_aud]
      exact (congrArg Aud.counting aud :).trans (congrArg Aud.counting parts :)
    · rw [kick_seq, settleFlash_seq, deliver_seq]; rfl
    · rw [kick_groups, settleFlash_groups, deliver_groups, Sys2Proof.Table.get_mapIdx, Group.dispatched]
      rw [show (s.taken.answer q .ok []).startSaid.seq.lanes = s.seq.lanes from rfl, notDue]
      refine (startSaid_group _ g).trans ?_
      rw [show (s.taken.answer q .ok []).showTime = s.showTime from rfl, none]
      rfl
    · rw [kick_lgt, settleFlash_lgt, deliver_fade]
      exact startSaid_fixture _ f
    · rw [kick_cfg, settleFlash_cfg, deliver_cfg]; rfl
    · rw [kick_clock, settleFlash_clock, deliver_clock]; rfl
    · rw [kick_dbm, settleFlash_dbm, deliver_dbm]; rfl
    · rw [kick_fda, settleFlash_fda, deliver_fda]; rfl
    · rw [kick_sup, settleFlash_sup, deliver_sup]; rfl

end Sys2Proof.Machine
end

section
/-! AUD's buffers starting and ending: clips, the announcement's gap, the mute and the stop fade (R52 to R54, R59, R63, R64). -/

namespace Sys2Proof.Machine

open State

/-! ## What only AUD sees -/

theorem onlyAudio_settleFlash (s : State) (a : Aud) : s.OnlyAudio (State.settleFlash { s with aud := a }) := by
  refine ⟨?_, ?_, ?_, ?_, ?_, ?_, ?_, ?_, ?_⟩ <;> simp

namespace Aud

variable {a : Aud} {i : BufId}

/-! ## When each event is due -/

theorem atStart_iff : a.atStart i = true ↔ a.counting = true ∧ ∃ st, a.buf i = some st ∧ st.playing = false
    ∧ st.origin = .fromShow ∧ st.start = (a.count : Int) + 48 * a.base := by
  unfold atStart
  cases a.buf i <;> simp [and_assoc]

theorem readyToStart_iff : a.readyToStart i = true ↔ ∃ st, a.buf i = some st ∧ st.playing = false ∧ st.origin ≠ .fromShow
    ∧ (1024 ≤ st.held.length ∨ st.clip.frames ≤ st.read + st.held.length)
    ∧ (st.origin = .announcement → a.gapLeft = none ∨ a.gapLeft = some 0) := by
  have gap : a.gapLeft.getD 0 = 0 ↔ a.gapLeft = none ∨ a.gapLeft = some 0 := by cases a.gapLeft <;> simp
  unfold readyToStart Stream.ready chunkFrames
  cases a.buf i <;> simp [and_assoc, gap, imp_iff_not_or]

theorem quiet_iff : a.playing = none ↔ ∀ i st, a.buf i = some st → st.playing = false := by
  refine playing_eq_none.trans (forall_congr' fun i => ?_)
  cases a.buf i <;> simp

theorem muteOver_iff : a.muteOver = true ↔ a.muting = true
    ∧ (a.m = 0 ∨ ∀ i st, a.buf i = some st → st.playing = false) := by
  unfold muteOver
  simp only [Bool.and_eq_true, Bool.or_eq_true, decide_eq_true_eq, quiet_iff]

theorem fadeOver_iff : a.fadeOver = true ↔ ∃ f, a.stopFade = some f ∧ f.n ≤ f.j := by
  unfold fadeOver
  cases a.stopFade <;> simp

theorem playing_iff : a.playing = some i ↔ (∃ st, a.buf i = some st ∧ st.playing = true)
    ∧ (i = .b → ∀ st, a.bufA = some st → st.playing = false) := by
  unfold playing
  cases i with
  | a => cases ha : a.bufA <;> simp [buf, ha]
  | b =>
    cases a.bufA with
    | none => cases hb : a.bufB <;> simp [buf, hb]
    | some st => cases hp : st.playing <;> cases hb : a.bufB <;> simp [buf, hp, hb]

/-! ## Discarding and starting a buffer -/

@[simp] theorem discard_buf_same (a : Aud) (i : BufId) : (a.discard i).buf i = none := by cases i <;> rfl

theorem discard_buf_other (a : Aud) {i j : BufId} (h : j ≠ i) : (a.discard i).buf j = a.buf j := by
  cases i <;> cases j <;> first | rfl | exact absurd rfl h

/-- A read of a discarded buffer is nobody's (R54). -/
theorem discard_chunk {k : Chunk} (h : (a.discard i).chunk = some k) : k.owner ≠ some i := by
  obtain ⟨c, _, rfl⟩ := Option.map_eq_some_iff.1 (show a.chunk.map _ = some k from h)
  split
  · exact nofun
  next other => exact other

/-- AUD asks for a chunk of a buffer that is not EMPTY (R50). -/
theorem seeker_buf (h : a.seeker = some i) : a.buf i ≠ none := by
  have wants {o : Option BufId} (found : (o.filter fun i => (a.buf i).any (·.wants)) = some i) : a.buf i ≠ none := by
    intro empty
    obtain ⟨_, any⟩ := Option.filter_eq_some_iff.1 found
    rw [empty] at any
    exact absurd any Bool.false_ne_true
  unfold seeker at h
  split at h
  next found => cases h; exact wants found
  · exact wants h

/-- An EMPTY buffer whose read is thrown away stays without one when AUD seeks. -/
theorem seek_chunk_owner (empty : a.buf i = none) (free : ∀ k, a.chunk = some k → k.owner ≠ some i) {k : Chunk}
    (h : a.seek.chunk = some k) : k.owner ≠ some i := by
  unfold seek at h
  split at h
  next j hc hj =>
    split at h
    next st hst =>
      cases h
      intro e
      have : j = i := Option.some.inj e
      exact seeker_buf hj (this ▸ empty)
    · exact free k h
  · exact free k h

/-- AUD just before a buffer starts: the other one is cut if it was PLAYING (R53). -/
def cut (a : Aud) (i : BufId) : Aud := if ((a.buf i.other).any (·.playing)) = true then a.discard i.other else a

theorem startBuf_eq (a : Aud) (i : BufId) :
    a.startBuf i = (a.cut i).setBuf i ((a.buf i).map fun st => { st with playing := true }) := by
  have same : (a.cut i).buf i = a.buf i := by
    unfold cut
    split
    · exact discard_buf_other a (other_ne i).symm
    · rfl
  rw [← same]
  rfl

theorem startBuf_same (a : Aud) (i : BufId) :
    (a.startBuf i).buf i = (a.buf i).map fun st => { st with playing := true } := by
  rw [startBuf_eq, buf_setBuf_same]

theorem startBuf_other (a : Aud) (i : BufId) :
    (a.startBuf i).buf i.other = if ((a.buf i.other).any (·.playing)) = true then none else a.buf i.other := by
  rw [startBuf_eq, buf_setBuf_other _ (other_ne i)]
  unfold cut
  split
  · exact discard_buf_same a i.other
  · rfl

theorem startBuf_other_quiet (a : Aud) (i : BufId) : ((a.startBuf i).buf i.other).any (·.playing) = false := by
  rw [startBuf_other]
  split
  · rfl
  next quiet => exact Bool.eq_false_iff.2 quiet

theorem setBuf_chunk (a : Aud) (i : BufId) (st : Option Stream) : (a.setBuf i st).chunk = a.chunk := by cases i <;> rfl

theorem startBuf_playing {st : Stream} (stands : a.buf i = some st) : (a.startBuf i).playing = some i := by
  have started := startBuf_same a i
  rw [stands] at started
  refine playing_iff.2 ⟨⟨_, started, rfl⟩, fun e st' h' => ?_⟩
  subst e
  have quiet := startBuf_other_quiet a .b
  rw [show (a.startBuf .b).buf BufId.b.other = some st' from h'] at quiet
  exact quiet

/-- A buffer that is not EMPTY has started, wherever AUD then fetches (R53, R54). -/
theorem startBuf_starts {b : Aud} {st : Stream} (stands : a.buf i = some st) (buf : ∀ j, b.buf j = (a.startBuf i).buf j)
    (chunk : b.chunk = (a.startBuf i).chunk) : a.startsBuf b.seek i := by
  have rest (j : BufId) : (b.seek.buf j).map (fun st => { st with fetch := 0 })
      = ((a.startBuf i).buf j).map fun st => { st with fetch := 0 } := by
    rw [← buf]
    exact b.seek_buf j
  refine ⟨?_, ?_, fun plays => ?_, fun quiet => ?_⟩
  · rw [seek_playing, playing_congr (a := a.startBuf i) fun j => by rw [buf]]
    exact startBuf_playing stands
  · rw [rest, startBuf_same, Option.map_map]
    rfl
  · have empty : b.buf i.other = none := by rw [buf, startBuf_other, if_pos plays]
    refine ⟨seek_none empty, fun k hk => seek_chunk_owner empty (fun k hk => ?_) hk⟩
    rw [chunk, startBuf_eq, setBuf_chunk] at hk
    unfold cut at hk
    rw [if_pos plays] at hk
    exact discard_chunk hk
  · rw [rest, startBuf_other, if_neg (by rw [quiet]; exact Bool.false_ne_true)]

theorem discardPlaying_buf (h : a.playing = some i) : a.discardPlaying.buf i = none := by
  unfold discardPlaying
  rw [h]
  exact discard_buf_same a i

theorem discardPlaying_stopFade (a : Aud) : a.discardPlaying.stopFade = a.stopFade := by
  unfold discardPlaying
  cases a.playing with
  | none => rfl
  | some i => cases i <;> rfl

theorem discard_parts (a : Aud) (i : BufId) : (a.discard i).gapLeft = a.gapLeft ∧ (a.discard i).clips = a.clips := by
  cases i <;> exact ⟨rfl, rfl⟩

/-- The clip that plays has ended (R52). -/
theorem endedBuf_of {st : Stream} (plays : a.playing = some i) (stands : a.buf i = some st)
    (done : st.clip.frames ≤ st.read) : a.endedBuf = some i := by
  unfold endedBuf
  rw [plays]
  exact Option.filter_some_pos (by rw [stands]; exact decide_eq_true done)

theorem clipEnd_of_clip {st : Stream} (stands : a.buf i = some st) (clip : st.origin ≠ .announcement) (o : ShowOptions) :
    a.clipEnd i o = a.discard i := by
  unfold clipEnd
  rw [stands]
  exact if_neg (by simp [clip])

theorem clipEnd_of_announcement {st : Stream} (stands : a.buf i = some st) (ann : st.origin = .announcement)
    (o : ShowOptions) :
    a.clipEnd i o = Aud.giveAnnouncement { a.discard i with gapLeft := some (48000 * o.gap) } o := by
  unfold clipEnd
  rw [stands, if_pos (by simp [ann])]
  unfold giveAnnouncement
  rw [show lookupClip ({ a.discard i with gapLeft := some (48000 * o.gap) } : Aud).clips o.annClip
    = lookupClip (a.discard i).clips o.annClip from rfl]
  cases lookupClip (a.discard i).clips o.annClip <;> rfl

end Aud

theorem seek_any_playing (a : Aud) (i : BufId) : (a.seek.buf i).any (·.playing) = (a.buf i).any (·.playing) := by
  have e := congrArg (Option.any id) (seek_buf_map (f := Stream.playing) (fun _ => rfl) a i)
  rwa [Option.any_map, Option.any_map] at e

/-- The mute complete: both buffers discarded, the factor 960, and the announcement given to buffer A (R63). -/
theorem muteDone_done (a : Aud) (o : ShowOptions) : (a.muteDone o).seek.m = 960 ∧ (a.muteDone o).seek.target = 960
    ∧ (a.muteDone o).seek.muting = false ∧ (a.muteDone o).seek.stopFade = none ∧ (a.muteDone o).seek.bufB = none
    ∧ (a.muteDone o).seek.announces a.clips o.annClip := by
  obtain ⟨m, target, muting, fade, _⟩ := seek_parts (a.muteDone o)
  obtain ⟨m', target', muting', fade', _, _, _, _, bufB⟩ := giveAnnouncement_parts
    { a.discardBoth with m := 960, target := 960, stopFade := none, rundown := none, muting := false, gapLeft := none } o
  exact ⟨m.trans m', target.trans target', muting.trans muting', fade.trans fade', seek_none (i := .b) bufB,
    announces_of_given rfl⟩

/-! ## The events -/

theorem exec_showClipStart_of {s : State} {i : BufId} (due : s.aud.atStart i = true)
    (first : i = .b → s.aud.atStart .a = false) :
    ∃ t, exec .showClipStart s = .next t ∧ s.OnlyAudio t ∧ t.aud = (s.aud.startBuf i).seek ∧ s.aud.startsBuf t.aud i := by
  obtain ⟨_, st, stands, _⟩ := Aud.atStart_iff.1 due
  refine ⟨State.settleFlash { s with aud := s.aud.startBuf i }, congrArg Host.Outcome.next ?_, onlyAudio_settleFlash s _,
    settleFlash_aud _, ?_⟩
  · cases i with
    | a => exact if_pos due
    | b => exact (if_neg (Bool.eq_false_iff.1 (first rfl))).trans (if_pos due)
  · rw [settleFlash_aud]
    exact Aud.startBuf_starts stands (fun _ => rfl) rfl

theorem exec_clipStartWhenReady_of {s : State} {i : BufId} (due : s.aud.readyToStart i = true)
    (first : i = .b → s.aud.readyToStart .a = false) :
    ∃ t, exec .clipStartWhenReady s = .next t ∧ s.OnlyAudio t ∧ s.aud.startsBuf t.aud i
      ∧ (t.aud.buf i.other).any (·.playing) = false ∧ t.aud.gapLeft = none := by
  obtain ⟨st, stands, _⟩ := Aud.readyToStart_iff.1 due
  have buf (j : BufId) : ({ s.aud.startBuf i with gapLeft := none } : Aud).buf j = (s.aud.startBuf i).buf j := by
    cases j <;> rfl
  refine ⟨State.settleFlash { s with aud := { s.aud.startBuf i with gapLeft := none } }, congrArg Host.Outcome.next ?_,
    onlyAudio_settleFlash s _, ?_, ?_, ?_⟩
  · cases i with
    | a => exact if_pos due
    | b => exact (if_neg (Bool.eq_false_iff.1 (first rfl))).trans (if_pos due)
  · rw [settleFlash_aud]
    exact Aud.startBuf_starts stands buf rfl
  · rw [settleFlash_aud]
    rw [seek_any_playing, buf]
    exact Aud.startBuf_other_quiet s.aud i
  · rw [settleFlash_aud]
    exact (seek_parts _).2.2.2.2.2.1

theorem exec_clipEnd_of {s : State} {i : BufId} {st : Stream} (plays : s.aud.playing = some i)
    (stands : s.aud.buf i = some st) (done : st.clip.frames ≤ st.read) :
    exec .clipEnd s = .next (State.settleFlash { s with aud := s.aud.clipEnd i s.cfg.options }) := by
  refine congrArg Host.Outcome.next ?_
  rw [Aud.endedBuf_of plays stands done]

/-- Settles O21: each event is due as its rule says, starts or empties the buffer it names, and leaves all but AUD. -/
theorem buffersStartAndEnd : Obligations.BuffersStartAndEnd := by
  unfold Obligations.BuffersStartAndEnd
  refine ⟨fun a => ⟨fun _ => Aud.atStart_iff, fun _ => Aud.readyToStart_iff, Aud.muteOver_iff, Aud.fadeOver_iff,
    fun _ => Aud.playing_iff⟩, fun s => ⟨fun due => exec_showClipStart_of due nofun,
    fun other due => exec_showClipStart_of due fun _ => other, fun none => ?_, fun none => ?_, fun running => ?_,
    fun due => exec_clipStartWhenReady_of due nofun, fun other due => exec_clipStartWhenReady_of due fun _ => other,
    fun i st plays stands done => ?_, fun out => ?_⟩, fun s => ⟨fun due => ?_, fun out => ?_, fun due => ?_, fun out => ?_⟩⟩
  · exact congrArg Host.Outcome.next ((if_neg (Bool.eq_false_iff.1 (none .a))).trans (if_neg (Bool.eq_false_iff.1 (none .b))))
  · exact congrArg Host.Outcome.next ((if_neg (Bool.eq_false_iff.1 (none .a))).trans (if_neg (Bool.eq_false_iff.1 (none .b))))
  · exact congrArg Host.Outcome.next (if_neg running)
  · refine ⟨_, exec_clipEnd_of plays stands done, onlyAudio_settleFlash s _, fun clip => ?_, fun ann => ?_⟩
    · rw [settleFlash_aud, Aud.clipEnd_of_clip stands clip]
      exact ⟨seek_none (Aud.discard_buf_same _ i), (seek_parts _).2.2.2.2.2.1.trans (Aud.discard_parts _ i).1⟩
    · rw [settleFlash_aud, Aud.clipEnd_of_announcement stands ann]
      refine ⟨(seek_parts _).2.2.2.2.2.1.trans (giveAnnouncement_parts _ _).2.2.2.2.2.1, fun e => ?_⟩
      subst e
      exact announces_of_given rfl
  · exact congrArg Host.Outcome.next (if_pos out)
  · have ends : exec .muteComplete s = .next (State.settleFlash { s with aud := s.aud.muteDone s.cfg.options }) :=
      congrArg Host.Outcome.next (if_pos due)
    refine ⟨_, ends, onlyAudio_settleFlash s _, ?_⟩
    rw [settleFlash_aud]
    obtain ⟨m, target, muting, fade, bufB, ann⟩ := muteDone_done s.aud s.cfg.options
    exact ⟨m, target, muting, fade, bufB, ann⟩
  · exact congrArg Host.Outcome.next (if_neg (Bool.eq_false_iff.1 out))
  · have ends : exec .stopFadeEnd s = .next (State.settleFlash { s with aud := s.aud.discardPlaying }) :=
      congrArg Host.Outcome.next (if_pos due)
    refine ⟨_, ends, onlyAudio_settleFlash s _, ?_⟩
    rw [settleFlash_aud]
    exact ⟨(seek_parts _).2.2.2.1.trans (Aud.discardPlaying_stopFade _), fun i plays => seek_none (Aud.discardPlaying_buf plays)⟩
  · exact congrArg Host.Outcome.next (if_neg (Bool.eq_false_iff.1 out))

end Sys2Proof.Machine
end

section
/-! One audio frame and the end of the underrun window (R44 to R46, R52, R55, R57 to R59, R61, R62, R64). -/

namespace Sys2Proof.Machine

open State

/-! ## The end of the underrun window -/

/-- The AUDIO channel takes new values: the change is reported, and "audio degraded" set where it turns INVALID (R144). -/
theorem moveChannel_audio (s : State) (c : Channel) : ∃ l f, s.moveChannel 26 c =
    { s with lif := l, flags := f, sup := { s.sup with channels := s.sup.channels.set 26 c } } := by
  by_cases same : c.valid = (s.sup.channels.get 26).valid
  · exact ⟨_, _, moveChannel_same same⟩
  · rw [moveChannel_turned same]
    exact ⟨_, _, rfl⟩

theorem moveChannel_audio_lost {s : State} {c : Channel} (before : (s.sup.channels.get 26).valid = true)
    (lost : c.valid = false) : (s.moveChannel 26 c).flags.has .audioDegraded = true := by
  rw [moveChannel_turned (by rw [before, lost]; exact Bool.noConfusion)]
  have flagged (u : State) (b : LevelState) (h : (u.sup.channels.get 26).valid = false) :
      u.validityActs 26 b = u.flagIf true .audioDegraded := by
    unfold State.validityActs
    rw [h]
    rfl
  rw [flagged _ _ (by rw [report_sup, withChannel_get]; exact lost)]
  exact raise_has (State.flags _) .audioDegraded

/-- A flag of the SITE bank that is set stays set when the site is judged. -/
theorem settleSite_keeps {s : State} {f : Flag} (site : f.bank = .site) (h : s.flags.has f = true) :
    s.settleSite.flags.has f = true := by
  rw [settleSite_has s f site, h, Bool.true_or]

/-- AUD with the window handed over. -/
def Aud.newWindow (a : Aud) : Aud := { a with winFrames := 0, winUnderruns := 0, winNote := false }

theorem exec_audioWindowEnd_noted {s : State} (full : 4800 ≤ s.aud.winFrames) (noted : s.aud.winNote = true) :
    exec .audioWindowEnd s = .next (State.evaluate { s with aud := s.aud.newWindow } 26
      (if 0 < s.aud.winUnderruns then .error else .good)).settleSite.kick :=
  congrArg Host.Outcome.next ((if_pos full).trans (if_pos noted))

theorem exec_audioWindowEnd_unnoted {s : State} (full : 4800 ≤ s.aud.winFrames) (noted : s.aud.winNote = false) :
    exec .audioWindowEnd s = .next { s with aud := s.aud.newWindow } :=
  congrArg Host.Outcome.next ((if_pos full).trans (if_neg (Bool.eq_false_iff.1 noted)))

theorem exec_audioFrame (s : State) : ∃ n, exec .audioFrame s = .next (State.settleFlash
    { s with aud := s.aud.frame s.cfg (Config.countAfterMax s.fresh), fresh := n }) := ⟨_, rfl⟩

/-! ## One audio frame -/

namespace Aud

variable (a : Aud)

/-- A frame is taken from the buffers; nothing else of AUD moves. -/
theorem take_eq : a.take.2 = { a with
    bufA := a.take.2.bufA, bufB := a.take.2.bufB, rundown := a.take.2.rundown, winNote := a.take.2.winNote,
    winUnderruns := a.take.2.winUnderruns } := by
  unfold take
  split
  · rfl
  next i _ =>
    split
    · rfl
    · split
      · split <;> rfl
      · split
        · rfl
        · cases i <;> rfl

variable {a} {i : BufId} {st : Stream}

/-- The PLAYING buffer gives up the frame at its read position (R52, R55). -/
theorem take_consumes (plays : a.playing = some i) (stands : a.buf i = some st) (run : a.rundown = none)
    (more : st.read < st.clip.frames) : a.take.2 =
      { a.setBuf i (some { st with read := st.read + 1, held := st.held.tail }) with
        winNote := true
        winUnderruns := a.winUnderruns + (if (st.held.head?.bind HeldFrame.samples).isSome then 0 else 1) } := by
  unfold take
  rw [plays]
  dsimp only
  rw [stands]
  dsimp only
  rw [run]
  dsimp only
  rw [if_neg (by omega)]

/-- A rundown takes none from the buffer and goes on while m is above 0 (R55). -/
theorem take_runs_down {p : Nat} (plays : a.playing = some i) (stands : a.buf i = some st) (run : a.rundown = some p) :
    a.take.2 = { a with rundown := some (if a.m = 0 then p else p + 1) } := by
  unfold take
  rw [plays]
  dsimp only
  rw [stands]
  dsimp only
  rw [run]
  dsimp only
  split
  · rw [← run]
  · rfl

/-- AUD once the frame's samples are out, before it is counted. -/
def mixed (a : Aud) (cfg : Settings) : Aud := a.ramp.take.2.emit fun z => mix cfg z a.ramp.factor a.ramp.take.1

theorem mixed_parts (a : Aud) (cfg : Settings) : (a.mixed cfg).m = a.ramp.m ∧ (a.mixed cfg).base = a.base
    ∧ (a.mixed cfg).count = a.count ∧ (a.mixed cfg).counting = a.counting ∧ (a.mixed cfg).msDue = a.msDue
    ∧ (a.mixed cfg).stopFade = a.stopFade ∧ (a.mixed cfg).gapLeft = a.gapLeft ∧ (a.mixed cfg).winFrames = a.winFrames :=
  have e := a.ramp.take_eq
  ⟨(congrArg Aud.m e :), (congrArg Aud.base e :), (congrArg Aud.count e :), (congrArg Aud.counting e :),
    (congrArg Aud.msDue e :), (congrArg Aud.stopFade e :), (congrArg Aud.gapLeft e :), (congrArg Aud.winFrames e :)⟩

theorem mixed_lines (a : Aud) (cfg : Settings) :
    (a.mixed cfg).out = (Table.ofFn fun z => lineOut (a.lines.get z) (mix cfg z a.ramp.factor a.ramp.take.1))
    ∧ (a.mixed cfg).lines = (Table.ofFn fun z => lineNext (a.lines.get z) (mix cfg z a.ramp.factor a.ramp.take.1)) := by
  have lines : a.ramp.take.2.lines = a.lines := (congrArg Aud.lines a.ramp.take_eq :)
  unfold mixed emit
  rw [lines]
  exact ⟨rfl, rfl⟩

/-- Counting a frame moves the count, the due millisecond and the stop fade alone (R45, R46). -/
theorem countFrame_eq (a : Aud) (n : Nat) : a.countFrame n = { a with
    count := (a.countFrame n).count, msDue := (a.countFrame n).msDue, stopFade := (a.countFrame n).stopFade } := by
  unfold countFrame
  split <;> rfl

theorem countFrame_off (off : a.counting = false) (n : Nat) : a.countFrame n = a := if_neg (Bool.eq_false_iff.1 off)

theorem countFrame_fade (on : a.counting = true) (n : Nat) :
    (a.countFrame n).stopFade = a.stopFade.map fun f => { f with j := f.j + 1 } := by
  unfold countFrame
  rw [if_pos on]

theorem countFrame_below (on : a.counting = true) (below : a.count < 4294967295) (n : Nat) :
    (a.countFrame n).count = a.count + 1
      ∧ (a.countFrame n).msDue = (a.msDue || decide ((a.count + 1) % 48 = 0)) := by
  unfold countFrame countMax
  rw [if_pos on]
  dsimp only
  rw [if_pos below]
  exact ⟨rfl, rfl⟩

/-- An audio frame: it is mixed and counted, and the gap and the window move on (R44, R62, R64). -/
theorem frame_eq (a : Aud) (cfg : Settings) (n : Nat) : a.frame cfg n = { (a.mixed cfg).countFrame n with
    gapLeft := ((a.mixed cfg).countFrame n).gapLeft.map fun n => n - 1
    winFrames := ((a.mixed cfg).countFrame n).winFrames + 1 } := rfl

/-- What an audio frame moves, by what it takes from the buffers (R44, R58, R61, R62, R64). -/
theorem frame_parts (a : Aud) (cfg : Settings) (n : Nat) : (a.frame cfg n).m = a.ramp.m
    ∧ (a.frame cfg n).out = (a.mixed cfg).out ∧ (a.frame cfg n).lines = (a.mixed cfg).lines
    ∧ (a.frame cfg n).base = a.base ∧ (a.frame cfg n).winFrames = a.winFrames + 1
    ∧ (a.frame cfg n).gapLeft = a.gapLeft.map (fun n => n - 1) := by
  obtain ⟨m, base, _, _, _, _, gap, frames⟩ := mixed_parts a cfg
  rw [frame_eq, countFrame_eq, ← gap, ← frames, ← m, ← base]
  exact ⟨rfl, rfl, rfl, rfl, rfl, rfl⟩

/-- What an audio frame leaves of the buffers and the window is what taking the frame leaves. -/
theorem frame_taken (a : Aud) (cfg : Settings) (n : Nat) : (∀ i, (a.frame cfg n).buf i = a.ramp.take.2.buf i)
    ∧ (a.frame cfg n).rundown = a.ramp.take.2.rundown ∧ (a.frame cfg n).winNote = a.ramp.take.2.winNote
    ∧ (a.frame cfg n).winUnderruns = a.ramp.take.2.winUnderruns := by
  rw [frame_eq, countFrame_eq]
  exact ⟨fun i => by cases i <;> rfl, rfl, rfl, rfl⟩

/-- What an audio frame leaves of the clock (R45, R46, R59). -/
theorem frame_clock (a : Aud) (cfg : Settings) (n : Nat) :
    (a.counting = false → (a.frame cfg n).count = a.count ∧ (a.frame cfg n).msDue = a.msDue
        ∧ (a.frame cfg n).stopFade = a.stopFade)
    ∧ (a.counting = true → a.count < 4294967295 → (a.frame cfg n).count = a.count + 1
        ∧ (a.frame cfg n).msDue = (a.msDue || decide ((a.count + 1) % 48 = 0)))
    ∧ (a.counting = true → (a.frame cfg n).stopFade = a.stopFade.map fun f => { f with j := f.j + 1 }) := by
  obtain ⟨_, _, count, counting, due, fade, _⟩ := mixed_parts a cfg
  rw [frame_eq]
  refine ⟨fun off => ?_, fun on below => ?_, fun on => ?_⟩
  · rw [← counting] at off
    rw [countFrame_off off]
    exact ⟨count, due, fade⟩
  · rw [← counting] at on
    rw [← count] at below ⊢
    rw [← due]
    exact countFrame_below on below n
  · rw [← counting] at on
    rw [← fade]
    exact countFrame_fade on n

theorem lineNext_of_ne {l : List Int} (h : l ≠ []) (x : Int) : lineNext l x = l.tail ++ [x] := by
  cases l with
  | nil => exact absurd rfl h
  | cons => rfl

/-- The samples of a frame are there exactly where it is a good one. -/
theorem samples_isSome_iff {o : Option HeldFrame} : (o.bind HeldFrame.samples).isSome = true ↔ ∃ l r, o = some (.good l r) := by
  match o with
  | none => simp
  | some .failed => simp [HeldFrame.samples]
  | some (.good l r) => simp [HeldFrame.samples]

/-- The samples that a held frame gives to the mixer, however its two cases are told apart. -/
theorem samples_of (give : Stream → Option HeldFrame → Option (Int × Int × Stream))
    (good : ∀ st l r, give st (some (.good l r)) = some (l.toInt, r.toInt, st))
    (silent : ∀ st, give st none = none ∧ give st (some .failed) = none) (o : Option HeldFrame) (st : Stream) :
    (o.bind HeldFrame.samples).map (fun x => (x.1, x.2, st)) = give st o := by
  match o with
  | none => exact (silent st).1.symm
  | some .failed => exact (silent st).2.symm
  | some (.good l r) => exact (good st l r).symm

/-- What seeking leaves of AUD, but for what its buffers fetch. -/
theorem seek_frame (a : Aud) : a.seek.out = a.out ∧ a.seek.lines = a.lines ∧ a.seek.base = a.base
    ∧ a.seek.msDue = a.msDue ∧ a.seek.winFrames = a.winFrames ∧ a.seek.winNote = a.winNote
    ∧ a.seek.winUnderruns = a.winUnderruns :=
  have e := a.seek_eq
  ⟨(congrArg Aud.out e :), (congrArg Aud.lines e :), (congrArg Aud.base e :), (congrArg Aud.msDue e :),
    (congrArg Aud.winFrames e :), (congrArg Aud.winNote e :), (congrArg Aud.winUnderruns e :)⟩

end Aud

/-- Settles O20: the window's evaluation is the AUDIO channel's, and a frame's parts are those of `Aud.frame`, which AUD's
next seek leaves. -/
theorem audioFrameMixesAndScoresItsWindow : Obligations.AudioFrameMixesAndScoresItsWindow := by
  unfold Obligations.AudioFrameMixesAndScoresItsWindow
  refine ⟨fun s full => ⟨exec_audioWindowEnd_unnoted full, fun noted => ⟨_, exec_audioWindowEnd_noted full noted, ?_⟩⟩,
    fun s => ?_⟩
  · obtain ⟨l, f, e⟩ := moveChannel_audio { s with aud := s.aud.newWindow }
      ((s.sup.channels.get 26).evaluated (s.cfg.counters.get 26) s.clock (if 0 < s.aud.winUnderruns then .error else .good))
    have lost := moveChannel_audio_lost (s := { s with aud := s.aud.newWindow })
      (c := (s.sup.channels.get 26).evaluated (s.cfg.counters.get 26) s.clock (if 0 < s.aud.winUnderruns then .error else .good))
    unfold State.evaluate
    refine ⟨?_, ?_, fun i other => ?_, fun before after => settleSite_keeps rfl (lost before ?_), ?_⟩
    · simp [e]; rfl
    · simp [e]
    · simp [e, Sys2Proof.Table.get_set_ne, other.symm]
    · simpa using after
    · simp [e]
  · intro m factor sample frame
    obtain ⟨n, next⟩ := exec_audioFrame s
    obtain ⟨fm, fout, flines, fbase, fframes, fgap⟩ := Aud.frame_parts s.aud s.cfg (Config.countAfterMax s.fresh)
    obtain ⟨fbuf, frun, fnote, funder⟩ := Aud.frame_taken s.aud s.cfg (Config.countAfterMax s.fresh)
    obtain ⟨coff, con, cfade⟩ := Aud.frame_clock s.aud s.cfg (Config.countAfterMax s.fresh)
    obtain ⟨mout, mlines⟩ := Aud.mixed_lines s.aud s.cfg
    generalize s.aud.frame s.cfg (Config.countAfterMax s.fresh) = b at *
    obtain ⟨sm, _, _, sfade, srun, sgap, scount, _, _⟩ := seek_parts b
    obtain ⟨sout, slines, sbase, sdue, sframes, snote, sunder⟩ := Aud.seek_frame b
    have played : s.aud.ramp.take.1 = frame := by
      have same (i : BufId) : s.aud.ramp.buf i = s.aud.buf i := by cases i <;> rfl
      unfold Aud.take
      rw [show s.aud.ramp.playing = s.aud.playing from rfl]
      cases plays : s.aud.playing with
      | none => simp [frame, plays]
      | some i =>
        dsimp only
        rw [same]
        cases stands : s.aud.buf i with
        | none => simp [frame, plays, stands]
        | some st =>
          simp only [frame, plays, Option.bind_some, stands]
          rw [show s.aud.ramp.rundown = s.aud.rundown from rfl]
          cases s.aud.rundown with
          | none =>
            dsimp only
            split
            · rfl
            · exact Aud.samples_of sample (fun _ _ _ => rfl) (fun _ => ⟨rfl, rfl⟩) _ st
          | some p =>
            rw [apply_ite Prod.fst]
            exact if_congr Iff.rfl rfl (Aud.samples_of sample (fun _ _ _ => rfl) (fun _ => ⟨rfl, rfl⟩) _ st)
    have gain : s.aud.ramp.factor = factor := by
      unfold Aud.factor
      rw [show s.aud.ramp.stopFade = s.aud.stopFade from rfl]
      cases h : s.aud.stopFade <;> simp [factor, h] <;> rfl
    rw [played, gain] at mout mlines
    refine ⟨_, next, ?_, ?_⟩
    · refine ⟨?_, ?_, ?_, ?_, ?_, ?_, ?_, ?_, ?_⟩ <;> simp
    rw [settleFlash_aud]
    refine ⟨sm.trans fm, fun z => ?_, fun z line => ?_, fun off => ?_, fun on below => ?_, fun on => sfade.trans (cfade on),
      sbase.trans fbase, sframes.trans fframes, fun none => ?_, fun n some => ?_, ?_, ?_⟩
    · rw [sout, fout, mout, Sys2Proof.Table.get_ofFn]
      exact List.headD_eq_head?_getD
    · rw [slines, flines, mlines, Sys2Proof.Table.get_ofFn, Aud.lineNext_of_ne line]
    · obtain ⟨count, due, fade⟩ := coff off
      exact ⟨scount.trans count, sdue.trans due, sfade.trans fade⟩
    · obtain ⟨count, due⟩ := con on below
      exact ⟨scount.trans count, sdue.trans due⟩
    · rw [sgap, fgap, none]; rfl
    · rw [sgap, fgap, some]; rfl
    · intro i st plays stands run more
      have taken := Aud.take_consumes (a := s.aud.ramp) (i := i) (st := st) plays (by cases i <;> exact stands) run more
      rw [taken] at fbuf frun fnote funder
      obtain ⟨k, hk⟩ := Aud.seek_some (a := b) (i := i) ((fbuf i).trans (by cases i <;> rfl))
      refine ⟨⟨_, hk, rfl, rfl, rfl⟩, srun.trans (frun.trans (by cases i <;> exact run)), snote.trans fnote, fun l r good => ?_,
        fun bad => ?_⟩
      · rw [sunder, funder, Aud.samples_isSome_iff.2 ⟨l, r, good⟩]
        rfl
      · rw [sunder, funder, if_neg fun some => ?_]
        · rfl
        · obtain ⟨l, r, good⟩ := Aud.samples_isSome_iff.1 some
          exact bad l r good
    · intro i st p plays stands run
      have taken := Aud.take_runs_down (a := s.aud.ramp) (i := i) (st := st) plays (by cases i <;> exact stands) run
      rw [taken] at fbuf frun fnote funder
      obtain ⟨k, hk⟩ := Aud.seek_some (a := b) (i := i) (st := st) ((fbuf i).trans (by cases i <;> exact stands))
      exact ⟨⟨_, hk, rfl, rfl, rfl⟩, srun.trans frun, snote.trans fnote, sunder.trans funder⟩

end Sys2Proof.Machine
end

section
/-! A poll: the setpoint computation of its group, the interlock at the poll, and the frame sent (R76 to R84, R88 to R96, R106). -/

namespace Sys2Proof.Machine

open State

/-! ## The computation of a poll -/

/-- The computation's effect before it is reported: the demand post, and the polled group. -/
def State.polled (s : State) (g : Fin 24) (i : Interlock) : State :=
  let t := s.postDemand g (demandSpeed i ((s.groupRecord g).speedAt (s.stage3 g)))
  t.withGroup g (s.polledGroup g i t.fda.k)

/-- The water scale that a poll's computation reads. -/
def State.polledScale (s : State) (g : Fin 24) (i : Interlock) : Nat :=
  (s.postDemand g (demandSpeed i ((s.groupRecord g).speedAt (s.stage3 g)))).fda.k

theorem polled_get (s : State) (g : Fin 24) (i : Interlock) :
    (s.polled g i).groups.get g = s.polledGroup g i (s.polledScale g i) :=
  Sys2Proof.Table.get_set_self _ _ _

theorem polled_get_other (s : State) {g h : Fin 24} (ne : h ≠ g) (i : Interlock) :
    (s.polled g i).groups.get h = s.groups.get h := by
  unfold State.polled State.withGroup
  rw [Sys2Proof.Table.get_set_ne _ _ ne.symm, postDemand_groups]

/-- The state that a poll takes its group to. -/
def State.pollInto (s : State) (g : Fin 24) (i : Interlock) (k : Nat) : Interlock :=
  i.atPoll (s.polledGroup g i k).figs.sp
    (rampTo (s.groups.get g).c0 (s.polledGroup g i k).figs.sp (s.groupRecord g).upStep
      (if s.emergency then emergencyStep else (s.groupRecord g).downStep))
    (s.groupRecord g).closeSpeed s.mayOpen

theorem polledGroup_interlock (s : State) (g : Fin 24) (i : Interlock) (k : Nat) :
    (s.polledGroup g i k).interlock = some (s.pollInto g i k) := rfl

/-- A poll changes the state of a group into one that moves (R92, R94). -/
theorem atPoll_up {i : Interlock} {target c closeSpeed : Nat} {may : Bool} (h : i.atPoll target c closeSpeed may ≠ i) :
    (i.atPoll target c closeSpeed may).down = false := by
  cases i with
  | shut => unfold Interlock.atPoll at *; dsimp only at *; split <;> simp_all [Interlock.down]
  | running => unfold Interlock.atPoll at *; dsimp only at *; split <;> rfl
  | opening | closing | fault | lost => exact absurd rfl h

theorem sayGroup_eq {u : State} {g : Fin 24} {j : Interlock} (h : (u.groups.get g).interlock = some j)
    (left : Option Interlock) (code : Option Byte) : u.sayGroup g left code =
      u.report (.groupState g left j (u.groups.get g).cause (u.groups.get g).starved (u.groups.get g).sent
        (u.groups.get g).actual code) := by
  unfold State.sayGroup
  rw [h]

/-- Whether the computation reports its group: its state or its budget-starved has changed (R88). -/
def State.pollTells (s : State) (g : Fin 24) (i : Interlock) : Prop :=
  s.pollInto g i (s.polledScale g i) ≠ i ∨ (s.polledGroup g i (s.polledScale g i)).starved ≠ (s.groups.get g).starved

/-- The computation of a poll writes its group and posts its demand; a change is reported, and is offered in vain (R76, R81,
R88, R90). -/
theorem computePoll_cases {s : State} {g : Fin 24} {i : Interlock} (hi : (s.groups.get g).interlock = some i) :
    (s.pollTells g i → s.computePoll g = (s.polled g i).sayGroup g (some i) none)
      ∧ (¬s.pollTells g i → s.computePoll g = s.polled g i) := by
  have whole : s.computePoll g =
      (let v := if (s.polledGroup g i (s.polledScale g i)).interlock ≠ some i
          ∨ (s.polledGroup g i (s.polledScale g i)).starved ≠ (s.groups.get g).starved
        then (s.polled g i).sayGroup g (some i) none else s.polled g i
      if (s.polledGroup g i (s.polledScale g i)).interlock ≠ some i then v.offerChange else v) := by
    unfold State.computePoll
    dsimp only
    rw [hi] <;> rfl
  have differs : (s.polledGroup g i (s.polledScale g i)).interlock ≠ some i ↔ s.pollInto g i (s.polledScale g i) ≠ i := by
    rw [polledGroup_interlock, ne_eq, Option.some.injEq]
  rw [whole]
  dsimp only
  simp only [differs]
  have vain (u : State) (groups : u.groups = (s.polled g i).groups) (h : s.pollInto g i (s.polledScale g i) ≠ i) :
      u.offerChange = u := by
    refine offerChange_up (groupsDown_of_moving (g := g) (i := s.pollInto g i (s.polledScale g i)) ?_ (atPoll_up h))
    rw [groups, polled_get, polledGroup_interlock]
  refine ⟨fun tells => ?_, fun quiet => ?_⟩
  · rw [if_pos (show s.pollInto g i (s.polledScale g i) ≠ i ∨ _ from tells)]
    split
    next h => exact vain _ (by simp) h
    · rfl
  · rw [if_neg (show ¬(s.pollInto g i (s.polledScale g i) ≠ i ∨ _) from quiet), if_neg fun h => quiet (.inl h)]

/-- Beside the link, the computation of a poll leaves what `polled` does. -/
theorem computePoll_polled {s : State} {g : Fin 24} {i : Interlock} (hi : (s.groups.get g).interlock = some i) :
    ∃ l f, s.computePoll g = { s.polled g i with lif := l, flags := f } := by
  obtain ⟨tells, quiet⟩ := computePoll_cases hi
  by_cases h : s.pollTells g i
  · rw [tells h, sayGroup_eq (by rw [polled_get]; exact polledGroup_interlock ..)]
    exact ⟨_, _, rfl⟩
  · rw [quiet h]
    exact ⟨_, _, rfl⟩

/-- What FDA holds after the computation: the demand posted, and the scale recomputed where it differs (R81, R118). -/
theorem polled_fda (s : State) (g : Fin 24) (i : Interlock) : (s.polled g i).fda =
    (s.postDemand g (demandSpeed i ((s.groupRecord g).speedAt (s.stage3 g)))).fda := rfl

theorem demandSpeed_eq (i : Interlock) (v : Nat) : demandSpeed i v = if i = .fault ∨ i = .lost then 0 else v := by
  cases i <;> rfl

/-- FDA after a demand post, by whether the demand differs from the one held (R118). -/
theorem postDemand_scale (s : State) (g : Fin 24) (v : Nat) :
    ((s.postDemand g v).fda.demand.get g ≠ s.fda.demand.get g →
      (s.postDemand g v).fda.k = waterScale (s.postDemand g v).loads (s.postDemand g v).fda.allowance
        ∧ (s.postDemand g v).fda = { s.fda with demand := (s.postDemand g v).fda.demand, k := (s.postDemand g v).fda.k })
    ∧ ((s.postDemand g v).fda.demand.get g = s.fda.demand.get g → (s.postDemand g v).fda = s.fda) := by
  obtain ⟨same, other⟩ := State.postDemand_fda s g v
  rw [postDemand_get]
  exact ⟨fun h => ⟨(other h.symm).2.2, postDemand_reposted s g v⟩, fun h => by rw [same h.symm]⟩

/-- DBM after a poll has gone out: the poll in progress, its sequence number and its frame (R106). -/
theorem sendPoll_dbm (s : State) (e : Due) (rest : List Due) (quiet : Nat) : (s.sendPoll e rest quiet).dbm = { s.dbm with
    schedule := rest
    poll := some ⟨e, s.dbm.seqs.get (addressIndex e.address), quiet⟩
    seqs := s.dbm.seqs.set (addressIndex e.address) (s.dbm.seqs.get (addressIndex e.address) + 1)
    busOut := pollFrame e.address (s.dbm.seqs.get (addressIndex e.address))
      ((s.sendPoll e rest quiet).groups.get e.group).sent ((s.sendPoll e rest quiet).groups.get e.group).valve
      (s.sendPoll e rest quiet).sup.permit } := by
  unfold State.sendPoll
  dsimp only
  rw [computePoll_dbm]

/-- Settles O24: with the line quiet in time the poll's computation runs for the head of the schedule and its frame goes out. -/
theorem pollComputesAndSends : Obligations.PollComputesAndSends := by
  unfold Obligations.PollComputesAndSends
  intro s e rest quiet i none sched hi
  refine ⟨fun late => ?_, fun inTime => ⟨_, exec_pollSent none sched inTime, ?_⟩⟩
  · have out : ¬quiet ≤ quietMaxUs := by unfold quietMaxUs; omega
    simp [exec, execPollSent, none, sched, out]
  · obtain ⟨l, f, whole⟩ := computePoll_polled hi
    have fda : (s.sendPoll e rest quiet).settle.fda =
        (s.postDemand e.group (demandSpeed i ((s.groupRecord e.group).speedAt (s.stage3 e.group)))).fda := by
      rw [settle_fda]
      unfold State.sendPoll
      rw [whole]
      rfl
    have groups : (s.sendPoll e rest quiet).settle.groups = (s.polled e.group i).groups := by
      rw [settle_groups, sendPoll_groups, whole]
    have loads (u : State) (cfg : u.cfg = s.cfg) (same : u.fda = (s.sendPoll e rest quiet).settle.fda) :
        (s.sendPoll e rest quiet).settle.loads = u.loads := loads_congr (by simp [cfg]) (by rw [same])
    obtain ⟨moved, stood⟩ := postDemand_scale s e.group (demandSpeed i ((s.groupRecord e.group).speedAt (s.stage3 e.group)))
    refine ⟨?_, fun h other => ?_, fun h other => ?_, by simp, by simp, by simp, by simp⟩
    · intro speed x seq
      have xs : x = s.polledGroup e.group i (s.polledScale e.group i) := by
        rw [← polled_get, ← groups]
      have k : (s.sendPoll e rest quiet).settle.fda.k = s.polledScale e.group i := by rw [fda]; rfl
      rw [k]
      refine ⟨by rw [xs]; rfl, by rw [xs]; rfl, by rw [xs]; rfl, by rw [xs]; rfl, by rw [xs]; rfl, by rw [xs]; rfl,
        by rw [xs]; rfl, ?_, fun differs => ?_, fun same => ?_, ?_⟩
      · rw [fda, postDemand_get, demandSpeed_eq]
      · rw [← k, loads (s.postDemand e.group (demandSpeed i speed)) (by simp) fda.symm]
        rw [fda] at differs ⊢
        exact moved differs
      · rw [fda] at same ⊢
        exact stood same
      · rw [settle_dbm, settle_permit, sendPoll_dbm, ← settle_groups (s.sendPoll e rest quiet)]
    · rw [groups]
      exact polled_get_other s other i
    · rw [fda]
      exact postDemand_get_other s other _

/-! ## The interlock at a poll -/

section
variable (s : State) (g : Fin 24) (k : Nat)

theorem mayOpen_iff : s.mayOpen = true ↔ s.sup.mode ≠ .tripped ∧ s.sup.permit = true ∧ s.lif.halted = false := by
  unfold State.mayOpen State.isTripped
  simp [and_assoc]

theorem emergency_iff : s.emergency = true ↔ s.sup.mode = .tripped ∨ s.lif.halted = true := by
  unfold State.emergency State.isTripped
  simp

/-- SHUT opens with a target, where the site lets it (R92). -/
theorem polledGroup_opens (h : 0 < (s.polledGroup g .shut k).figs.sp) (may : s.mayOpen = true) :
    (s.polledGroup g .shut k).interlock = some .opening ∧ (s.polledGroup g .shut k).valve = .openUp
      ∧ (s.polledGroup g .shut k).stroke = some ⟨s.clock, (s.groupRecord g).stroke⟩ := by
  have into : s.pollInto g .shut k = .opening := if_pos ⟨h, may⟩
  refine ⟨congrArg some into, ?_, ?_⟩
  · exact congrArg (pollValve · s.emergency) into
  · exact (congrArg (fun j => if j = .shut then (s.groups.get g).stroke else j.timer s.clock (s.groupRecord g).stroke) into :)

theorem polledGroup_shut (h : ¬(0 < (s.polledGroup g .shut k).figs.sp ∧ s.mayOpen = true)) :
    (s.polledGroup g .shut k).interlock = some .shut ∧ (s.polledGroup g .shut k).valve = .close := by
  have into : s.pollInto g .shut k = .shut := if_neg h
  exact ⟨congrArg some into, congrArg (pollValve · s.emergency) into⟩

/-- RUNNING closes at a target of 0, once the command is down to the close speed (R94). -/
theorem polledGroup_closes (h : (s.polledGroup g .running k).figs.sp = 0)
    (slow : (s.polledGroup g .running k).sent ≤ (s.groupRecord g).closeSpeed) :
    (s.polledGroup g .running k).interlock = some .closing ∧ (s.polledGroup g .running k).valve = .close
      ∧ (s.polledGroup g .running k).stroke = some ⟨s.clock, (s.groupRecord g).stroke⟩ := by
  rw [polledGroup_sent_running] at slow
  have into : s.pollInto g .running k = .closing := if_pos ⟨h, slow⟩
  refine ⟨congrArg some into, ?_, ?_⟩
  · exact congrArg (pollValve · s.emergency) into
  · exact (congrArg (fun j => if j = .running then (s.groups.get g).stroke else j.timer s.clock (s.groupRecord g).stroke) into :)

theorem polledGroup_runs (h : ¬((s.polledGroup g .running k).figs.sp = 0
      ∧ (s.polledGroup g .running k).sent ≤ (s.groupRecord g).closeSpeed)) :
    (s.polledGroup g .running k).interlock = some .running
      ∧ (s.polledGroup g .running k).valve = if s.emergency then .hold else .openUp := by
  rw [polledGroup_sent_running] at h
  have into : s.pollInto g .running k = .running := if_neg h
  exact ⟨congrArg some into, congrArg (pollValve · s.emergency) into⟩

/-- The ramp rises by no more than the up step (R83). -/
theorem rampTo_le (c0 target up down : Nat) : rampTo c0 target up down ≤ c0 + up := by
  unfold rampTo
  split
  · omega
  · split <;> omega

/-- A command above the up step is never sent, in whatever state (R83, R90, R95). -/
theorem polledGroup_sent_le (i : Interlock) :
    (s.polledGroup g i k).sent ≤ (s.groups.get g).c0 + max 1 ((s.groupRecord g).rampUp / 20) := by
  by_cases running : i = .running
  · subst running
    rw [polledGroup_sent_running]
    exact rampTo_le ..
  · by_cases closing : i = .closing
    · subst closing
      rw [polledGroup_sent_closing]
      omega
    · rw [polledGroup_sent_other s g k running closing]
      omega

/-- The pump turns in RUNNING and CLOSING alone, in CLOSING at no more than the close speed (R90, R94, R95). -/
theorem polledGroup_pump (i : Interlock) :
    (0 < (s.polledGroup g i k).sent → (s.polledGroup g i k).interlock = some .running
      ∨ (s.polledGroup g i k).interlock = some .closing)
    ∧ ((s.polledGroup g i k).interlock = some .closing → (s.polledGroup g i k).sent ≤ (s.groupRecord g).closeSpeed) := by
  cases i with
  | shut =>
    rw [polledGroup_sent_other s g k (by decide) (by decide)]
    exact ⟨fun h => absurd h (by omega), fun _ => Nat.zero_le _⟩
  | opening | fault | lost => exact ⟨fun h => absurd (show 0 < 0 from h) (by decide), nofun⟩
  | closing => exact ⟨fun _ => .inr rfl, fun _ => Nat.min_le_right _ _⟩
  | running =>
    by_cases h : (s.polledGroup g .running k).figs.sp = 0
        ∧ (s.polledGroup g .running k).sent ≤ (s.groupRecord g).closeSpeed
    · exact ⟨fun _ => .inr (polledGroup_closes s g k h.1 h.2).1, fun _ => h.2⟩
    · refine ⟨fun _ => .inl (polledGroup_runs s g k h).1, fun closing => ?_⟩
      rw [(polledGroup_runs s g k h).1] at closing
      cases closing

/-- While the site is TRIPPED or the part halted no poll but that of a group already OPENING carries OPEN (R94, R100). -/
theorem polledGroup_emergency {i : Interlock} (emergency : s.emergency = true) (other : i ≠ .opening) :
    (s.polledGroup g i k).valve ≠ .openUp := by
  have barred : ¬s.mayOpen = true := fun may => by
    obtain ⟨live, _, runs⟩ := (mayOpen_iff s).1 may
    rcases (emergency_iff s).1 emergency with h | h
    · exact live h
    · rw [runs] at h
      cases h
  cases i with
  | opening => exact absurd rfl other
  | shut => rw [(polledGroup_shut s g k fun h => barred h.2).2]; decide
  | closing | fault | lost => exact nofun
  | running =>
    by_cases h : (s.polledGroup g .running k).figs.sp = 0
        ∧ (s.polledGroup g .running k).sent ≤ (s.groupRecord g).closeSpeed
    · rw [(polledGroup_closes s g k h.1 h.2).2.1]; decide
    · rw [(polledGroup_runs s g k h).2, if_pos emergency]; decide

end

/-- Settles O26: the polled group by its interlock state, and the one report of its change. -/
theorem pollMovesTheInterlock : Obligations.PollMovesTheInterlock := by
  unfold Obligations.PollMovesTheInterlock
  intro s e rest quiet i free sched hi inTime
  refine ⟨_, exec_pollSent free sched inTime, ?_⟩
  intro r x opens emergency
  obtain ⟨l, f, whole⟩ := computePoll_polled hi
  have xs : x = s.polledGroup e.group i (s.polledScale e.group i) := by
    rw [← polled_get]
    show (s.sendPoll e rest quiet).settle.groups.get e.group = _
    rw [settle_groups, sendPoll_groups, whole]
  have may : opens ↔ 0 < x.figs.sp ∧ s.mayOpen = true := by rw [mayOpen_iff]
  have alarm : emergency ↔ s.emergency = true := (emergency_iff s).symm
  have tells (j : Interlock) (into : x.interlock = some j) (changed : j ≠ i ∨ x.starved ≠ (s.groups.get e.group).starved) :
      s.says (s.sendPoll e rest quiet).settle 1 (.groupState e.group (some i) j x.cause x.starved x.sent
        ((x.reply.map (·.actual)).getD 0) none) := by
    rw [xs, polledGroup_interlock] at into
    cases into
    rw [xs] at changed
    have at' : ((s.polled e.group i).groups.get e.group).interlock = some (s.pollInto e.group i (s.polledScale e.group i)) := by
      rw [polled_get]
      exact polledGroup_interlock ..
    refine says_of_report (l := s.lif) (u := s.polled e.group i) rfl rfl
      (of_lif_eq_grows (by simp [State.polled, State.withGroup]) (.refl 0 _)) (Nat.zero_le 1) fun h => settle_carries ?_
    have sent : (s.sendPoll e rest quiet).lif = (s.computePoll e.group).lif := rfl
    rw [sent, (computePoll_cases hi).1 changed, sayGroup_eq at', polled_get, ← xs]
    exact h
  clear_value x
  subst xs
  rw [may, alarm]
  generalize s.polledScale e.group i = k at *
  refine ⟨?_, ?_, ?_, ?_, ?_, ?_, (polledGroup_pump s e.group k i).1, (polledGroup_pump s e.group k i).2, ?_,
    polledGroup_sent_le s e.group k i, fun h => ?_, fun h other => polledGroup_emergency s e.group k h other, tells⟩
  · rintro rfl ⟨target, open'⟩
    obtain ⟨into, valve, stroke⟩ := polledGroup_opens s e.group k target open'
    exact ⟨into, valve, polledGroup_sent_other s e.group k (by decide) (by decide), stroke⟩
  · rintro rfl stays
    obtain ⟨into, valve⟩ := polledGroup_shut s e.group k stays
    exact ⟨into, valve, polledGroup_sent_other s e.group k (by decide) (by decide)⟩
  · rintro rfl zero slow
    exact polledGroup_closes s e.group k zero slow
  · rintro rfl runs
    obtain ⟨into, valve⟩ := polledGroup_runs s e.group k runs
    exact ⟨into, fun h => by rw [valve, if_pos h], fun h => by rw [valve, if_neg h]⟩
  · rintro rfl
    exact ⟨rfl, rfl⟩
  · rintro (rfl | rfl | rfl) <;> exact ⟨rfl, rfl⟩
  · rintro rfl
    exact polledGroup_sent_closing s e.group k
  · exact (polledGroup_sent_le s e.group k i).trans (Nat.add_le_add_right h _)

end Sys2Proof.Machine
end

section
/-! The drive bus: the cycle's schedule and budget, the ends of polls, and jammed lines (R99, R103 to R110). -/

namespace Sys2Proof.Machine

open State

/-! ## What an interlock change leaves to the other groups -/

theorem postAtChange_other (s : State) {g h : Fin 24} (ne : h ≠ g) (left into : Interlock) :
    (s.postAtChange g left into).fda.demand.get h = s.fda.demand.get h := by
  unfold State.postAtChange
  split
  · rfl
  · exact postDemand_get_other s ne _

theorem changeInterlock_demand_other (s : State) {g h : Fin 24} (ne : h ≠ g) (left into : Interlock) (cause : FaultCause)
    (code : Option Byte) : (s.changeInterlock g left into cause code).fda.demand.get h = s.fda.demand.get h := by
  rw [changeInterlock_eq, offerChange_fda, postAtChange_other _ ne]
  rfl

/-- Between two states that both post S, or neither, the demand stands (R81). -/
theorem changeInterlock_demand_same (s : State) {g : Fin 24} {left into : Interlock} (same : left.barred = into.barred)
    (cause : FaultCause) (code : Option Byte) : (s.changeInterlock g left into cause code).fda = s.fda := by
  rw [changeInterlock_eq, offerChange_fda]
  unfold State.postAtChange
  rw [if_pos same]
  rfl

theorem changeInterlock_get_other (s : State) {g h : Fin 24} (ne : h ≠ g) (left into : Interlock) (cause : FaultCause)
    (code : Option Byte) : (s.changeInterlock g left into cause code).groups.get h = s.groups.get h := by
  rw [changeInterlock_groups, Sys2Proof.Table.get_set_ne _ _ ne.symm]

theorem changeInterlock_get (s : State) (g : Fin 24) (left into : Interlock) (cause : FaultCause) (code : Option Byte) :
    (s.changeInterlock g left into cause code).groups.get g = { s.groups.get g with
      interlock := some into, cause := cause, stroke := into.timer s.clock (s.groupRecord g).stroke
      c0 := c0AtChange left into (s.groups.get g).c0 } := by
  rw [changeInterlock_groups, Sys2Proof.Table.get_set_self]

/-! ## One drive's bad evaluation -/

theorem driveChannel_injective {g h : Fin 24} (e : driveChannel g = driveChannel h) : g = h := by
  have v := congrArg Fin.val e
  rw [driveChannel_val, driveChannel_val] at v
  exact Fin.ext (by omega)

theorem evaluate_get (s : State) (i : Fin 27) (e : Evaluation) : (s.evaluate i e).sup.channels.get i =
    (s.sup.channels.get i).evaluated (s.cfg.counters.get i) s.clock e := by
  unfold State.evaluate
  rw [moveChannel_channels, Sys2Proof.Table.get_set_self]

theorem evaluate_get_other (s : State) {i j : Fin 27} (ne : j ≠ i) (e : Evaluation) :
    (s.evaluate i e).sup.channels.get j = s.sup.channels.get j := by
  unfold State.evaluate
  rw [moveChannel_channels, Sys2Proof.Table.get_set_ne _ _ ne.symm]

/-- A drive's channel has been evaluated badly: where it turned INVALID the group is LOST, otherwise the group stands (R99). -/
structure State.Scored (s t : State) (g : Fin 24) (e : Evaluation) : Prop where
  channel : t.sup.channels.get (driveChannel g) =
    (s.sup.channels.get (driveChannel g)).evaluated (s.cfg.counters.get (driveChannel g)) s.clock e
  lost : (s.sup.channels.get (driveChannel g)).valid = true → (t.sup.channels.get (driveChannel g)).valid = false →
    ∀ i, (s.groups.get g).interlock = some i → i ≠ .lost →
      t.groups.get g = { s.groups.get g with interlock := some .lost, cause := .none, stroke := none }
        ∧ t.flags.has .groupLost = true ∧ (i ≠ .fault → t.fda.demand.get g = 0)
  stands : ¬((s.sup.channels.get (driveChannel g)).valid = true ∧ (t.sup.channels.get (driveChannel g)).valid = false)
      ∨ (s.groups.get g).interlock = none ∨ (s.groups.get g).interlock = some .lost →
    t.groups.get g = s.groups.get g ∧ t.fda.demand.get g = s.fda.demand.get g

/-- A drive that nothing has been done to. -/
structure State.Spared (s t : State) (g : Fin 24) : Prop where
  channel : t.sup.channels.get (driveChannel g) = s.sup.channels.get (driveChannel g)
  group : t.groups.get g = s.groups.get g
  demand : t.fda.demand.get g = s.fda.demand.get g

/-- What the evaluation of a drive keeps of the whole. -/
structure State.Bare (s t : State) : Prop where
  cfg : t.cfg = s.cfg
  clock : t.clock = s.clock
  lgt : t.lgt = s.lgt
  dbm : t.dbm = s.dbm
  pins : t.pins = s.pins
  flags : ∀ f, s.flags.has f = true → t.flags.has f = true

namespace State

variable {s t u v : State} {g h : Fin 24} {e : Evaluation}

theorem Bare.refl (s : State) : s.Bare s := ⟨rfl, rfl, rfl, rfl, rfl, fun _ h => h⟩

theorem Bare.trans (a : s.Bare u) (b : u.Bare v) : s.Bare v :=
  ⟨b.cfg.trans a.cfg, b.clock.trans a.clock, b.lgt.trans a.lgt, b.dbm.trans a.dbm, b.pins.trans a.pins,
    fun f h => b.flags f (a.flags f h)⟩

theorem Spared.refl (s : State) (g : Fin 24) : s.Spared s g := ⟨rfl, rfl, rfl⟩

theorem Spared.trans (a : s.Spared u g) (b : u.Spared v g) : s.Spared v g :=
  ⟨b.channel.trans a.channel, b.group.trans a.group, b.demand.trans a.demand⟩

theorem Scored.after (a : s.Spared u g) (bare : s.Bare u) (b : u.Scored v g e) : s.Scored v g e := by
  obtain ⟨channel, lost, stands⟩ := b
  rw [a.channel, bare.cfg, bare.clock] at channel
  rw [a.channel, a.group] at lost stands
  rw [a.demand] at stands
  exact ⟨channel, lost, stands⟩

theorem Scored.before (a : s.Scored u g e) (b : u.Spared v g) (bare : u.Bare v) : s.Scored v g e := by
  refine ⟨b.channel.trans a.channel, ?_, ?_⟩
  · rw [b.channel, b.group, b.demand]
    intro was now i hi other
    obtain ⟨group, flag, demand⟩ := a.lost was now i hi other
    exact ⟨group, bare.flags _ flag, demand⟩
  · rw [b.channel, b.group, b.demand]
    exact a.stands

end State

/-- A group that loses its drive enters LOST, reports it, and posts a demand of 0 (R81, R99). -/
theorem loseGroup_eq {u : State} {g : Fin 24} {i : Interlock} (hi : (u.groups.get g).interlock = some i) (other : i ≠ .lost) :
    u.loseGroup g = (u.flag .groupLost).changeInterlock g i .lost .none none := by
  unfold State.loseGroup
  rw [hi]
  cases i <;> first | rfl | exact absurd rfl other

theorem loseGroup_none {u : State} {g : Fin 24} (h : (u.groups.get g).interlock = none ∨ (u.groups.get g).interlock = some .lost) :
    u.loseGroup g = u := by
  unfold State.loseGroup
  rcases h with h | h <;> rw [h]

/-- A drive's channel after an evaluation. -/
def State.driveAfter (u : State) (g : Fin 24) (e : Evaluation) : Channel :=
  (u.sup.channels.get (driveChannel g)).evaluated (u.cfg.counters.get (driveChannel g)) u.clock e

/-- A drive's channel has taken its new values, and its change of validity has been reported (R144). -/
def State.turnedDrive (u : State) (g : Fin 24) (e : Evaluation) : State :=
  (u.withChannel (driveChannel g) (u.driveAfter g e)).report
    (.validity (driveChannel g) (u.driveAfter g e).valid (u.driveAfter g e).counter (u.driveAfter g e).fatal)

theorem evaluate_kept {u : State} {g : Fin 24} {e : Evaluation}
    (h : (u.driveAfter g e).valid = (u.sup.channels.get (driveChannel g)).valid) :
    u.evaluate (driveChannel g) e = u.withChannel (driveChannel g) (u.driveAfter g e) := moveChannel_same h

theorem evaluate_lost {u : State} {g : Fin 24} {e : Evaluation} (was : (u.sup.channels.get (driveChannel g)).valid = true)
    (now : (u.driveAfter g e).valid = false) : u.evaluate (driveChannel g) e = (u.turnedDrive g e).loseGroup g :=
  moveChannel_lost was now

theorem evaluate_found {u : State} {g : Fin 24} {e : Evaluation} (was : (u.sup.channels.get (driveChannel g)).valid = false)
    (now : (u.driveAfter g e).valid = true) : u.evaluate (driveChannel g) e = (u.turnedDrive g e).findGroup g :=
  moveChannel_found was now

/-- A channel that was INVALID is so after a bad evaluation. -/
theorem driveAfter_bad {u : State} {g : Fin 24} {e : Evaluation} (bad : e ≠ .good)
    (was : (u.sup.channels.get (driveChannel g)).valid = false) : (u.driveAfter g e).valid = false := by
  by_contra valid
  rw [Bool.not_eq_false] at valid
  exact Bool.noConfusion ((evaluated_valid_of_bad bad valid).symm.trans was)

/-- The three ways in which a drive's bad evaluation can go (R99, R143, R144). -/
theorem evaluateBad_ways (u : State) (g : Fin 24) {e : Evaluation} (bad : e ≠ .good) :
    ((u.driveAfter g e).valid = (u.sup.channels.get (driveChannel g)).valid
        ∧ u.evaluate (driveChannel g) e = u.withChannel (driveChannel g) (u.driveAfter g e))
    ∨ ((u.sup.channels.get (driveChannel g)).valid = true ∧ (u.driveAfter g e).valid = false
        ∧ u.evaluate (driveChannel g) e = (u.turnedDrive g e).loseGroup g) := by
  cases was : (u.sup.channels.get (driveChannel g)).valid with
  | false =>
    have kept := (driveAfter_bad bad was).trans was.symm
    exact .inl ⟨kept.trans was, evaluate_kept kept⟩
  | true =>
    cases now : (u.driveAfter g e).valid with
    | true => exact .inl ⟨rfl, evaluate_kept (now.trans was.symm)⟩
    | false => exact .inr ⟨rfl, rfl, evaluate_lost was now⟩

theorem turnedDrive_groups (u : State) (g : Fin 24) (e : Evaluation) : (u.turnedDrive g e).groups = u.groups := rfl

/-- What losing a group keeps of the whole. -/
theorem loseGroup_bare (u : State) (g : Fin 24) : u.Bare (u.loseGroup g) :=
  ⟨by simp, by simp, by simp, by simp, by simp, (State.loseGroup_owes (.refl u)).kept⟩

theorem turnedDrive_bare (u : State) (g : Fin 24) (e : Evaluation) : u.Bare (u.turnedDrive g e) :=
  ⟨rfl, rfl, rfl, rfl, rfl, (State.report_owes (State.owes_of_eq (.refl u) rfl rfl)).kept⟩

theorem evaluateBad_bare (u : State) (g : Fin 24) {e : Evaluation} (bad : e ≠ .good) :
    u.Bare (u.evaluate (driveChannel g) e) := by
  rcases evaluateBad_ways u g bad with ⟨_, same⟩ | ⟨_, _, lost⟩
  · rw [same]
    exact ⟨rfl, rfl, rfl, rfl, rfl, fun _ h => h⟩
  · rw [lost]
    exact (turnedDrive_bare u g e).trans (loseGroup_bare _ g)

theorem loseGroup_other (u : State) {g h : Fin 24} (ne : h ≠ g) : (u.loseGroup g).groups.get h = u.groups.get h
    ∧ (u.loseGroup g).fda.demand.get h = u.fda.demand.get h := by
  cases hi : (u.groups.get g).interlock with
  | none => rw [loseGroup_none (.inl hi)]; exact ⟨rfl, rfl⟩
  | some i =>
    by_cases lost : i = .lost
    · rw [loseGroup_none (.inr (by rw [hi, lost]))]
      exact ⟨rfl, rfl⟩
    · rw [loseGroup_eq hi lost]
      exact ⟨changeInterlock_get_other _ ne .., changeInterlock_demand_other _ ne ..⟩

/-- A drive's bad evaluation leaves the other drives. -/
theorem evaluateBad_spares (u : State) {g h : Fin 24} (ne : h ≠ g) {e : Evaluation} (bad : e ≠ .good) :
    u.Spared (u.evaluate (driveChannel g) e) h := by
  refine ⟨evaluate_get_other u (fun e => ne (driveChannel_injective e)) e, ?_, ?_⟩
  all_goals rcases evaluateBad_ways u g bad with ⟨_, same⟩ | ⟨_, _, lost⟩
  · rw [same]; rfl
  · rw [lost, (loseGroup_other _ ne).1]; rfl
  · rw [same]; rfl
  · rw [lost, (loseGroup_other _ ne).2]; rfl

/-- A group that has a drive to lose is LOST, flagged, and asks for no water (R81, R99). -/
theorem loseGroup_lost_get {u : State} {g : Fin 24} {i : Interlock} (hi : (u.groups.get g).interlock = some i) (other : i ≠ .lost) :
    (u.loseGroup g).groups.get g = { u.groups.get g with interlock := some .lost, cause := .none, stroke := none }
      ∧ (u.loseGroup g).flags.has .groupLost = true ∧ (i ≠ .fault → (u.loseGroup g).fda.demand.get g = 0) := by
  rw [loseGroup_eq hi other]
  refine ⟨?_, ?_, fun live => changeInterlock_demand ?_ rfl⟩
  · rw [changeInterlock_get, c0AtChange_other _ .lost _ (.inl nofun)]
    rfl
  · exact (State.changeInterlock_owes (.refl _)).kept _ (raise_has u.flags .groupLost)
  · cases i <;> first | rfl | exact absurd rfl live | exact absurd rfl other

theorem evaluateBad_scored (u : State) (g : Fin 24) {e : Evaluation} (bad : e ≠ .good) :
    u.Scored (u.evaluate (driveChannel g) e) g e := by
  have channel := evaluate_get u (driveChannel g) e
  refine ⟨channel, fun was now i hi other => ?_, fun stands => ?_⟩
  · rw [channel] at now
    rw [evaluate_lost was now]
    exact loseGroup_lost_get (u := u.turnedDrive g e) hi other
  · rw [channel] at stands
    rcases evaluateBad_ways u g bad with ⟨_, same⟩ | ⟨was, now, lost⟩
    · rw [same]
      exact ⟨rfl, rfl⟩
    · rw [lost, loseGroup_none (u := u.turnedDrive g e) (stands.resolve_left (not_not.2 ⟨was, now⟩))]
      exact ⟨rfl, rfl⟩

/-! ## A jammed line -/

/-- Each drive still due scores an error, and the others are spared (R105). -/
theorem foldl_evaluateBad : ∀ (l : List Due) (u : State), (l.map (·.group)).Nodup →
    u.Bare (l.foldl (fun t d => t.evaluate (driveChannel d.group) .error) u)
      ∧ ∀ g, (g ∈ l.map (·.group) → u.Scored (l.foldl (fun t d => t.evaluate (driveChannel d.group) .error) u) g .error)
        ∧ (g ∉ l.map (·.group) → u.Spared (l.foldl (fun t d => t.evaluate (driveChannel d.group) .error) u) g)
  | [], u, _ => ⟨.refl u, fun g => ⟨nofun, fun _ => .refl u g⟩⟩
  | d :: l, u, once => by
    rw [List.map_cons, List.nodup_cons] at once
    obtain ⟨bare, rest⟩ := foldl_evaluateBad l (u.evaluate (driveChannel d.group) .error) once.2
    have first := evaluateBad_bare u d.group (e := .error) nofun
    rw [List.foldl_cons]
    refine ⟨first.trans bare, fun g => ⟨fun due => ?_, fun out => ?_⟩⟩
    · rw [List.map_cons, List.mem_cons] at due
      rcases due with rfl | due
      · exact (evaluateBad_scored u d.group (e := .error) nofun).before ((rest d.group).2 once.1) bare
      · have ne : g ≠ d.group := fun e => once.1 (e ▸ due)
        exact ((rest g).1 due).after (evaluateBad_spares u ne (e := .error) nofun) first
    · rw [List.map_cons, List.mem_cons, not_or] at out
      exact (evaluateBad_spares u out.1 (e := .error) nofun).trans ((rest g).2 out.2)

theorem jamLine_bare (s : State) (e : Due) (all : List Due) (once : (all.map (·.group)).Nodup) :
    (s.jamLine e all).dbm = { s.dbm with schedule := [], rotation := e.address }
      ∧ (s.jamLine e all).flags.has .busFault = true ∧ (s.jamLine e all).lgt = s.lgt
      ∧ (∀ g, (g ∈ all.map (·.group) → s.Scored (s.jamLine e all) g .error)
        ∧ (g ∉ all.map (·.group) → s.Spared (s.jamLine e all) g)) := by
  obtain ⟨bare, each⟩ := foldl_evaluateBad all
    { s with dbm := { s.dbm with schedule := [], rotation := e.address }, flags := s.flags.raise .busFault } once
  refine ⟨bare.dbm, bare.flags _ (raise_has s.flags .busFault), bare.lgt, fun g => ⟨fun due => ?_, fun out => ?_⟩⟩
  · obtain ⟨channel, lost, stands⟩ := (each g).1 due
    exact ⟨channel, lost, stands⟩
  · obtain ⟨channel, group, demand⟩ := (each g).2 out
    exact ⟨channel, group, demand⟩

/-! ## The end of a poll -/

/-- The end of the poll in progress: by a complete reply in the window, or by the end of the window (R107, R108). -/
theorem exec_pollEnds {s : State} {p : Poll} {c : Instr} {o : PollOutcome} {us : Nat} (polling : s.dbm.poll = some p)
    (ends : (∃ r f, c = .driveReply r f us ∧ us ≤ 1000 * s.dbm.cycleWindow ∧ judgeReply p r f = o)
      ∨ (c = .replyWindowExpiry ∧ o = .noReply ∧ us = 1000 * s.dbm.cycleWindow)) :
    ∃ rep, exec c s = .next (s.endPoll p o rep (p.quietUs + 400 + us)).settle := by
  rcases ends with ⟨r, f, rfl, inTime, rfl⟩ | ⟨rfl, rfl, rfl⟩
  · refine ⟨replyFields r, ?_⟩
    show execDriveReply r f us s = _
    unfold execDriveReply
    rw [polling]
    exact congrArg Host.Outcome.next (if_pos inTime)
  · refine ⟨noReplyFields, ?_⟩
    show execReplyWindowExpiry s = _
    unfold execReplyWindowExpiry
    rw [polling]
    rfl

/-- The budget check touches the schedule, the rotation and its flag alone (R104). -/
theorem checkBudget_dbm (u : State) : u.checkBudget.dbm.poll = u.dbm.poll ∧ u.checkBudget.dbm.accountUs = u.dbm.accountUs
    ∧ u.checkBudget.dbm.last = u.dbm.last := by
  unfold State.checkBudget
  split
  · exact ⟨rfl, rfl, rfl⟩
  · split <;> exact ⟨rfl, rfl, rfl⟩

theorem checkBudget_kept {u : State} {f : Flag} (h : u.flags.has f = true) : u.checkBudget.flags.has f = true := by
  unfold State.checkBudget
  split
  · exact h
  · split
    · exact Flags.has_raise _ _ h
    · exact h

/-- What DBM notes of the end of a poll (R104, R108). -/
theorem endPoll_noted (s : State) (p : Poll) (o : PollOutcome) (rep : DriveReply) (us : Nat) :
    (s.endPoll p o rep us).settle.dbm.poll = none
      ∧ (s.endPoll p o rep us).settle.dbm.accountUs = s.dbm.accountUs + us
      ∧ (s.endPoll p o rep us).settle.dbm.last.get (addressIndex p.due.address) = some ⟨o, s.clock⟩ := by
  rw [settle_dbm]
  unfold State.endPoll
  obtain ⟨poll, account, last⟩ := checkBudget_dbm
    (State.deliverOutcome { s with dbm := s.dbm.pollEnded p o s.clock us } p.due o rep)
  rw [poll, account, last, deliverOutcome_dbm]
  exact ⟨rfl, rfl, Sys2Proof.Table.get_set_self _ _ _⟩

/-- A poll is over, DBM's records made and its outcome not yet delivered. -/
def State.pollOver (s : State) (p : Poll) (o : PollOutcome) (us : Nat) : State := { s with dbm := s.dbm.pollEnded p o s.clock us }

theorem endPoll_eq (s : State) (p : Poll) (o : PollOutcome) (rep : DriveReply) (us : Nat) :
    s.endPoll p o rep us = ((s.pollOver p o us).deliverOutcome p.due o rep).checkBudget := rfl

/-- An outcome that is discarded changes the bus's records alone (R109, R142). -/
theorem endPoll_discarded {s : State} {p : Poll} {o : PollOutcome} (out : (s.groupRecord p.due.group).configured = false
      ∨ (o = .good ∧ (s.groupRecord p.due.group).address ≠ p.due.address)) (rep : DriveReply) (us : Nat) :
    s.endPoll p o rep us = (s.pollOver p o us).checkBudget := by
  rw [endPoll_eq]
  rcases out with off | ⟨rfl, moved⟩
  · rw [deliverOutcome_unconfigured (s.pollOver p o us) _ _ _ off]
  · have strange : (s.pollOver p .good us).belongs p.due = false :=
      (congrArg _ (decide_eq_false moved)).trans (Bool.and_false _)
    rw [deliverOutcome_moved _ _ _ strange]

/-- A bad outcome scores the drive's channel (R108). -/
theorem endPoll_bad {s : State} {p : Poll} {o : PollOutcome} (bad : o ≠ .good)
    (on : (s.groupRecord p.due.group).configured = true) (rep : DriveReply) (us : Nat) :
    s.endPoll p o rep us = ((s.pollOver p o us).evaluate (driveChannel p.due.group) o.score).checkBudget := by
  rw [endPoll_eq, deliverOutcome_bad (s.pollOver p o us) _ _ _ bad on]

theorem settle_channels (u : State) : u.settle.sup.channels = u.sup.channels := by rw [settle_sup]

/-- The reports of a drive's bad evaluation: of its validity, then of its group (R88, R99, R144). -/
theorem evaluateBad_says {s u t : State} {g : Fin 24} {e : Evaluation} (bad : e ≠ .good) (same : u.lif = s.lif)
    (goesOn : ∀ r, (u.evaluate (driveChannel g) e).lif.Carries r → t.lif.Carries r) :
    ((u.driveAfter g e).valid ≠ (u.sup.channels.get (driveChannel g)).valid → s.says t 3
      (.validity (driveChannel g) (u.driveAfter g e).valid (u.driveAfter g e).counter (u.driveAfter g e).fatal))
    ∧ ∀ i, (u.sup.channels.get (driveChannel g)).valid = true → (u.driveAfter g e).valid = false →
      (u.groups.get g).interlock = some i → i ≠ .lost →
      s.says t 3 (.groupState g (some i) .lost .none (u.groups.get g).starved (u.groups.get g).sent
        (((u.groups.get g).reply.map (·.actual)).getD 0) none) := by
  refine ⟨fun turned => ?_, fun i was now hi other => ?_⟩
  · rcases evaluateBad_ways u g bad with ⟨kept, _⟩ | ⟨_, _, lost⟩
    · exact absurd kept turned
    · refine says_of_report (u := u.withChannel (driveChannel g) (u.driveAfter g e)) (l := s.lif) rfl rfl
        (of_lif_eq_grows same (.refl 0 _)) (Nat.zero_le 3) fun h => goesOn _ ?_
      rw [lost]
      exact h.grows (loseGroup_grows (.refl 0 _))
  · have lost := evaluate_lost was now
    rw [lost, loseGroup_eq (u := u.turnedDrive g e) hi other] at goesOn
    exact changeInterlock_says (u := (u.turnedDrive g e).flag .groupLost) (l := s.lif) rfl rfl
      (report_grows (n := 0) (of_lif_eq_grows same (.refl 0 _))) (by decide) goesOn

/-! ## The checks of a reply -/

section
variable (p : Poll) (r : ReplyBytes) (framing : Bool)

theorem judgeReply_badCheck (h : framing = true ∨ ¬crc8 [r.b0, r.b1, r.b2, r.b3, r.b4] = r.b5) :
    judgeReply p r framing = .badCheck := if_pos h

theorem judgeReply_wrongAddr (clean : framing = false) (crc : crc8 [r.b0, r.b1, r.b2, r.b3, r.b4] = r.b5)
    (other : ¬r.b0.toNat = p.due.address) : judgeReply p r framing = .wrongAddr := by
  unfold judgeReply
  rw [if_neg (by simp [clean, crc]), if_pos other]

theorem judgeReply_badSeq (clean : framing = false) (crc : crc8 [r.b0, r.b1, r.b2, r.b3, r.b4] = r.b5)
    (mine : r.b0.toNat = p.due.address) (stale : ¬r.b1.setWidth 4 = p.seq) : judgeReply p r framing = .badSeq := by
  unfold judgeReply
  rw [if_neg (by simp [clean, crc]), if_neg (not_not.2 mine), if_pos stale]

theorem judgeReply_good (clean : framing = false) (crc : crc8 [r.b0, r.b1, r.b2, r.b3, r.b4] = r.b5)
    (mine : r.b0.toNat = p.due.address) (asked : r.b1.setWidth 4 = p.seq) : judgeReply p r framing = .good := by
  unfold judgeReply
  rw [if_neg (by simp [clean, crc]), if_neg (not_not.2 mine), if_neg (not_not.2 asked)]

end

theorem score_eq {o : PollOutcome} (bad : o ≠ .good) : o.score = if o = .wrongAddr then .fatal else .error := by
  cases o <;> first | rfl | exact absurd rfl bad

/-- Settles O28: the checks in order, the scored drive by `State.Scored`, and the discarded outcomes. -/
theorem badOutcomeScoresTheDrive : Obligations.BadOutcomeScoresTheDrive := by
  unfold Obligations.BadOutcomeScoresTheDrive
  refine ⟨fun p r framing => ⟨judgeReply_badCheck p r framing, judgeReply_wrongAddr p r framing,
    judgeReply_badSeq p r framing, judgeReply_good p r framing⟩, fun s p c o us i polling ends on hi => ?_,
    fun s p c o us polling ends out => ?_⟩
  · have bad : o ≠ .good := by
      rcases ends with ⟨_, _, _, _, _, bad⟩ | ⟨_, rfl, _⟩
      · exact bad
      · exact nofun
    obtain ⟨rep, run⟩ := exec_pollEnds (c := c) (o := o) (us := us) polling
      (ends.imp_left fun ⟨r, f, e, inTime, judged, _⟩ => ⟨r, f, e, inTime, judged⟩)
    obtain ⟨e', brings⟩ := endPoll_brings s p o rep (p.quietUs + 400 + us)
    rw [if_neg bad] at brings
    have owes := endPoll_owes s p o rep (p.quietUs + 400 + us)
    obtain ⟨poll, account, last⟩ := endPoll_noted s p o rep (p.quietUs + 400 + us)
    refine ⟨_, run, ?_, judgesSite_settle owes brings.grows (Nat.le_refl 3), poll, account, last, ?_⟩
    all_goals rw [endPoll_bad bad on]
    · intro ch lost
      have after : (s.pollOver p o (p.quietUs + 400 + us)).driveAfter p.due.group o.score = ch := by
        rw [score_eq bad]
        rfl
      obtain ⟨channel, turned, _⟩ := evaluateBad_scored (s.pollOver p o (p.quietUs + 400 + us)) p.due.group (score_ne_good bad)
      obtain ⟨validity, group⟩ := evaluateBad_says (s := s) (u := s.pollOver p o (p.quietUs + 400 + us)) (g := p.due.group)
        (t := (((s.pollOver p o (p.quietUs + 400 + us)).evaluate (driveChannel p.due.group) o.score).checkBudget).settle)
        (score_ne_good bad) rfl fun r h => settle_carries (by rw [checkBudget_lif]; exact h)
      have now : ((s.pollOver p o (p.quietUs + 400 + us)).evaluate (driveChannel p.due.group) o.score).sup.channels.get
          (driveChannel p.due.group) = ch := channel.trans after
      rw [after] at validity group
      rw [now] at turned
      rw [settle_channels, checkBudget_sup, settle_groups, checkBudget_groups, settle_fda, checkBudget_fda]
      refine ⟨now, fun ⟨was, gone, other⟩ => ?_, validity, fun kept => ?_⟩
      · obtain ⟨lostGroup, flag, demand⟩ := turned was gone i hi other
        exact ⟨lostGroup, settle_kept (checkBudget_kept flag), demand, group i was gone hi other⟩
      · rw [evaluate_kept (u := s.pollOver p o (p.quietUs + 400 + us)) ((congrArg Channel.valid after).trans kept)]
        exact ⟨rfl, rfl⟩
    · have bare := evaluateBad_bare (s.pollOver p o (p.quietUs + 400 + us)) p.due.group (score_ne_good bad)
      refine ⟨fun h other => ?_, ?_, ?_, ?_, ?_⟩
      · rw [settle_groups, checkBudget_groups]
        exact (evaluateBad_spares _ other (score_ne_good bad)).group
      · rw [settle_cfg, checkBudget_cfg]; exact bare.cfg
      · rw [settle_clock, checkBudget_clock]; exact bare.clock
      · rw [settle_lgt, checkBudget_lgt]; exact bare.lgt
      · rw [settle_pins, checkBudget_pins]; exact bare.pins
  · obtain ⟨rep, run⟩ := exec_pollEnds polling ends
    obtain ⟨poll, account, last⟩ := endPoll_noted s p o rep (p.quietUs + 400 + us)
    refine ⟨_, run, ?_, ?_, ?_, poll, account, last⟩
    all_goals rw [endPoll_discarded out]
    · rw [settle_groups, checkBudget_groups]
      rfl
    · rw [settle_channels, checkBudget_sup]
      rfl
    · rw [settle_fda, checkBudget_fda]
      rfl

/-! ## The cycle -/

/-- The group that stands at an address is configured there (R103). -/
theorem groupAt_some {groups : Table 24 GroupRecord} {a : Nat} {g : Fin 24} (h : groupAt groups a = some g) :
    (groups.get g).configured = true ∧ (groups.get g).address = a := by
  have found := List.find?_some h
  simpa using found

theorem groupAt_of {groups : Table 24 GroupRecord} {g : Fin 24} (on : (groups.get g).configured = true)
    (alone : addressTaken groups g (groups.get g).address = false) : groupAt groups (groups.get g).address = some g := by
  unfold groupAt
  cases h : (List.finRange 24).find? fun k => (groups.get k).configured && decide ((groups.get k).address = (groups.get g).address) with
  | none =>
    have never := List.find?_eq_none.1 h g (List.mem_finRange g)
    simp [on] at never
  | some k =>
    obtain ⟨onk, same⟩ := groupAt_some h
    by_contra ne
    have taken : addressTaken groups g (groups.get g).address = true :=
      (addressTaken_iff ..).2 ⟨k, fun e => ne (congrArg some e), onk, same⟩
    rw [alone] at taken
    cases taken

theorem mem_addressesFrom {start a : Nat} (h : a ∈ addressesFrom start) : 1 ≤ a ∧ a ≤ 31 := by
  obtain ⟨i, _, rfl⟩ := List.mem_map.1 h
  omega

/-- Every address from 1 to 31 has its place in the round. -/
theorem addressesFrom_mem {start a : Nat} (from1 : 1 ≤ start) (to31 : start ≤ 31) (h1 : 1 ≤ a) (h31 : a ≤ 31) :
    a ∈ addressesFrom start :=
  List.mem_map.2 ⟨(a + 31 - start) % 31, List.mem_range.2 (by omega), by omega⟩

theorem mem_scheduleFrom {groups : Table 24 GroupRecord} {start : Nat} {e : Due} (h : e ∈ scheduleFrom groups start) :
    e.address ∈ addressesFrom start ∧ groupAt groups e.address = some e.group := by
  obtain ⟨a, ha, found⟩ := List.mem_filterMap.1 h
  obtain ⟨g, hg, rfl⟩ := Option.map_eq_some_iff.1 found
  exact ⟨ha, hg⟩

/-- The round goes up from its start (R103). -/
theorem addressesFrom_pairwise {start : Nat} (from1 : 1 ≤ start) (to31 : start ≤ 31) :
    (addressesFrom start).Pairwise fun a b => (a + 31 - start) % 31 < (b + 31 - start) % 31 := by
  refine List.pairwise_map.2 (List.pairwise_lt_range.imp_of_mem fun ha hb less => ?_)
  have := List.mem_range.1 ha
  have := List.mem_range.1 hb
  omega

theorem scheduleFrom_pairwise (groups : Table 24 GroupRecord) {start : Nat} (from1 : 1 ≤ start) (to31 : start ≤ 31) :
    (scheduleFrom groups start).Pairwise fun a b => (a.address + 31 - start) % 31 < (b.address + 31 - start) % 31 := by
  refine List.pairwise_filterMap.2 ((addressesFrom_pairwise from1 to31).imp fun less x hx y hy => ?_)
  obtain ⟨_, _, rfl⟩ := Option.map_eq_some_iff.1 hx
  obtain ⟨_, _, rfl⟩ := Option.map_eq_some_iff.1 hy
  exact less

theorem checkBudget_fits {u : State} (fits : u.dbm.accountUs + 400 + 1000 * u.dbm.cycleWindow ≤ 45000) : u.checkBudget = u := by
  unfold State.checkBudget
  split
  · rfl
  · exact if_neg (by unfold sendUs budgetUs Dbm.windowUs; omega)

theorem checkBudget_exceeds {u : State} {e : Due} {rest : List Due} (due : u.dbm.schedule = e :: rest)
    (exceeds : 45000 < u.dbm.accountUs + 400 + 1000 * u.dbm.cycleWindow) : u.checkBudget.dbm.schedule = []
      ∧ u.checkBudget.dbm.rotation = e.address ∧ u.checkBudget.flags.has .budgetLimited = true := by
  have cut : u.checkBudget = { u with
      dbm := { u.dbm with schedule := [], rotation := e.address }, flags := u.flags.raise .budgetLimited } := by
    unfold State.checkBudget
    rw [due]
    exact if_pos exceeds
  rw [cut]
  exact ⟨rfl, rfl, raise_has u.flags .budgetLimited⟩

/-- At the end of a poll the next one's worst case is held against the budget (R104). -/
theorem endPoll_budget {s : State} {e : Due} {rest : List Due} (p : Poll) (o : PollOutcome) (rep : DriveReply) (us : Nat)
    (due : s.dbm.schedule = e :: rest) : if 45000 < s.dbm.accountUs + us + 400 + 1000 * s.dbm.cycleWindow
      then (s.endPoll p o rep us).dbm.schedule = [] ∧ (s.endPoll p o rep us).dbm.rotation = e.address
        ∧ (s.endPoll p o rep us).flags.has .budgetLimited = true
      else (s.endPoll p o rep us).dbm.schedule = e :: rest ∧ (s.endPoll p o rep us).dbm.rotation = s.dbm.rotation := by
  rw [endPoll_eq]
  have dbm : ((s.pollOver p o us).deliverOutcome p.due o rep).dbm = s.dbm.pollEnded p o s.clock us := deliverOutcome_dbm ..
  split
  next exceeds => exact checkBudget_exceeds (by rw [dbm]; exact due) (by rw [dbm]; exact exceeds)
  next fits =>
    rw [checkBudget_fits (by rw [dbm]; exact Nat.le_of_not_lt fits), dbm]
    exact ⟨due, rfl⟩

/-- Settles O29: the schedule by its addresses, the budget by its check, and a jam by the drives it scores. -/
theorem cycleKeepsItsBudgetAndAbandonsJams : Obligations.CycleKeepsItsBudgetAndAbandonsJams := by
  unfold Obligations.CycleKeepsItsBudgetAndAbandonsJams
  refine ⟨⟨fun s window => congrArg Host.Outcome.next (checkBudget_fits ?_), fun groups start e due => ?_,
    fun groups start from1 to31 => scheduleFrom_pairwise groups from1 to31, fun groups start g from1 to31 on h1 h31 alone => ?_,
    fun s p e rest c us polling due ends => ?_⟩, fun s e rest free due once => ?_⟩
  · show 0 + 400 + 1000 * s.cfg.window ≤ 45000
    omega
  · obtain ⟨round, found⟩ := mem_scheduleFrom due
    obtain ⟨on, here⟩ := groupAt_some found
    exact ⟨on, here, mem_addressesFrom round⟩
  · exact List.mem_filterMap.2 ⟨_, addressesFrom_mem from1 to31 h1 h31, by rw [groupAt_of on alone]; rfl⟩
  · have outcome : ∃ o, (∃ r f, c = .driveReply r f us ∧ us ≤ 1000 * s.dbm.cycleWindow ∧ judgeReply p r f = o)
        ∨ (c = .replyWindowExpiry ∧ o = .noReply ∧ us = 1000 * s.dbm.cycleWindow) := by
      rcases ends with ⟨r, f, e, inTime⟩ | ⟨e, inTime⟩
      · exact ⟨_, .inl ⟨r, f, e, inTime, rfl⟩⟩
      · exact ⟨_, .inr ⟨e, rfl, inTime⟩⟩
    obtain ⟨o, ends'⟩ := outcome
    obtain ⟨rep, run⟩ := exec_pollEnds polling ends'
    refine ⟨_, run, ?_⟩
    have budget := endPoll_budget p o rep (p.quietUs + 400 + us) due
    rw [settle_dbm]
    split
    next exceeds =>
      rw [if_pos exceeds] at budget
      exact ⟨budget.1, budget.2.1, settle_kept budget.2.2⟩
    next fits =>
      rw [if_neg fits] at budget
      exact budget
  · have run : exec .lineJammed s = .next (s.jamLine e (e :: rest)).settle := by
      show execLineJammed s = _
      unfold execLineJammed
      rw [free, due]
    obtain ⟨dbm, flag, lgt, each⟩ := jamLine_bare s e (e :: rest) once
    obtain ⟨_, brings⟩ := jamLine_brings s e (e :: rest)
    refine ⟨_, run, ?_, settle_kept flag, judgesSite_settle (jamLine_owes s e (e :: rest)) brings.grows (Nat.le_refl _),
      fun g => ?_, fun g => ?_, ?_, ?_, ?_, ?_⟩
    · rw [settle_dbm, dbm]
    · rw [settle_channels]
      split
      next due => exact ((each g).1 due).channel
      next out => exact ((each g).2 out).channel
    · intro lost
      rw [settle_groups, settle_fda]
      refine ⟨fun i ⟨mine, was, now⟩ hi other => ?_, fun stands => ?_⟩
      · rw [settle_channels] at now
        obtain ⟨group, groupLost, demand⟩ := ((each g).1 mine).lost was now i hi other
        exact ⟨group, settle_kept groupLost, demand⟩
      · by_cases mine : g ∈ (e :: rest).map (·.group)
        · exact ((each g).1 mine).stands (stands.imp_left fun h both => h ⟨mine, both.1, by rw [settle_channels]; exact both.2⟩)
        · exact ⟨((each g).2 mine).group, ((each g).2 mine).demand⟩
    · rw [settle_cfg, jamLine_cfg]
    · rw [settle_clock, jamLine_clock]
    · rw [settle_lgt, lgt]
    · rw [settle_pins, jamLine_pins]

end Sys2Proof.Machine
end

section
/-! A good reply: what it moves at the interlock, beside its channel's evaluation (R84, R92 to R99, R108). -/

namespace Sys2Proof.Machine

open State

/-! ## A reply at the interlock -/

/-- The state that a reply moves a group to, with its cause: drive TRIP first, both switches next, then the stroke's end
(R93, R95, R97, R98). -/
def replyMove (i : Interlock) (f : DriveReply) : Option (Interlock × FaultCause) :=
  if i = .fault ∨ i = .lost then none
  else if f.drive = .trip then some (.fault, .driveTrip)
  else if f.openSw = true ∧ f.closedSw = true then some (.fault, .switchConflict)
  else if i = .opening ∧ f.openSw = true then some (.running, .none)
  else if i = .closing ∧ f.closedSw = true then some (.shut, .none)
  else none

/-- A reply recorded (R84). -/
def State.replyNoted (u : State) (g : Fin 24) (f : DriveReply) : State :=
  u.withGroup g { u.groups.get g with reply := some f }

/-- The flag of a fault that a reply shows. -/
def State.replyFlagged (u : State) (c : FaultCause) : State :=
  if c = .driveTrip then u.flag .driveTrip else if c = .switchConflict then u.flag .switchConflict else u

/-- The fault code that the report of a reply's move carries. -/
def DriveReply.codeTold (f : DriveReply) : Option Byte := if f.drive = .trip then some f.code else none

theorem takeReply_ways {u : State} {g : Fin 24} {i : Interlock} (hi : (u.groups.get g).interlock = some i) (f : DriveReply) :
    (replyMove i f = none → u.takeReply g f = u.replyNoted g f)
      ∧ ∀ j c, replyMove i f = some (j, c) →
        u.takeReply g f = ((u.replyNoted g f).replyFlagged c).changeInterlock g i j c f.codeTold := by
  have whole : u.takeReply g f = if i = .fault ∨ i = .lost then u.replyNoted g f
      else if f.drive = .trip then
        ((u.replyNoted g f).flag .driveTrip).changeInterlock g i .fault .driveTrip (some f.code)
      else if f.openSw && f.closedSw then
        ((u.replyNoted g f).flag .switchConflict).changeInterlock g i .fault .switchConflict none
      else if i = .opening ∧ f.openSw = true then (u.replyNoted g f).changeInterlock g i .running .none none
      else if i = .closing ∧ f.closedSw = true then (u.replyNoted g f).changeInterlock g i .shut .none none
      else u.replyNoted g f := by
    unfold State.takeReply
    dsimp only
    split
    next h => rw [hi] at h; cases h
    next h => rw [hi] at h; cases h; exact (if_pos (.inl rfl)).symm
    next h => rw [hi] at h; cases h; exact (if_pos (.inr rfl)).symm
    next k fault lost h =>
      rw [hi] at h
      cases h
      exact (if_neg (not_or.2 ⟨fault, lost⟩)).symm
  rw [whole]
  simp only [Bool.and_eq_true]
  unfold replyMove DriveReply.codeTold
  refine ⟨fun stays => ?_, fun j c moves => ?_⟩
  · split_ifs at stays ⊢ <;> rfl
  · split_ifs at moves ⊢ <;> cases moves <;> rfl

/-- A reply moves a group to a state without a stroke timer, from one that posts its demand. -/
theorem replyMove_some {i j : Interlock} {f : DriveReply} {c : FaultCause} (h : replyMove i f = some (j, c)) :
    (∀ now n, j.timer now n = none) ∧ j ≠ .closing ∧ i.barred = false ∧ j ≠ i := by
  unfold replyMove at h
  split_ifs at h with barred trip conflict opens shuts <;> cases h
  all_goals rw [not_or] at barred
  · exact ⟨fun _ _ => rfl, nofun, by cases i <;> first | rfl | exact absurd rfl barred.1 | exact absurd rfl barred.2,
      fun e => barred.1 e.symm⟩
  · exact ⟨fun _ _ => rfl, nofun, by cases i <;> first | rfl | exact absurd rfl barred.1 | exact absurd rfl barred.2,
      fun e => barred.1 e.symm⟩
  · rw [opens.1]; exact ⟨fun _ _ => rfl, nofun, rfl, nofun⟩
  · rw [shuts.1]; exact ⟨fun _ _ => rfl, nofun, rfl, nofun⟩

/-- A group after a reply (R84, R95). -/
def Group.replied (x : Group) (i : Interlock) (f : DriveReply) : Group :=
  match replyMove i f with
  | none => { x with reply := some f }
  | some (j, c) => { x with reply := some f, interlock := some j, cause := c, stroke := none }

theorem replied_eq (x : Group) (i : Interlock) (f : DriveReply) : x.replied i f =
    if i = .fault ∨ i = .lost then { x with reply := some f }
    else if f.drive = .trip then { x with reply := some f, interlock := some .fault, cause := .driveTrip, stroke := none }
    else if f.openSw = true ∧ f.closedSw = true then
      { x with reply := some f, interlock := some .fault, cause := .switchConflict, stroke := none }
    else if i = .opening ∧ f.openSw = true then
      { x with reply := some f, interlock := some .running, cause := .none, stroke := none }
    else if i = .closing ∧ f.closedSw = true then
      { x with reply := some f, interlock := some .shut, cause := .none, stroke := none }
    else { x with reply := some f } := by
  unfold Group.replied replyMove
  split_ifs <;> rfl

theorem replyFlagged_groups (u : State) (c : FaultCause) : (u.replyFlagged c).groups = u.groups := by
  unfold State.replyFlagged
  split
  · rfl
  · split <;> rfl

section
variable {u : State} {g : Fin 24} {i : Interlock} (hi : (u.groups.get g).interlock = some i) (f : DriveReply)
include hi

theorem takeReply_get : (u.takeReply g f).groups.get g = (u.groups.get g).replied i f := by
  obtain ⟨stays, moves⟩ := takeReply_ways hi f
  unfold Group.replied
  split
  next none => rw [stays none]; exact Sys2Proof.Table.get_set_self _ _ _
  next j c some =>
    obtain ⟨timer, other, _⟩ := replyMove_some some
    rw [moves j c some, changeInterlock_get, timer, c0AtChange_other _ _ _ (.inl other), replyFlagged_groups,
      show (u.replyNoted g f).groups.get g = { u.groups.get g with reply := Option.some f } from
        Sys2Proof.Table.get_set_self _ _ _]

/-- Of a reply that moves no group to FAULT the demand posted stands (R81). -/
theorem takeReply_fda (well : ∀ c, replyMove i f ≠ some (.fault, c)) : (u.takeReply g f).fda = u.fda := by
  obtain ⟨stays, moves⟩ := takeReply_ways hi f
  cases h : replyMove i f with
  | none => rw [stays h]; rfl
  | some m =>
    obtain ⟨j, c⟩ := m
    obtain ⟨timer, other, open_, ne⟩ := replyMove_some h
    have same : i.barred = j.barred := by
      rw [open_]
      unfold replyMove at h
      split_ifs at h with _ trip conflict <;> cases h
      · exact absurd (show replyMove i f = some (.fault, .driveTrip) by unfold replyMove; simp [*]) (well _)
      · exact absurd (show replyMove i f = some (.fault, .switchConflict) by unfold replyMove; simp [*]) (well _)
      · rfl
      · rfl
    rw [moves j c h, changeInterlock_demand_same _ same]
    unfold State.replyFlagged
    split_ifs <;> rfl

/-- A reply that shows a fault sets its flag and takes the group's demand from FDA (R81, R93, R97). -/
theorem takeReply_fault {c : FaultCause} (moves : replyMove i f = some (.fault, c)) :
    (u.takeReply g f).fda.demand.get g = 0 ∧ (c = .driveTrip → (u.takeReply g f).flags.has .driveTrip = true)
      ∧ (c = .switchConflict → (u.takeReply g f).flags.has .switchConflict = true) := by
  rw [(takeReply_ways hi f).2 _ c moves]
  refine ⟨changeInterlock_demand (replyMove_some moves).2.2.1 rfl, ?_, ?_⟩
  · rintro rfl
    exact (State.changeInterlock_owes (.refl _)).kept _ (raise_has u.flags .driveTrip)
  · rintro rfl
    exact (State.changeInterlock_owes (.refl _)).kept _ (raise_has u.flags .switchConflict)

/-- A reply's move is reported with the reply's figures (R88). -/
theorem takeReply_says {s t : State} {l : Lif} {n before : Nat} (enable : l.enable = s.lif.enable)
    (reports : l.reports = s.lif.reports) (grows : l.Grows n u.lif) (le : n ≤ before)
    (goesOn : ∀ r, (u.takeReply g f).lif.Carries r → t.lif.Carries r) {j : Interlock} {c : FaultCause}
    (moves : replyMove i f = some (j, c)) : s.says t before (.groupState g (some i) j c (u.groups.get g).starved
      (u.groups.get g).sent f.actual f.codeTold) := by
  rw [(takeReply_ways hi f).2 j c moves] at goesOn
  have noted : ((u.replyNoted g f).replyFlagged c).groups.get g = { u.groups.get g with reply := some f } := by
    rw [replyFlagged_groups]
    exact Sys2Proof.Table.get_set_self _ _ _
  have link : ((u.replyNoted g f).replyFlagged c).lif = u.lif := by
    unfold State.replyFlagged
    split_ifs <;> rfl
  have told := changeInterlock_says (s := s) enable reports (of_lif_eq_grows link grows) le goesOn
  rw [noted] at told
  exact told

end

theorem takeReply_get_other (u : State) {g h : Fin 24} (ne : h ≠ g) (f : DriveReply) :
    (u.takeReply g f).groups.get h = u.groups.get h := by
  cases hi : (u.groups.get g).interlock with
  | none =>
    unfold State.takeReply
    dsimp only
    rw [hi]
  | some i =>
    obtain ⟨stays, moves⟩ := takeReply_ways hi f
    have noted : (u.replyNoted g f).groups.get h = u.groups.get h := Sys2Proof.Table.get_set_ne _ _ ne.symm
    cases m : replyMove i f with
    | none => rw [stays m, noted]
    | some m' => rw [moves m'.1 m'.2 m, changeInterlock_get_other _ ne, replyFlagged_groups, noted]

/-! ## The evaluation beside it -/

/-- A drive's channel has been evaluated and has found no group (R143, R144). -/
def State.driveNoted (u : State) (g : Fin 24) : State :=
  if (u.driveAfter g .good).valid = (u.sup.channels.get (driveChannel g)).valid
  then u.withChannel (driveChannel g) (u.driveAfter g .good) else u.turnedDrive g .good

theorem driveNoted_frame (u : State) (g : Fin 24) : (u.driveNoted g).groups = u.groups ∧ (u.driveNoted g).fda = u.fda
    ∧ u.Bare (u.driveNoted g) ∧ u.lif.Grows 1 (u.driveNoted g).lif := by
  unfold State.driveNoted
  split
  · exact ⟨rfl, rfl, ⟨rfl, rfl, rfl, rfl, rfl, fun _ h => h⟩, of_lif_eq_grows rfl (.refl 1 _)⟩
  · exact ⟨rfl, rfl, turnedDrive_bare u g .good, report_grows (n := 0) (of_lif_eq_grows rfl (.refl 0 _))⟩

/-- A good evaluation finds a LOST group whose channel it turns VALID, and otherwise only notes itself (R99). -/
theorem evaluateGood_ways (u : State) (g : Fin 24) :
    ((u.groups.get g).interlock = some .lost ∧ (u.sup.channels.get (driveChannel g)).valid = false
        ∧ (u.driveAfter g .good).valid = true → u.evaluate (driveChannel g) .good = (u.turnedDrive g .good).findGroup g)
    ∧ (¬((u.groups.get g).interlock = some .lost ∧ (u.sup.channels.get (driveChannel g)).valid = false
        ∧ (u.driveAfter g .good).valid = true) → u.evaluate (driveChannel g) .good = u.driveNoted g) := by
  refine ⟨fun ⟨_, was, now⟩ => evaluate_found was now, fun other => ?_⟩
  unfold State.driveNoted
  split
  next same => exact evaluate_kept same
  next turned =>
    have was : (u.sup.channels.get (driveChannel g)).valid = false := by
      by_contra valid
      rw [Bool.not_eq_false] at valid
      exact turned ((evaluated_good_valid valid).trans valid.symm)
    have now : (u.driveAfter g .good).valid = true := by
      rw [was, Bool.not_eq_false] at turned
      exact turned
    rw [evaluate_found was now]
    exact findGroup_other (u := u.turnedDrive g .good) fun lost => other ⟨lost, was, now⟩

/-- An evaluation that turns a channel reports it (R144). -/
theorem evaluate_says {s u t : State} {l : Lif} {n before : Nat} {g : Fin 24} {e : Evaluation}
    (enable : l.enable = s.lif.enable) (reports : l.reports = s.lif.reports) (grows : l.Grows n u.lif) (le : n ≤ before)
    (goesOn : ∀ r, (u.evaluate (driveChannel g) e).lif.Carries r → t.lif.Carries r)
    (turned : (u.driveAfter g e).valid ≠ (u.sup.channels.get (driveChannel g)).valid) : s.says t before
      (.validity (driveChannel g) (u.driveAfter g e).valid (u.driveAfter g e).counter (u.driveAfter g e).fatal) := by
  refine says_of_report (u := u.withChannel (driveChannel g) (u.driveAfter g e)) enable reports grows le fun h => goesOn _ ?_
  have acts : u.evaluate (driveChannel g) e = (u.turnedDrive g e).validityActs (driveChannel g) u.sup.effective :=
    moveChannel_turned turned
  rw [acts]
  exact h.grows (validityActs_grows (.refl 0 _))

/-! ## Both together -/

/-- A good reply is taken and scored, the reply first or the score first (R108; log entry 9). -/
def State.goodTaken (d : State) (g : Fin 24) (f : DriveReply) (replyFirst : Bool) : State :=
  if replyFirst then (d.takeReply g f).evaluate (driveChannel g) .good else (d.evaluate (driveChannel g) .good).takeReply g f

/-- The evaluation of the step finds the group again: it is LOST, and its channel turns VALID (R99). -/
def State.finds (d : State) (g : Fin 24) : Prop :=
  (d.groups.get g).interlock = some .lost ∧ (d.sup.channels.get (driveChannel g)).valid = false
    ∧ (d.driveAfter g .good).valid = true

/-- What a state keeps of the reply taken in another. -/
structure State.KeepsReply (w v : State) : Prop where
  groups : v.groups = w.groups
  fda : v.fda = w.fda
  flags : ∀ f, w.flags.has f = true → v.flags.has f = true
  carries : ∀ r, w.lif.Carries r → v.lif.Carries r

section
variable {d : State} {g : Fin 24} {f : DriveReply}

theorem takeReply_driveAfter (e : Evaluation) : (d.takeReply g f).driveAfter g e = d.driveAfter g e := by
  unfold State.driveAfter
  rw [takeReply_channels, takeReply_cfg, takeReply_clock]

theorem goodTaken_channel (b : Bool) :
    (d.goodTaken g f b).sup.channels.get (driveChannel g) = d.driveAfter g .good := by
  unfold State.goodTaken
  split
  · exact (evaluate_get _ _ _).trans (takeReply_driveAfter .good)
  · rw [takeReply_channels]
    exact evaluate_get _ _ _

/-- Where the group is not found the two do not meet: the reply is as if the channel were only noted (log entry 9). -/
theorem goodTaken_apart {i : Interlock} (hi : (d.groups.get g).interlock = some i) (apart : ¬d.finds g) (b : Bool) :
    ∃ w : State, w.groups = d.groups ∧ w.fda = d.fda ∧ d.lif.Grows 1 w.lif ∧ (w.takeReply g f).KeepsReply (d.goodTaken g f b) := by
  unfold State.goodTaken
  cases b with
  | true =>
    refine ⟨d, rfl, rfl, .refl 1 _, ?_⟩
    have still : ¬(((d.takeReply g f).groups.get g).interlock = some .lost
        ∧ ((d.takeReply g f).sup.channels.get (driveChannel g)).valid = false
        ∧ ((d.takeReply g f).driveAfter g .good).valid = true) := by
      rw [takeReply_channels, takeReply_driveAfter, takeReply_get hi]
      rintro ⟨lost, turned⟩
      refine apart ⟨?_, turned⟩
      unfold Group.replied at lost
      cases m : replyMove i f with
      | none => rw [m] at lost; exact lost
      | some m' =>
        obtain ⟨j, c⟩ := m'
        rw [m] at lost
        have into : j = .lost := Option.some.inj lost
        unfold replyMove at m
        split_ifs at m <;> cases m <;> cases into
    rw [if_pos rfl, (evaluateGood_ways _ _).2 still]
    obtain ⟨groups, fda, bare, grows⟩ := driveNoted_frame (d.takeReply g f) g
    exact ⟨groups, fda, bare.flags, fun r h => h.grows grows⟩
  | false =>
    rw [if_neg Bool.false_ne_true, (evaluateGood_ways _ _).2 apart]
    obtain ⟨groups, fda, _, grows⟩ := driveNoted_frame d g
    exact ⟨_, groups, fda, grows, rfl, rfl, fun _ h => h, fun _ h => h⟩

/-- A LOST group's reply is recorded only (R99). -/
theorem takeReply_lost (lost : (d.groups.get g).interlock = some .lost) : d.takeReply g f = d.replyNoted g f :=
  (takeReply_ways lost f).1 (if_pos (.inr rfl))

theorem findGroup_eq (lost : (d.groups.get g).interlock = some .lost) :
    d.findGroup g = d.changeInterlock g .lost .closing .none none := by
  unfold State.findGroup
  rw [lost]

/-- A found group's figures and demand (R81, R95, R99). -/
theorem findGroup_found (lost : (d.groups.get g).interlock = some .lost) :
    (d.findGroup g).groups.get g = { d.groups.get g with
      interlock := some .closing, cause := .none, c0 := 0, stroke := some ⟨d.clock, (d.groupRecord g).stroke⟩ }
    ∧ (d.findGroup g).fda.demand.get g = (d.groups.get g).figs.s := by
  refine ⟨by rw [findGroup_lost_groups lost, Sys2Proof.Table.get_set_self], ?_⟩
  rw [findGroup_eq lost, changeInterlock_eq, offerChange_fda]
  refine (postDemand_get _ _ _).trans ?_
  rw [if_neg (show ¬Interlock.closing.barred = true from Bool.false_ne_true)]
  show ((d.entered g .lost .closing .none).groups.get g).figs.s = _
  unfold State.entered State.withGroup
  rw [Sys2Proof.Table.get_set_self]

/-- The group is found after its reply has been recorded. -/
theorem goodTaken_replyFirst (found : d.finds g) :
    d.goodTaken g f true = ((d.replyNoted g f).turnedDrive g .good).findGroup g := by
  obtain ⟨lost, was, now⟩ := found
  unfold State.goodTaken
  rw [if_pos rfl, takeReply_lost lost]
  exact evaluate_found was now

/-- The group is found before its reply is judged. -/
theorem goodTaken_scoreFirst (found : d.finds g) :
    d.goodTaken g f false = ((d.turnedDrive g .good).findGroup g).takeReply g f := by
  obtain ⟨_, was, now⟩ := found
  unfold State.goodTaken
  rw [if_neg Bool.false_ne_true, evaluate_found was now]

theorem findGroup_get_other (u : State) {h : Fin 24} (ne : h ≠ g) : (u.findGroup g).groups.get h = u.groups.get h := by
  by_cases lost : (u.groups.get g).interlock = some .lost
  · rw [findGroup_eq lost, changeInterlock_get_other _ ne]
  · rw [findGroup_other lost]

theorem evaluateGood_rest (u : State) (g : Fin 24) : (u.evaluate (driveChannel g) .good).lgt = u.lgt
    ∧ ∀ h, h ≠ g → (u.evaluate (driveChannel g) .good).groups.get h = u.groups.get h := by
  obtain ⟨finds, notes⟩ := evaluateGood_ways u g
  by_cases found : u.finds g
  · rw [finds found]
    exact ⟨by rw [findGroup_lgt]; rfl, fun h ne => (findGroup_get_other _ ne).trans rfl⟩
  · obtain ⟨groups, _, bare, _⟩ := driveNoted_frame u g
    rw [notes found, groups]
    exact ⟨bare.lgt, fun _ _ => rfl⟩

theorem goodTaken_rest (b : Bool) : (d.goodTaken g f b).lgt = d.lgt
    ∧ ∀ h, h ≠ g → (d.goodTaken g f b).groups.get h = d.groups.get h := by
  unfold State.goodTaken
  split
  · obtain ⟨lgt, groups⟩ := evaluateGood_rest (d.takeReply g f) g
    exact ⟨by rw [lgt, takeReply_lgt], fun h ne => by rw [groups h ne, takeReply_get_other _ ne]⟩
  · obtain ⟨lgt, groups⟩ := evaluateGood_rest d g
    exact ⟨by rw [takeReply_lgt, lgt], fun h ne => by rw [takeReply_get_other _ ne, groups h ne]⟩

end

/-- A good reply's change of validity is reported, in either order (R144). -/
theorem goodTaken_says {s d t : State} {g : Fin 24} {f : DriveReply} (link : d.lif = s.lif) (b : Bool)
    (goesOn : ∀ r, (d.goodTaken g f b).lif.Carries r → t.lif.Carries r)
    (turned : (d.driveAfter g .good).valid ≠ (d.sup.channels.get (driveChannel g)).valid) : s.says t 4
      (.validity (driveChannel g) (d.driveAfter g .good).valid (d.driveAfter g .good).counter (d.driveAfter g .good).fatal) := by
  cases b with
  | true =>
    have told := evaluate_says (s := s) (t := t) (u := d.takeReply g f) (l := s.lif) (n := 2) (before := 4) (g := g)
      (e := .good) rfl rfl (takeReply_grows (n := 0) (of_lif_eq_grows link (.refl 0 _))) (by decide) goesOn
    rw [takeReply_driveAfter, takeReply_channels] at told
    exact told turned
  | false =>
    exact evaluate_says (l := s.lif) (n := 0) rfl rfl (of_lif_eq_grows link (.refl 0 _)) (Nat.zero_le 4)
      (fun r h => goesOn r (h.grows (takeReply_grows (.refl 0 _)))) turned

/-- A found group's entry into CLOSING is reported, with the reply's figures where it was taken first (R88). -/
theorem goodTaken_says_found {s d t : State} {g : Fin 24} {f : DriveReply} (link : d.lif = s.lif) (found : d.finds g) (b : Bool)
    (goesOn : ∀ r, (d.goodTaken g f b).lif.Carries r → t.lif.Carries r) :
    s.says t 4 (.groupState g (some .lost) .closing .none (d.groups.get g).starved (d.groups.get g).sent
      (if b = true then f.actual else ((d.groups.get g).reply.map (·.actual)).getD 0) none) := by
  have turned (u : State) (same : u.lif = s.lif) : s.lif.Grows 1 (u.turnedDrive g .good).lif :=
    report_grows (n := 0) (of_lif_eq_grows same (.refl 0 _))
  cases b with
  | true =>
    have noted : (d.replyNoted g f).groups.get g = { d.groups.get g with reply := some f } := Sys2Proof.Table.get_set_self _ _ _
    have lost : (((d.replyNoted g f).turnedDrive g .good).groups.get g).interlock = some .lost := by
      rw [turnedDrive_groups, noted]
      exact found.1
    rw [goodTaken_replyFirst found, findGroup_eq lost] at goesOn
    have told := changeInterlock_says (s := s) (l := s.lif) (before := 4) rfl rfl (turned (d.replyNoted g f) link) (by decide) goesOn
    rw [turnedDrive_groups, noted] at told
    exact told
  | false =>
    rw [goodTaken_scoreFirst found, findGroup_eq (d := d.turnedDrive g .good) found.1] at goesOn
    exact changeInterlock_says (s := s) (u := d.turnedDrive g .good) (l := s.lif) (n := 1) rfl rfl (turned d link) (by decide)
      fun r h => goesOn r (h.grows (takeReply_grows (.refl 0 _)))

/-- A poll is over, and its good reply is about to be taken and scored. -/
def State.scoring (s : State) (p : Poll) (us : Nat) : State := { s.pollOver p .good us with fresh := s.fresh + 1 }

theorem endPoll_good {s : State} {p : Poll} (on : (s.groupRecord p.due.group).configured = true)
    (here : (s.groupRecord p.due.group).address = p.due.address) (f : DriveReply) (us : Nat) : s.endPoll p .good f us =
      ((s.scoring p us).goodTaken p.due.group f (Config.replyBeforeScore s.fresh)).checkBudget := by
  have mine : (s.pollOver p .good us).belongs p.due = true := by
    show ((s.groupRecord p.due.group).configured && decide ((s.groupRecord p.due.group).address = p.due.address)) = true
    rw [on, here, decide_eq_true rfl, Bool.and_self]
  rw [endPoll_eq, deliverOutcome_good _ _ _ mine]
  rfl

/-- The rest of the step keeps what the reply did. -/
theorem keepsReply_ends (v : State) : v.KeepsReply v.checkBudget.settle :=
  ⟨by rw [settle_groups, checkBudget_groups], by rw [settle_fda, checkBudget_fda], fun _ h => settle_kept (checkBudget_kept h),
    fun _ h => settle_carries (by rw [checkBudget_lif]; exact h)⟩

theorem State.KeepsReply.trans {u v w : State} (a : u.KeepsReply v) (b : v.KeepsReply w) : u.KeepsReply w :=
  ⟨b.groups.trans a.groups, b.fda.trans a.fda, fun f h => b.flags f (a.flags f h), fun r h => b.carries r (a.carries r h)⟩

theorem replyMove_trip {i : Interlock} {f : DriveReply} (live : i ≠ .fault ∧ i ≠ .lost) (trip : f.drive = .trip) :
    replyMove i f = some (.fault, .driveTrip) := by
  unfold replyMove
  rw [if_neg (not_or.2 live), if_pos trip]

theorem replyMove_conflict {i : Interlock} {f : DriveReply} (live : i ≠ .fault ∧ i ≠ .lost) (ready : f.drive ≠ .trip)
    (both : f.openSw = true ∧ f.closedSw = true) : replyMove i f = some (.fault, .switchConflict) := by
  unfold replyMove
  rw [if_neg (not_or.2 live), if_neg ready, if_pos both]

/-- Settles O27: the reply as it moves its group where the evaluation does not find it, and both orders where it does. -/
theorem goodReplyMovesTheInterlock : Obligations.GoodReplyMovesTheInterlock := by
  unfold Obligations.GoodReplyMovesTheInterlock
  intro s p r us i polling inTime good on here hi
  have run : exec (.driveReply r false us) s = .next (s.endPoll p .good (replyFields r) (p.quietUs + 400 + us)).settle := by
    show execDriveReply r false us s = _
    unfold execDriveReply
    rw [polling, ← good]
    exact congrArg Host.Outcome.next (if_pos inTime)
  obtain ⟨e', brings⟩ := endPoll_brings s p .good (replyFields r) (p.quietUs + 400 + us)
  have owes := endPoll_owes s p .good (replyFields r) (p.quietUs + 400 + us)
  obtain ⟨poll, account, last⟩ := endPoll_noted s p .good (replyFields r) (p.quietUs + 400 + us)
  refine ⟨_, run, ?_, judgesSite_settle owes brings.grows (Nat.le_refl 4), poll, account, last, ?_⟩
  all_goals clear owes brings poll account last run
  all_goals rw [endPoll_good on here]
  · intro f ch ch' found x fault moved closing
    have ends := keepsReply_ends ((s.scoring p (p.quietUs + 400 + us)).goodTaken p.due.group f (Config.replyBeforeScore s.fresh))
    have channel := goodTaken_channel (d := s.scoring p (p.quietUs + 400 + us)) (g := p.due.group) (f := f)
      (Config.replyBeforeScore s.fresh)
    have apart := goodTaken_apart (d := s.scoring p (p.quietUs + 400 + us)) (f := f) hi
    have validity := goodTaken_says (s := s) (d := s.scoring p (p.quietUs + 400 + us)) rfl (Config.replyBeforeScore s.fresh)
      ends.carries
    have group := fun h => goodTaken_says_found (s := s) (d := s.scoring p (p.quietUs + 400 + us)) rfl h
      (Config.replyBeforeScore s.fresh) ends.carries
    have replyFirst := goodTaken_replyFirst (d := s.scoring p (p.quietUs + 400 + us)) (g := p.due.group) (f := f)
    have scoreFirst := goodTaken_scoreFirst (d := s.scoring p (p.quietUs + 400 + us)) (g := p.due.group) (f := f)
    have finds : (s.scoring p (p.quietUs + 400 + us)).finds p.due.group ↔ found :=
      and_congr_left' ⟨fun e => Option.some.inj (hi.symm.trans e), fun e => hi.trans (congrArg some e)⟩
    generalize Config.replyBeforeScore s.fresh = b at *
    -- The state in which the reply is judged, where it is: the group's own, or CLOSING once it has been found.
    have closed : found → b = false → ∃ w : State, (w.takeReply p.due.group f).KeepsReply
        ((s.scoring p (p.quietUs + 400 + us)).goodTaken p.due.group f b).checkBudget.settle
        ∧ (w.groups.get p.due.group).interlock = some .closing
        ∧ ({ w.groups.get p.due.group with reply := some f } : Group) = closing ∧ w.fda.demand.get p.due.group = x.figs.s := by
      rintro hf rfl
      obtain ⟨get, demand⟩ := findGroup_found (d := (s.scoring p (p.quietUs + 400 + us)).turnedDrive p.due.group .good)
        (g := p.due.group) (finds.2 hf).1
      rw [scoreFirst (finds.2 hf)] at ends ⊢
      exact ⟨_, ends, by rw [get], by rw [get]; rfl, demand⟩
    have judged : ((i ≠ .fault ∧ i ≠ .lost) ∨ (found ∧ b = false)) → ∃ (w : State) (k : Interlock),
        (w.takeReply p.due.group f).KeepsReply ((s.scoring p (p.quietUs + 400 + us)).goodTaken p.due.group f b).checkBudget.settle
        ∧ (w.groups.get p.due.group).interlock = some k ∧ k ≠ .fault ∧ k ≠ .lost := by
      rintro (live | ⟨hf, scored⟩)
      · obtain ⟨w, groups, _, _, keeps⟩ := apart (fun h => live.2 (finds.1 h).1) b
        exact ⟨w, i, keeps.trans ends, by rw [groups]; exact hi, live⟩
      · obtain ⟨w, keeps, at_, _⟩ := closed hf scored
        exact ⟨w, .closing, keeps, at_, nofun, nofun⟩
    refine ⟨?_, fun other => ?_, ?_, ?_, fun live trip => ?_, fun live ready both both' => ?_, fun other j into moved => ?_,
      fun hf => ?_, fun turned => ?_⟩
    · rw [settle_channels, checkBudget_sup]
      exact channel
    · obtain ⟨w, groups, _, _, keeps⟩ := apart (fun h => other (finds.1 h)) b
      rw [(keeps.trans ends).groups, takeReply_get (by rw [groups]; exact hi), groups]
      exact replied_eq _ i f
    · rintro hf rfl
      rw [ends.groups, ends.fda, replyFirst (finds.2 hf)]
      have lost : (((s.scoring p (p.quietUs + 400 + us)).replyNoted p.due.group f).groups.get p.due.group) = x :=
        Sys2Proof.Table.get_set_self _ _ _
      obtain ⟨get, demand⟩ := findGroup_found
        (d := ((s.scoring p (p.quietUs + 400 + us)).replyNoted p.due.group f).turnedDrive p.due.group .good) (g := p.due.group)
        (by rw [turnedDrive_groups, lost]; exact (finds.2 hf).1)
      rw [get, demand, turnedDrive_groups, lost]
      exact ⟨rfl, rfl⟩
    · intro hf scored
      obtain ⟨w, keeps, at_, get, demand⟩ := closed hf scored
      rw [keeps.groups, keeps.fda, takeReply_get at_, replied_eq]
      clear_value closing
      subst get
      simp only [reduceCtorEq, or_self, if_false, false_and, true_and]
      refine ⟨rfl, fun ready fine => ?_⟩
      rw [takeReply_fda at_ f fun c moves => ?_]
      · exact demand
      · unfold replyMove at moves
        split_ifs at moves <;> cases moves
    · obtain ⟨w, k, keeps, at_, live'⟩ := judged live
      obtain ⟨demand, flag, _⟩ := takeReply_fault at_ f (replyMove_trip live' trip)
      exact ⟨keeps.flags _ (flag rfl), by rw [keeps.fda]; exact demand⟩
    · obtain ⟨w, k, keeps, at_, live'⟩ := judged live
      obtain ⟨demand, _, flag⟩ := takeReply_fault at_ f (replyMove_conflict live' ready ⟨both, both'⟩)
      exact ⟨keeps.flags _ (flag rfl), by rw [keeps.fda]; exact demand⟩
    · obtain ⟨w, groups, _, grows, keeps⟩ := apart (fun h => other (finds.1 h)) b
      have at_ : (w.groups.get p.due.group).interlock = some i := by rw [groups]; exact hi
      rw [(keeps.trans ends).groups, takeReply_get at_, groups] at into ⊢
      unfold Group.replied at into ⊢
      cases m : replyMove i f with
      | none =>
        rw [m] at into
        exact absurd (Option.some.inj (into.symm.trans hi)) moved
      | some m' =>
        obtain ⟨k, c⟩ := m'
        rw [m] at into
        cases into
        have told := takeReply_says at_ f (s := s) (l := s.lif) (n := 1) (before := 4) rfl rfl grows (by decide)
          (keeps.trans ends).carries m
        rw [groups] at told
        exact told
    · exact group (finds.2 hf)
    · exact validity turned
  · obtain ⟨lgt, groups⟩ := goodTaken_rest (d := s.scoring p (p.quietUs + 400 + us)) (g := p.due.group) (f := replyFields r)
      (Config.replyBeforeScore s.fresh)
    refine ⟨fun h ne => ?_, ?_, ?_, ?_, ?_⟩
    · rw [settle_groups, checkBudget_groups]
      exact groups h ne
    · rw [← endPoll_good on here, settle_cfg, endPoll_cfg]
    · rw [← endPoll_good on here, settle_clock, endPoll_clock]
    · rw [settle_lgt, checkBudget_lgt]
      exact lgt
    · rw [← endPoll_good on here, settle_pins, endPoll_pins]

end Sys2Proof.Machine
end

section
/-! The flash port at the end of a step, and directory copies: the clip table, the announcement's lock and its restart, and
what start-up, RELEASE and a stale load make of them (R14, R65, R168 to R172, R178). -/

namespace Sys2Proof.Machine

open State

/-! ## What the arbiter starts -/

theorem flashQuiet_iff (s : State) : s.flashQuiet = true ↔
    s.aud.chunk = none ∧ s.aud.seeker = none ∧ s.flp.internalQ = [] ∧ s.flp.lifQ = [] := by
  simp only [State.flashQuiet, Bool.and_eq_true, decide_eq_true_eq, and_assoc]

/-- With AUD asking for nothing, a FREE port takes the Internal transaction that waits alone (R169). -/
theorem settleFlash_internal {s : State} {t : Txn} (free : s.flp.port = .free) (chunk : s.aud.chunk = none)
    (seeks : s.aud.seeker = none) (internal : s.flp.internalQ = [t]) (lif : s.flp.lifQ = []) :
    s.settleFlash = State.startTxn { s with flp := { s.flp with internalQ := [], turn := .lif } } t := by
  unfold State.settleFlash
  rw [seek_quiet _ seeks]
  unfold State.arbitrate State.chooseTxn
  rw [free]
  simp [chunk, internal, lif]

/-- With AUD asking for nothing, a FREE port takes the LIF transaction that waits alone (R169). -/
theorem settleFlash_lif {s : State} {t : Txn} (free : s.flp.port = .free) (chunk : s.aud.chunk = none)
    (seeks : s.aud.seeker = none) (internal : s.flp.internalQ = []) (lif : s.flp.lifQ = [t]) :
    s.settleFlash = State.startTxn { s with flp := { s.flp with lifQ := [], turn := .internal } } t := by
  unfold State.settleFlash
  rw [seek_quiet _ seeks]
  unfold State.arbitrate State.chooseTxn
  rw [free]
  simp [chunk, internal, lif]

theorem startTxn_port (s : State) (t : Txn) : (s.startTxn t).flp.port = t.port := rfl

theorem settle_port (s : State) : s.settle.flp.port = s.settleFlash.flp.port := by
  unfold State.settle
  rw [kick_flp, settleSite_flp]

/-- Only a suspended erase touches the flash at the end of a step (R164, R170). -/
theorem settle_flash_of_free {u : State} (free : u.flp.port = .free) : u.settle.flash = u.flash := by
  have settled : u.settle.flash = u.settleFlash.flash := by simp [State.settle]
  rw [settled]
  unfold State.settleFlash State.arbitrate
  rw [show ({ u with aud := u.aud.seek } : State).flp.port = .free from free]
  exact chooseTxn_flash _

/-! ## Where the announcement's lock goes -/

theorem serviceMeets_iff (f : Flp) (e : Nat × Nat) :
    f.serviceMeets e = true ↔ ∃ w, f.work = some w ∧ w.address < e.2 ∧ e.1 < w.address + w.len := by
  unfold Flp.serviceMeets extentsMeet
  cases f.work <;> simp

theorem ofShow_eq (o : LockOwner) : o.ofShow = decide (o ≠ .announcement) := by cases o <;> rfl

/-- Moving the announcement's lock leaves the show's. -/
theorem relockAnnouncement_show (s : State) :
    (s.relockAnnouncement.flp.locks.filter fun k => k.owner.ofShow) = s.flp.locks.filter fun k => k.owner.ofShow := by
  unfold State.relockAnnouncement
  dsimp only
  split
  · simp [List.filter_filter]
  · split <;> simp [List.filter_filter, List.filter_append, LockOwner.ofShow]

theorem relockAnnouncement_work (s : State) : s.relockAnnouncement.flp.work = s.flp.work := by
  unfold State.relockAnnouncement
  dsimp only
  split
  · rfl
  · split <;> rfl

/-- The announcement's lock follows the clips and the setting of a state in which the rest of FLP's locks stood. -/
theorem relocked_of {s t u : State} (locks : t.flp.locks = u.relockAnnouncement.flp.locks)
    (waits : t.flp.annWaiting = u.relockAnnouncement.flp.annWaiting)
    (shows : (u.flp.locks.filter fun k => k.owner.ofShow) = s.flp.locks.filter fun k => k.owner.ofShow)
    (work : u.flp.work = s.flp.work) (clips : t.aud.clips = u.aud.clips) (cfg : t.cfg = u.cfg) : s.relocked t := by
  obtain ⟨none, some⟩ := relockAnnouncement_cases u
  rw [shows, ← locks, ← waits, ← clips, ← cfg] at none some
  have kept : (s.flp.locks.filter fun k => decide (k.owner ≠ .announcement)) = s.flp.locks.filter fun k => k.owner.ofShow :=
    List.filter_congr fun k _ => (ofShow_eq k.owner).symm
  unfold State.relocked
  dsimp only
  rw [kept]
  cases h : lookupClip t.aud.clips t.cfg.options.annClip with
  | none =>
    obtain ⟨ann, rest⟩ := none h
    exact ⟨rest, ann⟩
  | some c =>
    have now := some c h
    refine ⟨fun meets => ?_, fun clear => ?_⟩
    · rw [if_pos ((serviceMeets_iff ..).2 (by rw [work]; exact meets))] at now
      exact ⟨now.2, now.1⟩
    · rw [if_neg fun meets => ?_] at now
      · exact ⟨now.2, now.1⟩
      · obtain ⟨w, hw, below, above⟩ := (serviceMeets_iff ..).1 meets
        rcases clear w (work ▸ hw) with h | h
        · exact absurd below (Nat.not_lt.2 h)
        · exact absurd above (Nat.not_lt.2 h)

/-! ## Restarting the announcement -/

theorem giveAnnouncement_clips (a : Aud) (o : ShowOptions) : (a.giveAnnouncement o).clips = a.clips := by
  unfold Aud.giveAnnouncement
  split <;> rfl

/-- A copy's restart of the announcement, by what it finds (R65). -/
theorem restartsAnnouncement_of {s t u : State} (aud : t.aud = u.restartIfTripped.aud.seek)
    (buf : ∀ i, u.aud.buf i = s.aud.buf i) (gap : u.aud.gapLeft = s.aud.gapLeft) (mode : u.sup.mode = s.sup.mode)
    (halted : u.lif.halted = s.lif.halted) (cfg : u.cfg = s.cfg) : s.restartsAnnouncement t := by
  have restarts : u.restartIfTripped.aud = if s.sup.mode = .tripped ∧ s.lif.halted = false then u.aud.restart s.cfg.options
      else u.aud := by
    unfold State.restartIfTripped State.isTripped
    dsimp only
    rw [mode, halted, cfg]
    simp only [Bool.and_eq_true, decide_eq_true_eq, Bool.not_eq_true']
  rw [restarts] at aud
  refine ⟨fun tripped runs => ?_, fun stands => ?_, ?_⟩
  · rw [aud, if_pos ⟨tripped, runs⟩]
    obtain ⟨_, _, _, _, _, gap', _, _, clips⟩ := seek_parts (u.aud.restart s.cfg.options)
    rw [clips, gap']
    unfold Aud.restart
    rw [giveAnnouncement_clips]
    exact ⟨announces_of_given rfl, (giveAnnouncement_parts _ _).2.2.2.2.2.1⟩
  · rw [aud, if_neg fun both => stands.elim (fun h => h both.1) fun h => Bool.noConfusion (h.symm.trans both.2)]
    exact ⟨(seek_parts _).2.2.2.2.2.1.trans gap, fun i => by rw [← buf]; exact u.aud.seek_buf i⟩
  · rw [aud]
    have b := buf .b
    split
    · refine (Aud.seek_buf (u.aud.restart s.cfg.options) .b).trans (congrArg (Option.map Stream.atRest) ?_)
      exact ((giveAnnouncement_parts _ _).2.2.2.2.2.2.2.2).trans b
    · exact (Aud.seek_buf u.aud .b).trans (congrArg (Option.map Stream.atRest) b)

/-! ## Directory copies -/

/-- The directory sector has been read, and the clip table taken from it; the announcement's lock does not follow yet. -/
def State.sectorTaken (s : State) : State :=
  let t := (s.withPort .free).nextDirectory
  { t with aud := { t.aud with clips := settleDirectory (Memory.readBytes s.flash 0x110000 4096) } }

theorem exec_directoryReadDone {s : State} {why : CopyFor} (port : s.flp.port = .reading .directory)
    (copying : s.aud.copying = some why) :
    exec .directoryReadDone s = .next ((s.sectorTaken.relockAnnouncement).afterCopy why).settle := by
  show execDirectoryReadDone s = _
  unfold execDirectoryReadDone
  rw [port]
  refine congrArg (fun u : State => Host.Outcome.next u.settle) ?_
  unfold State.directoryRead
  rw [show (s.withPort .free).aud.copying = some why from copying]
  rfl

theorem sectorTaken_aud (s : State) : s.sectorTaken.aud = { s.aud with
    clips := settleDirectory (Memory.readBytes s.flash 0x110000 4096)
    copying := s.aud.copyQueue.head?
    copyQueue := s.aud.copyQueue.tail } := by
  unfold State.sectorTaken State.nextDirectory
  cases h : s.aud.copyQueue with
  | nil => simp [State.withPort, h]
  | cons why rest => simp [State.withPort, State.handInternal, h]

/-- Taking the sector leaves the rest, but for the next copy that is handed over (R168). -/
theorem sectorTaken_rest (s : State) : ∃ q, s.sectorTaken = { s with
    aud := s.sectorTaken.aud, flp := { s.flp with port := .free, internalQ := q } }
    ∧ q = if s.aud.copyQueue = [] then s.flp.internalQ else s.flp.internalQ ++ [.directory] := by
  unfold State.sectorTaken State.nextDirectory
  cases h : s.aud.copyQueue with
  | nil => exact ⟨s.flp.internalQ, by simp [State.withPort, h], by simp⟩
  | cons why rest => exact ⟨_, by simp [State.withPort, State.handInternal, h]; rfl, by simp⟩

theorem restartIfTripped_table (u : State) :
    u.restartIfTripped.aud.clips = u.aud.clips ∧ u.restartIfTripped.aud.copying = u.aud.copying := by
  unfold State.restartIfTripped Aud.restart Aud.giveAnnouncement
  split
  · split <;> exact ⟨rfl, rfl⟩
  · exact ⟨rfl, rfl⟩

theorem seek_table (a : Aud) : a.seek.clips = a.clips ∧ a.seek.copying = a.copying ∧ a.seek.copyQueue = a.copyQueue :=
  have e := a.seek_eq
  ⟨(congrArg Aud.clips e :), (congrArg Aud.copying e :), (congrArg Aud.copyQueue e :)⟩

theorem sectorTaken_locks (s : State) : s.sectorTaken.flp.locks = s.flp.locks ∧ s.sectorTaken.flp.work = s.flp.work := by
  obtain ⟨q, e, _⟩ := sectorTaken_rest s
  exact ⟨(congrArg (fun u : State => u.flp.locks) e :), (congrArg (fun u : State => u.flp.work) e :)⟩

/-- What taking the sector leaves outside AUD and FLP. -/
theorem sectorTaken_frame (s : State) : s.sectorTaken.cfg = s.cfg ∧ s.sectorTaken.clock = s.clock
    ∧ s.sectorTaken.lif = s.lif ∧ s.sectorTaken.seq = s.seq ∧ s.sectorTaken.groups = s.groups ∧ s.sectorTaken.dbm = s.dbm
    ∧ s.sectorTaken.lgt = s.lgt ∧ s.sectorTaken.fda = s.fda ∧ s.sectorTaken.sup = s.sup ∧ s.sectorTaken.pins = s.pins
    ∧ s.sectorTaken.flash = s.flash ∧ s.sectorTaken.flags = s.flags ∧ s.sectorTaken.flp.presence = s.flp.presence
    ∧ s.sectorTaken.flp.image = s.flp.image ∧ s.sectorTaken.flp.settingsWork = s.flp.settingsWork
    ∧ s.sectorTaken.flp.lifQ = s.flp.lifQ ∧ s.sectorTaken.flp.port = .free := by
  obtain ⟨q, e, _⟩ := sectorTaken_rest s
  generalize s.sectorTaken = u at *
  rw [e]
  exact ⟨rfl, rfl, rfl, rfl, rfl, rfl, rfl, rfl, rfl, rfl, rfl, rfl, rfl, rfl, rfl, rfl, rfl⟩

/-- A directory copy of start-up or RELEASE, the table settled and the announcement restarted where it must be. -/
def State.restarted (s : State) : State := s.sectorTaken.relockAnnouncement.restartIfTripped

theorem restarted_restarts {s t : State} (aud : t.aud = s.restarted.aud.seek) : s.restartsAnnouncement t := by
  obtain ⟨cfg, _, lif, _, _, _, _, _, sup, _⟩ := sectorTaken_frame s
  have taken := sectorTaken_aud s
  have same : s.sectorTaken.relockAnnouncement.aud = s.sectorTaken.aud := by rw [relockAnnouncement_eq]
  refine restartsAnnouncement_of (u := s.sectorTaken.relockAnnouncement) aud (fun i => ?_) ?_ ?_ ?_ ?_
  · rw [same, taken]
    cases i <;> rfl
  · rw [same, taken]
  · rw [relockAnnouncement_eq, sup]
  · rw [relockAnnouncement_eq, lif]
  · rw [relockAnnouncement_eq, cfg]

theorem restarted_frame (s : State) : s.restarted.cfg = s.cfg ∧ s.restarted.clock = s.clock
    ∧ s.restarted.lif = s.lif ∧ s.restarted.seq = s.seq ∧ s.restarted.groups = s.groups ∧ s.restarted.dbm = s.dbm
    ∧ s.restarted.lgt = s.lgt ∧ s.restarted.fda = s.fda ∧ s.restarted.sup = s.sup ∧ s.restarted.pins = s.pins
    ∧ s.restarted.flash = s.flash := by
  obtain ⟨cfg, clock, lif, seq, groups, dbm, lgt, fda, sup, pins, flash, _⟩ := sectorTaken_frame s
  unfold State.restarted
  rw [relockAnnouncement_eq]
  exact ⟨cfg, clock, lif, seq, groups, dbm, lgt, fda, sup, pins, flash⟩

theorem restarted_table (s : State) :
    s.restarted.aud.clips = settleDirectory (Memory.readBytes s.flash 0x110000 4096)
      ∧ s.restarted.aud.copying = s.aud.copyQueue.head? := by
  unfold State.restarted
  obtain ⟨clips, copying⟩ := restartIfTripped_table s.sectorTaken.relockAnnouncement
  rw [clips, copying, show s.sectorTaken.relockAnnouncement.aud = s.sectorTaken.aud by rw [relockAnnouncement_eq],
    sectorTaken_aud]
  exact ⟨rfl, rfl⟩

/-- The announcement's lock after a copy, once more from the table and the setting that it has already followed. -/
theorem restarted_relocks {s t : State} (locks : t.flp.locks = s.restarted.relockAnnouncement.flp.locks)
    (waits : t.flp.annWaiting = s.restarted.relockAnnouncement.flp.annWaiting) (clips : t.aud.clips = s.restarted.aud.clips)
    (cfg : t.cfg = s.cfg) : s.relocked t := by
  obtain ⟨held, work⟩ := sectorTaken_locks s
  have flp : s.restarted.flp = s.sectorTaken.relockAnnouncement.flp := rfl
  refine relocked_of locks waits ?_ ?_ clips (cfg.trans (restarted_frame s).1.symm)
  · rw [flp, relockAnnouncement_show, held]
  · rw [flp, relockAnnouncement_work, work]

/-- Moving the lock touches FLP's locks and the one that waits, and no more. -/
theorem relockAnnouncement_flp (s : State) : s.relockAnnouncement.flp = { s.flp with
    locks := s.relockAnnouncement.flp.locks, annWaiting := s.relockAnnouncement.flp.annWaiting } := by
  unfold State.relockAnnouncement
  dsimp only
  split
  · rfl
  · split <;> rfl

theorem restarted_flp (s : State) : s.restarted.flp.presence = s.flp.presence ∧ s.restarted.flp.image = s.flp.image
    ∧ s.restarted.flp.settingsWork = s.flp.settingsWork ∧ s.restarted.flp.port = .free := by
  obtain ⟨_, _, _, _, _, _, _, _, _, _, _, _, presence, image, work, _, port⟩ := sectorTaken_frame s
  have e := relockAnnouncement_flp s.sectorTaken
  exact ⟨(congrArg Flp.presence e).trans presence, (congrArg Flp.image e).trans image, (congrArg Flp.settingsWork e).trans work,
    (congrArg Flp.port e).trans port⟩

theorem settle_image (u : State) : u.settle.flp.image = u.flp.image := Flp.image_of_core (settle_core (s := u))

theorem settle_settingsWork (u : State) : u.settle.flp.settingsWork = u.flp.settingsWork :=
  Flp.settingsWork_of_core (settle_core (s := u))

theorem settle_annWaiting (u : State) : u.settle.flp.annWaiting = u.flp.annWaiting := Flp.annWaiting_of_core (settle_core (s := u))

/-- READY after RELEASE's copy goes before PERMIT rises (R178; log entry 47). -/
theorem releaseReady_eq (u : State) : u.releaseReady =
    (u.relockAnnouncement.report (.ready .release u.flp.image (decide (u.flp.presence = .present)))).raisePermit := rfl

end Sys2Proof.Machine
end

section
/-! HALT, RELEASE and the directory copy that RELEASE asks for (R43, R69, R89, R100, R102, R122, R141, R157, R162, R178, R190, R191). -/

namespace Sys2Proof.Machine

open State

/-! ## RELEASE's copy -/

theorem raisePermit_iff (u : State) : u.raisePermit.sup.permit = true ↔ u.sup.permit = true
    ∨ (u.sup.startMark = true ∧ u.lif.halted = false ∧ u.sup.mode ≠ .tripped) := by
  unfold State.raisePermit State.mayPermit State.isTripped
  simp [and_assoc]

theorem releaseCopy_done {s : State} (port : s.flp.port = .reading .directory) (copying : s.aud.copying = some .release)
    (alone : s.aud.copyQueue = []) : ∃ t, exec .directoryReadDone s = .next t
      ∧ t.aud.clips = settleDirectory (Memory.readBytes s.flash 0x110000 4096) ∧ t.aud.copying = none
      ∧ s.relocked t ∧ s.restartsAnnouncement t
      ∧ (t.sup.permit = true ↔ s.sup.permit = true
        ∨ (s.sup.startMark = true ∧ s.lif.halted = false ∧ s.sup.mode ≠ .tripped))
      ∧ (s.lif.reports.length < 16 →
        t.lif.Carries (.ready .release s.flp.image (decide (s.flp.presence = .present))))
      ∧ t.sup.startMark = s.sup.startMark ∧ t.sup.channels = s.sup.channels ∧ t.flp.image = s.flp.image
      ∧ t.flp.settingsWork = s.flp.settingsWork ∧ t.cfg = s.cfg ∧ t.clock = s.clock ∧ t.seq = s.seq
      ∧ t.groups = s.groups ∧ t.dbm = s.dbm ∧ t.lgt = s.lgt ∧ t.fda = s.fda ∧ t.pins = s.pins ∧ t.flash = s.flash := by
  have run : exec .directoryReadDone s = .next s.restarted.releaseReady.settle := exec_directoryReadDone port copying
  obtain ⟨cfg, clock, lif, seq, groups, dbm, lgt, fda, sup, pins, flash⟩ := restarted_frame s
  obtain ⟨clips, table⟩ := restarted_table s
  obtain ⟨clips', table', _⟩ := seek_table s.restarted.aud
  have aud : s.restarted.releaseReady.settle.aud = s.restarted.aud.seek := by rw [settle_aud, releaseReady_aud]
  obtain ⟨presence, image, work, free⟩ := restarted_flp s
  have flp := relockAnnouncement_flp s.restarted
  refine ⟨_, run, ?_, ?_, ?_, restarted_restarts aud, ?_, fun room => ?_, ?_, ?_, ?_, ?_, ?_⟩
  · rw [aud, clips', clips]
  · rw [aud, table', table, alone]; rfl
  · refine restarted_relocks ?_ ?_ (by rw [aud, clips']) (by simp [cfg])
    · rw [settle_locks]; rfl
    · rw [settle_annWaiting]; rfl
  · have halted (r : Report) (u : State) : (u.report r).lif.halted = u.lif.halted := (report_grows (.refl 0 u.lif)).halted
    rw [settle_permit, releaseReady_eq, raisePermit_iff, report_sup, halted, relockAnnouncement_eq, sup, lif]
  · rw [← presence, ← image]
    refine settle_carries ?_
    rw [releaseReady_eq]
    refine carries_report (u := s.restarted.relockAnnouncement) rfl ?_
    rw [relockAnnouncement_eq, lif]
    exact room
  · rw [settle_sup, ← sup, releaseReady_eq]
    show s.restarted.relockAnnouncement.sup.startMark = _
    rw [relockAnnouncement_eq]
  · rw [settle_channels, releaseReady_channels, sup]
  · rw [settle_image]
    exact (congrArg Flp.image flp).trans image
  · rw [settle_settingsWork]
    exact (congrArg Flp.settingsWork flp).trans work
  · have flash' : s.restarted.releaseReady.settle.flash = s.flash := by
      rw [settle_flash_of_free (u := s.restarted.releaseReady) ((congrArg Flp.port flp).trans free), releaseReady_flash, flash]
    simp [cfg, clock, seq, groups, dbm, lgt, fda, pins, flash']

/-! ## HALT -/

theorem exec_halt {s : State} {q : Request} (ht : s.takes .halt q = true) :
    exec .halt s = .next (((s.taken.answer q .ok []).haltPart).settle).kick :=
  congrArg Host.Outcome.next (serve_takes s _ anyOf _ q ht rfl)

/-- What an abort makes of SEQ, by the state it finds (R42, R43). -/
theorem abortShow_seq (s : State) (f : Failure) (r : EndReason) :
    (s.seq.st = .idle → s.abortShow f r = s)
      ∧ (s.seq.st ≠ .idle → (s.abortShow f r).seq.lanes = Lanes.empty)
      ∧ (s.seq.st = .loading → (s.abortShow f r).seq.result.outcome = .failed ∧ (s.abortShow f r).seq.result.failure = f) := by
  unfold State.abortShow
  cases h : s.seq.st with
  | idle => exact ⟨fun _ => rfl, fun ne => absurd rfl ne, nofun⟩
  | loading => exact ⟨nofun, fun _ => rfl, fun _ => ⟨rfl, rfl⟩⟩
  | armed | running | held | stopping => exact ⟨nofun, fun _ => rfl, nofun⟩

/-- HALT before the groups are brought down: the show aborted, the lights dark, AUD empty. -/
def State.haltStopped (s : State) : State :=
  let t := State.abortShow { s with lif := { s.lif with halted := true } } .aborted .halt
  { t with
    lgt := t.lgt.halt fun f => Config.fixtureFadeStart t.fresh f.val
    aud := t.aud.halt t.cfg.zones
    fresh := t.fresh + 1 }

theorem haltPart_only (s : State) : ∃ gs l fl, l.halted = true ∧ s.haltPart =
    State.lowerPermit { s.haltStopped with groups := gs, lif := l, flags := fl } := by
  obtain ⟨gs, l, fl, e⟩ := waterDown_only s.haltStopped
  refine ⟨gs, l, fl, ?_, congrArg State.lowerPermit e⟩
  have lif : s.haltStopped.waterDown.lif = l := congrArg State.lif e
  rw [← lif, (waterDown_grows (.refl 0 _)).halted]
  exact (abortShow_grows (s := { s with lif := { s.lif with halted := true } }) (.refl 0 _)).halted

theorem haltStopped_frame (s : State) : s.haltStopped.cfg = s.cfg ∧ s.haltStopped.clock = s.clock ∧ s.haltStopped.dbm = s.dbm
    ∧ s.haltStopped.fda = s.fda ∧ s.haltStopped.pins = s.pins ∧ s.haltStopped.sup = s.sup := by
  unfold State.haltStopped
  simp

theorem halt_dark (l : Lgt) (start : Fin 96 → Tick) (f : Fin 96) : ((l.halt start).fixtures.get f).latch = none
    ∧ ((l.halt start).fixtures.get f).fade.starts = Quad.fill 0 ∧ ((l.halt start).fixtures.get f).fade.targets = Quad.fill 0
    ∧ ((l.halt start).fixtures.get f).fade.dur = 0 := by
  unfold Lgt.halt
  rw [Sys2Proof.Table.get_mapIdx]
  exact ⟨rfl, rfl, rfl, rfl⟩

theorem settle_halted (u : State) : u.settle.lif.halted = u.lif.halted := by
  unfold State.settle
  rw [kick_halted, settleSite_halted]
  exact (settleFlash_grows (.refl 0 u.lif)).halted

theorem halt_halts {s : State} {q : Request} (ht : s.takes .halt q = true) : ∃ t, exec .halt s = .next t ∧ t.lif.halted = true
    ∧ t.seq.st = .idle ∧ t.seq.lanes = (if s.seq.st = .idle then s.seq.lanes else Lanes.empty)
    ∧ (s.seq.st = .loading → t.seq.result.outcome = .failed ∧ t.seq.result.failure = .aborted)
    ∧ (∀ g : Fin 24, t.groups.get g = s.downGroup g)
    ∧ (∀ f : Fin 96, (t.lgt.fixtures.get f).latch = none ∧ (t.lgt.fixtures.get f).fade.starts = Quad.fill 0
      ∧ (t.lgt.fixtures.get f).fade.targets = Quad.fill 0 ∧ (t.lgt.fixtures.get f).fade.dur = 0)
    ∧ t.aud.bufA = none ∧ t.aud.bufB = none ∧ t.aud.m = 960 ∧ t.aud.target = 960 ∧ t.aud.count = 0
    ∧ t.aud.counting = false ∧ t.sup.permit = false ∧ t.sup.dropTimer = none ∧ t.sup.causes = s.sup.causes
    ∧ t.sup.tripLog = s.sup.tripLog ∧ t.sup.channels = s.sup.channels ∧ t.cfg = s.cfg ∧ t.clock = s.clock
    ∧ t.dbm = s.dbm ∧ t.fda = s.fda ∧ t.pins = s.pins := by
  obtain ⟨gs, l, fl, halted, only⟩ := haltPart_only (s.taken.answer q .ok [])
  obtain ⟨cfg, clock, dbm, fda, pins, sup⟩ := haltStopped_frame (s.taken.answer q .ok [])
  have link (u : State) : u.settle.kick.lif.halted = u.lif.halted := by
    rw [kick_halted, settle_halted]
  refine ⟨_, exec_halt ht, ?_⟩
  rw [link, kick_seq, settle_seq, kick_groups, settle_groups, kick_lgt, settle_lgt, kick_aud, settle_aud, kick_sup, kick_cfg,
    settle_cfg, kick_clock, settle_clock, kick_dbm, settle_dbm, kick_fda, settle_fda, kick_pins, settle_pins,
    settle_permit, settle_dropTimer, settle_causes, settle_tripLog, settle_channels]
  have idle := abortShow_idle { s.taken.answer q .ok [] with lif := { (s.taken.answer q .ok []).lif with halted := true } }
    .aborted .halt
  obtain ⟨stays, empties, fails⟩ := abortShow_seq
    { s.taken.answer q .ok [] with lif := { (s.taken.answer q .ok []).lif with halted := true } } .aborted .halt
  have groups := haltPart_groups (s.taken.answer q .ok [])
  rw [only] at groups ⊢
  refine ⟨halted, idle, ?_, fails, groups, fun f => ?_, seek_none (i := .a) rfl, seek_none (i := .b) rfl, ?_⟩
  · split
    next quiet => exact (congrArg (fun u : State => u.seq.lanes) (stays quiet) :)
    next busy => exact empties busy
  · exact halt_dark _ _ f
  · obtain ⟨m, target, _, _, _, _, count, counting, _⟩ := seek_parts (s.taken.answer q .ok []).haltStopped.aud
    refine ⟨m.trans rfl, target.trans rfl, count.trans rfl, counting.trans rfl, rfl, rfl, (congrArg Sup.causes sup :),
      (congrArg Sup.tripLog sup :), (congrArg Sup.channels sup :), cfg, clock, dbm, fda, pins⟩

/-! ## RELEASE -/

/-- The part on its way out of HALT: what RELEASE puts in place and the rest of its step leaves (R17, R122, R162, R191). -/
structure State.Restarting (s : State) (inputs : Inputs) (w : State) : Prop where
  seq : w.seq = s.seq.release
  lgt : w.lgt = Lgt.reset
  dbm : w.dbm = s.dbm
  cfg : w.cfg = s.cfg
  clock : w.clock = 0
  pins : w.pins = inputs
  presence : w.flp.presence = s.flp.presence
  halted : w.lif.halted = false
  lastReset : w.lif.lastReset = .release
  demand : ∀ g, w.fda.demand.get g = 0
  load : w.fda.load = 0
  figs : ∀ g, (w.groups.get g).figs.s = 0
  band : w.sup.band = 7
  gates : w.sup.gates = 0
  measured : w.sup.measured = .low
  startMark : w.sup.startMark = s.sup.startMark
  channels : w.sup.channels = s.sup.channels.map Channel.release

theorem rest_halted {l m : Lif} (h : l.rest = m.rest) : l.halted = m.halted := (congrArg Lif.halted h :)

theorem rest_lastReset {l m : Lif} (h : l.rest = m.rest) : l.lastReset = m.lastReset := (congrArg Lif.lastReset h :)

/-- What SUP holds beside a trip and PERMIT. -/
def Sup.bearings (u : Sup) : Nat × Nat × LevelState × Bool × Table 27 Channel :=
  (u.band, u.gates, u.measured, u.startMark, u.channels)

/-- A step that leaves what RELEASE has put in place. -/
theorem State.Restarting.step {s w v : State} {inputs : Inputs} (h : s.Restarting inputs w) (seq : v.seq = w.seq)
    (lgt : v.lgt = w.lgt) (dbm : v.dbm = w.dbm) (cfg : v.cfg = w.cfg) (clock : v.clock = w.clock) (pins : v.pins = w.pins)
    (presence : v.flp.presence = w.flp.presence) (halted : v.lif.halted = w.lif.halted)
    (lastReset : v.lif.lastReset = w.lif.lastReset)
    (demand : ∀ g, v.fda.demand.get g = 0) (load : v.fda.load = w.fda.load) (figs : ∀ g, (v.groups.get g).figs.s = 0)
    (sup : v.sup.bearings = w.sup.bearings) : s.Restarting inputs v := by
  obtain ⟨band, sup⟩ := Prod.mk.inj sup
  obtain ⟨gates, sup⟩ := Prod.mk.inj sup
  obtain ⟨measured, sup⟩ := Prod.mk.inj sup
  obtain ⟨startMark, channels⟩ := Prod.mk.inj sup
  exact ⟨seq.trans h.seq, lgt.trans h.lgt, dbm.trans h.dbm, cfg.trans h.cfg, clock.trans h.clock, pins.trans h.pins,
    presence.trans h.presence, halted.trans h.halted, lastReset.trans h.lastReset,
    demand, load.trans h.load, figs, band.trans h.band, gates.trans h.gates, measured.trans h.measured,
    startMark.trans h.startMark, channels.trans h.channels⟩

/-- What SUP holds of a trip. -/
structure State.SameTrip (s w : State) : Prop where
  mode : w.sup.mode = s.sup.mode
  causes : w.sup.causes = s.sup.causes
  tripLog : w.sup.tripLog = s.sup.tripLog
  barred : s.sup.permit = false → w.sup.permit = false

theorem State.SameTrip.trans {s u w : State} (a : s.SameTrip u) (b : u.SameTrip w) : s.SameTrip w :=
  ⟨b.mode.trans a.mode, b.causes.trans a.causes, b.tripLog.trans a.tripLog, fun h => b.barred (a.barred h)⟩

theorem eachGroup_induction {P : State → Prop} {f : Fin 24 → State → State} (step : ∀ g t, P t → P (f g t)) {s : State}
    (h : P s) : P (s.eachGroup f) := by
  unfold State.eachGroup
  generalize List.finRange 24 = l
  induction l generalizing s with
  | nil => exact h
  | cons g l ih => exact ih (step g s h)

section
variable {s w : State} {inputs : Inputs}

/-- The record of RELEASE itself. -/
theorem released_restarting (s : State) (inputs : Inputs) : s.Restarting inputs (s.released inputs) := by
  refine ⟨rfl, rfl, rfl, rfl, rfl, rfl, rfl, rfl, rfl, fun g => ?_, rfl, fun g => ?_, rfl, rfl, rfl, rfl, rfl⟩
  · exact Sys2Proof.Table.get_fill ..
  · show ((s.groups.map Group.release).get g).figs.s = 0
    rw [Sys2Proof.Table.get_map]
    rfl

/-- An interlock change before it is offered. -/
def State.changed (w : State) (g : Fin 24) (left into : Interlock) (cause : FaultCause) (code : Option Byte) : State :=
  ((w.entered g left into cause).report (.groupState g (some left) into cause (w.groups.get g).starved
    (w.groups.get g).sent (((w.groups.get g).reply.map (·.actual)).getD 0) code)).postAtChange g left into

/-- A change outside STOPPING is offered to SUP alone, which can only lower PERMIT. -/
theorem changeInterlock_ways (idle : w.seq.st ≠ .stopping) (g : Fin 24) (left into : Interlock) (cause : FaultCause)
    (code : Option Byte) : w.changeInterlock g left into cause code = w.changed g left into cause code
      ∨ w.changeInterlock g left into cause code = (w.changed g left into cause code).lowerPermit := by
  rw [changeInterlock_eq, offerChange_other (by rw [postAtChange_seq]; exact idle)]
  unfold State.judgeDrop
  split
  · exact .inr rfl
  · exact .inl rfl

/-- Where no figures stand and no demand is held, none is posted. -/
theorem changed_fda (demand : ∀ k, w.fda.demand.get k = 0) (figs : ∀ k, (w.groups.get k).figs.s = 0) (g : Fin 24)
    (left into : Interlock) (cause : FaultCause) (code : Option Byte) :
    (∀ k, (w.changed g left into cause code).fda.demand.get k = 0)
      ∧ (w.changed g left into cause code).fda.load = w.fda.load := by
  unfold State.changed State.postAtChange
  split
  · exact ⟨demand, rfl⟩
  · refine ⟨fun k => ?_, ?_⟩
    · by_cases e : k = g
      · rw [e, postDemand_get]
        split
        · rfl
        · show ((w.entered g left into cause).groups.get g).figs.s = 0
          unfold State.entered State.withGroup
          rw [Sys2Proof.Table.get_set_self]
          exact figs g
      · rw [postDemand_get_other _ e]
        exact demand k
    · exact (congrArg Fda.load (postDemand_reposted _ _ _) :)

/-- An interlock change that finds the show idle and no figures posts no demand and offers PERMIT nothing to raise. -/
theorem changeInterlock_restarting (h : s.Restarting inputs w) (g : Fin 24) (left into : Interlock) (cause : FaultCause)
    (code : Option Byte) : s.Restarting inputs (w.changeInterlock g left into cause code)
      ∧ w.SameTrip (w.changeInterlock g left into cause code) := by
  have ways := changeInterlock_ways (by rw [h.seq]; exact nofun) g left into cause code
  obtain ⟨demand, load⟩ := changed_fda h.demand h.figs g left into cause code
  have figs (k : Fin 24) : ((w.changeInterlock g left into cause code).groups.get k).figs.s = 0 := by
    by_cases e : k = g
    · rw [e, changeInterlock_get]
      exact h.figs g
    · rw [changeInterlock_get_other _ e]
      exact h.figs k
  have core : (w.changeInterlock g left into cause code).seq = w.seq
      ∧ (w.changeInterlock g left into cause code).flp.presence = w.flp.presence
      ∧ (w.changeInterlock g left into cause code).fda = (w.changed g left into cause code).fda
      ∧ (w.changeInterlock g left into cause code).sup.bearings = w.sup.bearings
      ∧ w.SameTrip (w.changeInterlock g left into cause code) := by
    have seq : (w.changed g left into cause code).seq = w.seq := postAtChange_seq ..
    have sup : (w.changed g left into cause code).sup = w.sup := postAtChange_sup ..
    have flp : (w.changed g left into cause code).flp = w.flp := postAtChange_flp ..
    rcases ways with e | e
    · rw [e]
      exact ⟨seq, congrArg Flp.presence flp, rfl, congrArg Sup.bearings sup, congrArg Sup.mode sup, congrArg Sup.causes sup,
        congrArg Sup.tripLog sup, fun low => (congrArg Sup.permit sup).trans low⟩
    · rw [e]
      exact ⟨seq, congrArg Flp.presence flp, rfl, (congrArg Sup.bearings sup :), (congrArg Sup.mode sup :),
        (congrArg Sup.causes sup :), (congrArg Sup.tripLog sup :), fun _ => rfl⟩
  obtain ⟨seq, presence, fda, sup, same⟩ := core
  have grows : w.lif.Grows 2 (w.changeInterlock g left into cause code).lif := changeInterlock_grows (n := 0) (.refl 0 _)
  rw [← fda] at demand load
  exact ⟨h.step seq (by simp) (by simp) (by simp) (by simp) (by simp) presence
    (rest_halted grows.rest) (rest_lastReset grows.rest) demand load figs sup, same⟩

theorem reenter_restarting (h : s.Restarting inputs w) (g : Fin 24) :
    s.Restarting inputs (w.reenter g) ∧ w.SameTrip (w.reenter g) := by
  unfold State.reenter
  cases hi : (w.groups.get g).interlock with
  | none => exact ⟨h, rfl, rfl, rfl, id⟩
  | some left =>
    dsimp only
    obtain ⟨closing, same⟩ := changeInterlock_restarting h g left .closing .none none
    split
    · exact ⟨closing, same⟩
    · obtain ⟨lost, same'⟩ := changeInterlock_restarting closing g .closing .lost .none none
      exact ⟨lost, same.trans same'⟩

/-- The groups have re-entered the interlock. -/
def State.reentered (s : State) (inputs : Inputs) : State := (s.released inputs).eachGroup fun g a => a.reenter g

theorem reentered_restarting (s : State) (inputs : Inputs) :
    s.Restarting inputs (s.reentered inputs) ∧ (s.released inputs).SameTrip (s.reentered inputs) :=
  eachGroup_induction (P := fun w => s.Restarting inputs w ∧ (s.released inputs).SameTrip w)
    (fun g _ h => ⟨(reenter_restarting h.1 g).1, h.2.trans (reenter_restarting h.1 g).2⟩)
    ⟨released_restarting s inputs, rfl, rfl, rfl, id⟩

theorem lowerPermit_bearings (u : State) : u.lowerPermit.sup.bearings = u.sup.bearings := rfl

/-- What a trip's other acts leave of a show that is idle: FLP, and SUP beside PERMIT. -/
theorem tripActs_idle {u : State} (idle : u.abortShow .tripped .trip = u) :
    u.tripActs.flp.presence = u.flp.presence ∧ u.tripActs.sup.bearings = u.sup.bearings := by
  have stopped : u.tripStopped.flp = u.flp := by
    have aborted : u.tripStopped.flp = (u.abortShow .tripped .trip).flp := by simp [tripStopped]
    rw [aborted, idle]
  have water : u.tripStopped.waterDown.flp = u.tripStopped.flp := by
    obtain ⟨_, _, _, e⟩ := waterDown_only u.tripStopped
    rw [e]
  have sup : u.tripStopped.waterDown.sup = u.sup := (waterDown_sup _).trans (tripStopped_sup u)
  have flp := water.trans stopped
  rcases tripActs_cases u with e | e <;> rw [e]
  · exact ⟨congrArg Flp.presence flp, congrArg Sup.bearings sup⟩
  · exact ⟨congrArg Flp.presence ((lowerPermit_flp _).trans flp), (lowerPermit_bearings _).trans (congrArg Sup.bearings sup)⟩

theorem dropLatches_reset : Lgt.reset.dropLatches = Lgt.reset := by
  unfold Lgt.dropLatches Lgt.reset
  exact congrArg (fun t => (⟨t, 0, []⟩ : Lgt)) (Sys2Proof.Table.ext_get fun i => by
    rw [Sys2Proof.Table.get_map, Sys2Proof.Table.get_fill]; rfl)

/-- Bringing a group down leaves the figures, the command and the reply, and a group that does not open in its state. -/
theorem downGroup_rest (s : State) (g : Fin 24) : (s.downGroup g).figs = (s.groups.get g).figs
    ∧ (s.downGroup g).sent = (s.groups.get g).sent ∧ (s.downGroup g).reply = (s.groups.get g).reply
    ∧ ((s.groups.get g).interlock ≠ some .opening → (s.downGroup g).interlock = (s.groups.get g).interlock) := by
  unfold State.downGroup
  dsimp only
  split
  · exact ⟨rfl, rfl, rfl, fun _ => rfl⟩
  next h => exact ⟨rfl, rfl, rfl, fun other => absurd h other⟩
  · exact ⟨rfl, rfl, rfl, fun _ => rfl⟩

/-- A trip found at RELEASE acts on a part that is dark and idle already. -/
theorem judgeInputs_restarting (h : s.Restarting inputs w) (i : Inputs) : s.Restarting inputs (w.judgeInputs i) := by
  unfold State.judgeInputs
  split
  · obtain ⟨seq, lgt, _, cfg, clock, dbm, fda, pins⟩ := tripActs_frame (w.latchTrip (inputCauses i))
    have idle : (w.latchTrip (inputCauses i)).abortShow .tripped .trip = w.latchTrip (inputCauses i) :=
      (abortShow_seq _ _ _).1 ((congrArg Seq.st h.seq).trans rfl)
    obtain ⟨presence, sup⟩ := tripActs_idle idle
    have grows := (tripActs_grows (latchTrip_grows (causes := inputCauses i) (.refl 0 w.lif))).rest
    refine h.step (seq.trans (by rw [idle]; rfl)) (lgt.trans ?_) (dbm.trans rfl) (cfg.trans rfl) (clock.trans rfl)
      (pins.trans rfl) (presence.trans rfl)
      (rest_halted grows) (rest_lastReset grows) (fun g => by rw [fda]; exact h.demand g) (by rw [fda]; rfl)
      (fun g => ?_) (sup.trans rfl)
    · rw [show (w.latchTrip (inputCauses i)).lgt = w.lgt from rfl, h.lgt, dropLatches_reset]
    · rw [latchTrip_tripActs_groups, (downGroup_rest w g).1]
      exact h.figs g
  · exact h

theorem rescale_restarting (h : s.Restarting inputs w) : s.Restarting inputs w.rescale :=
  h.step rfl rfl rfl rfl rfl rfl rfl rfl rfl h.demand rfl h.figs rfl

/-- RELEASE after the inputs have been judged, or the announcement of a trip restarted. -/
def State.rejudged (s : State) (inputs : Inputs) : State :=
  if s.isTripped then (s.reentered inputs).restartIfTripped else (s.reentered inputs).judgeInputs inputs

theorem releasePart_rejudged (s : State) (inputs : Inputs) :
    s.releasePart inputs = (s.rejudged inputs).rescale.releaseCopy := rfl

theorem restartIfTripped_restarting (h : s.Restarting inputs w) : s.Restarting inputs w.restartIfTripped :=
  h.step rfl rfl rfl rfl rfl rfl rfl rfl rfl h.demand rfl h.figs rfl

theorem rejudged_restarting (s : State) (inputs : Inputs) : s.Restarting inputs (s.rejudged inputs) := by
  have h := (reentered_restarting s inputs).1
  unfold State.rejudged
  split
  · exact restartIfTripped_restarting h
  · exact judgeInputs_restarting h inputs

theorem mayPermit_congr {u v : State} (sup : v.sup = u.sup) (halted : v.lif.halted = u.lif.halted) :
    v.mayPermit = u.mayPermit := by
  unfold State.mayPermit State.isTripped
  rw [sup, halted]

/-- No clip is there. -/
def State.unclipped (u : State) : State := { u with aud := { u.aud with clips := Table.fill 64 none } }

theorem releaseReady_ends (u : State) : u.releaseReady = (State.report { u with flp := u.relockAnnouncement.flp }
    (.ready .release u.flp.image (decide (u.flp.presence = .present)))).raisePermit := by
  rw [releaseReady_eq]
  conv_lhs => rw [relockAnnouncement_eq]

/-- The clip table's copy is asked for, or with no flash READY follows and PERMIT rises where it may (R14, R178). -/
theorem releaseCopy_ways (u : State) : ∃ a l f fl p d, u.releaseCopy = { u with
    aud := a, lif := l, flags := f, flp := fl, sup := { u.sup with permit := p, siteDue := d } }
      ∧ fl.presence = u.flp.presence ∧ l.rest = u.lif.rest
      ∧ p = (u.sup.permit || (decide (u.flp.presence = .missing) && u.mayPermit)) := by
  unfold State.releaseCopy Flp.noFlash
  split
  next none =>
    have missing := of_decide_eq_true none
    have flp := relockAnnouncement_flp u.unclipped
    have grows := report_grows (n := 0) (r := .ready .release u.flp.image (decide (u.flp.presence = .present)))
      (s := { u.unclipped with flp := u.unclipped.relockAnnouncement.flp }) (.refl 0 u.lif)
    refine ⟨_, _, _, _, _, _, (releaseReady_ends u.unclipped).trans rfl, (congrArg Flp.presence flp :), grows.rest, ?_⟩
    rw [missing, decide_eq_true rfl, Bool.true_and]
    refine congrArg (u.sup.permit || ·) ?_
    exact mayPermit_congr rfl (rest_halted grows.rest)
  next some =>
    have present : decide (u.flp.presence = .missing) = false := Bool.eq_false_iff.2 some
    rw [present]
    unfold State.askDirectory
    split
    · exact ⟨_, u.lif, u.flags, _, u.sup.permit, u.sup.siteDue, rfl, rfl, rfl, by simp⟩
    · exact ⟨_, u.lif, u.flags, u.flp, u.sup.permit, u.sup.siteDue, rfl, rfl, rfl, by simp⟩

theorem releaseCopy_restarting (h : s.Restarting inputs w) : s.Restarting inputs w.releaseCopy := by
  obtain ⟨a, l, f, fl, p, d, e, presence, rest, _⟩ := releaseCopy_ways w
  rw [e]
  exact h.step rfl rfl rfl rfl rfl rfl presence (rest_halted rest) (rest_lastReset rest) h.demand rfl h.figs rfl

theorem kick_lastReset (l : Lif) : l.kick.lastReset = l.lastReset := by
  unfold Lif.kick
  split
  · rfl
  · split
    · rfl
    · split <;> rfl

theorem settle_lastReset (u : State) : u.settle.lif.lastReset = u.lif.lastReset :=
  (kick_lastReset _).trans
    (rest_lastReset (settleSite_grows (settleFlash_grows (.refl 0 u.lif))).rest)

theorem settle_restarting (h : s.Restarting inputs w) : s.Restarting inputs w.settle.kick := by
  refine h.step (by simp) (by simp) (by simp) (by simp) (by simp) (by simp)
    (Flp.presence_of_core (settle_core (s := w))) ?_ ?_ (fun g => ?_) ?_ (fun g => ?_) ?_
  · rw [kick_halted, settle_halted]
  · exact (kick_lastReset _).trans (settle_lastReset w)
  · rw [kick_fda, settle_fda]
    exact h.demand g
  · rw [kick_fda, settle_fda]
  · rw [kick_groups, settle_groups]
    exact h.figs g
  · rw [kick_sup, settle_sup]
    rfl

theorem judgeInputs_group (u : State) (i : Inputs) (g : Fin 24) :
    u.groups.get g = (u.judgeInputs i).groups.get g ∨ u.downGroup g = (u.judgeInputs i).groups.get g := by
  unfold State.judgeInputs
  split
  · exact .inr (latchTrip_tripActs_groups _ _ _).symm
  · exact .inl rfl

/-- The groups at the end of RELEASE: in CLOSING, or LOST with a channel that stays INVALID (R89, R102). -/
theorem rejudged_group (s : State) (inputs : Inputs) (g : Fin 24) :
    ((s.rejudged inputs).groups.get g).interlock = ((s.groups.get g).interlock.map fun _ =>
        if (s.sup.channels.get (driveChannel g)).fatal = true ∧ (s.sup.channels.get (driveChannel g)).valid = false
        then .lost else .closing)
      ∧ ((s.rejudged inputs).groups.get g).sent = 0 ∧ ((s.rejudged inputs).groups.get g).reply = none := by
  have valid : ((s.released inputs).sup.channels.get (driveChannel g)).valid = false
      ↔ (s.sup.channels.get (driveChannel g)).fatal = true ∧ (s.sup.channels.get (driveChannel g)).valid = false := by
    show ((s.sup.channels.map Channel.release).get (driveChannel g)).valid = false ↔ _
    rw [Sys2Proof.Table.get_map]
    unfold Channel.release
    split
    next fatal => simp [fatal]
    next live => simp [live, Channel.reset]
  have entered : ((s.reentered inputs).groups.get g).interlock = ((s.groups.get g).interlock.map fun _ =>
        if (s.sup.channels.get (driveChannel g)).fatal = true ∧ (s.sup.channels.get (driveChannel g)).valid = false
        then .lost else .closing)
      ∧ ((s.reentered inputs).groups.get g).sent = 0 ∧ ((s.reentered inputs).groups.get g).reply = none := by
    unfold State.reentered
    rw [released_groups]
    simp only [← valid]
    unfold Group.reentered Group.release
    dsimp only
    cases (s.groups.get g).interlock with
    | none => exact ⟨rfl, rfl, rfl⟩
    | some i => cases ((s.released inputs).sup.channels.get (driveChannel g)).valid <;> exact ⟨rfl, rfl, rfl⟩
  obtain ⟨interlock, sent, reply⟩ := entered
  have down : (s.reentered inputs).groups.get g = (s.rejudged inputs).groups.get g
      ∨ (s.reentered inputs).downGroup g = (s.rejudged inputs).groups.get g := by
    unfold State.rejudged
    split
    · exact .inl (congrArg (·.get g) (restartIfTripped_groups _).symm)
    · exact judgeInputs_group _ inputs g
  rcases down with e | e
  · rw [← e]
    exact ⟨interlock, sent, reply⟩
  · obtain ⟨_, sent', reply', same⟩ := downGroup_rest (s.reentered inputs) g
    rw [← e, sent', reply', same]
    · exact ⟨interlock, sent, reply⟩
    · rw [interlock]
      cases (s.groups.get g).interlock with
      | none => exact nofun
      | some i => dsimp only [Option.map_some]; split <;> exact nofun

/-! ## The trip at the end of RELEASE -/

theorem sameTrip_of_sup {u v : State} (h : v.sup = u.sup) : u.SameTrip v :=
  ⟨congrArg Sup.mode h, congrArg Sup.causes h, congrArg Sup.tripLog h, fun low => (congrArg Sup.permit h).trans low⟩

theorem lowerPermit_sameTrip (u : State) : u.SameTrip u.lowerPermit := ⟨rfl, rfl, rfl, fun _ => rfl⟩

theorem tripActs_sameTrip (u : State) : u.SameTrip u.tripActs := by
  have sup : u.tripStopped.waterDown.sup = u.sup := (waterDown_sup _).trans (tripStopped_sup u)
  rcases tripActs_cases u with e | e <;> rw [e]
  · exact sameTrip_of_sup sup
  · exact (sameTrip_of_sup sup).trans (lowerPermit_sameTrip _)

theorem pinned_pins (u : State) : u.pinned u.pins = u := rfl

theorem latchTrip_permit (u : State) (c : Causes) : (u.latchTrip c).sup.permit = u.sup.permit := rfl

/-- The end of RELEASE, for the site: the mode judged, the trip as it was, PERMIT raised where there is no flash. -/
theorem release_ends (h : s.Restarting inputs w) :
    w.rescale.releaseCopy.settle.kick.sup.mode = (if w.sup.mode = .tripped then .tripped else .restricted)
    ∧ w.rescale.releaseCopy.settle.kick.sup.causes = w.sup.causes
    ∧ w.rescale.releaseCopy.settle.kick.sup.tripLog = w.sup.tripLog
    ∧ w.rescale.releaseCopy.settle.kick.sup.permit
      = (w.sup.permit || (decide (s.flp.presence = .missing) && s.sup.startMark && !decide (w.sup.mode = .tripped))) := by
  obtain ⟨a, l, f, fl, p, d, e, _, _, permit⟩ := releaseCopy_ways w.rescale
  have band : w.rescale.releaseCopy.sup.band = 7 := by rw [e]; exact h.band
  have mode : w.rescale.releaseCopy.sup.mode = w.sup.mode := by rw [e]; rfl
  have mark : w.mayPermit = (s.sup.startMark && !decide (w.sup.mode = .tripped)) := by
    unfold State.mayPermit State.isTripped
    rw [h.startMark, h.halted]
    simp
  rw [kick_sup, settle_sup]
  refine ⟨?_, by rw [e]; rfl, by rw [e]; rfl, ?_⟩
  · show w.rescale.releaseCopy.judgedMode = _
    split
    next tripped => exact (judgedMode_tripped_iff _).2 (mode.trans tripped)
    next live =>
      rw [judgedMode_of_live (by rw [mode]; exact live), band]
      rfl
  · have raised : w.rescale.releaseCopy.sup.permit = p := by rw [e]
    rw [rescale_sup, rescale_flp, mayPermit_congr (rescale_sup w) (congrArg Lif.halted (rescale_lif w)), h.presence, mark,
      ← Bool.and_assoc] at permit
    exact raised.trans permit

/-- The site after the inputs have been judged at RELEASE, by what it was and by the inputs (R154, R158, R162). -/
theorem rejudged_trip (s : State) (inputs : Inputs) : (s.rejudged inputs).sup.permit = false
    ∧ (s.sup.mode = .tripped → (s.rejudged inputs).sup.mode = .tripped ∧ (s.rejudged inputs).sup.causes = s.sup.causes
      ∧ (s.rejudged inputs).sup.tripLog = s.sup.tripLog)
    ∧ (s.sup.mode ≠ .tripped → inputs = ⟨false, false, false⟩ → (s.rejudged inputs).sup.mode ≠ .tripped
      ∧ (s.rejudged inputs).sup.tripLog = s.sup.tripLog)
    ∧ (s.sup.mode ≠ .tripped → inputs ≠ ⟨false, false, false⟩ → s.sup.causes = Causes.none →
      (s.rejudged inputs).sup.mode = .tripped ∧ (s.rejudged inputs).sup.causes = ⟨inputs.estop, inputs.intrA, inputs.intrB⟩
      ∧ (s.rejudged inputs).sup.tripLog =
        (⟨⟨inputs.estop, inputs.intrA, inputs.intrB⟩, 0, none, 7, .low⟩ :: s.sup.tripLog).take 8) := by
  obtain ⟨h, same⟩ := reentered_restarting s inputs
  have before : (s.released inputs).sup.mode = if s.sup.mode = .tripped then .tripped else .restricted := rfl
  by_cases tripped : s.sup.mode = .tripped
  · have e : (s.rejudged inputs) = (s.reentered inputs).restartIfTripped := if_pos (by unfold State.isTripped; exact decide_eq_true tripped)
    rw [e, restartIfTripped_sup]
    rw [if_pos tripped] at before
    exact ⟨same.barred rfl, fun _ => ⟨same.mode.trans before, same.causes, same.tripLog⟩, fun live => absurd tripped live,
      fun live => absurd tripped live⟩
  · have e : s.rejudged inputs = (s.reentered inputs).judgeInputs inputs := if_neg (by unfold State.isTripped; simp [tripped])
    rw [if_neg tripped] at before
    have mode := same.mode.trans before
    have live : (s.reentered inputs).isTripped = false := by unfold State.isTripped; rw [mode]; rfl
    rw [e]
    by_cases quiet : inputs = ⟨false, false, false⟩
    · have stands : (s.reentered inputs).judgeInputs inputs = s.reentered inputs := by
        unfold State.judgeInputs
        rw [Bool.eq_false_iff.2 fun active => (inputActive_iff inputs).1 active quiet]
        rfl
      rw [stands]
      exact ⟨same.barred rfl, fun h => absurd h tripped, fun _ _ => ⟨by rw [mode]; exact nofun, same.tripLog⟩,
        fun _ loud => absurd quiet loud⟩
    · have acts : (s.reentered inputs).judgeInputs inputs = ((s.reentered inputs).latchTrip (inputCauses inputs)).tripActs :=
        if_pos (by rw [(inputActive_iff inputs).2 quiet, live]; rfl)
      have trip := tripActs_sameTrip ((s.reentered inputs).latchTrip (inputCauses inputs))
      rw [acts]
      refine ⟨trip.barred ((latchTrip_permit _ _).trans (same.barred rfl)), fun h => absurd h tripped, fun _ q => absurd q quiet, fun _ _ clear => ?_⟩
      have latched := latchTrip_latched (s := s.reentered inputs) (pins := (s.reentered inputs).pins) (c := inputCauses inputs)
        (same.causes.trans clear)
      rw [pinned_pins] at latched
      refine ⟨trip.mode.trans latched.mode, trip.causes.trans latched.causes, trip.tripLog.trans (latched.tripLog.trans ?_)⟩
      have time : (s.reentered inputs).showTime = none := by
        unfold State.showTime
        rw [h.seq]
        rfl
      have level : (s.reentered inputs).sup.effective = .low := by
        unfold Sup.effective
        rw [h.measured]
        split <;> rfl
      rw [time, level, h.clock, h.band, same.tripLog]
      rfl

end

theorem exec_release {s : State} {q : Request} (inputs : Inputs) (ht : s.takes .release q = true) :
    (s.lif.halted = false → exec (.release inputs) s = .next (s.answered q .wrongState []))
    ∧ (s.lif.halted = true →
      exec (.release inputs) s = .next ((s.taken.answer q .ok []).releasePart inputs).settle.kick) := by
  have run : exec (.release inputs) s = .next (s.taken.judged q (refuseIf (!s.taken.lif.halted) .wrongState)
      fun _ => ((s.taken.answer q .ok []).releasePart inputs).settle).kick :=
    congrArg Host.Outcome.next (serve_takes s _ anyOf _ q ht rfl)
  rw [run]
  refine ⟨fun runs => congrArg Host.Outcome.next (judged_refused ?_), fun halted => ?_⟩
  · rw [show s.taken.lif.halted = false from runs]
    rfl
  · rw [show s.taken.lif.halted = true from halted]
    rfl

/-- Settles O60: the copy of RELEASE, HALT, and RELEASE by what it puts in place and what the rest of its step leaves. -/
theorem haltAndRelease : Obligations.HaltAndRelease := by
  unfold Obligations.HaltAndRelease
  refine ⟨fun s port copying alone => releaseCopy_done port copying alone, fun s q ht => halt_halts ht,
    fun s q inputs ht => ⟨(exec_release inputs ht).1, fun halted => ⟨_, (exec_release inputs ht).2 halted, ?_⟩⟩⟩
  rw [releasePart_rejudged]
  have h := rejudged_restarting (s.taken.answer q .ok []) inputs
  have ends := release_ends h
  obtain ⟨permit, tripped, quiet, loud⟩ := rejudged_trip (s.taken.answer q .ok []) inputs
  have group := rejudged_group (s.taken.answer q .ok []) inputs
  have groups : (((s.taken.answer q .ok []).rejudged inputs).rescale.releaseCopy.settle.kick).groups
      = ((s.taken.answer q .ok []).rejudged inputs).groups := by
    rw [kick_groups, settle_groups, releaseCopy_groups, rescale_groups]
  have final : (s.taken.answer q .ok []).Restarting inputs
      ((s.taken.answer q .ok []).rejudged inputs).rescale.releaseCopy.settle.kick :=
    settle_restarting (releaseCopy_restarting (rescale_restarting h))
  obtain ⟨mode, causes, tripLog, permit'⟩ := ends
  generalize ((s.taken.answer q .ok []).rejudged inputs).rescale.releaseCopy.settle.kick = t at *
  generalize (s.taken.answer q .ok []).rejudged inputs = w at *
  rw [permit, Bool.false_or] at permit'
  refine ⟨final.halted, final.lastReset, final.clock, final.cfg, final.dbm, final.pins, congrArg Seq.st final.seq,
    congrArg Seq.result final.seq, final.lgt, final.demand, final.load, final.band, final.gates, final.measured,
    final.startMark, fun i => ?_, fun g => ?_, fun g => ?_, fun was => ?_, fun live none => ?_, fun live some clear => ?_⟩
  · rw [final.channels]
    exact Sys2Proof.Table.get_map ..
  · rw [groups]
    exact (group g).1
  · rw [groups]
    exact (group g).2
  · obtain ⟨mode', causes', tripLog'⟩ := tripped was
    exact ⟨mode.trans (if_pos mode'), causes.trans causes', tripLog.trans tripLog'⟩
  · obtain ⟨mode', tripLog'⟩ := quiet live none
    refine ⟨mode.trans (if_neg mode'), tripLog.trans tripLog', permit'.trans ?_⟩
    rw [decide_eq_false mode', Bool.not_false, Bool.and_true]
    rfl
  · obtain ⟨mode', causes', tripLog'⟩ := loud live some clear
    refine ⟨mode.trans (if_pos mode'), permit'.trans ?_, causes.trans causes', ?_⟩
    · rw [decide_eq_true mode', Bool.not_true, Bool.and_false]
    · rw [causes, causes', tripLog]
      exact tripLog'

end Sys2Proof.Machine
end

section
/-! LOAD_READ_DONE: the header, the cue records and their check, and the read left over from an interrupted load (R2, R3, R20,
R30). -/

namespace Sys2Proof.Machine

open State

/-! ## What a load asks for and what becomes of it -/

/-- The load's state goes on, and the port is FREE after its read. -/
def State.loading (s : State) (seq : Seq) : State := { s.withPort .free with seq := seq }

/-- The next read that a load asks for starts at once where the port takes whatever comes next. -/
theorem loading_asks {s : State} {seq : Seq} {a n : Nat} (quiet : s.flashQuiet = true) :
    ((s.loading seq).handInternal (.loadRead a n)).settleFlash.kick = { s with
      seq := seq, flp := { s.flp with port := .reading (.loadRead a n), turn := .lif }, lif := s.lif.kick } := by
  obtain ⟨chunk, seeks, internal, lif⟩ := (flashQuiet_iff s).1 quiet
  rw [settleFlash_internal (s := (s.loading seq).handInternal (.loadRead a n)) (t := .loadRead a n) rfl chunk seeks
    (congrArg (· ++ _) internal) lif]
  unfold State.startTxn State.handInternal State.loading State.withPort
  rw [if_neg (by simp), ← internal]
  rfl

theorem failLoad_flp_aud (u : State) {failure : Failure} (cue : Option Nat) (label : List Byte) (reason : EndReason)
    (bad : failure ≠ .none) : (u.failLoad failure cue label reason).flp = u.flp.releaseShow
      ∧ (u.failLoad failure cue label reason).aud = u.aud.clearClock := by
  rw [failLoad_eq u cue label reason bad]
  exact ⟨rfl, rfl⟩

/-- A load that fails leaves the port as quiet as it was (R28). -/
theorem failLoad_quiet {u : State} {failure : Failure} {cue : Option Nat} {label : List Byte} {reason : EndReason}
    (bad : failure ≠ .none) (quiet : u.flashQuiet = true) : (u.failLoad failure cue label reason).flashQuiet = true := by
  obtain ⟨flp, aud⟩ := failLoad_flp_aud u cue label reason bad
  obtain ⟨chunk, seeks, internal, lif⟩ := (flashQuiet_iff u).1 quiet
  rw [flashQuiet_iff, flp, aud]
  exact ⟨chunk, seeks, internal, lif⟩

/-- A load read that ends the load FAILED frees the port (R20, R28). -/
theorem loading_fails {s : State} {seq : Seq} {label : List Byte} (quiet : s.flashQuiet = true)
    (slot : seq.slot = s.seq.slot) :
    s.LoadFailed ((s.loading seq).failLoad .badCheck none label .load).settleFlash.kick .badCheck none label
      ∧ ((s.loading seq).failLoad .badCheck none label .load).settleFlash.kick.flp.port = .free := by
  have still : (s.loading seq).flashQuiet = true := quiet
  refine ⟨loadFailed_of (u := s.loading seq) (l := s.lif) (by decide) slot rfl rfl rfl rfl rfl rfl rfl rfl rfl rfl rfl
    (.refl 0 _) (settleFlash_kick_endsLoad _), ?_⟩
  have free : ((s.loading seq).failLoad .badCheck none label .load).flp.port = .free := by
    rw [(failLoad_flp_aud _ _ _ _ (by decide)).1]
    rfl
  rw [kick_flp, settleFlash_free _ (failLoad_quiet (by decide) still) free]
  exact free

/-! ## The steps of a load read -/

theorem exec_loadReadDone {s : State} {a n : Nat} (port : s.flp.port = .reading (.loadRead a n)) :
    exec .loadReadDone s = .next ((s.withPort .free).loadRead (Memory.readBytes s.flash a n)).settleFlash.kick := by
  show execLoadReadDone s = _
  unfold execLoadReadDone
  rw [port]

section
variable {s : State} {bytes : List Byte} (runs : s.seq.staleRead = false)
include runs

theorem loadRead_header (load : s.seq.load = some .header) : (s.withPort .free).loadRead bytes =
    if (headerOf bytes).ok s.seq.slot = true then
      (s.loading { s.seq with load := some (.cues (headerOf bytes) []) }).handInternal (cueRead s.seq.slot (headerOf bytes) 0)
    else (s.loading s.seq).failLoad .badCheck none (headerOf bytes).label .load := by
  unfold State.loadRead
  rw [if_neg (by rw [show (s.withPort .free).seq = s.seq from rfl, runs]; decide)]
  rw [show (s.withPort .free).seq.load = some .header from load]
  rfl

theorem loadRead_cues {h : ShowHeader} {got : List Byte} (load : s.seq.load = some (.cues h got)) :
    (s.withPort .free).loadRead bytes =
    if (got ++ bytes).length < 16 * h.cueCount then
      (s.loading { s.seq with load := some (.cues h (got ++ bytes)) }).handInternal
        (cueRead s.seq.slot h (got ++ bytes).length)
    else if (crc32 (got ++ bytes)).toNat = h.check then
      (s.loading { s.seq with load := some (.directory h (got ++ bytes)) }).askDirectory .armLoad
    else (s.loading s.seq).failLoad .badCheck none h.label .load := by
  unfold State.loadRead
  rw [if_neg (by rw [show (s.withPort .free).seq = s.seq from rfl, runs]; decide)]
  rw [show (s.withPort .free).seq.load = some (.cues h got) from load]
  rfl

end

section
variable {s : State} {bytes : List Byte} (stale : s.seq.staleRead = true)
include stale

theorem loadRead_stale (other : s.seq.load ≠ some .headerDeferred) :
    (s.withPort .free).loadRead bytes = s.loading { s.seq with staleRead := false } := by
  unfold State.loadRead
  rw [if_pos (by exact stale)]
  dsimp only
  split
  · next h => exact absurd h other
  · rfl

theorem loadRead_deferred (load : s.seq.load = some .headerDeferred) : (s.withPort .free).loadRead bytes =
    (s.loading { s.seq with staleRead := false, load := some .header }).handInternal (headerRead s.seq.slot) := by
  unfold State.loadRead
  rw [if_pos (by exact stale)]
  rw [show (s.withPort .free).seq.load = some .headerDeferred from load]
  rfl

end

/-- The cue records have come and pass their check: the directory is asked for and read at once (R20, R168). -/
theorem loading_copies {s : State} {seq : Seq} (quiet : s.flashQuiet = true) (idle : s.aud.copying = none) :
    ((s.loading seq).askDirectory .armLoad).settleFlash.kick = { s with
      seq := seq
      aud := { s.aud with copying := some .armLoad }
      flp := { s.flp with port := .reading .directory, turn := .lif }, lif := s.lif.kick } := by
  obtain ⟨chunk, seeks, internal, lif⟩ := (flashQuiet_iff s).1 quiet
  have asks : (s.loading seq).askDirectory .armLoad =
      State.handInternal { s.loading seq with aud := { s.aud with copying := some .armLoad } } .directory := by
    unfold State.askDirectory
    rw [show (s.loading seq).aud.copying = none from idle]
    rfl
  rw [asks, settleFlash_internal
    (s := State.handInternal { s.loading seq with aud := { s.aud with copying := some .armLoad } } .directory)
    (t := .directory) rfl chunk seeks (congrArg (· ++ _) internal) lif]
  unfold State.startTxn State.handInternal State.loading State.withPort
  rw [if_neg (by simp), ← internal]
  rfl

/-! ## O13 -/

theorem headerOf_ok_iff (bytes : List Byte) (slot : Nat) : (headerOf bytes).ok slot = true ↔ u8 bytes 0 = 1 ∧ u8 bytes 1 = slot
    ∧ 1 ≤ u32 bytes 4 ∧ u32 bytes 4 ≤ 3600000 ∧ 1 ≤ u16 bytes 2 ∧ u16 bytes 2 ≤ 4096 := by
  have fields (h : ShowHeader) : h.ok slot = true ↔ h.version = 1 ∧ h.showId = slot ∧ 1 ≤ h.duration ∧ h.duration ≤ 3600000
      ∧ 1 ≤ h.cueCount ∧ h.cueCount ≤ 4096 := by
    simp only [ShowHeader.ok, within, Bool.and_eq_true, decide_eq_true_eq, and_assoc]
  exact fields (headerOf bytes)

theorem cueRead_eq (slot : Nat) (h : ShowHeader) (got : Nat) :
    cueRead slot h got = .loadRead (0x10000 + slot * 0x20000 + 28 + got) (min 4096 (16 * h.cueCount - got)) := rfl

theorem headerRead_eq (slot : Nat) : headerRead slot = .loadRead (0x10000 + slot * 0x20000) 28 := rfl

/-- Settles O13: LOAD_READ_DONE by whether its read is left over and by the load's phase. -/
theorem loadReadGoesOnOrFails : Obligations.LoadReadGoesOnOrFails := by
  unfold Obligations.LoadReadGoesOnOrFails
  refine ⟨fun bytes slot => ⟨rfl, headerOf_ok_iff bytes slot, fun h got => cueRead_eq slot h got⟩, ?_, ?_⟩
  · intro s a n port runs quiet bytes
    rw [exec_loadReadDone port]
    refine ⟨fun load ok => ?_, fun load bad => ?_, fun h got load => ⟨fun more => ?_, fun all => ⟨fun check idle => ?_, fun bad => ?_⟩⟩⟩
    · rw [loadRead_header runs load, if_pos ok, cueRead_eq, loading_asks quiet]
    · rw [loadRead_header runs load, if_neg (by rw [bad]; decide)]
      exact ⟨_, rfl, loading_fails quiet rfl⟩
    · rw [loadRead_cues runs load, if_pos more, cueRead_eq, loading_asks quiet]
    · rw [loadRead_cues runs load, if_neg (Nat.not_lt.2 all), if_pos check, loading_copies quiet idle]
      exact ⟨_, rfl, rfl, rfl, rfl, rfl, rfl, rfl, rfl, rfl⟩
    · rw [loadRead_cues runs load, if_neg (Nat.not_lt.2 all), if_neg bad]
      exact ⟨_, rfl, loading_fails quiet rfl⟩
  · intro s a n port stale quiet
    rw [exec_loadReadDone port]
    refine ⟨fun other => ?_, fun load => ?_⟩
    · have still : (s.loading { s.seq with staleRead := false }).flashQuiet = true := quiet
      rw [loadRead_stale stale other, settleFlash_free _ still rfl]
      rfl
    · rw [loadRead_deferred stale load, headerRead_eq, loading_asks quiet]

end Sys2Proof.Machine
end

section
/-! ARM: its judgement, and the load that begins or ends at once with CONFLICT (R19, R20). -/

namespace Sys2Proof.Machine

open State

/-! ## The port while it is not FREE -/

/-- A port that is neither FREE nor ERASING leaves what waits waiting (R169, R170). -/
theorem settleFlash_waits {s : State} (busy : s.flp.port ≠ .free) (erases : ∀ x, s.flp.port ≠ .erasing x) :
    s.settleFlash = { s with aud := s.aud.seek } := by
  unfold State.settleFlash State.arbitrate
  dsimp only
  split
  next free => exact absurd free busy
  next x erasing => exact absurd erasing (erases x)
  all_goals rfl

/-- A port at work takes nothing from the queues. -/
theorem settleFlash_queues {s : State} (busy : s.flp.port ≠ .free) :
    s.settleFlash.flp.internalQ = s.flp.internalQ ∧ s.settleFlash.flp.lifQ = s.flp.lifQ := by
  unfold State.settleFlash State.arbitrate
  dsimp only
  split
  next free => exact absurd free busy
  next x erasing => split <;> exact ⟨rfl, rfl⟩
  all_goals exact ⟨rfl, rfl⟩

/-- Only the suspension of an erase touches the device at the end of a step (R164, R170). -/
theorem settleFlash_flash_of {s : State} (erases : ∀ x, s.flp.port ≠ .erasing x) : s.settleFlash.flash = s.flash := by
  by_cases free : s.flp.port = .free
  · unfold State.settleFlash State.arbitrate
    rw [show ({ s with aud := s.aud.seek } : State).flp.port = .free from free]
    exact chooseTxn_flash _
  · rw [settleFlash_waits free erases]

/-! ## A load that ends with CONFLICT -/

/-- The SERVICE_DONE of a load that fails comes after what was queued and the show's own report. -/
theorem failLoad_says {s u t : State} {failure : Failure} {cue : Option Nat} {label : List Byte} {reason : EndReason} {l : Lif}
    {n : Nat} (bad : failure ≠ .none) (enable : l.enable = s.lif.enable) (reports : l.reports = s.lif.reports)
    (grown : l.Grows n u.lif) (e : (u.failLoad failure cue label reason).EndsLoad t) :
    s.says t (n + 1) (.serviceDone .arm t.lif.armSlot) := by
  rw [show t.lif.armSlot = u.failedArm failure cue from e.arm.trans (failLoad_armSlot u cue label reason bad)]
  refine says_of_report (u := { u.loadIdle failure cue label reason with
    lif := (u.loadIdle failure cue label reason).lif.withSlot .arm (u.failedArm failure cue) }) (l := l) enable reports
    ((loadIdle_grows u cue label reason grown).trans (.withSlot _ .arm _) (Nat.le_refl _)) (Nat.le_refl _) fun h => e.carries _ ?_
  rw [failLoad_eq u cue label reason bad]
  exact h

/-! ## A load that begins -/

/-- ARM has been accepted: LOADING with its report, the ARM slot RUNNING (R19, R186). -/
def State.loadBegun (s : State) (slot : Nat) (tag : Byte) : State :=
  State.sayShow (State.beginService { s with seq := { s.seq with st := .loading, slot := slot, load := some .header } } .arm
    .running 0x20 tag) none

/-- The slot's lock is registered, and the header asked for behind a read that is left over, or at once (R20, R168). -/
def State.lockSlot (t : State) (slot : Nat) (stale : Bool) : State :=
  { t with
    seq := { t.seq with load := some (if stale = true then .headerDeferred else .header) }
    flp := { t.flp with
      locks := t.flp.locks ++ [⟨.showSlot, (slotExtent slot).1, (slotExtent slot).2⟩]
      internalQ := t.flp.internalQ ++ if stale = true then [] else [headerRead slot] } }

theorem lockSlot_eq {t u : State} {slot : Nat} (stale : Bool) (load : t.seq.load = some .header)
    (locked : u = { t with flp := { t.flp with
      locks := t.flp.locks ++ [⟨.showSlot, (slotExtent slot).1, (slotExtent slot).2⟩] } }) :
    (if stale = true then { u with seq := { u.seq with load := some .headerDeferred } }
      else u.handInternal (headerRead slot)) = t.lockSlot slot stale := by
  subst locked
  unfold State.lockSlot
  cases stale with
  | true =>
    simp only [if_true, List.append_nil]
  | false =>
    simp only [Bool.false_eq_true, if_false]
    rw [← load]
    rfl

/-- An accepted ARM whose slot no FLASH service meets. -/
def State.slotLocked (s : State) (slot : Nat) (tag : Byte) : State := (s.loadBegun slot tag).lockSlot slot s.seq.staleRead

theorem beginLoad_meets {s : State} {slot : Nat} (tag : Byte) (meets : s.flp.serviceMeets (slotExtent slot) = true) :
    s.beginLoad slot tag = (s.loadBegun slot tag).failLoad .conflict none (List.replicate 16 0) .load := if_pos meets

theorem beginLoad_locks {s : State} {slot : Nat} (tag : Byte) (clear : ¬s.flp.serviceMeets (slotExtent slot) = true) :
    s.beginLoad slot tag = s.slotLocked slot tag := by
  refine (if_neg clear).trans ?_
  exact lockSlot_eq (t := s.loadBegun slot tag) s.seq.staleRead rfl rfl

theorem loadBegun_armSlot (s : State) (slot : Nat) (tag : Byte) :
    (s.loadBegun slot tag).lif.armSlot = ⟨.running, 0x20, tag, .none, none, none⟩ := withReport_armSlot _ _

theorem loadBegun_grows {s : State} {slot : Nat} {tag : Byte} {l : Lif} {n : Nat} (h : l.Grows n s.lif) :
    l.Grows (n + 1) (s.loadBegun slot tag).lif := by
  unfold State.loadBegun
  exact sayShow_grows (beginService_grows h)

theorem loadBegun_flp (s : State) (slot : Nat) (tag : Byte) : (s.loadBegun slot tag).flp = s.flp := rfl

theorem slotExtent_eq (slot : Nat) : slotExtent slot = (0x10000 + slot * 0x20000, 0x10000 + slot * 0x20000 + 0x20000) := by
  unfold slotExtent
  rw [Nat.add_mul, Nat.one_mul, ← Nat.add_assoc]
  rfl

/-! ## O12 -/

theorem judgeArm_eq (s : State) (p : List Byte) : s.judgeArm p =
    if 7 < u8 p 0 then .error .outOfRange else if s.seq.st ≠ .idle then .error .wrongState
    else if s.sup.mode = .tripped then .error .tripped else if s.sup.effective = .dry then .error .levelDry
    else if s.flp.presence = .missing then .error .noFlash else .ok (u8 p 0) := by
  have missing : s.flp.noFlash = true ↔ s.flp.presence = .missing := decide_eq_true_iff
  simp only [State.judgeArm, refuseIf_bind, Bool.not_eq_true', ← Bool.not_eq_true, isIdle_eq_true, isTripped_eq_true,
    isDry_eq_true, decide_eq_true_eq, missing]
  rfl

theorem exec_arm {s : State} {q : Request} (ht : s.takes .arm q = true) : exec .arm s = .next (s.taken.judged q
    (s.judgeArm q.payload) fun slot => ((s.taken.answer q .accepted []).beginLoad slot q.tag).settleFlash).kick :=
  congrArg Host.Outcome.next (serve_takes s _ anyOf _ q ht rfl)

/-- Settles O12: the chain of refusals, and the load that begins by whether a FLASH service meets its slot. -/
theorem armIsJudgedAndBeginsLoading : Obligations.ArmIsJudgedAndBeginsLoading := by
  unfold Obligations.ArmIsJudgedAndBeginsLoading
  intro s q ht
  rw [exec_arm ht]
  refine ⟨fun st h => congrArg Host.Outcome.next (judged_refused ?_), fun slot idle untripped wet flash => ?_⟩
  · rw [judgeArm_eq]
    split_ifs at h ⊢ <;> cases h <;> rfl
  intro lo meets
  have bad : Failure.conflict ≠ .none := nofun
  have passed : s.judgeArm q.payload = .ok (u8 q.payload 0) := by
    rw [judgeArm_eq, if_neg (Nat.not_lt.2 slot), if_neg (not_not.2 idle), if_neg untripped, if_neg wet, if_neg flash]
  have conflicts : meets ↔ (s.taken.answer q .accepted []).flp.serviceMeets (slotExtent (u8 q.payload 0)) = true := by
    rw [serviceMeets_iff, slotExtent_eq]
    exact Iff.rfl
  have port : ((s.taken.answer q .accepted []).beginLoad (u8 q.payload 0) q.tag).flp.port = s.flp.port := by
    by_cases m : meets
    · rw [beginLoad_meets _ (conflicts.1 m), (failLoad_flp_aud _ _ _ _ bad).1]
      rfl
    · rw [beginLoad_locks _ fun c => m (conflicts.2 c)]
      rfl
  rw [judged_passed passed]
  clear_value meets
  refine ⟨_, rfl, by simp, by simp, by simp, by simp, by simp, by simp, by simp, by simp, fun erases => ?_, fun m => ?_, fun m => ?_⟩
  · refine (settleFlash_flash_of (by rw [port]; exact erases)).trans ?_
    rw [beginLoad_flash]
    rfl
  · have ends := settleFlash_kick_endsLoad ((s.taken.answer q .accepted []).beginLoad (u8 q.payload 0) q.tag)
    rw [beginLoad_meets _ (conflicts.1 m)] at ends ⊢
    refine ⟨?_, ?_, ?_, ?_, ?_, ?_, ?_, ?_, ?_⟩
    · rw [ends.seq]; rfl
    · rw [ends.seq]; rfl
    · rw [ends.seq]; rfl
    · rw [ends.seq]; rfl
    · rw [ends.arm, failLoad_armSlot _ _ _ _ bad, State.failedArm, loadBegun_armSlot]
    · exact ends.kept _ (failLoad_flag _ _ _ _ bad)
    · exact failLoad_says (l := (s.taken.answer q .accepted []).lif) (n := 1) bad rfl rfl
        (loadBegun_grows (.refl 0 _)) ends
    · rw [kick_flp, Flp.work_of_core (settleFlash_core ..), (failLoad_flp_aud _ _ _ _ bad).1, loadBegun_flp]
      rfl
    · rw [ends.locks, (failLoad_flp_aud _ _ _ _ bad).1, loadBegun_flp]
      rfl
  · rw [beginLoad_locks _ fun c => m (conflicts.2 c)]
    have ends := settleFlash_kick_endsLoad ((s.taken.answer q .accepted []).slotLocked (u8 q.payload 0) q.tag)
    refine ⟨ends.seq, ends.aud, ?_, ?_, fun fresh free quiet => ?_, fun busy => ?_, fun busy erases => ?_⟩
    · exact ends.arm.trans (loadBegun_armSlot _ _ _)
    · rw [ends.locks]
      unfold State.slotLocked State.lockSlot
      rw [slotExtent_eq]
      rfl
    · obtain ⟨chunk, seeks, internal, lif⟩ := (flashQuiet_iff s).1 quiet
      have asked : ((s.taken.answer q .accepted []).slotLocked (u8 q.payload 0) q.tag).flp.internalQ =
          [headerRead (u8 q.payload 0)] := by
        show s.flp.internalQ ++ (if s.seq.staleRead = true then [] else [_]) = _
        rw [internal, fresh]
        rfl
      refine ⟨?_, ends.aud.trans (seek_quiet _ seeks)⟩
      rw [kick_flp, settleFlash_internal (s := (s.taken.answer q .accepted []).slotLocked (u8 q.payload 0) q.tag)
        (t := headerRead (u8 q.payload 0)) free chunk seeks asked lif]
      rfl
    · exact (settleFlash_queues (s := (s.taken.answer q .accepted []).slotLocked (u8 q.payload 0) q.tag) busy).1
    · rw [kick_flp, settleFlash_waits (s := (s.taken.answer q .accepted []).slotLocked (u8 q.payload 0) q.tag) busy erases]
      rfl

end Sys2Proof.Machine
end

section
/-! DIRECTORY_READ_DONE of a load, interrupted or not (R14, R21, R22, R28, R30, R171). -/

namespace Sys2Proof.Machine

open State

/-! ## The locks of a load -/

theorem mem_loadLocks_iff (clips : Table 64 (Option Clip)) (l : Lanes) (k : Lock) : k ∈ loadLocks clips l ↔
    k = ⟨.showDirectory, 0x110000, 0x111000⟩ ∨ ∃ e ∈ l.clips.entries, ∃ c, lookupClip clips e.id = some c
      ∧ k = ⟨.showClip, 0x110000 + c.start / 4096 * 4096, 0x110000 + (c.start + 4 * c.frames + 4095) / 4096 * 4096⟩ := by
  unfold loadLocks
  rw [List.mem_append, List.mem_singleton, List.mem_filterMap, or_comm]
  refine or_congr Iff.rfl ⟨?_, ?_⟩
  · rintro ⟨id, named, some⟩
    obtain ⟨e, he, rfl⟩ := List.mem_map.1 (List.mem_dedup.1 named)
    obtain ⟨c, found, rfl⟩ := Option.map_eq_some_iff.1 some
    exact ⟨e, he, c, found, rfl⟩
  · rintro ⟨e, he, c, found, rfl⟩
    exact ⟨e.id, List.mem_dedup.2 (List.mem_map_of_mem he), Option.map_eq_some_iff.2 ⟨c, found, rfl⟩⟩

/-! ## A copy of a load that has been interrupted -/

theorem copied_frame (s : State) : s.sectorTaken.relockAnnouncement.cfg = s.cfg
    ∧ s.sectorTaken.relockAnnouncement.clock = s.clock ∧ s.sectorTaken.relockAnnouncement.lif = s.lif
    ∧ s.sectorTaken.relockAnnouncement.seq = s.seq ∧ s.sectorTaken.relockAnnouncement.groups = s.groups
    ∧ s.sectorTaken.relockAnnouncement.dbm = s.dbm ∧ s.sectorTaken.relockAnnouncement.lgt = s.lgt
    ∧ s.sectorTaken.relockAnnouncement.fda = s.fda ∧ s.sectorTaken.relockAnnouncement.pins = s.pins
    ∧ s.sectorTaken.relockAnnouncement.flash = s.flash
    ∧ s.sectorTaken.relockAnnouncement.aud = s.sectorTaken.aud := by
  obtain ⟨cfg, clock, lif, seq, groups, dbm, lgt, fda, _, pins, flash, _⟩ := sectorTaken_frame s
  rw [relockAnnouncement_eq]
  exact ⟨cfg, clock, lif, seq, groups, dbm, lgt, fda, pins, flash, rfl⟩

/-- The flash port after a copy: FREE, and only the next copy in its queue. -/
theorem copied_flp (s : State) : s.sectorTaken.relockAnnouncement.flp.port = .free
    ∧ s.sectorTaken.relockAnnouncement.flp.lifQ = s.flp.lifQ ∧ s.sectorTaken.relockAnnouncement.flp.work = s.flp.work
    ∧ s.sectorTaken.relockAnnouncement.flp.internalQ =
      if s.aud.copyQueue = [] then s.flp.internalQ else s.flp.internalQ ++ [.directory] := by
  obtain ⟨q, e, hq⟩ := sectorTaken_rest s
  obtain ⟨_, _, _, _, _, _, _, _, _, _, _, _, _, _, _, lifQ, port⟩ := sectorTaken_frame s
  have relocks := relockAnnouncement_flp s.sectorTaken
  refine ⟨(congrArg Flp.port relocks).trans port, (congrArg Flp.lifQ relocks).trans lifQ,
    (relockAnnouncement_work _).trans (sectorTaken_locks s).2, (congrArg Flp.internalQ relocks).trans ?_⟩
  rw [← hq]
  exact (congrArg (fun u : State => u.flp.internalQ) e :)

/-- The next copy that waits starts at once where nothing else would (R168). -/
theorem copied_port {s : State} (quiet : s.flashQuiet = true) : s.sectorTaken.relockAnnouncement.settle.flp.port =
    if s.aud.copyQueue = [] then .free else .reading .directory := by
  obtain ⟨chunk, seeks, internal, lif⟩ := (flashQuiet_iff s).1 quiet
  obtain ⟨_, _, _, _, _, _, _, _, _, _, aud⟩ := copied_frame s
  obtain ⟨port, lifQ, _, queue⟩ := copied_flp s
  rw [sectorTaken_aud] at aud
  have chunk' : s.sectorTaken.relockAnnouncement.aud.chunk = none := by rw [aud]; exact chunk
  have seeks' : s.sectorTaken.relockAnnouncement.aud.seeker = none := by rw [aud]; exact seeks
  rw [internal] at queue
  rw [settle_port]
  split
  next none =>
    rw [if_pos none] at queue
    rw [settleFlash_free _ ((flashQuiet_iff _).2 ⟨chunk', seeks', queue, lifQ.trans lif⟩) port, port]
  next some =>
    rw [if_neg some] at queue
    rw [settleFlash_internal (t := .directory) port chunk' seeks' queue (lifQ.trans lif)]
    rfl

/-! ## The end of a load -/

/-- A cue that does not pass has a failure code. -/
theorem checkCues_bad {cfg : Settings} {clips : Table 64 (Option Clip)} {duration : Nat} {records : List (List Byte)}
    {i prev : Nat} {ended : Bool} {acc : List Cue} {clamps : Nat} {f : Failure} {k : Nat}
    (h : checkCues cfg clips duration records i prev ended acc clamps = .bad f k) : f ≠ .none := by
  induction records generalizing i prev ended acc clamps with
  | nil => cases h
  | cons p rest ih =>
    unfold checkCues at h
    split at h
    · cases h
      decide
    · split at h
      · cases h
        decide
      · split at h
        · exact ih h
        next bad =>
          cases h
          exact bad

section
variable {u : State} {hdr : ShowHeader} {records : List Byte}

theorem finishLoad_bad {f : Failure} {i : Nat} (checked : checkCues u.cfg u.aud.clips hdr.duration
    (recordsOf records hdr.cueCount) 0 0 false [] 0 = .bad f i) :
    u.finishLoad hdr records = u.failLoad f (some i) hdr.label .load := by
  unfold State.finishLoad
  rw [checked]

section
variable {cues : List Cue} {clamps : Nat} (checked : checkCues u.cfg u.aud.clips hdr.duration
  (recordsOf records hdr.cueCount) 0 0 false [] 0 = .good cues clamps)
include checked

theorem finishLoad_full {i : Nat} (full : laneFullAt cues 0 0 = some i) :
    u.finishLoad hdr records = u.failLoad .laneFull (some i) hdr.label .load := by
  unfold State.finishLoad
  rw [checked]
  dsimp only
  rw [full]

theorem finishLoad_fits (fits : laneFullAt cues 0 0 = none) : u.finishLoad hdr records =
    if ∃ k ∈ loadLocks u.aud.clips (buildLanes u.cfg cues), u.flp.serviceMeets (k.lo, k.hi) = true then
      u.failLoad .conflict none hdr.label .load
    else u.armShow hdr cues (buildLanes u.cfg cues) (loadCounts u.cfg cues (buildLanes u.cfg cues) clamps) := by
  unfold State.finishLoad
  rw [checked]
  dsimp only
  rw [fits]
  simp only [List.any_eq_true]

end

/-- What the end of a load leaves as it was, beside AUD's clock. -/
theorem finishLoad_table : (u.finishLoad hdr records).aud.clips = u.aud.clips
    ∧ (u.finishLoad hdr records).aud.copying = u.aud.copying ∧ (u.finishLoad hdr records).flp.port = u.flp.port := by
  have fails {f : Failure} (cue : Option Nat) (bad : f ≠ .none) :
      (u.failLoad f cue hdr.label .load).aud.clips = u.aud.clips
        ∧ (u.failLoad f cue hdr.label .load).aud.copying = u.aud.copying
        ∧ (u.failLoad f cue hdr.label .load).flp.port = u.flp.port := by
    obtain ⟨flp, aud⟩ := failLoad_flp_aud u cue hdr.label .load bad
    rw [flp, aud]
    exact ⟨rfl, rfl, rfl⟩
  unfold State.finishLoad
  split
  next failure i checked => exact fails _ (checkCues_bad checked)
  next cues clamps _ =>
    split
    · exact fails _ (by decide)
    · dsimp only
      split
      · exact fails _ (by decide)
      · exact ⟨rfl, rfl, rfl⟩

end

theorem settle_armSlot (u : State) : u.settle.lif.armSlot = u.lif.armSlot := by
  have site (w : State) : w.settleSite.lif.armSlot = w.lif.armSlot := by
    unfold State.settleSite
    dsimp only
    split
    · exact withReport_armSlot _ _
    · rfl
  exact (kick_armSlot _).trans ((site _).trans (settleFlash_armSlot u))

/-- A load that fails after its directory copy, at the end of the step (R28, R29). -/
theorem failLoad_settles {s u : State} {failure : Failure} {cue : Option Nat} {label : List Byte} (bad : failure ≠ .none)
    (seq : u.seq = s.seq) (lif : u.lif = s.lif) :
    let t := (u.failLoad failure cue label .load).settle
    t.seq.st = .idle ∧ t.seq.cues = [] ∧ t.seq.lanes = Lanes.empty ∧ t.flags.has .loadFailed = true
      ∧ t.seq.result = ⟨.failed, failure, s.seq.slot, label, cue, none⟩ ∧ (∀ k ∈ t.flp.locks, k.owner = .announcement)
      ∧ t.lif.armSlot = { s.lif.armSlot with status := .failed, failure := failure, cueIndex := cue, imageFound := none }
      ∧ s.says t 1 (.serviceDone .arm t.lif.armSlot) := by
  intro t
  have record : t.lif.armSlot = u.failedArm failure cue := (settle_armSlot _).trans (failLoad_armSlot u cue label .load bad)
  refine ⟨?_, ?_, ?_, settle_kept (failLoad_flag u cue label .load bad), ?_, fun k hk => ?_, ?_, ?_⟩
  · exact congrArg Seq.st (settle_seq _)
  · exact congrArg Seq.cues (settle_seq _)
  · exact congrArg Seq.lanes (settle_seq _)
  · refine (congrArg Seq.result (settle_seq _)).trans ?_
    rw [← seq]
    rfl
  · have free := (failLoad_flp_aud u cue label .load bad).1
    rw [settle_locks, free] at hk
    have other := (List.mem_filter.1 hk).2
    cases owner : k.owner with
    | announcement => rfl
    | showSlot | showClip | showDirectory => rw [owner] at other; cases other
  · rw [record, State.failedArm, lif]
  · rw [record]
    refine says_of_report (u := { u.loadIdle failure cue label .load with
      lif := (u.loadIdle failure cue label .load).lif.withSlot .arm (u.failedArm failure cue) }) (l := u.lif)
      (congrArg Lif.enable lif) (congrArg Lif.reports lif)
      ((loadIdle_grows u cue label .load (.refl 0 _)).trans (.withSlot _ .arm _) (Nat.le_refl 1)) (Nat.le_refl 1)
      fun h => settle_carries ?_
    rw [failLoad_eq u cue label .load bad]
    exact h

/-- ARMED has been said, and the service has not ended yet (R28). -/
def State.armSaid (s : State) (hdr : ShowHeader) (cues : List Cue) (l : Lanes) (counts : LoadCounts) : State :=
  State.sayShow
    { s with
      seq := { s.seq with
        st := .armed, cues := cues, lanes := l, duration := hdr.duration, preroll := counts.preroll, load := none,
        result := ⟨.done, .none, s.seq.slot, hdr.label, none, some counts⟩ }
      flp := { s.flp with locks := s.flp.locks ++ loadLocks s.aud.clips l }
      flags := (s.flags.raiseIf (decide (0 < counts.compressed)) .compressedCues).raiseIf
        (decide (0 < counts.overtaken)) .overtaken }
    none

/-- The ARM slot of a load that has ended DONE (R186). -/
def State.doneArm (s : State) : SlotRecord :=
  { s.lif.armSlot with status := .done, failure := .none, cueIndex := none, imageFound := none }

theorem armShow_eq (s : State) (hdr : ShowHeader) (cues : List Cue) (l : Lanes) (counts : LoadCounts) :
    s.armShow hdr cues l counts = State.report { s.armSaid hdr cues l counts with
      lif := (s.armSaid hdr cues l counts).lif.withSlot .arm s.doneArm } (.serviceDone .arm s.doneArm) := by
  have record : ({ (s.armSaid hdr cues l counts).lif.armSlot with
      status := .done, failure := .none, cueIndex := none, imageFound := none } : SlotRecord) = s.doneArm := by
    rw [show (s.armSaid hdr cues l counts).lif.armSlot = s.lif.armSlot from withReport_armSlot _ _]
    rfl
  rw [← record]
  rfl

/-- A load that ends DONE, at the end of the step (R28, R171). -/
theorem armShow_settles {s u : State} {hdr : ShowHeader} {cues : List Cue} {l : Lanes} {counts : LoadCounts}
    (seq : u.seq = s.seq) (lif : u.lif = s.lif) :
    let t := (u.armShow hdr cues l counts).settle
    t.seq.st = .armed ∧ t.seq.cues = cues ∧ t.seq.lanes = l ∧ t.seq.duration = hdr.duration ∧ t.seq.preroll = counts.preroll
      ∧ t.seq.result = ⟨.done, .none, s.seq.slot, hdr.label, none, some counts⟩
      ∧ (∀ k ∈ loadLocks u.aud.clips l, k ∈ t.flp.locks)
      ∧ t.lif.armSlot = { s.lif.armSlot with status := .done, failure := .none, cueIndex := none, imageFound := none }
      ∧ s.says t 1 (.serviceDone .arm t.lif.armSlot) := by
  intro t
  have record : t.lif.armSlot = u.doneArm := by
    refine (settle_armSlot _).trans ?_
    rw [armShow_eq]
    exact withReport_armSlot _ _
  refine ⟨?_, ?_, ?_, ?_, ?_, ?_, fun k hk => ?_, ?_, ?_⟩
  · exact congrArg Seq.st (settle_seq _)
  · exact congrArg Seq.cues (settle_seq _)
  · exact congrArg Seq.lanes (settle_seq _)
  · exact congrArg Seq.duration (settle_seq _)
  · exact congrArg Seq.preroll (settle_seq _)
  · refine (congrArg Seq.result (settle_seq _)).trans ?_
    rw [← seq]
    rfl
  · rw [settle_locks]
    exact List.mem_append_right u.flp.locks hk
  · rw [record, State.doneArm, lif]
  · rw [record]
    have grown : u.lif.Grows 1 (u.armSaid hdr cues l counts).lif := .withReport u.lif _
    refine says_of_report (u := { u.armSaid hdr cues l counts with
      lif := (u.armSaid hdr cues l counts).lif.withSlot .arm u.doneArm }) (l := u.lif)
      (congrArg Lif.enable lif) (congrArg Lif.reports lif)
      (grown.trans (.withSlot _ .arm _) (Nat.le_refl 1)) (Nat.le_refl 1) fun h => settle_carries ?_
    rw [armShow_eq]
    exact h

/-! ## O14 -/

/-- Settles O14: the locks of a load, the copy that a load has left behind, and the end of a load by its cues and locks. -/
theorem directoryReadEndsLoad : Obligations.DirectoryReadEndsLoad := by
  unfold Obligations.DirectoryReadEndsLoad
  refine ⟨mem_loadLocks_iff, fun s port copying => ?_, fun s h records port copying queue load => ?_⟩
  · obtain ⟨cfg, clock, _, seq, groups, dbm, lgt, fda, pins, flash, aud⟩ := copied_frame s
    obtain ⟨held, work⟩ := sectorTaken_locks s
    rw [exec_directoryReadDone port copying]
    refine ⟨_, rfl, ?_, ?_, ?_, ?_, ?_, ?_, ?_, ?_, ?_, ?_, ?_, copied_port⟩
    · exact (settle_cfg _).trans cfg
    · exact (settle_clock _).trans clock
    · exact (settle_groups _).trans groups
    · exact (settle_seq _).trans seq
    · exact (settle_lgt _).trans lgt
    · exact (settle_dbm _).trans dbm
    · exact (settle_fda _).trans fda
    · exact (settle_pins _).trans pins
    · exact (settle_flash_of_free (copied_flp s).1).trans flash
    · refine relocked_of (u := s.sectorTaken) (settle_locks _) (settle_annWaiting _) ?_ ?_ ?_ ?_
      · rw [held]
      · exact work
      · rw [settle_aud, (seek_table _).1]
        exact congrArg Aud.clips aud
      · exact (settle_cfg _).trans (cfg.trans (sectorTaken_frame s).1.symm)
    · rw [settle_aud, ← sectorTaken_aud]
      exact congrArg Aud.seek aud
  · obtain ⟨cfg, clock, lif, seq, groups, dbm, lgt, fda, pins, flash, aud⟩ := copied_frame s
    obtain ⟨free, _, work, _⟩ := copied_flp s
    have after : s.sectorTaken.relockAnnouncement.afterCopy .armLoad =
        s.sectorTaken.relockAnnouncement.finishLoad h records := by
      unfold State.afterCopy
      rw [seq, load]
    have clips : s.sectorTaken.relockAnnouncement.aud.clips = settleDirectory (Memory.readBytes s.flash 0x110000 4096) := by
      rw [aud, sectorTaken_aud]
    have copied : s.sectorTaken.relockAnnouncement.aud.copying = none := by
      rw [aud, sectorTaken_aud, queue]
      rfl
    rw [exec_directoryReadDone port copying, after]
    generalize s.sectorTaken.relockAnnouncement = u at *
    obtain ⟨table, idle, port'⟩ := finishLoad_table (u := u) (hdr := h) (records := records)
    have now : (u.finishLoad h records).settle.aud.clips = u.aud.clips := by
      rw [settle_aud, (seek_table _).1, table]
    refine ⟨_, rfl, ?_, ?_, ?_, ?_, ?_, ?_, ?_, ?_, ?_, ?_, ?_⟩
    · rw [settle_cfg, finishLoad_cfg, cfg]
    · rw [settle_clock, finishLoad_clock, clock]
    · rw [settle_groups, finishLoad_groups, groups]
    · rw [settle_lgt, finishLoad_lgt, lgt]
    · rw [settle_dbm, finishLoad_dbm, dbm]
    · rw [settle_fda, finishLoad_fda, fda]
    · rw [settle_pins, finishLoad_pins, pins]
    · rw [settle_flash_of_free (port'.trans free), finishLoad_flash, flash]
    · exact now.trans clips
    · rw [settle_aud, (seek_table _).2.1, idle, copied]
    · intro failed
      rw [now, ← cfg, ← work]
      cases checked : checkCues u.cfg u.aud.clips h.duration (recordsOf records h.cueCount) 0 0 false [] 0 with
      | bad failure i =>
        show failed failure (some i)
        have := failLoad_settles (cue := some i) (label := h.label) (checkCues_bad checked) seq lif
        rw [← finishLoad_bad checked] at this
        exact this
      | good cues clamps =>
        dsimp only
        cases full : laneFullAt cues 0 0 with
        | some i =>
          have := failLoad_settles (failure := .laneFull) (cue := some i) (label := h.label) (by decide) seq lif
          rw [← finishLoad_full checked full] at this
          exact this
        | none =>
          have ends := finishLoad_fits checked full
          simp only [serviceMeets_iff] at ends
          dsimp only
          split
          next meets =>
            rw [if_pos meets] at ends
            have := failLoad_settles (failure := .conflict) (cue := none) (label := h.label) (by decide) seq lif
            rw [← ends] at this
            exact this
          next clear =>
            rw [if_neg clear] at ends
            have := armShow_settles (hdr := h) (cues := cues) (l := buildLanes u.cfg cues)
              (counts := loadCounts u.cfg cues (buildLanes u.cfg cues) clamps) seq lif
            rw [← ends] at this
            exact this

end Sys2Proof.Machine
end

section
/-! What new settings leave: the clip table, FLP's presence and the link's slots (R14, R175, R178). -/

namespace Sys2Proof.Machine

namespace State

variable {s : State}

/-! ## The clip table through the settings -/

/-- The clip table that AUD holds, and FLP but for its locks. -/
def kit (s : State) : Table 64 (Option Clip) × Flp := (s.aud.clips, { s.flp with locks := [], annWaiting := none })

theorem kit_of {t : State} (aud : t.aud = s.aud) (flp : t.flp = s.flp) : t.kit = s.kit := by
  unfold kit
  rw [aud, flp]

theorem kit_of_parts {t : State} (clips : t.aud.clips = s.aud.clips)
    (flp : ({ t.flp with locks := [], annWaiting := none } : Flp) = { s.flp with locks := [], annWaiting := none }) :
    t.kit = s.kit := Prod.ext clips flp

theorem parts_of_kit {t : State} (h : t.kit = s.kit) : t.aud.clips = s.aud.clips ∧ t.flp.presence = s.flp.presence
    ∧ t.flp.port = s.flp.port ∧ t.flp.internalQ = s.flp.internalQ ∧ t.flp.lifQ = s.flp.lifQ :=
  have e : ({ t.flp with locks := [], annWaiting := none } : Flp) = { s.flp with locks := [], annWaiting := none } :=
    congrArg Prod.snd h
  ⟨congrArg Prod.fst h, (congrArg Flp.presence e :), (congrArg Flp.port e :), (congrArg Flp.internalQ e :),
    (congrArg Flp.lifQ e :)⟩

theorem showIdle_kit (r : EndReason) : (s.showIdle r).kit = s.kit := rfl

theorem discardShow_clips (a : Aud) (pendingOnly : Bool) : (a.discardShow pendingOnly).clips = a.clips :=
  (congrArg Aud.clips (a.discardShow_eq pendingOnly) :)

theorem stopped_clips (a : Aud) : a.stopped.clips = a.clips := discardShow_clips a false

theorem stopping_clips (a : Aud) (fade : Nat) : (a.stopping fade).clips = a.clips := discardShow_clips a true

theorem testStopping_kit : s.testStopping.kit = s.kit := by
  unfold testStopping
  split
  · split
    · exact kit_of_parts (stopped_clips _) rfl
    · rfl
  · rfl

theorem enterStopping_kit (r : EndReason) : (s.enterStopping r).kit = s.kit :=
  testStopping_kit.trans (kit_of_parts (stopping_clips _ _) rfl)

theorem offerChange_kit : s.offerChange.kit = s.kit := by
  unfold offerChange
  rw [kit_of (judgeDrop_aud _) (judgeDrop_flp _), testStopping_kit]

theorem changeInterlock_kit (g : Fin 24) (left into : Interlock) (cause : FaultCause) (code : Option Byte) :
    (s.changeInterlock g left into cause code).kit = s.kit := by
  unfold changeInterlock
  rw [offerChange_kit, kit_of (postAtChange_aud ..) (postAtChange_flp ..), kit_of (sayGroup_aud ..) (sayGroup_flp ..), kit_of (withGroup_aud ..) (withGroup_flp ..)]

theorem findGroup_kit (g : Fin 24) : (s.findGroup g).kit = s.kit := by
  unfold findGroup
  split
  · exact changeInterlock_kit _ _ _ _ _
  · rfl

theorem loseGroup_kit (g : Fin 24) : (s.loseGroup g).kit = s.kit := by
  unfold loseGroup
  split
  · rfl
  · rfl
  · exact changeInterlock_kit _ _ _ _ _

theorem enterDry_kit : s.enterDry.kit = s.kit := by
  unfold enterDry
  split
  · dsimp only
    split
    · rw [kit_of (zeroFades_aud _) (zeroFades_flp _), enterStopping_kit]
      rfl
    · rw [enterStopping_kit]
      rfl
  · rfl

theorem levelMoved_kit (before : LevelState) : (s.levelMoved before).kit = s.kit := by
  unfold levelMoved
  split
  · rfl
  · split
    · exact enterDry_kit
    · rfl

theorem validityActs_kit (i : Fin 27) (before : LevelState) : (s.validityActs i before).kit = s.kit := by
  unfold validityActs
  dsimp only
  split
  · split <;> rfl
  · split
    · exact levelMoved_kit _
    · split
      · rfl
      · split
        · split
          · exact findGroup_kit _
          · exact loseGroup_kit _
        · rfl

theorem resetChannel_kit (i : Fin 27) : (s.resetChannel i).kit = s.kit := by
  unfold resetChannel moveChannel
  dsimp only
  split
  · rfl
  · split
    · rfl
    · exact validityActs_kit _ _

theorem configure_kit (g : Fin 24) (left : Option Interlock) : (s.configure g left).kit = s.kit := by
  unfold configure
  rw [offerChange_kit, kit_of (sayGroup_aud ..) (sayGroup_flp ..), kit_of (postDemand_aud ..) (postDemand_flp ..), kit_of (withGroup_aud ..) (withGroup_flp ..)]

theorem regroup_kit (g : Fin 24) (old : GroupRecord) : (s.regroup g old).kit = s.kit := by
  unfold regroup
  dsimp only
  split
  · exact configure_kit _ _
  · split
    · rfl
    · exact configure_kit _ _
  · exact kit_of (unconfigure_aud _ _) (unconfigure_flp _ _)
  · rfl

/-- What neither the groups nor the channels of new settings touch is as it was (R175). -/
theorem takeSettings_field {α : Type} (π : State → α) (new : Settings)
    (begins : ∀ (a : Table 4 (List Int)) (l : Lgt) (n : Nat),
      π { s with cfg := new, lgt := l, aud := { s.aud with lines := a }, sup := { s.sup with calm := 0 }, fresh := n } = π s)
    (groups : ∀ (t : State) (g : Fin 24) (old : GroupRecord), π (t.regroup g old) = π t)
    (channels : ∀ (t : State) (i : Fin 27), π (t.resetChannel i) = π t) (feeds : ∀ t : State, π t.refeed = π t)
    (relocks : ∀ t : State, π t.relockAnnouncement = π t) (restarts : ∀ t : State, π t.restartIfTripped = π t) :
    π (s.takeSettings new) = π s := by
  rw [takeSettings_eq, restarts, relocks, feeds]
  refine (foldl_field π (fun (t : State) i => t.resetChannel i) channels _ _).trans ?_
  refine (eachGroup_field π (fun g (t : State) => t.regroup g (s.cfg.groups.get g)) (fun t g => groups t g _) _).trans ?_
  exact begins _ _ _

theorem relockAnnouncement_kit : s.relockAnnouncement.kit = s.kit := by
  refine kit_of_parts (by rw [relockAnnouncement_eq]) ?_
  rw [relockAnnouncement_flp]

theorem restartIfTripped_kit : s.restartIfTripped.kit = s.kit := kit_of_parts (restartIfTripped_table s).1 rfl

theorem takeSettings_kit (new : Settings) : (s.takeSettings new).kit = s.kit :=
  takeSettings_field kit new (fun _ _ _ => rfl) (fun _ _ _ => regroup_kit _ _) (fun _ _ => resetChannel_kit _)
    (fun t => kit_of (refeed_aud t) (refeed_flp t)) (fun _ => relockAnnouncement_kit) fun _ => restartIfTripped_kit

/-- What new settings leave of AUD's table and of FLP. -/
theorem takeSettings_parts (new : Settings) : (s.takeSettings new).aud.clips = s.aud.clips
    ∧ (s.takeSettings new).flp.presence = s.flp.presence ∧ (s.takeSettings new).flp.port = s.flp.port
    ∧ (s.takeSettings new).flp.internalQ = s.flp.internalQ ∧ (s.takeSettings new).flp.lifQ = s.flp.lifQ :=
  parts_of_kit (takeSettings_kit new)

/-! ## No flag is cleared by the settings -/

theorem configure_owes {u : State} {g : Fin 24} {left : Option Interlock} (h : s.Owes u) : s.Owes (u.configure g left) :=
  offerChange_owes (sayGroup_owes (postDemand_owes (withGroup_owes h)))

theorem regroup_owes {u : State} {g : Fin 24} {old : GroupRecord} (h : s.Owes u) : s.Owes (u.regroup g old) := by
  have due : s.Owes { u with dbm := { u.dbm with schedule := u.dbm.stillDue u.cfg.groups } } := owes_of_eq h rfl rfl
  unfold regroup
  dsimp only
  split
  · exact configure_owes due
  · split
    · exact due
    · exact configure_owes due
  · exact postDemand_owes (withGroup_owes due)
  · exact due

theorem refeed_owes (u : State) : u.Owes u.refeed := rescale_owes (owes_of_eq (.refl u) rfl rfl)

theorem takeSettings_kept (new : Settings) {f : Flag} (h : s.flags.has f = true) :
    (s.takeSettings new).flags.has f = true := by
  let kept (t : State) : Prop := t.flags.has f = true
  have groups : kept (s.regroupAll new) :=
    eachGroup_induction (P := kept) (fun g t h => (regroup_owes (.refl t)).kept f h) h
  have channels : kept ((s.regroupAll new).eachChannel fun i a => a.resetChannel i) :=
    List.foldlRecOn _ _ groups fun t h i _ => (resetChannel_owes (.refl t)).kept f h
  rw [takeSettings_eq, restartIfTripped_flags, relockAnnouncement_flags]
  exact (refeed_owes _).kept f channels

/-- The image state and the start-up mark are set and PERMIT is judged, and no more (R157, R174). -/
theorem marked_frame (t : State) (image : ImageState) : (t.marked image).raisePermit.cfg = t.cfg
    ∧ (t.marked image).raisePermit.aud = t.aud
    ∧ (t.marked image).raisePermit.flp = { t.flp with image := image, settingsWork := none }
    ∧ (t.marked image).raisePermit.sup.startMark = true
    ∧ (t.marked image).raisePermit.sup.permit = (t.sup.permit || (!t.lif.halted && !t.isTripped)) := ⟨rfl, rfl, rfl, rfl, rfl⟩

theorem settingsLoaded_cfg (image : ImageState) (new : Settings) : (s.settingsLoaded image new).cfg = new := by
  rw [settingsLoaded_eq, settleSite_cfg, (marked_frame _ image).1, takeSettings_cfg]

theorem settingsLoaded_clips (image : ImageState) (new : Settings) :
    (s.settingsLoaded image new).aud.clips = s.aud.clips := by
  obtain ⟨_, aud, _⟩ := marked_frame (s.takeSettings new) image
  rw [settingsLoaded_eq, settleSite_aud, aud, (takeSettings_parts new).1]

theorem settingsLoaded_flp (image : ImageState) (new : Settings) : (s.settingsLoaded image new).flp =
    { (s.takeSettings new).flp with image := image, settingsWork := none } := by
  obtain ⟨_, _, flp, _⟩ := marked_frame (s.takeSettings new) image
  rw [settingsLoaded_eq, settleSite_flp, flp]

theorem settleSite_permit (u : State) : u.settleSite.sup.permit = u.sup.permit
    ∧ u.settleSite.sup.startMark = u.sup.startMark := by
  rw [settleSite_sup]
  exact ⟨rfl, rfl⟩

/-- The start-up mark is set, and PERMIT rises where the part is neither halted nor TRIPPED (R157, R174). -/
theorem settingsLoaded_permit (image : ImageState) (new : Settings) : (s.settingsLoaded image new).sup.startMark = true
    ∧ (s.lif.halted = false → s.sup.mode ≠ .tripped → (s.settingsLoaded image new).sup.permit = true) := by
  have calm := takeSettings_calm (new := new) (.refl s)
  obtain ⟨_, _, _, mark, permit⟩ := marked_frame (s.takeSettings new) image
  obtain ⟨permit', mark'⟩ := settleSite_permit ((s.takeSettings new).marked image).raisePermit
  rw [settingsLoaded_eq, permit', mark', permit]
  refine ⟨mark, fun runs untripped => ?_⟩
  have stands : (s.takeSettings new).isTripped = false := by
    rw [isTripped, calm.mode]
    exact decide_eq_false untripped
  rw [calm.halted, runs, stands, Bool.not_false, Bool.and_self, Bool.or_true]

end State

/-! ## The link's slots at the end of a step -/

/-- What of the link neither a report, nor the transmitter, nor the FLASH slot touches is kept at the end of a step. -/
theorem settle_lif_field {α : Type} (π : Lif → α) (reports : ∀ l r, π (Lif.withReport l r) = π l) (sends : ∀ l, π (Lif.kick l) = π l)
    (runs : ∀ (l : Lif) (r : SlotRecord), π { l with flashSlot := r } = π l) (u : State) : π u.settle.lif = π u.lif := by
  have start (s : State) (t : Txn) : π (s.startTxn t).lif = π s.lif := by
    unfold State.startTxn
    dsimp only
    split
    · exact runs _ _
    · rfl
  have choose (t : State) : π t.chooseTxn.lif = π t.lif := by
    unfold State.chooseTxn
    split
    · exact start _ _
    · split
      · rfl
      · exact start _ _
      · exact start _ _
      · split <;> exact start _ _
  have flash (s : State) : π s.settleFlash.lif = π s.lif := by
    unfold State.settleFlash State.arbitrate
    split
    · exact choose _
    · split <;> rfl
    all_goals rfl
  have site (w : State) : π w.settleSite.lif = π w.lif := by
    unfold State.settleSite
    dsimp only
    split
    · exact reports _ _
    · rfl
  exact (sends _).trans ((site _).trans (flash u))

theorem withReport_settingsSlot (l : Lif) (r : Report) : (l.withReport r).settingsSlot = l.settingsSlot := by
  unfold Lif.withReport
  (repeat' split) <;> rfl

theorem withReport_starting (l : Lif) (r : Report) : (l.withReport r).starting = l.starting := by
  unfold Lif.withReport
  (repeat' split) <;> rfl

theorem kick_settingsSlot (l : Lif) : l.kick.settingsSlot = l.settingsSlot := by
  unfold Lif.kick
  split
  · rfl
  · split
    · rfl
    · split <;> rfl

theorem kick_starting (l : Lif) : l.kick.starting = l.starting := by
  unfold Lif.kick
  split
  · rfl
  · split
    · rfl
    · split <;> rfl

theorem settle_settingsSlot (u : State) : u.settle.lif.settingsSlot = u.lif.settingsSlot :=
  settle_lif_field Lif.settingsSlot withReport_settingsSlot kick_settingsSlot (fun _ _ => rfl) u

theorem settle_starting (u : State) : u.settle.lif.starting = u.lif.starting :=
  settle_lif_field Lif.starting withReport_starting kick_starting (fun _ _ => rfl) u

/-- READY is said with start-up over and the SETTINGS slot IDLE (R178). -/
theorem startUpReady_lif (u : State) : u.startUpReady.lif.starting = false ∧ u.startUpReady.lif.settingsSlot.status = .idle :=
  ⟨withReport_starting _ _, congrArg SlotRecord.status (withReport_settingsSlot _ _)⟩

theorem startUpReady_flp (u : State) : u.startUpReady.flp = u.relockAnnouncement.flp := rfl

end Sys2Proof.Machine
end

section
/-! POWER_ON, PIN_RESET, the identification of the flash, and the start-up's directory copy (R14, R17, R154, R161, R171, R178,
R179). -/

namespace Sys2Proof.Machine

open State

/-! ## A reset with an input active -/

/-- Bringing down groups of which none is configured does nothing (R90, R100). -/
theorem waterDown_bare {u : State} (bare : ∀ g, (u.groups.get g).interlock = none) : u.waterDown = u := by
  have one (g : Fin 24) : u.bringDown g = u := by
    unfold State.bringDown
    rw [bare g]
  unfold State.waterDown
  exact eachGroup_induction (P := fun t => t = u) (fun g t e => by rw [e]; exact one g) rfl

theorem reset_dropLatches : Lgt.reset.dropLatches = Lgt.reset := by decide +kernel

theorem reset_trip : Aud.reset.trip Settings.default.options = Aud.reset := by decide +kernel

/-- A machine at its reset state, but for the link, the supervision, the flags and what a reset keeps. -/
structure State.AtReset (s : State) : Prop where
  cfg : s.cfg = Settings.default
  seq : s.seq = Seq.reset
  aud : s.aud = Aud.reset
  groups : s.groups = Table.fill 24 Group.reset
  lgt : s.lgt = Lgt.reset
  halted : s.lif.halted = false

/-- A trip found at a reset acts on PERMIT alone (R157, R161). -/
theorem tripActs_atReset {u : State} (r : u.AtReset) (tripped : u.sup.mode = .tripped) : u.tripActs = u.lowerPermit := by
  have idle : u.abortShow .tripped .trip = u := by
    unfold State.abortShow
    rw [r.seq]
    rfl
  have latches : u.lgt.dropLatches = u.lgt := by rw [r.lgt, reset_dropLatches]
  have mutes : u.aud.trip u.cfg.options = u.aud := by rw [r.aud, r.cfg, reset_trip]
  have stopped : u.tripStopped = u := by
    unfold State.tripStopped
    rw [idle]
    dsimp only
    rw [latches, mutes, ite_self]
  have bare (g : Fin 24) : (u.groups.get g).interlock = none := by
    rw [r.groups, Table.get_fill]
    rfl
  have down : u.groupsDown = true := by
    unfold State.groupsDown
    rw [r.groups]
    decide +kernel
  have drops (fall : ¬u.sup.causes.estop = true) : u.dropCalled = true := by
    unfold State.dropCalled State.isTripped
    rw [tripped, down, eq_false_of_ne_true fall]
    rfl
  rw [tripActs_eq, stopped, waterDown_bare bare]
  split
  · rfl
  next fall =>
    unfold State.judgeDrop
    rw [if_pos (drops fall)]

section
variable (s : State) (kind : ResetKind) (inputs : Inputs) (straps : BitVec 2) (log : List TripRecord)

theorem resetTo_calm {inputs : Inputs} (calm : inputActive inputs = false) :
    s.resetTo kind inputs straps log = (s.resetBlocks kind inputs straps log).kick := by
  unfold State.resetTo State.judgeInputs
  rw [calm]
  rfl

theorem resetBlocks_atReset : ((s.resetBlocks kind inputs straps log).latchTrip (inputCauses inputs)).AtReset :=
  ⟨rfl, rfl, rfl, rfl, rfl, (Lif.Grows.withReport _ _).halted⟩

theorem resetTo_trips {inputs : Inputs} (active : inputActive inputs = true) : s.resetTo kind inputs straps log =
    State.kick { ((s.resetBlocks kind inputs straps log).latchTrip (inputCauses inputs)).lowerPermit with
      sup := { ((s.resetBlocks kind inputs straps log).latchTrip (inputCauses inputs)).lowerPermit.sup with siteDue := false } } := by
  unfold State.resetTo State.judgeInputs
  rw [if_pos (by rw [active]; rfl), tripActs_atReset (resetBlocks_atReset s kind inputs straps log) rfl]

/-- The link of a reset. -/
def resetLif (straps : BitVec 2) (kind : ResetKind) : Lif := { Lif.reset with bitRate := straps, lastReset := kind }

theorem resetLif_makes (straps : BitVec 2) (kind : ResetKind) (c : Causes) :
    (resetLif straps kind).makes (.trip c false 0) = true :=
  show Lif.reset.enable.getLsbD Category.site.bit = true by decide

theorem resetBlocks_latched (c : Causes) : ((s.resetBlocks kind inputs straps log).latchTrip c).lif =
    { resetLif straps kind with reports := [.trip c false 0] } := by
  show (resetLif straps kind).withReport (.trip c false 0) = _
  unfold Lif.withReport
  rw [if_pos (resetLif_makes straps kind c)]
  rfl

/-- The flags of a reset with the causes found. -/
def resetFlags (inputs : Inputs) : Flags :=
  (Flags.reset.raiseIf inputs.estop .estop).raiseIf (inputs.intrA || inputs.intrB) .intrusion

theorem resetBlocks_flags : ((s.resetBlocks kind inputs straps log).latchTrip (inputCauses inputs)).flags = resetFlags inputs := by
  show Flags.raiseIf _ ((resetLif straps kind).drops (.trip (inputCauses inputs) false 0)) _ = _
  unfold Lif.drops
  rw [resetLif_makes]
  rfl

theorem resetFlags_has (inputs : Inputs) : (resetFlags inputs).has .estop = inputs.estop
    ∧ (resetFlags inputs).has .intrusion = (inputs.intrA || inputs.intrB) := by
  obtain ⟨e, a, b⟩ := inputs
  revert e a b
  decide

theorem inactive_iff (inputs : Inputs) : inputActive inputs = false ↔ inputs = ⟨false, false, false⟩ := by
  obtain ⟨e, a, b⟩ := inputs
  revert e a b
  decide

end

theorem exec_reset {s : State} {inputs : Inputs} {straps : BitVec 2} {c : Instr} {kind : ResetKind} {log : List TripRecord}
    (h : (c = .powerOn inputs straps ∧ kind = .powerOn ∧ log = [])
      ∨ (c = .pinReset inputs straps ∧ kind = .pinReset ∧ log = s.sup.tripLog)) :
    exec c s = .next (s.resetTo kind inputs straps log) := by
  rcases h with ⟨rfl, rfl, rfl⟩ | ⟨rfl, rfl, rfl⟩ <;> rfl

/-! ## The start-up's directory copy -/

/-- What waits in the Internal queue starts at a FREE port, or waits on (R169). -/
theorem settleFlash_starts {s : State} {t : Txn} (free : s.flp.port = .free) (waits : t ∈ s.flp.internalQ) :
    s.settleFlash.flp.port = t.port ∨ t ∈ s.settleFlash.flp.internalQ := by
  unfold State.settleFlash State.arbitrate
  rw [show ({ s with aud := s.aud.seek } : State).flp.port = .free from free]
  unfold State.chooseTxn
  dsimp only
  split
  · exact .inr waits
  · split
    next none _ => rw [none] at waits; cases waits
    next u rest some _ =>
      rw [some] at waits
      rcases List.mem_cons.1 waits with rfl | more
      · exact .inl rfl
      · exact .inr more
    next none _ => rw [none] at waits; cases waits
    next u rest v rest' some _ =>
      rw [some] at waits
      split
      · rcases List.mem_cons.1 waits with rfl | more
        · exact .inl rfl
        · exact .inr more
      · exact .inr (some ▸ waits)

/-- The start-up's copy has been taken, and the settings asked for (R178). -/
def State.copiedStart (s : State) : State := s.restarted.askSettings true []

theorem copiedStart_frame (s : State) : s.copiedStart.aud = s.restarted.aud ∧ s.copiedStart.cfg = s.cfg
    ∧ s.copiedStart.clock = s.clock ∧ s.copiedStart.seq = s.seq ∧ s.copiedStart.groups = s.groups ∧ s.copiedStart.dbm = s.dbm
    ∧ s.copiedStart.lgt = s.lgt ∧ s.copiedStart.fda = s.fda ∧ s.copiedStart.sup = s.sup ∧ s.copiedStart.pins = s.pins
    ∧ s.copiedStart.flash = s.flash := by
  obtain ⟨cfg, clock, _, seq, groups, dbm, lgt, fda, sup, pins, flash⟩ := restarted_frame s
  exact ⟨rfl, cfg, clock, seq, groups, dbm, lgt, fda, sup, pins, flash⟩

theorem copiedStart_flp (s : State) : s.copiedStart.flp.port = .free ∧ s.copiedStart.flp.lifQ = s.flp.lifQ
    ∧ s.copiedStart.flp.internalQ = (if s.aud.copyQueue = [] then s.flp.internalQ else s.flp.internalQ ++ [.directory])
      ++ [.settingsRead 0 4096] := by
  obtain ⟨port, lifQ, _, queue⟩ := copied_flp s
  exact ⟨port, lifQ, congrArg (· ++ [Txn.settingsRead 0 4096]) queue⟩

/-- Where no announcement restarts and nothing else waits, the settings read starts in the same event. -/
theorem copiedStart_reads {s : State} (queue : s.aud.copyQueue = []) (quiet : s.flashQuiet = true)
    (stands : s.sup.mode ≠ .tripped ∨ s.lif.halted = true) : s.copiedStart.settle.flp.port = .reading (.settingsRead 0 4096) := by
  obtain ⟨chunk, seeks, internal, lif⟩ := (flashQuiet_iff s).1 quiet
  obtain ⟨free, lifQ, asked⟩ := copiedStart_flp s
  rw [if_pos queue, internal] at asked
  obtain ⟨_, _, lif', _, _, _, _, _, _, _, aud⟩ := copied_frame s
  have mode : s.sectorTaken.relockAnnouncement.sup = s.sup := by
    rw [relockAnnouncement_eq]
    exact (sectorTaken_frame s).2.2.2.2.2.2.2.2.1
  have music : s.copiedStart.aud = s.sectorTaken.aud := by
    show s.sectorTaken.relockAnnouncement.restartIfTripped.aud = _
    unfold State.restartIfTripped State.isTripped
    dsimp only
    rw [if_neg, aud]
    rw [mode, lif']
    rcases stands with untripped | halted
    · simp [untripped]
    · simp [halted]
  rw [sectorTaken_aud] at music
  have chunk' : s.copiedStart.aud.chunk = none := by rw [music]; exact chunk
  have seeks' : s.copiedStart.aud.seeker = none := by rw [music]; exact seeks
  rw [settle_port, settleFlash_internal (t := .settingsRead 0 4096) free chunk' seeks' asked (lifQ.trans lif)]
  rfl

/-! ## The identification -/

theorem supportedDevice_iff (answer : Option DeviceIdent) :
    supportedDevice answer = true ↔ ∃ d, answer = some d ∧ d.sizeMiB = 256 ∧ d.eraseSuspend = true := by
  cases answer with
  | none => simp [supportedDevice]
  | some d => simp [supportedDevice]

/-- FLP has identified the flash, or has found none (R178). -/
def State.flashKnown (s : State) (answer : Option DeviceIdent) (presence : Presence) : State :=
  { s with flp := { s.flp with
    port := .free, presence := presence, ident := answer.map fun d => (d.id0, d.id1, d.id2) } }

theorem exec_identificationDone {s : State} {answer : Option DeviceIdent} (port : s.flp.port = .resetting)
    (unknown : s.flp.presence = .unidentified) : exec (.identificationDone answer) s =
      .next (if supportedDevice answer = true then (s.flashKnown answer .present).askDirectory .startUp
        else (s.flashKnown answer .missing).startWithoutFlash).settle := by
  have now : s.identifying = true := by
    unfold State.identifying
    rw [port, unknown]
    rfl
  show Host.Outcome.next (if s.identifying = true then (s.identified answer).settle else s) = _
  rw [if_pos now]
  unfold State.identified
  split
  · rfl
  · rfl

/-- The clip table emptied, as where no flash is there. -/
def State.noClips (s : State) : State := { s with aud := { s.aud with clips := Table.fill 64 none } }

theorem startWithoutFlash_eq (u : State) :
    u.startWithoutFlash = (u.noClips.settingsLoaded .blank Settings.default).startUpReady := rfl

/-- READY is said of settings that have been loaded, at the end of the step (R178). -/
theorem startUpReady_settles (v : State) : v.startUpReady.settle.flp.presence = v.flp.presence
    ∧ v.startUpReady.settle.cfg = v.cfg ∧ v.startUpReady.settle.flp.image = v.flp.image
    ∧ v.startUpReady.settle.sup.startMark = v.sup.startMark ∧ v.startUpReady.settle.lif.starting = false
    ∧ v.startUpReady.settle.lif.settingsSlot.status = .idle ∧ v.startUpReady.settle.aud.clips = v.aud.clips
    ∧ v.startUpReady.settle.sup.permit = v.sup.permit := by
  obtain ⟨started, slot⟩ := startUpReady_lif v
  refine ⟨?_, ?_, ?_, ?_, ?_, ?_, ?_, ?_⟩
  · rw [Flp.presence_of_core (settle_core ..), startUpReady_flp, relockAnnouncement_flp]
  · rw [settle_cfg, startUpReady_cfg]
  · rw [settle_image, startUpReady_flp, relockAnnouncement_image]
  · rw [settle_sup, startUpReady_sup]
  · rw [settle_starting, started]
  · rw [settle_settingsSlot, slot]
  · rw [settle_aud, (seek_table _).1, startUpReady_aud]
  · rw [settle_permit, startUpReady_sup]

/-- With no flash the defaults take effect, every clip is absent, and the part is ready (R178). -/
theorem startWithoutFlash_settles (u : State) : u.startWithoutFlash.settle.flp.presence = u.flp.presence
    ∧ u.startWithoutFlash.settle.cfg = Settings.default ∧ u.startWithoutFlash.settle.flp.image = .blank
    ∧ u.startWithoutFlash.settle.sup.startMark = true ∧ u.startWithoutFlash.settle.lif.starting = false
    ∧ u.startWithoutFlash.settle.lif.settingsSlot.status = .idle
    ∧ u.startWithoutFlash.settle.aud.clips = Table.fill 64 none
    ∧ (u.lif.halted = false → u.sup.mode ≠ .tripped → u.startWithoutFlash.settle.sup.permit = true) := by
  obtain ⟨presence, cfg, image, mark, starting, slot, clips, permit⟩ :=
    startUpReady_settles (u.noClips.settingsLoaded .blank Settings.default)
  obtain ⟨mark', permit'⟩ := settingsLoaded_permit (s := u.noClips) .blank Settings.default
  have present : (u.noClips.takeSettings Settings.default).flp.presence = u.flp.presence :=
    (takeSettings_parts (s := u.noClips) _).2.1
  have absent : (u.noClips.settingsLoaded .blank Settings.default).aud.clips = Table.fill 64 none :=
    (settingsLoaded_clips (s := u.noClips) _ _).trans rfl
  rw [startWithoutFlash_eq, presence, cfg, image, mark, clips, permit, settingsLoaded_flp, settingsLoaded_cfg]
  dsimp only
  exact ⟨present, rfl, rfl, mark', starting, slot, absent, permit'⟩

/-! ## O49 -/

/-- Settles O49: the resets by whether an input is active, the start-up's copy, and the identification by its answer. -/
theorem resetsAndIdentification : Obligations.ResetsAndIdentification := by
  unfold Obligations.ResetsAndIdentification
  refine ⟨fun s inputs straps c kind log h => ?_, fun s port copying queue => ?_, fun s answer port unknown => ⟨?_, ?_⟩⟩
  · rw [exec_reset h]
    cases active : inputActive inputs with
    | false =>
      have none := (inactive_iff inputs).1 active
      rw [resetTo_calm s kind straps log active]
      exact ⟨_, rfl, rfl, rfl, rfl, rfl, rfl, rfl, rfl, rfl, rfl, rfl, rfl, fun _ => ⟨rfl, rfl, rfl⟩, fun some => absurd none some⟩
    | true =>
      rw [resetTo_trips s kind straps log active]
      obtain ⟨estop, intrusion⟩ := resetFlags_has inputs
      refine ⟨_, rfl, rfl, rfl, rfl, rfl, rfl, rfl, rfl, rfl, rfl, rfl, rfl, fun none => ?_, fun _ => ⟨rfl, ?_, ?_, ?_⟩⟩
      · rw [(inactive_iff inputs).2 none] at active
        cases active
      · exact (congrArg Lif.kick (resetBlocks_latched s kind inputs straps log (inputCauses inputs))).trans rfl
      · exact (congrArg (·.has .estop) (resetBlocks_flags s kind inputs straps log)).trans estop
      · exact (congrArg (·.has .intrusion) (resetBlocks_flags s kind inputs straps log)).trans intrusion
  · have run : exec .directoryReadDone s = .next s.copiedStart.settle := exec_directoryReadDone port copying
    obtain ⟨aud, cfg, clock, seq, groups, dbm, lgt, fda, sup, pins, flash⟩ := copiedStart_frame s
    obtain ⟨free, lifQ, asked⟩ := copiedStart_flp s
    obtain ⟨table, idle⟩ := restarted_table s
    rw [run]
    refine ⟨_, rfl, ?_, ?_, ?_, ?_, ?_, ?_, copiedStart_reads queue, ?_, ?_, ?_, ?_, ?_, ?_, ?_, ?_, ?_, ?_, ?_⟩
    · rw [settle_aud, (seek_table _).1, aud, table]
    · rw [settle_aud, (seek_table _).2.1, aud, idle, queue]
      rfl
    · rw [settle_settingsWork]
      rfl
    · refine relocked_of (u := s.sectorTaken) ((settle_locks _).trans rfl) ((settle_annWaiting _).trans rfl) ?_ ?_ ?_ ?_
      · rw [(sectorTaken_locks s).1]
      · exact (sectorTaken_locks s).2
      · rw [settle_aud, (seek_table _).1, aud, table, sectorTaken_aud]
      · rw [settle_cfg, cfg, (sectorTaken_frame s).1]
    · exact restarted_restarts ((settle_aud _).trans (congrArg Aud.seek aud))
    · have waits : Txn.settingsRead 0 4096 ∈ s.copiedStart.flp.internalQ := by
        rw [asked]
        exact List.mem_append_right _ List.mem_cons_self
      refine (settleFlash_starts free waits).imp (fun h => ?_) fun h => ?_
      · rw [settle_port, h]
        rfl
      · show _ ∈ (s.copiedStart.settleFlash.settleSite.kick).flp.internalQ
        rw [kick_flp, settleSite_flp]
        exact h
    · rw [settle_sup, sup]
    · rw [settle_sup, sup]
    · rw [settle_cfg, cfg]
    · rw [settle_clock, clock]
    · rw [settle_seq, seq]
    · rw [settle_groups, groups]
    · rw [settle_dbm, dbm]
    · rw [settle_lgt, lgt]
    · rw [settle_fda, fda]
    · rw [settle_pins, pins]
    · rw [settle_flash_of_free free, flash]
  · intro fits idle quiet
    obtain ⟨chunk, seeks, internal, lif⟩ := (flashQuiet_iff s).1 quiet
    rw [exec_identificationDone port unknown, if_pos ((supportedDevice_iff answer).2 fits)]
    let u : State := { s.flashKnown answer .present with
      aud := { s.aud with copying := some .startUp }
      flp := { (s.flashKnown answer .present).flp with internalQ := s.flp.internalQ ++ [.directory] } }
    have asks : (s.flashKnown answer .present).askDirectory .startUp = u := by
      unfold State.askDirectory
      rw [show (s.flashKnown answer .present).aud.copying = none from idle]
      rfl
    rw [asks]
    refine ⟨_, rfl, ?_, ?_, ?_, ?_, ?_, ?_, ?_, ?_, ?_, ?_, ?_, ?_, ?_⟩
    · rw [Flp.presence_of_core (settle_core ..)]
      rfl
    · exact (congrArg (·.ident) (settle_core (s := u)) :)
    · rw [settle_port, settleFlash_internal (s := u) (t := .directory) rfl chunk seeks (congrArg (· ++ _) internal) lif]
      rfl
    · rw [settle_aud, (seek_table _).2.1]
    · rw [settle_cfg]; rfl
    · rw [settle_clock]; rfl
    · rw [settle_seq]; rfl
    · rw [settle_groups]; rfl
    · rw [settle_dbm]; rfl
    · rw [settle_lgt]; rfl
    · rw [settle_fda]; rfl
    · rw [settle_flash_of_free rfl]; rfl
    · rw [settle_pins]; rfl
  · intro fails
    have no : ¬supportedDevice answer = true := fun yes => by
      obtain ⟨d, some, size, suspends⟩ := (supportedDevice_iff answer).1 yes
      exact (fails d some).elim (absurd size) fun h => Bool.noConfusion (h.symm.trans suspends)
    rw [exec_identificationDone port unknown, if_neg no]
    obtain ⟨presence, cfg, image, mark, starting, slot, clips, permit⟩ := startWithoutFlash_settles (s.flashKnown answer .missing)
    exact ⟨_, rfl, presence, cfg, image, mark, starting, slot, clips, permit, (settle_clock _).trans (startWithoutFlash_clock _),
      (settle_pins _).trans (startWithoutFlash_pins _)⟩

end Sys2Proof.Machine
end

section
/-! FLASH_READ_DONE, PROGRAM_DONE, ERASE_DONE, SUSPEND_GUARD_END and DEVICE_RESET_COMPLETE with nothing waiting for the port
(R164 to R167, R170, R176, R186). -/

namespace Sys2Proof.Machine

open State

/-! ## The end of a service -/

theorem withReport_flashSlot (l : Lif) (r : Report) : (l.withReport r).flashSlot = l.flashSlot := by
  unfold Lif.withReport
  (repeat' split) <;> rfl

theorem kick_flashSlot (l : Lif) : l.kick.flashSlot = l.flashSlot := by
  unfold Lif.kick
  split
  · rfl
  · split
    · rfl
    · split <;> rfl

/-- The record that a service's end writes into its slot (R186). -/
def State.endRecord (u : State) (k : ServiceSlot) (failure : Failure) (cue : Option Nat) (image : Option ImageState) :
    SlotRecord :=
  { u.lif.slot k with
    status := if failure = .none then .done else .failed, failure := failure, cueIndex := cue, imageFound := image }

section
variable (u : State) (k : ServiceSlot) (failure : Failure) (cue : Option Nat) (image : Option ImageState)

theorem endService_slot : (u.endService k failure cue image).lif.slot k = u.endRecord k failure cue image := by
  cases k with
  | arm => exact withReport_armSlot _ _
  | flash => exact withReport_flashSlot _ _
  | settings => exact withReport_settingsSlot _ _

/-- SERVICE_DONE with the slot's record, after what the same command said before (R186). -/
theorem endService_says {s u t : State} {l : Lif} {n before : Nat} (k : ServiceSlot) (failure : Failure) (cue : Option Nat)
    (image : Option ImageState) (enable : l.enable = s.lif.enable) (reports : l.reports = s.lif.reports)
    (grown : l.Grows n u.lif) (le : n ≤ before)
    (goesOn : ∀ r, (u.endService k failure cue image).lif.Carries r → t.lif.Carries r) :
    s.says t before (.serviceDone k (u.endRecord k failure cue image)) :=
  says_of_report (u := { u with lif := u.lif.withSlot k (u.endRecord k failure cue image) }) enable reports
    (grown.trans (.withSlot _ k _) (Nat.le_of_eq (Nat.add_zero n))) le (goesOn _)

end

/-! ## The device has done its work -/

/-- The port is FREE, and the device holds other bytes. -/
def State.deviceDone (s : State) (m : Memory) : State := { s.withPort .free with flash := m }

theorem serviceOver_eq (f : Flp) : f.serviceOver.port = f.port ∧ f.serviceOver.internalQ = f.internalQ
    ∧ f.serviceOver.lifQ = f.lifQ ∧ f.serviceOver.work = none
    ∧ ∀ e, f.annWaiting = some e → (⟨.announcement, e.1, e.2⟩ : Lock) ∈ f.serviceOver.locks := by
  unfold Flp.serviceOver
  cases f.annWaiting with
  | none => exact ⟨rfl, rfl, rfl, rfl, fun _ h => nomatch h⟩
  | some e =>
    refine ⟨rfl, rfl, rfl, rfl, fun e' h => ?_⟩
    cases h
    exact List.mem_append_right _ List.mem_cons_self

/-- With the rest as it was the flags are too. -/
theorem sameFlags_of {s t : State} (h : t = { s with flp := t.flp, lif := t.lif, flash := t.flash }) :
    t = { s with flp := t.flp, lif := t.lif, flash := t.flash, flags := t.flags } := by
  have flags : t.flags = s.flags := (congrArg State.flags h :)
  rw [flags]
  exact h

section
variable {s : State} (quiet : s.flashQuiet = true)
include quiet

/-- A FLASH service that ends leaves the port free and quiet (R165, R166). -/
theorem endFlash_settles (m : Memory) : ((s.deviceDone m).endFlash .none).settleFlash = (s.deviceDone m).endFlash .none := by
  obtain ⟨chunk, seeks, internal, lif⟩ := (flashQuiet_iff s).1 quiet
  obtain ⟨port, internal', lif', _⟩ := serviceOver_eq (s.deviceDone m).flp
  exact settleFlash_free _ ((flashQuiet_iff _).2 ⟨chunk, seeks, internal'.trans internal, lif'.trans lif⟩) port

/-- The end of a FLASH service after the device's work, by what it leaves (R165, R166, R172, R186). -/
theorem endFlash_ends (m : Memory) :
    let t := ((s.deviceDone m).endFlash .none).settleFlash.kick
    t.flp.port = .free ∧ t.flp.work = none ∧ t.flash = m
      ∧ t.lif.flashSlot = { s.lif.flashSlot with status := .done, failure := .none, cueIndex := none, imageFound := none }
      ∧ s.says t 0 (.serviceDone .flash t.lif.flashSlot)
      ∧ (∀ e, s.flp.annWaiting = some e → (⟨.announcement, e.1, e.2⟩ : Lock) ∈ t.flp.locks)
      ∧ t = { s with flp := t.flp, lif := t.lif, flash := t.flash, flags := t.flags } := by
  rw [endFlash_settles quiet]
  intro t
  obtain ⟨port, _, _, work, waits⟩ := serviceOver_eq (s.deviceDone m).flp
  have slot : t.lif.flashSlot =
      { s.lif.flashSlot with status := .done, failure := .none, cueIndex := none, imageFound := none } :=
    (kick_flashSlot _).trans (endService_slot { s.deviceDone m with flp := (s.deviceDone m).flp.serviceOver } .flash .none none none)
  refine ⟨port, work, rfl, slot, ?_, waits, rfl⟩
  rw [slot]
  exact endService_says (u := { s.deviceDone m with flp := (s.deviceDone m).flp.serviceOver }) (l := s.lif) .flash .none none none
    rfl rfl (.refl 0 _) (Nat.le_refl 0) fun _ h => h.kick

/-- A save whose next page is there goes on with it at once (R176). -/
theorem saveStep_goesOn {m : Memory} {image : List Byte} {seen : Bool} {p : Nat}
    (work : s.flp.settingsWork = some (.save image seen)) (more : 256 * p < image.length) :
    let t := ((s.deviceDone m).saveStep p).settleFlash.kick
    t.flp.port = .programming (.settingsPage p) ∧ t.lif = s.lif.kick ∧ t.flash = m
      ∧ t = { s with flp := t.flp, lif := t.lif, flash := t.flash } := by
  obtain ⟨chunk, seeks, internal, lif⟩ := (flashQuiet_iff s).1 quiet
  have steps : (s.deviceDone m).saveStep p = (s.deviceDone m).handInternal (.settingsPage p) := by
    unfold State.saveStep
    rw [show (s.deviceDone m).flp.settingsWork = some (.save image seen) from work]
    exact if_pos more
  rw [steps, settleFlash_internal (s := (s.deviceDone m).handInternal (.settingsPage p)) (t := .settingsPage p) rfl chunk seeks
    (congrArg (· ++ _) internal) lif]
  exact ⟨rfl, rfl, rfl, rfl⟩

/-- A save that has written its last page ends DONE (R176). -/
theorem saveStep_ends {m : Memory} {image : List Byte} {seen : Bool} {p : Nat}
    (work : s.flp.settingsWork = some (.save image seen)) (last : ¬256 * p < image.length) :
    let t := ((s.deviceDone m).saveStep p).settleFlash.kick
    t.flp.port = .free ∧ t.flp.image = (if seen = true then .modified else .loaded) ∧ t.flp.settingsWork = none
      ∧ t.lif.settingsSlot = { s.lif.settingsSlot with status := .done, failure := .none, cueIndex := none, imageFound := none }
      ∧ s.says t 0 (.serviceDone .settings t.lif.settingsSlot) ∧ t.flash = m
      ∧ t = { s with flp := t.flp, lif := t.lif, flash := t.flash, flags := t.flags } := by
  obtain ⟨chunk, seeks, internal, lif⟩ := (flashQuiet_iff s).1 quiet
  let u : State := { s.deviceDone m with flp := { (s.deviceDone m).flp with
    settingsWork := none, image := if seen = true then .modified else .loaded } }
  have steps : (s.deviceDone m).saveStep p = u.endService .settings .none none none := by
    unfold State.saveStep
    rw [show (s.deviceDone m).flp.settingsWork = some (.save image seen) from work]
    exact if_neg last
  have settles : (u.endService .settings .none none none).settleFlash = u.endService .settings .none none none :=
    settleFlash_free _ ((flashQuiet_iff _).2 ⟨chunk, seeks, internal, lif⟩) rfl
  rw [steps, settles]
  intro t
  have slot : t.lif.settingsSlot =
      { s.lif.settingsSlot with status := .done, failure := .none, cueIndex := none, imageFound := none } :=
    (kick_settingsSlot _).trans (endService_slot u .settings .none none none)
  refine ⟨rfl, rfl, rfl, slot, ?_, rfl, rfl⟩
  rw [slot]
  exact endService_says (u := u) (l := s.lif) .settings .none none none rfl rfl (.refl 0 _) (Nat.le_refl 0) fun _ h => h.kick

end

/-! ## O52 -/

theorem exec_flashReadDone {s : State} {a n : Nat} (port : s.flp.port = .reading (.hostRead a n)) :
    exec (.flashReadDone .good) s =
      .next ((s.withPort .free).answerRead .good (Memory.readBytes s.flash a n)).settleFlash.kick := by
  show execFlashReadDone .good s = _
  unfold execFlashReadDone
  rw [port]

/-- The reply of a FLASH_READ takes the place that was held for it (R164, R183). -/
theorem answerRead_settles {s : State} {a n : Nat} {tag : Byte} (quiet : s.flashQuiet = true)
    (place : s.lif.readPlace = some tag) :
    ((s.withPort .free).answerRead .good (Memory.readBytes s.flash a n)).settleFlash.kick = { s with
      flp := { s.flp with port := .free }
      lif := ({ s.lif with
        readPlace := none
        answers := s.lif.answers
          ++ [Waiting.reply ⟨tag, 0x38, .ok, 0 :: (byte2 n ++ Memory.readBytes s.flash a n)⟩] }).kick } := by
  have length : (Memory.readBytes s.flash a n).length = n := by simp [Memory.readBytes]
  let u : State := { s.withPort .free with lif := { s.lif with
    readPlace := none
    answers := s.lif.answers ++ [Waiting.reply ⟨tag, 0x38, .ok, 0 :: (byte2 n ++ Memory.readBytes s.flash a n)⟩] } }
  have answers : (s.withPort .free).answerRead .good (Memory.readBytes s.flash a n) = u := by
    unfold State.answerRead
    rw [show (s.withPort .free).lif.readPlace = some tag from place, length]
    rfl
  have still : u.flashQuiet = true := quiet
  rw [answers, settleFlash_free u still rfl]
  rfl

theorem exec_programDone {s : State} {x : Txn} (port : s.flp.port = .programming x) :
    exec .programDone s = .next (s.programmed x).settleFlash.kick := by
  show execProgramDone s = _
  unfold execProgramDone
  rw [port]

theorem exec_eraseDone {s : State} {x : Txn} (port : s.flp.port = .erasing x ∨ s.flp.port = .guarded x) :
    exec .eraseDone s = .next (s.erased x).settleFlash.kick := by
  show execEraseDone s = _
  unfold execEraseDone
  rcases port with port | port <;> rw [port]

/-- What a program leaves in and beside its extent, the bytes given by default entries (R165). -/
theorem programmed_bytes {m : Memory} (wf : Memory.wf m = true) (lo : Nat) (ds image : List Byte) (from_ : Nat)
    (same : ∀ i, i < ds.length → ds.getD i 0xFF = image.getD (from_ + i) 0xFF) :
    (∀ i, i < ds.length → Memory.read (Memory.program m lo ds) (lo + i) = Memory.read m (lo + i) &&& image.getD (from_ + i) 0xFF)
    ∧ ∀ a, a < lo ∨ lo + ds.length ≤ a → Memory.read (Memory.program m lo ds) a = Memory.read m a := by
  refine ⟨fun i hi => ?_, fun a outside => Memory.read_program_outside lo ds a wf outside⟩
  rw [Memory.read_program_inside lo ds i wf hi, ← same i hi, List.getD_eq_getElem ds _ hi]

theorem pageOf_getD {image : List Byte} {p i : Nat} (hi : i < ((image.drop (256 * p)).take 256).length) :
    ((image.drop (256 * p)).take 256).getD i 0xFF = image.getD (256 * p + i) 0xFF := by
  have short : i < 256 := by
    rw [List.length_take] at hi
    omega
  rw [List.getD_eq_getElem?_getD, List.getD_eq_getElem?_getD, List.getElem?_take_of_lt short, List.getElem?_drop]

/-- Settles O52: each end of the device's work by its transaction. -/
theorem flashWorkEnds : Obligations.FlashWorkEnds := by
  unfold Obligations.FlashWorkEnds
  intro s quiet
  refine ⟨fun a n tag port place => ?_, fun w d port work data wf => ?_, fun p image seen port work wf => ?_,
    fun w port work => ?_, fun image seen port work some => ?_, fun x port => ?_, fun port known => ?_⟩
  · exact (exec_flashReadDone port).trans (congrArg Host.Outcome.next (answerRead_settles quiet place))
  · obtain ⟨free, over_, flash, slot, said, waits, frame⟩ := endFlash_ends quiet (Memory.program s.flash w.address d)
    have extent : s.programOf .hostProgram = (w.address, d) := by
      unfold State.programOf
      rw [work]
      exact Prod.ext rfl (congrArg (·.getD []) data)
    have done : s.programmed .hostProgram = (s.deviceDone (Memory.program s.flash w.address d)).endFlash .none := by
      unfold State.programmed
      rw [extent]
      rfl
    rw [exec_programDone port, done]
    obtain ⟨inside, outside⟩ := programmed_bytes wf w.address d d 0 fun i _ => by rw [Nat.zero_add]
    refine ⟨_, rfl, free, over_, fun i hi => ?_, fun a ha => ?_, slot, said, waits, frame⟩
    · rw [flash, inside i hi, Nat.zero_add]
    · rw [flash, outside a ha]
  · have extent : s.programOf (.settingsPage p) = (256 * p, (image.drop (256 * p)).take 256) := by
      unfold State.programOf
      rw [work]
      exact Prod.ext (Nat.zero_add _) rfl
    have done : s.programmed (.settingsPage p) =
        (s.deviceDone (Memory.program s.flash (256 * p) ((image.drop (256 * p)).take 256))).saveStep (p + 1) := by
      unfold State.programmed
      rw [extent]
      rfl
    obtain ⟨inside, outside⟩ := programmed_bytes wf (256 * p) ((image.drop (256 * p)).take 256) image (256 * p) fun i hi =>
      pageOf_getD hi
    rw [exec_programDone port, done]
    split
    next more =>
      obtain ⟨next, lif, flash, frame⟩ := saveStep_goesOn quiet
        (m := Memory.program s.flash (256 * p) ((image.drop (256 * p)).take 256)) work more
      refine ⟨_, rfl, fun i hi => ?_, fun a ha => ?_, ⟨next, lif⟩, sameFlags_of frame⟩
      · rw [flash, inside i hi]
      · rw [flash, outside a ha]
    next last =>
      obtain ⟨free, found, none, slot, said, flash, frame⟩ := saveStep_ends quiet
        (m := Memory.program s.flash (256 * p) ((image.drop (256 * p)).take 256)) work last
      refine ⟨_, rfl, fun i hi => ?_, fun a ha => ?_, ⟨free, found, none, slot, said⟩, frame⟩
      · rw [flash, inside i hi]
      · rw [flash, outside a ha]
  · obtain ⟨free, over_, flash, slot, said, _, frame⟩ := endFlash_ends quiet (Memory.erase s.flash w.address w.len)
    have extent : s.flp.eraseExtent .hostErase = (w.address, w.len) := by
      unfold Flp.eraseExtent
      rw [work]
    have done : s.erased .hostErase = (s.deviceDone (Memory.erase s.flash w.address w.len)).endFlash .none := by
      unfold State.erased
      rw [extent]
      rfl
    rw [exec_eraseDone port, done]
    refine ⟨_, rfl, free, over_, fun a lo hi => ?_, fun a outside => ?_, slot, said, frame⟩
    · rw [flash, Memory.read_erase, if_pos ⟨lo, hi⟩]
      rfl
    · rw [flash, Memory.read_erase, if_neg fun h => outside.elim (Nat.not_lt.2 h.1) (Nat.not_le.2 h.2)]
  · have done : s.erased .settingsErase = (s.deviceDone (Memory.erase s.flash 0 0x10000)).saveStep 0 := rfl
    obtain ⟨next, lif, flash, frame⟩ := saveStep_goesOn quiet (m := Memory.erase s.flash 0 0x10000) (p := 0) work
      (List.length_pos_iff.2 some)
    rw [exec_eraseDone port, done]
    refine ⟨_, rfl, next, lif, fun a ha => ?_, fun a ha => ?_, frame⟩
    · rw [flash, Memory.read_erase, if_pos ⟨Nat.zero_le a, by omega⟩]
      rfl
    · rw [flash, Memory.read_erase, if_neg fun h => by omega]
  · obtain ⟨chunk, seeks, _, _⟩ := (flashQuiet_iff s).1 quiet
    show execSuspendGuardEnd s = _
    unfold execSuspendGuardEnd
    rw [port]
    refine congrArg Host.Outcome.next ?_
    dsimp only
    unfold State.settleFlash
    rw [show (s.withPort (.erasing x)).aud.seek = s.aud from seek_quiet _ seeks]
    unfold State.arbitrate
    exact if_neg (by rw [chunk]; decide)
  · show execDeviceResetComplete s = _
    unfold execDeviceResetComplete
    rw [if_pos ⟨port, known⟩, settleFlash_free (s.withPort .free) quiet rfl]
    rfl

end Sys2Proof.Machine
end

section
/-! Chunk reads: what AUD asks for, what arrives, and a suspension that meets a completed erase (R50, R51, R54, R170). -/

namespace Sys2Proof.Machine

open State

/-! ## What AUD asks for -/

namespace Aud

variable {a : Aud} {i : BufId} {st : Stream}

/-- A buffer that would be asked for: it has 1,024 free frames and clip data remaining (R50). -/
def Wants (a : Aud) (i : BufId) (st : Stream) : Prop := a.buf i = some st ∧ st.held.length + 1024 ≤ 8192
  ∧ st.fetch < st.clip.frames ∧ st.read < st.clip.frames

theorem wants_iff : a.Wants i st ↔ a.buf i = some st ∧ st.wants = true := by
  unfold Wants Stream.wants
  simp only [Bool.and_eq_true, decide_eq_true_eq, and_assoc]
  exact Iff.rfl

theorem any_wants_iff (i : BufId) : (a.buf i).any (·.wants) = true ↔ ∃ st, a.Wants i st := by
  simp only [wants_iff, Option.any_eq_true]

theorem seek_busy (busy : a.chunk ≠ none) : a.seek = a := by
  unfold seek
  split
  next idle _ => exact absurd idle busy
  · rfl

theorem seeker_none (content : ∀ i st, ¬a.Wants i st) : a.seeker = none := by
  have no (i : BufId) : ¬(a.buf i).any (·.wants) = true := fun h => by
    obtain ⟨st, wants⟩ := (any_wants_iff i).1 h
    exact content i st wants
  have none_ (o : Option BufId) : (o.filter fun i => (a.buf i).any (·.wants)) = none :=
    Option.filter_eq_none_iff.2 fun i _ => no i
  unfold seeker
  rw [none_]
  exact none_ _

/-- The buffer that the seeker names is asked for, its fetch position moving past the chunk (R50). -/
theorem seek_asks (idle : a.chunk = none) (names : a.seeker = some i) (stands : a.buf i = some st) :
    a.seek = { a.setBuf i (some { st with fetch :=
        1024 * (max st.fetch st.read / 1024) + min 1024 (st.clip.frames - 1024 * (max st.fetch st.read / 1024)) }) with
      chunk := some ⟨some i, 0x110000 + st.clip.start + 4096 * (max st.fetch st.read / 1024),
        1024 * (max st.fetch st.read / 1024), min 1024 (st.clip.frames - 1024 * (max st.fetch st.read / 1024))⟩ } := by
  unfold seek
  rw [idle, names]
  dsimp only
  rw [stands]
  rfl

theorem seeker_playing (plays : a.playing = some i) (wants : a.Wants i st) : a.seeker = some i := by
  unfold seeker
  rw [plays, show (some i).filter (fun i => (a.buf i).any (·.wants)) = some i from
    Option.filter_eq_some_iff.2 ⟨rfl, (any_wants_iff i).2 ⟨st, wants⟩⟩]

/-- A PENDING buffer that wants is named where no PLAYING one wants and the other is not PENDING (R50). -/
theorem seeker_pending (wants : a.Wants i st) (waits : st.playing = false)
    (resting : ∀ j st', a.Wants j st' → st'.playing = false)
    (other : ∀ st', a.buf i.other = some st' → st'.playing = true) : a.seeker = some i := by
  have none_ : (a.playing.filter fun i => (a.buf i).any (·.wants)) = none := by
    refine Option.filter_eq_none_iff.2 fun j plays want => ?_
    obtain ⟨st', wants'⟩ := (any_wants_iff j).1 want
    have on := Aud.playing_eq_some plays
    rw [wants'.1] at on
    exact Bool.noConfusion (on.symm.trans (resting j st' wants'))
  have pending : (a.buf i).any (!·.playing) = true := by
    rw [wants.1]
    exact congrArg (!·) waits
  have lone : ¬(a.buf i.other).any (!·.playing) = true := fun h => by
    obtain ⟨st', stands, waits'⟩ := (Option.any_eq_true _ _).1 h
    rw [other st' stands] at waits'
    cases waits'
  have first : a.pendingBuf = some i := by
    unfold pendingBuf
    cases i with
    | a => exact if_pos pending
    | b => exact (if_neg lone).trans (if_pos pending)
  unfold seeker
  rw [none_]
  dsimp only
  rw [first]
  exact Option.filter_eq_some_iff.2 ⟨rfl, (any_wants_iff i).2 ⟨st, wants⟩⟩

/-! ## What arrives -/

theorem arrive_owned {k : Chunk} (m : Memory) (good : Bool) (outstanding : a.chunk = some k) (owner : k.owner = some i)
    (stands : a.buf i = some st) :
    (a.arrive m good).buf i = some { st with held := st.held ++ k.kept st.read m good } := by
  unfold arrive
  rw [outstanding]
  dsimp only
  rw [owner]
  dsimp only
  rw [stands]
  cases i <;> rfl

theorem arrive_nobody {k : Chunk} (m : Memory) (good : Bool) (outstanding : a.chunk = some k) (owner : k.owner = none) :
    a.arrive m good = { a with chunk := none } := by
  unfold arrive
  rw [outstanding]
  dsimp only
  rw [owner]

end Aud

/-- The frames that a buffer keeps of a chunk, from the read position on (R50). -/
theorem kept_eq (k : Chunk) (read : Nat) (m : Memory) (good : Bool) : k.kept read m good =
    (List.range (k.first + k.count - max k.first read)).map fun j =>
      if good = true then frameAt m (k.address + 4 * (max k.first read - k.first + j)) else .failed := by
  unfold Chunk.kept
  refine List.map_congr_left fun j _ => ?_
  rw [show max k.first read + j - k.first = max k.first read - k.first + j by omega]

/-- What a seek leaves of a buffer: its frames and its read position. -/
theorem seek_stored {a : Aud} {i : BufId} {st : Stream} (h : a.buf i = some st) :
    ∃ st', a.seek.buf i = some st' ∧ st'.held = st.held ∧ st'.read = st.read := by
  obtain ⟨n, e⟩ := Aud.seek_some h
  exact ⟨_, e, rfl, rfl⟩

/-- A good chunk read at the port, or behind a suspended erase (R50, R170). -/
theorem exec_chunkArrival {s : State} {x : Txn} (port : s.flp.port = .reading .audChunk ∨ s.flp.port = .suspended x) :
    ∃ p, exec (.chunkArrival .good) s = .next (s.chunkRead p) ∧ (s.flp.port = .suspended x → p = .guarded x) := by
  show ∃ p, execChunkArrival .good s = _ ∧ _
  unfold execChunkArrival
  rcases port with port | port <;> rw [port]
  · exact ⟨_, rfl, nofun⟩
  · exact ⟨_, rfl, fun _ => rfl⟩

theorem chunkRead_onlyAudio (s : State) (p : Port) : s.OnlyAudio (s.chunkRead p) :=
  onlyAudio_settleFlash (s.withPort p) (s.aud.arrive s.flash true)

theorem chunkRead_aud (s : State) (p : Port) : (s.chunkRead p).aud = (s.aud.arrive s.flash true).seek := settleFlash_aud _

theorem chunkRead_guarded (s : State) (x : Txn) : (s.chunkRead (.guarded x)).flp.port = .guarded x := by
  unfold State.chunkRead
  rw [settleFlash_waits (by exact nofun) (by exact nofun)]
  rfl

/-! ## A suspension that meets a completed erase -/

/-- The erase that goes on as its guard ends is suspended again for the refill that waits (R170). -/
theorem exec_suspendGuardEnd {s : State} {x : Txn} (port : s.flp.port = .guarded x) (refill : s.aud.chunk.isSome = true) :
    exec .suspendGuardEnd s = .next (s.suspend x) := by
  have busy : s.aud.seek = s.aud := Aud.seek_busy fun none => by rw [none] at refill; cases refill
  show execSuspendGuardEnd s = _
  unfold execSuspendGuardEnd
  rw [port]
  refine congrArg Host.Outcome.next ?_
  show State.settleFlash (s.withPort (.erasing x)) = _
  unfold State.settleFlash
  rw [show (s.withPort (.erasing x)).aud.seek = s.aud from busy]
  unfold State.arbitrate
  exact if_pos refill

theorem exec_eraseDone_suspended {s : State} {x : Txn} (port : s.flp.port = .suspended x) :
    exec .eraseDone s = .next (s.unsuspended.erased x).settleFlash.kick := by
  show execEraseDone s = _
  unfold execEraseDone
  rw [port]

/-- An erase over what an erase has begun leaves what it would have left alone (R164, R166). -/
theorem erase_partErase (m : Memory) (a n : Nat) (mask : Nat → Byte) :
    Memory.erase (Memory.partErase m a n mask) a n = Memory.erase m a n := by
  unfold Memory.erase Memory.partErase
  rw [List.filter_filterMap, ← List.filterMap_eq_filter]
  refine List.filterMap_congr fun c _ => ?_
  by_cases inside : a ≤ c.1 ∧ c.1 < a + n
  · rw [if_pos inside]
    split
    · simp [Option.guard, inside]
    · simp [Option.guard, inside]
  · rw [if_neg inside]
    simp [Option.guard, Option.filter]

/-- The flag of a suspension that has met a completed erase is as it was before (R170; log entry 57). -/
theorem flags_restored (fs : Flags) : (if (!fs.has .eraseSuspended) = true then
    (fs.raise .eraseSuspended).lower .eraseSuspended else fs.raise .eraseSuspended) = fs := by
  obtain ⟨link, showBank, water, light, site, flash⟩ := fs
  have set : ∀ v : Byte, v.getLsbD Flag.eraseSuspended.bit = true → v ||| Flag.eraseSuspended.mask = v := by decide
  have clear : ∀ v : Byte, v.getLsbD Flag.eraseSuspended.bit = false →
      (v ||| Flag.eraseSuspended.mask) &&& ~~~Flag.eraseSuspended.mask = v := by decide
  have has : Flags.has ⟨link, showBank, water, light, site, flash⟩ .eraseSuspended =
    flash.getLsbD Flag.eraseSuspended.bit := rfl
  rw [has]
  cases h : flash.getLsbD Flag.eraseSuspended.bit with
  | true => exact congrArg (Flags.mk link showBank water light site) (set flash h)
  | false => exact congrArg (Flags.mk link showBank water light site) (clear flash h)

end Sys2Proof.Machine
end

section
/-! A refill that waits when an erase completes (R170). -/

namespace Sys2Proof.Machine

open State

/-- A refill that waits takes the FREE port, and the rest stands (R169, R170). -/
theorem settleFlash_serves {s : State} (free : s.flp.port = .free) (refill : s.aud.chunk.isSome = true) :
    s.settleFlash = { s with flp := { s.flp with port := .reading .audChunk } } := by
  rw [settleFlash_refill s refill free]
  unfold State.startTxn
  rw [if_neg (by decide)]
  rfl

/-! ## ERASE_DONE of a suspended erase -/

theorem unsuspended_has (s : State) :
    s.unsuspended.flags.has .eraseSuspended = (s.flags.has .eraseSuspended && !s.flp.flagByNow) := by
  unfold State.unsuspended
  cases s.flp.flagByNow with
  | false => exact (Bool.and_true _).symm
  | true =>
    have lowered (v : Byte) : (v &&& ~~~Flag.eraseSuspended.mask).getLsbD Flag.eraseSuspended.bit = false := by
      revert v
      decide
    exact (lowered s.flags.flash).trans (Bool.and_false _).symm

theorem report_has_other (s : State) (r : Report) {f : Flag} (other : f ≠ .reportsDropped) :
    (s.report r).flags.has f = s.flags.has f := by
  show (s.flags.raiseIf _ _).has f = _
  unfold Flags.raiseIf
  split
  · exact raise_has_other _ other
  · rfl

/-- The end of a FLASH service while a refill waits, by what it leaves (R166, R170, R186). -/
theorem endFlash_refills {s : State} (m : Memory) (refill : s.aud.chunk.isSome = true) :
    let t := ((s.deviceDone m).endFlash .none).settleFlash.kick
    t.flp.port = .reading .audChunk ∧ t.flp.work = none ∧ t.flash = m
      ∧ t.lif.flashSlot = { s.lif.flashSlot with status := .done, failure := .none, cueIndex := none, imageFound := none }
      ∧ s.says t 0 (.serviceDone .flash t.lif.flashSlot)
      ∧ t.flags.has .eraseSuspended = s.flags.has .eraseSuspended
      ∧ t = { s with flp := t.flp, lif := t.lif, flash := t.flash, flags := t.flags } := by
  obtain ⟨port, _, _, work, _⟩ := serviceOver_eq (s.deviceDone m).flp
  rw [settleFlash_serves (s := (s.deviceDone m).endFlash .none) port refill]
  intro t
  let u : State := { s.deviceDone m with flp := (s.deviceDone m).flp.serviceOver }
  have slot : t.lif.flashSlot =
      { s.lif.flashSlot with status := .done, failure := .none, cueIndex := none, imageFound := none } :=
    (kick_flashSlot _).trans (endService_slot u .flash .none none none)
  refine ⟨rfl, work, rfl, slot, ?_, report_has_other { u with
    lif := u.lif.withSlot .flash (u.endRecord .flash .none none none) } _ (by decide), rfl⟩
  rw [slot]
  exact endService_says (u := u) (l := s.lif) .flash .none none none rfl rfl (.refl 0 _) (Nat.le_refl 0) fun _ h => h.kick

/-! ## ERASE_DONE in either order -/

/-- The supply of chosen values and the flag's mark replaced, which nothing of a completed erase reads. -/
def State.remarked (s : State) (n : Nat) (b : Bool) : State :=
  { s with fresh := n, flp := { s.flp with flagByNow := b } }

section
variable (s : State) (n : Nat) (b : Bool)

theorem serviceOver_marked (f : Flp) (b : Bool) :
    ({ f with flagByNow := b } : Flp).serviceOver = { f.serviceOver with flagByNow := b } := by
  obtain ⟨_, _, _, _, _, _, _, _, waits, _, _, _⟩ := f
  cases waits <;> rfl

theorem remarked_endFlash : (s.remarked n b).endFlash .none = (s.endFlash .none).remarked n b := by
  have same : (s.remarked n b).flp.serviceOver = { s.flp.serviceOver with flagByNow := b } := serviceOver_marked s.flp b
  unfold State.endFlash
  rw [same]
  rfl

theorem remarked_saveStep (p : Nat) : (s.remarked n b).saveStep p = (s.saveStep p).remarked n b := by
  unfold State.saveStep
  rw [show (s.remarked n b).flp.settingsWork = s.flp.settingsWork from rfl]
  cases s.flp.settingsWork with
  | none => rfl
  | some work =>
    cases work with
    | load => rfl
    | save image seen =>
      dsimp only
      unfold State.saveOn
      split
      · rfl
      · rfl

theorem remarked_settles {v : State} (free : v.flp.port = .free) (refill : v.aud.chunk.isSome = true) :
    (v.remarked n b).settleFlash.kick = v.settleFlash.kick.remarked n b := by
  rw [settleFlash_serves free refill, settleFlash_serves (s := v.remarked n b) free refill]
  rfl

end

/-- An erase suspended again just as it completes leaves what its completion within the guard would have left (R170). -/
theorem suspend_unsuspended (s : State) (x : Txn) (m : Memory) : ∃ n b,
    (s.suspend x).unsuspended.deviceDone m = (s.deviceDone m).remarked n b := by
  refine ⟨s.fresh + 1, !s.flags.has .eraseSuspended, ?_⟩
  have flags : (s.suspend x).unsuspended.flags = s.flags := flags_restored s.flags
  show ({ (s.suspend x).unsuspended.deviceDone m with flags := (s.suspend x).unsuspended.flags } : State) = _
  rw [flags]
  rfl

theorem erased_hostErase (s : State) : s.erased .hostErase = (s.deviceDone (Memory.erase s.flash
    (s.flp.eraseExtent .hostErase).1 (s.flp.eraseExtent .hostErase).2)).endFlash .none := rfl

theorem erased_settingsErase (s : State) : s.erased .settingsErase = (s.deviceDone (Memory.erase s.flash
    (s.flp.eraseExtent .settingsErase).1 (s.flp.eraseExtent .settingsErase).2)).saveStep 0 := rfl

theorem suspend_flash_eq (s : State) (x : Txn) : Memory.erase (s.suspend x).unsuspended.flash
      ((s.suspend x).unsuspended.flp.eraseExtent x).1 ((s.suspend x).unsuspended.flp.eraseExtent x).2
    = Memory.erase s.flash (s.flp.eraseExtent x).1 (s.flp.eraseExtent x).2 := by
  have extent : (s.suspend x).unsuspended.flp.eraseExtent x = s.flp.eraseExtent x := by cases x <;> rfl
  rw [extent, show (s.suspend x).unsuspended.flash = (s.suspend x).flash from rfl, suspend_flash]
  exact erase_partErase ..

theorem saveStep_keeps (u : State) (p : Nat) : (u.saveStep p).flp.port = u.flp.port ∧ (u.saveStep p).aud = u.aud := by
  unfold State.saveStep
  split
  · unfold State.saveOn
    split <;> exact ⟨rfl, rfl⟩
  · exact ⟨rfl, rfl⟩
  · exact ⟨rfl, rfl⟩

/-- The two orders of the guard's end and the erase's completion, with a refill waiting (R170; log entry 57). -/
theorem erased_either {s : State} {x : Txn} (refill : s.aud.chunk.isSome = true) (erases : x = .hostErase ∨ x = .settingsErase) :
    ∃ n b, ((s.suspend x).unsuspended.erased x).settleFlash.kick = (s.erased x).settleFlash.kick.remarked n b := by
  obtain ⟨n, b, same⟩ := suspend_unsuspended s x (Memory.erase s.flash (s.flp.eraseExtent x).1 (s.flp.eraseExtent x).2)
  refine ⟨n, b, ?_⟩
  rcases erases with rfl | rfl
  · rw [erased_hostErase, suspend_flash_eq, same, remarked_endFlash, remarked_settles, erased_hostErase]
    · exact (serviceOver_eq _).1
    · exact refill
  · rw [erased_settingsErase, suspend_flash_eq, same, remarked_saveStep, remarked_settles, erased_settingsErase]
    · exact (saveStep_keeps _ 0).1
    · rw [(saveStep_keeps _ 0).2]
      exact refill

end Sys2Proof.Machine
end

section
/-! Transactions that time out: the device is reset, and each owner meets its outcome (R14, R51, R164 to R167, R176 to R178). -/

namespace Sys2Proof.Machine

open State

/-! ## The end of a step while the device is reset -/

theorem settleFlash_resetting {v : State} (port : v.flp.port = .resetting) : v.settleFlash = { v with aud := v.aud.seek } :=
  settleFlash_waits (by rw [port]; exact nofun) fun _ => by rw [port]; exact nofun

theorem settle_resetting {v : State} (port : v.flp.port = .resetting) : v.settle.flp = v.flp := by
  unfold State.settle
  rw [kick_flp, settleSite_flp, settleFlash_resetting port]

theorem settleSite_flashSlot (u : State) : u.settleSite.lif.flashSlot = u.lif.flashSlot := by
  unfold State.settleSite
  dsimp only
  split
  · exact withReport_flashSlot _ _
  · rfl

theorem settle_flashSlot {v : State} (port : v.flp.port = .resetting) : v.settle.lif.flashSlot = v.lif.flashSlot := by
  unfold State.settle
  refine (kick_flashSlot _).trans ?_
  rw [settleSite_flashSlot, settleFlash_resetting port]

/-! ## What a timeout finds -/

/-- The device has been reset, its bytes as it left them, and AUD as it stands (R167). -/
def State.cut (s : State) (m : Memory) (n : Nat) (a : Aud) : State :=
  State.resetDevice { s with flash := m, fresh := n, aud := a }

theorem cut_flag (s : State) (m : Memory) (n : Nat) (a : Aud) : (s.cut m n a).flags.has .timeout = true := raise_has s.flags .timeout

theorem cut_port (s : State) (m : Memory) (n : Nat) (a : Aud) : (s.cut m n a).flp.port = .resetting := rfl

section
variable {s : State} {x : Txn}

theorem flashTimeout_reading (port : s.flp.port = .reading x) :
    s.flashTimeout = (s.cut s.flash s.fresh s.aud).timedOut x := by
  unfold State.flashTimeout
  rw [port]
  rfl

theorem flashTimeout_suspended (port : s.flp.port = .suspended x) :
    ∃ m n, s.flashTimeout = (s.cut m n (s.aud.arrive m false)).timedOut x := by
  unfold State.flashTimeout
  rw [port]
  exact ⟨_, _, rfl⟩

theorem flashTimeout_writing (port : s.flp.port = .programming x ∨ s.flp.port = .erasing x ∨ s.flp.port = .guarded x
    ∨ s.flp.port = .suspended x) : ∃ m n a, s.flashTimeout = (s.cut m n a).timedOut x := by
  rcases port with port | port | port | port
  · unfold State.flashTimeout
    rw [port]
    exact ⟨_, _, s.aud, rfl⟩
  · unfold State.flashTimeout
    rw [port]
    exact ⟨_, _, s.aud, rfl⟩
  · unfold State.flashTimeout
    rw [port]
    exact ⟨_, _, s.aud, rfl⟩
  · obtain ⟨m, n, e⟩ := flashTimeout_suspended port
    exact ⟨m, n, _, e⟩

theorem exec_flashTimeout (busy : s.flp.port ≠ .free) (known : s.flp.port ≠ .resetting) :
    exec .flashTimeout s = .next s.flashTimeout.settle := by
  show execFlashTimeout s = _
  unfold execFlashTimeout
  split
  next h => exact absurd h busy
  next h => exact absurd h known
  · rfl

theorem exec_flashTimeout_writing (port : s.flp.port = .programming x ∨ s.flp.port = .erasing x ∨ s.flp.port = .guarded x
    ∨ s.flp.port = .suspended x) : ∃ m n a, exec .flashTimeout s = .next ((s.cut m n a).timedOut x).settle := by
  obtain ⟨m, n, a, e⟩ := flashTimeout_writing port
  refine ⟨m, n, a, ?_⟩
  rw [← e]
  exact exec_flashTimeout (by rcases port with h | h | h | h <;> rw [h] <;> exact nofun)
    (by rcases port with h | h | h | h <;> rw [h] <;> exact nofun)

theorem exec_flashTimeout_reading (port : s.flp.port = .reading x) :
    exec .flashTimeout s = .next ((s.cut s.flash s.fresh s.aud).timedOut x).settle := by
  rw [← flashTimeout_reading port]
  exact exec_flashTimeout (by rw [port]; exact nofun) (by rw [port]; exact nofun)

end

/-! ## Each owner's outcome -/

/-- A service that fails while the device is reset, at the end of the step (R165, R166, R176, R186). -/
theorem endService_resetting {s u : State} (k : ServiceSlot) (lif : u.lif = s.lif) (port : u.flp.port = .resetting) :
    let t := (u.endService k .flashTimeout none none).settle
    t.flp = u.flp ∧ (∀ f, u.flags.has f = true → t.flags.has f = true) ∧ t.lif.slot k = u.endRecord k .flashTimeout none none
      ∧ s.says t 0 (.serviceDone k (t.lif.slot k)) := by
  intro t
  have slot : t.lif.slot k = u.endRecord k .flashTimeout none none := by
    refine Eq.trans ?_ (endService_slot u k .flashTimeout none none)
    cases k with
    | arm => exact settle_armSlot _
    | flash => exact settle_flashSlot port
    | settings => exact settle_settingsSlot _
  refine ⟨settle_resetting (v := u.endService k .flashTimeout none none) port, fun f h => settle_kept (report_has h), slot, ?_⟩
  rw [slot]
  exact endService_says (u := u) (l := u.lif) k .flashTimeout none none (congrArg Lif.enable lif) (congrArg Lif.reports lif)
    (.refl 0 _) (Nat.le_refl 0) fun _ h => settle_carries h

/-- A load that fails at a timeout (R20, R28, R167). -/
theorem loadFailed_settles {s u : State} {failure : Failure} {cue : Option Nat} {label : List Byte} (bad : failure ≠ .none)
    (seq : u.seq = s.seq) (lif : u.lif = s.lif) (locks : u.flp.locks = s.flp.locks) (cfg : u.cfg = s.cfg)
    (clock : u.clock = s.clock) (groups : u.groups = s.groups) (dbm : u.dbm = s.dbm) (lgt : u.lgt = s.lgt) (fda : u.fda = s.fda)
    (pins : u.pins = s.pins) : s.LoadFailed (u.failLoad failure cue label .load).settle failure cue label := by
  obtain ⟨st, cues, lanes, flag, result, _, slot, said⟩ := failLoad_settles (cue := cue) (label := label) bad seq lif
  refine ⟨st, cues, lanes, congrArg Seq.load (settle_seq _), result, slot, said, ?_, flag, ?_, ?_, ?_, ?_, ?_, ?_, ?_⟩
  · rw [settle_locks, (failLoad_flp_aud u cue label .load bad).1, ← locks]
    rfl
  · rw [settle_cfg, failLoad_cfg, cfg]
  · rw [settle_clock, failLoad_clock, clock]
  · rw [settle_groups, failLoad_groups, groups]
  · rw [settle_dbm, failLoad_dbm, dbm]
  · rw [settle_lgt, failLoad_lgt, lgt]
  · rw [settle_fda, failLoad_fda, fda]
  · rw [settle_pins, failLoad_pins, pins]

theorem failLoad_resetting {u : State} {failure : Failure} {cue : Option Nat} {label : List Byte} (bad : failure ≠ .none)
    (port : u.flp.port = .resetting) : (u.failLoad failure cue label .load).settle.flp.port = .resetting := by
  have flp := (failLoad_flp_aud u cue label .load bad).1
  have stays : (u.failLoad failure cue label .load).flp.port = .resetting := by
    rw [flp]
    exact port
  rw [settle_resetting stays, stays]

theorem failLoad_kept {u : State} {failure : Failure} {cue : Option Nat} {label : List Byte} {f : Flag}
    (h : u.flags.has f = true) : (u.failLoad failure cue label .load).settle.flags.has f = true :=
  settle_kept ((failLoad_owes (.refl u)).kept f h)

/-- An answer waits or is being sent at the end of the step. -/
theorem settle_answers {v : State} {w : Waiting} (h : w ∈ v.lif.answers) :
    w ∈ v.settle.lif.answers ∨ v.settle.lif.tx = some (.answer w) := by
  have kicked (l : Lif) (h : w ∈ l.answers) : w ∈ l.kick.answers ∨ l.kick.tx = some (.answer w) := by
    unfold Lif.kick
    split
    · exact .inl h
    · split
      next some =>
        rw [some] at h
        rcases List.mem_cons.1 h with rfl | more
        · exact .inr rfl
        · exact .inl more
      next none => rw [none] at h; cases h
  have same : v.settleFlash.settleSite.lif.answers = v.lif.answers :=
    (settleSite_grows (settleFlash_grows (.refl 0 v.lif))).answers
  exact kicked _ (same ▸ h)

end Sys2Proof.Machine
end

section
/-! Copies and settings reads that time out, and the statement about chunks and timeouts (R14, R50, R51, R167, R170, R177,
R178). -/

namespace Sys2Proof.Machine

open State

/-! ## Directory copies that time out -/

/-- A directory copy has failed with no other waiting. -/
theorem nextDirectory_last {u : State} (queue : u.aud.copyQueue = []) :
    u.nextDirectory = { u with aud := { u.aud with copying := none } } := by
  unfold State.nextDirectory
  rw [queue]

theorem nextDirectory_keeps (u : State) : u.nextDirectory.flp.port = u.flp.port ∧ u.nextDirectory.flags = u.flags := by
  unfold State.nextDirectory
  split <;> exact ⟨rfl, rfl⟩

/-- The table emptied after a copy of start-up or RELEASE that has failed (R14, R167). -/
def State.copyFailed (u : State) : State := u.nextDirectory.withClips (Table.fill 64 none)

theorem copyFailed_parts (u : State) : u.copyFailed.aud.clips = Table.fill 64 none ∧ u.copyFailed.flp.port = u.flp.port
    ∧ u.copyFailed.flags = u.flags := by
  obtain ⟨port, flags⟩ := nextDirectory_keeps u
  unfold State.copyFailed State.withClips
  rw [relockAnnouncement_flp, relockAnnouncement_flags]
  refine ⟨?_, port, flags⟩
  rw [relockAnnouncement_eq]

/-- What follows a failed copy of start-up or RELEASE (R178, R191). -/
theorem copyFailed_after {u : State} {why : CopyFor} (port : u.flp.port = .resetting) (h : why = .startUp ∨ why = .release) :
    let t := (u.copyFailed.afterCopy why).settle
    t.flp.port = .resetting ∧ (∀ f, u.flags.has f = true → t.flags.has f = true) ∧ t.aud.clips = Table.fill 64 none
      ∧ (why = .startUp → t.flp.settingsWork = some (.load true [])) := by
  obtain ⟨clips, port', flags⟩ := copyFailed_parts u
  rw [← flags]
  generalize u.copyFailed = v at *
  have table : v.restartIfTripped.aud.clips = Table.fill 64 none := (restartIfTripped_table v).1.trans clips
  rcases h with rfl | rfl
  · have free : (v.restartIfTripped.askSettings true []).flp.port = .resetting := port'.trans port
    refine ⟨?_, fun f h => settle_kept h, ?_, fun _ => ?_⟩
    · exact (congrArg Flp.port (settle_resetting free)).trans free
    · exact (congrArg Aud.clips (settle_aud _)).trans ((seek_table _).1.trans table)
    · exact (congrArg Flp.settingsWork (settle_resetting free)).trans rfl
  · have stands : v.restartIfTripped.releaseReady.flp.port = .resetting := by
      rw [releaseReady_eq]
      exact (congrArg Flp.port (relockAnnouncement_flp v.restartIfTripped) :).trans (port'.trans port)
    refine ⟨?_, fun f h => settle_kept ?_, ?_, nofun⟩
    · exact (congrArg Flp.port (settle_resetting stands)).trans stands
    · have said : (v.restartIfTripped.relockAnnouncement.report
          (.ready .release v.restartIfTripped.flp.image (decide (v.restartIfTripped.flp.presence = .present)))).flags.has f = true := by
        refine report_has ?_
        rw [relockAnnouncement_flags]
        exact h
      exact said
    · have kept : v.restartIfTripped.releaseReady.aud.clips = Table.fill 64 none := by
        rw [releaseReady_eq]
        exact (show v.restartIfTripped.relockAnnouncement.aud.clips = _ by rw [relockAnnouncement_eq]; exact table)
      exact (congrArg Aud.clips (settle_aud _)).trans ((seek_table _).1.trans kept)

/-! ## Settings reads that time out -/

theorem settleSite_kept {u : State} {f : Flag} (h : u.flags.has f = true) : u.settleSite.flags.has f = true := by
  have judged : (u.flags.judgeSite u.supSettled).has f = true := by
    unfold Flags.judgeSite Flags.has at *
    cases bank : f.bank with
    | site =>
      rw [bank] at h
      refine (BitVec.getLsbD_or ..).trans ?_
      rw [show u.flags.site.getLsbD f.bit = true from h]
      rfl
    | link | showBank | water | light | flash => rw [bank] at h; exact h
  unfold State.settleSite
  dsimp only
  split
  · exact Flags.has_raiseIf _ _ _ judged
  · exact judged

theorem marked_flags (t : State) (image : ImageState) : (t.marked image).raisePermit.flags = t.flags := rfl

theorem settingsLoaded_kept {s : State} (image : ImageState) (new : Settings) {f : Flag} (h : s.flags.has f = true) :
    (s.settingsLoaded image new).flags.has f = true := by
  have marked : ((s.takeSettings new).marked image).raisePermit.flags.has f = true := by
    rw [marked_flags]
    exact takeSettings_kept new h
  rw [settingsLoaded_eq]
  exact settleSite_kept marked

theorem startUpReady_kept {v : State} {f : Flag} (h : v.flags.has f = true) : v.startUpReady.flags.has f = true :=
  report_has (s := { v.relockAnnouncement with lif := { v.relockAnnouncement.lif with
    settingsSlot := { v.relockAnnouncement.lif.settingsSlot with status := .idle }, starting := false } })
    (by rw [← relockAnnouncement_flags v] at h; exact h)

theorem flagIf_true (v : State) (f : Flag) : v.flagIf true f = v.flag f := rfl

theorem imageFound_startUp (v : State) (image : ImageState) (new : Settings) : v.imageFound true image new =
    ((v.flagIf (decide (image = .bad)) .settingsBad).settingsLoaded image new).startUpReady := by
  unfold State.imageFound
  dsimp only
  rw [if_pos rfl]

/-- READY said of settings that a failed read has left at the defaults (R175, R178). -/
theorem startUpReady_bad {w : State} (port : w.flp.port = .resetting) (work : w.flp.settingsWork = none)
    (image : w.flp.image = .bad) :
    w.startUpReady.settle.flp.port = .resetting ∧ w.startUpReady.settle.flp.settingsWork = none
      ∧ w.startUpReady.settle.flp.image = .bad := by
  have flp : w.startUpReady.flp = { w.flp with
      locks := w.relockAnnouncement.flp.locks, annWaiting := w.relockAnnouncement.flp.annWaiting } :=
    (startUpReady_flp w).trans (relockAnnouncement_flp w)
  have ready : w.startUpReady.flp.port = .resetting := by
    rw [flp]
    exact port
  rw [settle_resetting ready, flp]
  exact ⟨port, work, image⟩

/-- A settings read of start-up that has failed leaves the defaults and a BAD image (R175, R178). -/
theorem imageBad_settles {v : State} (port : v.flp.port = .resetting) :
    let t := (v.imageFound true .bad Settings.default).settle
    t.flp.port = .resetting ∧ (∀ f, v.flags.has f = true → t.flags.has f = true) ∧ t.flp.settingsWork = none
      ∧ t.cfg = Settings.default ∧ t.flp.image = .bad ∧ t.flags.has .settingsBad = true ∧ t.lif.starting = false := by
  have bad : (v.flag .settingsBad).flags.has .settingsBad = true := raise_has v.flags .settingsBad
  have grown (f : Flag) (h : v.flags.has f = true) : (v.flag .settingsBad).flags.has f = true := Flags.has_raise v.flags _ h
  have port : (v.flag .settingsBad).flp.port = .resetting := port
  rw [imageFound_startUp, show decide (ImageState.bad = .bad) = true from rfl, flagIf_true]
  generalize v.flag .settingsBad = u at *
  have flp := settingsLoaded_flp (s := u) .bad Settings.default
  obtain ⟨_, _, port', _, _⟩ := takeSettings_parts (s := u) Settings.default
  obtain ⟨resetting, work, image⟩ := startUpReady_bad (w := u.settingsLoaded .bad Settings.default)
    (by rw [flp]; dsimp only; rw [port', port]) (by rw [flp]) (by rw [flp])
  obtain ⟨_, cfg, _, _, starting, _⟩ := startUpReady_settles (u.settingsLoaded .bad Settings.default)
  rw [settingsLoaded_cfg] at cfg
  exact ⟨resetting, fun f h => settle_kept (startUpReady_kept (settingsLoaded_kept _ _ (grown f h))), work, cfg, image,
    settle_kept (startUpReady_kept (settingsLoaded_kept _ _ bad)), starting⟩

/-! ## O53 -/

/-- An erase suspended behind a read that times out fails with it, and AUD does not meet it (R167; log entry 60). -/
theorem timedOut_erase {s : State} {m : Memory} {n : Nat} (a : Aud) {x : Txn} (erases : x = .hostErase ∨ x = .settingsErase) :
    ((s.cut m n a).timedOut x).flp.port = .resetting ∧ ((s.cut m n a).timedOut x).aud = a
      ∧ ((s.cut m n a).flags.has .timeout = true → ((s.cut m n a).timedOut x).flags.has .timeout = true) := by
  rcases erases with rfl | rfl
  · exact ⟨(serviceOver_eq _).1, rfl, fun h => report_has h⟩
  · exact ⟨rfl, rfl, fun h => report_has h⟩

/-- A chunk read that fails stores failed frames, and its device is reset (R51, R167). -/
theorem chunkFailed_settles {s : State} {k : Chunk} {i : BufId} {st : Stream} {c : Instr} {x : Txn}
    (outstanding : s.aud.chunk = some k) (owner : k.owner = some i) (stands : s.aud.buf i = some st)
    (erases : x = .hostErase ∨ x = .settingsErase)
    (h : (c = .chunkArrival .timeout ∧ (s.flp.port = .reading .audChunk ∨ s.flp.port = .suspended x))
      ∨ (c = .flashTimeout ∧ s.flp.port = .reading .audChunk)) :
    ∃ t, exec c s = .next t ∧ t.flp.port = .resetting ∧ t.flags.has .timeout = true
      ∧ ∃ st', t.aud.buf i = some st' ∧ st'.held = st.held ++ k.kept st.read s.flash false ∧ st'.read = st.read := by
  have stores (m : Memory) : ∃ st', (s.aud.arrive m false).seek.buf i = some st'
      ∧ st'.held = st.held ++ k.kept st.read s.flash false ∧ st'.read = st.read := by
    obtain ⟨st', found, held, read⟩ := seek_stored (Aud.arrive_owned m false outstanding owner stands)
    exact ⟨st', found, held, read⟩
  have alone (run : exec c s = .next s.flashTimeout.settle) (port : s.flp.port = .reading .audChunk) :
      ∃ t, exec c s = .next t ∧ t.flp.port = .resetting ∧ t.flags.has .timeout = true
        ∧ ∃ st', t.aud.buf i = some st' ∧ st'.held = st.held ++ k.kept st.read s.flash false ∧ st'.read = st.read := by
    let v : State := s.cut s.flash s.fresh (s.aud.arrive s.flash false)
    have times : s.flashTimeout = v := flashTimeout_reading port
    refine ⟨_, run, ?_, ?_, ?_⟩
    · rw [times, settle_resetting (v := v) rfl]
      rfl
    · rw [times]
      exact settle_kept (cut_flag _ _ _ _)
    · rw [times, settle_aud]
      exact stores s.flash
  rcases h with ⟨rfl, port | port⟩ | ⟨rfl, port⟩
  · refine alone ?_ port
    show execChunkArrival .timeout s = _
    unfold execChunkArrival
    rw [port]
  · obtain ⟨m, n, times⟩ := flashTimeout_suspended port
    have run : exec (.chunkArrival .timeout) s = .next s.flashTimeout.settle := by
      show execChunkArrival .timeout s = _
      unfold execChunkArrival
      rw [port]
    refine ⟨_, run, ?_, ?_, ?_⟩
    · rw [times, settle_resetting (timedOut_erase _ erases).1]
      exact (timedOut_erase _ erases).1
    · rw [times]
      exact settle_kept ((timedOut_erase _ erases).2.2 (cut_flag _ _ _ _))
    · rw [times, settle_aud, (timedOut_erase _ erases).2.1]
      exact stores m
  · exact alone (exec_flashTimeout (by rw [port]; exact nofun) (by rw [port]; exact nofun)) port

theorem settle_readPlace (u : State) : u.settle.lif.readPlace = u.lif.readPlace := by
  refine settle_lif_field Lif.readPlace (fun l r => ?_) (fun l => ?_) (fun _ _ => rfl) u
  · unfold Lif.withReport
    (repeat' split) <;> rfl
  · unfold Lif.kick
    split
    · rfl
    · split
      · rfl
      · split <;> rfl

/-- A host's read that times out is answered TIMEOUT, with nothing read (R164, R167). -/
theorem readFailed_settles {s : State} {a n : Nat} {tag : Byte} {c : Instr} (port : s.flp.port = .reading (.hostRead a n))
    (place : s.lif.readPlace = some tag) (h : c = .flashTimeout ∨ c = .flashReadDone .timeout) :
    ∃ t, exec c s = .next t ∧ t.flp.port = .resetting ∧ t.flags.has .timeout = true ∧ t.lif.readPlace = none
      ∧ (Waiting.reply ⟨tag, 0x38, .ok, [1, 0, 0]⟩ ∈ t.lif.answers
        ∨ t.lif.tx = some (.answer (Waiting.reply ⟨tag, 0x38, .ok, [1, 0, 0]⟩))) := by
  let v : State := { s.cut s.flash s.fresh s.aud with lif := { s.lif with
    readPlace := none, answers := s.lif.answers ++ [Waiting.reply ⟨tag, 0x38, .ok, [1, 0, 0]⟩] } }
  have times : s.flashTimeout = v := by
    rw [flashTimeout_reading port]
    show (s.cut s.flash s.fresh s.aud).answerRead .timeout [] = v
    unfold State.answerRead
    rw [show (s.cut s.flash s.fresh s.aud).lif.readPlace = some tag from place]
    rfl
  have run : exec c s = .next v.settle := by
    rw [← times]
    rcases h with rfl | rfl
    · exact exec_flashTimeout (by rw [port]; exact nofun) (by rw [port]; exact nofun)
    · show execFlashReadDone .timeout s = _
      unfold execFlashReadDone
      rw [port]
  refine ⟨_, run, ?_, settle_kept (cut_flag s s.flash s.fresh s.aud), ?_, settle_answers ?_⟩
  · rw [settle_resetting (v := v) rfl]
    rfl
  · rw [settle_readPlace]
  · exact List.mem_append_right _ List.mem_cons_self

/-- A FLASH service whose program or erase times out ends FAILED (R165 to R167). -/
theorem flashService_fails {s : State} {x : Txn} (host : x = .hostProgram ∨ x = .hostErase) (port : s.flp.port = .programming x
    ∨ s.flp.port = .erasing x ∨ s.flp.port = .guarded x ∨ s.flp.port = .suspended x) :
    ∃ t, exec .flashTimeout s = .next t ∧ t.flp.port = .resetting ∧ t.flags.has .timeout = true ∧ t.flp.work = none
      ∧ t.lif.flashSlot =
        { s.lif.flashSlot with status := .failed, failure := .flashTimeout, cueIndex := none, imageFound := none }
      ∧ s.says t 0 (.serviceDone .flash t.lif.flashSlot) := by
  obtain ⟨m, n, a, run⟩ := exec_flashTimeout_writing port
  let u : State := { s.cut m n a with flp := (s.cut m n a).flp.serviceOver }
  have ends : (s.cut m n a).timedOut x = u.endService .flash .flashTimeout none none := by
    rcases host with rfl | rfl <;> rfl
  obtain ⟨free, _, _, over_, _⟩ := serviceOver_eq (s.cut m n a).flp
  obtain ⟨flp, kept, slot, said⟩ := endService_resetting (s := s) (u := u) .flash rfl free
  rw [ends] at run
  refine ⟨_, run, ?_, kept _ (cut_flag s m n a), ?_, slot, said⟩
  · rw [flp]
    exact free
  · rw [flp]
    exact over_

/-- A save whose erase or page times out ends FAILED, the image state MODIFIED (R167, R176). -/
theorem save_fails {s : State} {x : Txn} (saves : (∃ p, x = .settingsPage p) ∨ x = .settingsErase) (port : s.flp.port = .programming x
    ∨ s.flp.port = .erasing x ∨ s.flp.port = .guarded x ∨ s.flp.port = .suspended x) :
    ∃ t, exec .flashTimeout s = .next t ∧ t.flp.port = .resetting ∧ t.flags.has .timeout = true
      ∧ t.flp.settingsWork = none ∧ t.flp.image = .modified ∧ t.cfg = s.cfg ∧ t.lif.settingsSlot =
        { s.lif.settingsSlot with status := .failed, failure := .flashTimeout, cueIndex := none, imageFound := none }
      ∧ s.says t 0 (.serviceDone .settings t.lif.settingsSlot) := by
  obtain ⟨m, n, a, run⟩ := exec_flashTimeout_writing port
  let u : State := { s.cut m n a with flp := { (s.cut m n a).flp with settingsWork := none, image := .modified } }
  have ends : (s.cut m n a).timedOut x = u.endService .settings .flashTimeout none none := by
    rcases saves with ⟨p, rfl⟩ | rfl <;> rfl
  obtain ⟨flp, kept, slot, said⟩ := endService_resetting (s := s) (u := u) .settings rfl rfl
  rw [ends] at run
  refine ⟨_, run, ?_, kept _ (cut_flag s m n a), ?_, ?_, ?_, slot, said⟩
  · rw [flp]
    rfl
  · rw [flp]
  · rw [flp]
  · rw [settle_cfg, endService_cfg]
    rfl

/-- Settles O53: what AUD asks for, what arrives, the two orders of an erase's end, and each owner at a timeout. -/
theorem chunksArriveAndTransactionsTimeOut : Obligations.ChunksArriveAndTransactionsTimeOut := by
  unfold Obligations.ChunksArriveAndTransactionsTimeOut
  refine ⟨fun a => ?_, fun s k i st outstanding owner stands => ?_, fun s k outstanding owner port => ?_,
    fun s x port refill => ?_, fun s w port refill work => ?_, fun s x port erases refill _ => ?_,
    fun s a n tag c port place h => ?_, fun s h => ?_, fun s a n port runs => ?_, fun s port copying queue => ?_,
    fun s why port copying h => ?_, fun s o n startUp read port work => ?_, fun s h => ?_, fun s h => ?_⟩
  · exact ⟨Aud.seek_busy, fun content => seek_quiet _ (Aud.seeker_none content),
      fun i st idle plays wants => Aud.seek_asks idle (Aud.seeker_playing plays wants) wants.1,
      fun i st idle wants waits resting other => Aud.seek_asks idle (Aud.seeker_pending wants waits resting other) wants.1⟩
  · intro frames
    have same (good : Bool) : k.kept st.read s.flash good = frames good := kept_eq k st.read s.flash good
    refine ⟨fun x port => ?_, fun c x erases h => ?_⟩
    · obtain ⟨p, run, guarded⟩ := exec_chunkArrival port
      obtain ⟨st', found, held, read⟩ := seek_stored (Aud.arrive_owned s.flash true outstanding owner stands)
      refine ⟨_, run, chunkRead_onlyAudio s p, ⟨st', ?_, ?_, read⟩, fun suspended => ?_⟩
      · rw [chunkRead_aud]
        exact found
      · rw [held, same]
      · rw [guarded suspended]
        exact chunkRead_guarded s x
    · rw [← same]
      exact chunkFailed_settles outstanding owner stands erases h
  · obtain ⟨p, run, _⟩ := exec_chunkArrival (x := .hostErase) (.inl port)
    refine ⟨_, run, chunkRead_onlyAudio s p, fun i => ?_⟩
    rw [chunkRead_aud, Aud.arrive_nobody _ _ outstanding owner, seek_buf_map (f := (·.held)) fun _ => rfl]
    cases i <;> rfl
  · exact ⟨_, exec_suspendGuardEnd port refill, rfl, raise_has s.flags .eraseSuspended, rfl, rfl⟩
  · obtain ⟨free, over_, flash, slot, said, flag, frame⟩ :=
      endFlash_refills (s := s.unsuspended) (Memory.erase s.flash w.address w.len) refill
    have extent : s.unsuspended.flp.eraseExtent .hostErase = (w.address, w.len) := by
      show s.flp.eraseExtent .hostErase = _
      unfold Flp.eraseExtent
      rw [work]
    have done : s.unsuspended.erased .hostErase =
        (s.unsuspended.deviceDone (Memory.erase s.flash w.address w.len)).endFlash .none := by
      rw [erased_hostErase, extent]
      rfl
    rw [exec_eraseDone_suspended port, done]
    refine ⟨_, rfl, free, over_, fun a lo hi => ?_, fun a outside => ?_, slot, said, flag.trans (unsuspended_has s), frame⟩
    · rw [flash, Memory.read_erase, if_pos ⟨lo, hi⟩]
      rfl
    · rw [flash, Memory.read_erase, if_neg fun h => outside.elim (Nat.not_lt.2 h.1) (Nat.not_le.2 h.2)]
  · obtain ⟨n, b, either⟩ := erased_either refill erases
    refine ⟨_, _, _, exec_suspendGuardEnd port refill, exec_eraseDone_suspended rfl, exec_eraseDone (.inr port), ?_⟩
    rw [either]
    rfl
  · exact readFailed_settles port place h
  · rcases h with h | h | h | h
    · exact flashService_fails (.inl rfl) (.inl h)
    · exact flashService_fails (.inr rfl) (.inr (.inl h))
    · exact flashService_fails (.inr rfl) (.inr (.inr (.inl h)))
    · exact flashService_fails (.inr rfl) (.inr (.inr (.inr h)))
  · have fails : (s.cut s.flash s.fresh s.aud).timedOut (.loadRead a n) =
        (s.cut s.flash s.fresh s.aud).failLoad .flashTimeout none (LoadPhase.label s.seq.load) .load :=
      if_neg (by rw [show (s.cut s.flash s.fresh s.aud).seq.staleRead = false from runs]; decide)
    rw [exec_flashTimeout_reading port, fails]
    exact ⟨_, rfl, failLoad_resetting (by decide) rfl, failLoad_kept (cut_flag _ _ _ _),
      loadFailed_settles (by decide) rfl rfl rfl rfl rfl rfl rfl rfl rfl rfl⟩
  · let u : State := { s.cut s.flash s.fresh s.aud with aud := { s.aud with copying := none } }
    have fails : (s.cut s.flash s.fresh s.aud).timedOut .directory =
        u.failLoad .flashTimeout none (LoadPhase.label s.seq.load) .load := by
      show (s.cut s.flash s.fresh s.aud).directoryFailed = _
      unfold State.directoryFailed
      rw [show (s.cut s.flash s.fresh s.aud).aud.copying = some .armLoad from copying]
      dsimp only
      rw [nextDirectory_last (u := s.cut s.flash s.fresh s.aud) queue]
      rfl
    rw [exec_flashTimeout_reading port, fails]
    refine ⟨_, rfl, failLoad_resetting (by decide) rfl, failLoad_kept (cut_flag s s.flash s.fresh s.aud), ?_,
      loadFailed_settles (by decide) rfl rfl rfl rfl rfl rfl rfl rfl rfl rfl⟩
    rw [settle_aud, (seek_table _).1, (failLoad_flp_aud u none _ .load (by decide)).2]
    rfl
  · have fails : (s.cut s.flash s.fresh s.aud).timedOut .directory = (s.cut s.flash s.fresh s.aud).copyFailed.afterCopy why := by
      show (s.cut s.flash s.fresh s.aud).directoryFailed = _
      unfold State.directoryFailed
      rw [show (s.cut s.flash s.fresh s.aud).aud.copying = some why from copying]
      rcases h with rfl | rfl <;> rfl
    obtain ⟨resets, kept, clips, asks⟩ := copyFailed_after (cut_port s s.flash s.fresh s.aud) h
    rw [exec_flashTimeout_reading port, fails]
    exact ⟨_, rfl, resets, kept _ (cut_flag s s.flash s.fresh s.aud), clips, asks⟩
  · rw [exec_flashTimeout_reading port]
    have fails : (s.cut s.flash s.fresh s.aud).timedOut (.settingsRead o n) =
        if startUp = true then (s.cut s.flash s.fresh s.aud).imageFound true .bad Settings.default
        else State.endService { s.cut s.flash s.fresh s.aud with
          flp := { (s.cut s.flash s.fresh s.aud).flp with settingsWork := none } } .settings .flashTimeout none none := by
      show (s.cut s.flash s.fresh s.aud).settingsReadFailed = _
      unfold State.settingsReadFailed
      rw [show (s.cut s.flash s.fresh s.aud).flp.settingsWork = some (.load startUp read) from work]
      cases startUp <;> rfl
    rw [fails]
    cases startUp with
    | true =>
      obtain ⟨resets, kept, none, cfg, image, bad, starting⟩ := imageBad_settles (cut_port s s.flash s.fresh s.aud)
      rw [if_pos rfl]
      exact ⟨_, rfl, resets, kept _ (cut_flag s s.flash s.fresh s.aud), none, fun _ => ⟨cfg, image, bad, starting⟩, nofun⟩
    | false =>
      let u : State := { s.cut s.flash s.fresh s.aud with
        flp := { (s.cut s.flash s.fresh s.aud).flp with settingsWork := none } }
      obtain ⟨flp, kept, slot, said⟩ := endService_resetting (s := s) (u := u) .settings rfl rfl
      rw [if_neg Bool.noConfusion]
      refine ⟨_, rfl, ?_, kept _ (cut_flag s s.flash s.fresh s.aud), ?_, nofun, fun _ => ⟨?_, ?_, ?_, slot, said⟩⟩
      · rw [flp]
        rfl
      · rw [flp]
      · rw [settle_cfg, endService_cfg]
        rfl
      · rw [flp]
        rfl
      · rw [settle_groups, endService_groups]
        rfl
  · rcases h with ⟨p, h⟩ | h | h | h
    · exact save_fails (.inl ⟨p, rfl⟩) (.inl h)
    · exact save_fails (.inr rfl) (.inr (.inl h))
    · exact save_fails (.inr rfl) (.inr (.inr (.inl h)))
    · exact save_fails (.inr rfl) (.inr (.inr (.inr h)))
  · show execFlashTimeout s = _
    unfold execFlashTimeout
    rcases h with h | h <;> rw [h]

end Sys2Proof.Machine
end

section
/-! FLASH_READ, FLASH_WRITE and FLASH_ERASE: their judgements, and what begins (R163 to R166, R172, R183). -/

namespace Sys2Proof.Machine

open State

/-! ## Regions -/

/-- The region of a code is the one with its base and size (R163). -/
theorem region_of_mem {code lo size : Nat}
    (h : (code, lo, size) ∈ [(0, 0x0000000, 0x10000), (1, 0x0010000, 0x100000), (2, 0x0110000, 0xFEF0000)]) :
    ∃ r, Region.ofCode code = some r ∧ r.size = size ∧ ∀ o, r.address o = lo + o := by
  simp only [List.mem_cons, Prod.mk.injEq, List.not_mem_nil, or_false] at h
  rcases h with ⟨rfl, rfl, rfl⟩ | ⟨rfl, rfl, rfl⟩ | ⟨rfl, rfl, rfl⟩
  · exact ⟨.settings, rfl, rfl, fun _ => rfl⟩
  · exact ⟨.shows, rfl, rfl, fun _ => rfl⟩
  · exact ⟨.clips, rfl, rfl, fun _ => rfl⟩

theorem region_none {code : Nat} (h : 2 < code) : Region.ofCode code = none := by
  obtain ⟨n, rfl⟩ : ∃ n, code = n + 3 := ⟨code - 3, by omega⟩
  rfl

theorem noFlash_iff (f : Flp) : f.noFlash = true ↔ f.presence = .missing := decide_eq_true_iff

theorem within_not_iff (lo hi n : Nat) : (!within lo hi n) = true ↔ ¬(lo ≤ n ∧ n ≤ hi) := by
  simp only [within, Bool.not_eq_true', ← Bool.not_eq_true, Bool.and_eq_true, decide_eq_true_eq]

/-! ## FLASH_READ -/

theorem judgeFlashRead_eq {s : State} {p : List Byte} {r : Region} (region : Region.ofCode (u8 p 0) = some r) :
    s.judgeFlashRead p = if s.lif.readPlace.isSome = true then .error .busy
      else if s.flp.presence = .missing then .error .noFlash
      else if ¬(1 ≤ u16 p 5 ∧ u16 p 5 ≤ 512) then .error .outOfRange
      else if r.size < u32 p 1 + u16 p 5 then .error .outOfRegion else .ok (r.address (u32 p 1), u16 p 5) := by
  simp only [State.judgeFlashRead, region, need_some, ok_bind, refuseIf_bind, noFlash_iff, within_not_iff, decide_eq_true_eq]
  rfl

theorem judgeFlashRead_noRegion {s : State} {p : List Byte} (region : Region.ofCode (u8 p 0) = none) :
    s.judgeFlashRead p = if s.lif.readPlace.isSome = true then .error .busy
      else if s.flp.presence = .missing then .error .noFlash else .error .outOfRange := by
  simp only [State.judgeFlashRead, region, need_none, error_bind, refuseIf_bind, noFlash_iff]

theorem exec_flashRead {s : State} {q : Request} (ht : s.takes .flashRead q = true) :
    exec .flashRead s = .next (s.taken.judged q (s.judgeFlashRead q.payload) fun a =>
      (s.taken.flashRead q.tag a.1 a.2).settleFlash).kick := congrArg Host.Outcome.next (serve_takes s _ anyOf _ q ht rfl)

/-- The first two refusals of a FLASH_READ, whatever region it names. -/
theorem judgeFlashRead_first (s : State) (p : List Byte) :
    (s.lif.readPlace.isSome = true → s.judgeFlashRead p = .error .busy)
      ∧ (s.lif.readPlace = none → s.flp.presence = .missing → s.judgeFlashRead p = .error .noFlash) := by
  refine ⟨fun busy => ?_, fun free missing => ?_⟩
  · unfold State.judgeFlashRead
    rw [refuseIf_bind, if_pos busy]
  · unfold State.judgeFlashRead
    rw [refuseIf_bind, if_neg (by rw [free]; decide), refuseIf_bind, if_pos ((noFlash_iff _).2 missing)]

/-- A read that is taken starts at once at a FREE port with nothing waiting (R164, R183). -/
theorem flashRead_settles {s : State} {tag : Byte} {a n : Nat} (free : s.flp.port = .free) (quiet : s.flashQuiet = true) :
    (s.taken.flashRead tag a n).settleFlash.kick = { s with
      flp := { s.flp with port := .reading (.hostRead a n), turn := .internal }
      lif := ({ s.lif with inbox := s.lif.inbox.tail, readPlace := some tag }).kick } := by
  obtain ⟨chunk, seeks, internal, lif⟩ := (flashQuiet_iff s).1 quiet
  rw [settleFlash_lif (s := s.taken.flashRead tag a n) (t := .hostRead a n) free chunk seeks internal
    (congrArg (· ++ _) lif)]
  unfold State.startTxn State.flashRead State.handLif State.taken
  rw [if_neg (by simp), ← lif]
  rfl

/-! ## FLASH_WRITE and FLASH_ERASE -/

/-- Some lock in force meets the extent lo..hi - 1 (R172). -/
def State.Locked (s : State) (lo hi : Nat) : Prop := ∃ k ∈ s.flp.locks, lo < k.hi ∧ k.lo < hi

theorem lockMeets_iff (s : State) (lo hi : Nat) : s.flp.lockMeets lo hi = true ↔ s.Locked lo hi := by
  simp only [Flp.lockMeets, extentsMeet, List.any_eq_true, Bool.and_eq_true, decide_eq_true_eq, State.Locked]

/-- The judgement of a FLASH service over an extent of a region, in the order of R165 and R166: the flash, the length, the
region, the place in it, the SETTINGS slot and the locks. -/
def State.judgeExtent (s : State) (r : Region) (offset n : Nat) (fits placed : Prop) [Decidable fits] [Decidable placed]
    (data : Option (List Byte)) : Except Status FlashWork :=
  if s.flp.presence = .missing then .error .noFlash else if ¬fits then .error .outOfRange
  else if r.size < offset + n then .error .outOfRegion else if ¬placed then .error .outOfRange
  else if s.lif.settingsSlot.active = true then .error .conflict
  else if s.flp.lockMeets (r.address offset) (r.address offset + n) = true then .error .locked
  else .ok ⟨r.address offset, n, data⟩

theorem needUnlocked_eq (s : State) (lo hi : Nat) (f : Unit → Except Status FlashWork) : (s.needUnlocked lo hi >>= f) =
    if s.lif.settingsSlot.active = true then .error .conflict else if s.flp.lockMeets lo hi = true then .error .locked
    else f () := by
  unfold State.needUnlocked
  rw [refuseIf_bind]
  split
  · rfl
  · rw [refuseIf_eq]
    split <;> rfl

theorem judgeFlashWrite_eq {s : State} {p : List Byte} {r : Region} (region : Region.ofCode (u8 p 0) = some r) :
    s.judgeFlashWrite p = s.judgeExtent r (u32 p 1) (p.length - 5) (1 ≤ p.length - 5 ∧ p.length - 5 ≤ 256)
      (u32 p 1 / 256 = (u32 p 1 + (p.length - 5) - 1) / 256) (some (p.drop 5)) := by
  have length : (writeData p).length = p.length - 5 := List.length_drop
  have page : crossesPage (u32 p 1) (p.length - 5) = true ↔ ¬u32 p 1 / 256 = (u32 p 1 + (p.length - 5) - 1) / 256 :=
    decide_eq_true_iff
  simp only [State.judgeFlashWrite, State.judgeExtent, region, need_some, ok_bind, refuseIf_bind, noFlash_iff, length,
    within_not_iff, decide_eq_true_eq, page, needUnlocked_eq]
  rfl

theorem judgeFlashErase_eq {s : State} {p : List Byte} {r : Region} {n : Nat} (region : Region.ofCode (u8 p 0) = some r)
    (size : eraseSizeOf (u8 p 5) = some n) :
    s.judgeFlashErase p = s.judgeExtent r (u32 p 1) n True (u32 p 1 % n = 0) none := by
  simp only [State.judgeFlashErase, State.judgeExtent, region, size, need_some, ok_bind, refuseIf_bind, noFlash_iff,
    decide_eq_true_eq, needUnlocked_eq, not_true_eq_false, if_false, ne_eq]
  rfl

/-- A refused FLASH service is answered, and a refusal with LOCKED sets its flag (R172). -/
theorem flashService_refused {s : State} {q : Request} {j : Except Status FlashWork} {x : Txn} {st : Status}
    (h : j = .error st) : (s.taken.flashService q j x).kick =
      { s.answered q st [] with flags := s.flags.raiseIf (decide (st = .locked)) .lockedRefusal } := by
  subst h
  rfl

/-- An accepted FLASH service starts at once at a FREE port with nothing waiting (R165, R166). -/
theorem flashService_begins {s : State} {q : Request} {j : Except Status FlashWork} {x : Txn} {w : FlashWork} (h : j = .ok w)
    (host : x = .hostProgram ∨ x = .hostErase) (free : s.flp.port = .free) (quiet : s.flashQuiet = true) :
    let t := (s.taken.flashService q j x).kick
    t.flp.port = x.port ∧ t.flp.work = some w
      ∧ t.lif = ({ s.lif.answering q .accepted [] with flashSlot := ⟨.running, q.kind, q.tag, .none, none, none⟩ }).kick
      ∧ t = { s with flp := t.flp, lif := t.lif } := by
  subst h
  obtain ⟨chunk, seeks, internal, lif⟩ := (flashQuiet_iff s).1 quiet
  have begins : s.taken.flashService q (.ok w) x = ((s.taken.answer q .accepted []).beginFlash q.kind q.tag w x).settleFlash := rfl
  rw [begins, settleFlash_lif (s := (s.taken.answer q .accepted []).beginFlash q.kind q.tag w x) (t := x) free chunk seeks internal
    (congrArg (· ++ _) lif)]
  unfold State.startTxn
  rw [if_pos host]
  exact ⟨rfl, rfl, rfl, rfl⟩

/-- A FLASH service by the conditions of its judgement (R165, R166, R172). -/
theorem flashService_judged {s : State} {q : Request} {x : Txn} {r : Region} {offset n : Nat} {fits placed : Prop}
    [Decidable fits] [Decidable placed] {data : Option (List Byte)} (host : x = .hostProgram ∨ x = .hostErase) :
    let run := (s.taken.flashService q (s.judgeExtent r offset n fits placed data) x).kick
    (s.flp.presence = .missing → run = s.answered q .noFlash [])
    ∧ (s.flp.presence ≠ .missing →
      (¬fits → run = s.answered q .outOfRange [])
      ∧ (fits → r.size < offset + n → run = s.answered q .outOfRegion [])
      ∧ (fits → offset + n ≤ r.size → ¬placed → run = s.answered q .outOfRange [])
      ∧ (fits → offset + n ≤ r.size → placed → s.lif.settingsSlot.active = true → run = s.answered q .conflict [])
      ∧ (fits → offset + n ≤ r.size → placed → s.lif.settingsSlot.active = false →
        s.Locked (r.address offset) (r.address offset + n) →
        run = { s.answered q .locked [] with flags := s.flags.raise .lockedRefusal })
      ∧ (fits → offset + n ≤ r.size → placed → s.lif.settingsSlot.active = false →
        ¬s.Locked (r.address offset) (r.address offset + n) → s.flp.port = .free → s.flashQuiet = true →
        run.flp.port = x.port ∧ run.flp.work = some ⟨r.address offset, n, data⟩
          ∧ run.lif = ({ s.lif.answering q .accepted [] with flashSlot := ⟨.running, q.kind, q.tag, .none, none, none⟩ }).kick
          ∧ run = { s with flp := run.flp, lif := run.lif })) := by
  intro run
  refine ⟨fun missing => flashService_refused ?_, fun there => ⟨fun bad => flashService_refused ?_,
    fun fits out => flashService_refused ?_, fun fits inside bad => flashService_refused ?_,
    fun fits inside placed busy => flashService_refused ?_, fun fits inside placed idle locked => flashService_refused ?_,
    fun fits inside placed idle free_ free quiet => flashService_begins ?_ host free quiet⟩⟩
  · exact if_pos missing
  · exact (if_neg there).trans (if_pos bad)
  · rw [State.judgeExtent, if_neg there, if_neg (not_not.2 fits), if_pos out]
  · rw [State.judgeExtent, if_neg there, if_neg (not_not.2 fits), if_neg (Nat.not_lt.2 inside), if_pos bad]
  · rw [State.judgeExtent, if_neg there, if_neg (not_not.2 fits), if_neg (Nat.not_lt.2 inside), if_neg (not_not.2 placed),
      if_pos busy]
  · rw [State.judgeExtent, if_neg there, if_neg (not_not.2 fits), if_neg (Nat.not_lt.2 inside), if_neg (not_not.2 placed),
      if_neg (by rw [idle]; decide), if_pos ((lockMeets_iff ..).2 locked)]
  · rw [State.judgeExtent, if_neg there, if_neg (not_not.2 fits), if_neg (Nat.not_lt.2 inside), if_neg (not_not.2 placed),
      if_neg (by rw [idle]; decide), if_neg fun meets => free_ ((lockMeets_iff ..).1 meets)]

/-- A FLASH service as the statement has it, over an extent that begins at a device address. -/
theorem flashService_outcomes {s : State} {q : Request} {x : Txn} {r : Region} {lo offset n : Nat} {fits placed : Prop}
    [Decidable fits] [Decidable placed] {data : Option (List Byte)} {c : Instr} {j : Except Status FlashWork}
    (run : exec c s = .next (s.taken.flashService q j x).kick) (judged : j = s.judgeExtent r offset n fits placed data)
    (address : r.address offset = lo + offset) (host : x = .hostProgram ∨ x = .hostErase) :
    (s.flp.presence = .missing → exec c s = .next (s.answered q .noFlash []))
    ∧ (s.flp.presence ≠ .missing →
      (¬fits → exec c s = .next (s.answered q .outOfRange []))
      ∧ (fits → r.size < offset + n → exec c s = .next (s.answered q .outOfRegion []))
      ∧ (fits → offset + n ≤ r.size → ¬placed → exec c s = .next (s.answered q .outOfRange []))
      ∧ (fits → offset + n ≤ r.size → placed → s.lif.settingsSlot.active = true →
        exec c s = .next (s.answered q .conflict []))
      ∧ (fits → offset + n ≤ r.size → placed → s.lif.settingsSlot.active = false → s.Locked (lo + offset) (lo + offset + n) →
        exec c s = .next { s.answered q .locked [] with flags := s.flags.raise .lockedRefusal })
      ∧ (fits → offset + n ≤ r.size → placed → s.lif.settingsSlot.active = false → ¬s.Locked (lo + offset) (lo + offset + n) →
        s.flp.port = .free → s.flashQuiet = true → ∃ t, exec c s = .next t ∧ t.flp.port = x.port
          ∧ t.flp.work = some ⟨lo + offset, n, data⟩
          ∧ t.lif = ({ s.lif.answering q .accepted [] with
              flashSlot := ⟨.running, q.kind, q.tag, .none, none, none⟩ }).kick
          ∧ t = { s with flp := t.flp, lif := t.lif })) := by
  subst judged
  obtain ⟨missing, there⟩ := flashService_judged (s := s) (q := q) (r := r) (offset := offset) (n := n) (fits := fits)
    (placed := placed) (data := data) host
  rw [address] at there
  rw [run]
  refine ⟨fun h => congrArg Host.Outcome.next (missing h), fun h => ?_⟩
  obtain ⟨long, out, astray, busy, locked, begins⟩ := there h
  exact ⟨fun a => congrArg Host.Outcome.next (long a), fun a b => congrArg Host.Outcome.next (out a b),
    fun a b c => congrArg Host.Outcome.next (astray a b c), fun a b c d => congrArg Host.Outcome.next (busy a b c d),
    fun a b c d e => congrArg Host.Outcome.next (locked a b c d e), fun a b c d e f g => ⟨_, rfl, begins a b c d e f g⟩⟩

/-! ## O54 -/

/-- Settles O54: the read, the codes that name nothing, and a FLASH service over its extent. -/
theorem hostFlashRequestsAreJudged : Obligations.HostFlashRequestsAreJudged := by
  unfold Obligations.HostFlashRequestsAreJudged
  refine ⟨fun s q lo size ht => ?_, fun s q there => ⟨fun ht bad => ?_, fun ht bad => ?_⟩, ?_⟩
  · rw [exec_flashRead ht]
    obtain ⟨busy, missing⟩ := judgeFlashRead_first s q.payload
    refine ⟨fun place => congrArg Host.Outcome.next (judged_refused (busy place)),
      fun place gone => congrArg Host.Outcome.next (judged_refused (missing place gone)), fun place there => ⟨fun bad => ?_, fun mem => ?_⟩⟩
    · refine congrArg Host.Outcome.next (judged_refused ?_)
      rw [judgeFlashRead_noRegion (region_none bad), if_neg (by rw [place]; decide), if_neg there]
    · obtain ⟨r, region, rsize, raddress⟩ := region_of_mem mem
      have judged := judgeFlashRead_eq (s := s) region
      rw [if_neg (by rw [place]; decide), if_neg there] at judged
      intro offset n
      refine ⟨fun bad => congrArg Host.Outcome.next (judged_refused ?_),
        fun some few out => congrArg Host.Outcome.next (judged_refused ?_), fun some few inside free quiet => ?_⟩
      · rw [judged, if_pos (by omega)]
      · rw [judged, if_neg (not_not.2 ⟨some, few⟩), if_pos (by rw [rsize]; exact out)]
      · rw [if_neg (not_not.2 ⟨some, few⟩), if_neg (by rw [rsize]; exact Nat.not_lt.2 inside)] at judged
        rw [judged_passed judged, flashRead_settles free quiet, raddress]
  · have run : exec .flashWrite s = .next (s.taken.flashService q (s.judgeFlashWrite q.payload) .hostProgram).kick :=
      congrArg Host.Outcome.next (serve_takes s _ anyOf _ q ht rfl)
    rw [run]
    refine congrArg Host.Outcome.next (flashService_refused (st := .outOfRange) ?_)
    unfold State.judgeFlashWrite
    rw [refuseIf_bind, if_neg fun h => there ((noFlash_iff _).1 h), region_none bad, need_none, error_bind]
  · have run : exec .flashErase s = .next (s.taken.flashService q (s.judgeFlashErase q.payload) .hostErase).kick :=
      congrArg Host.Outcome.next (serve_takes s _ anyOf _ q ht rfl)
    rw [run]
    refine congrArg Host.Outcome.next (flashService_refused (st := .outOfRange) ?_)
    unfold State.judgeFlashErase
    rw [refuseIf_bind, if_neg fun h => there ((noFlash_iff _).1 h)]
    rcases bad with bad | bad
    · rw [region_none bad, need_none, error_bind]
    · have size : eraseSizeOf (u8 q.payload 5) = none := by
        obtain ⟨n, e⟩ : ∃ n, u8 q.payload 5 = n + 2 := ⟨u8 q.payload 5 - 2, by omega⟩
        rw [e]
        rfl
      cases Region.ofCode (u8 q.payload 0) with
      | none => rfl
      | some r => rw [need_some, ok_bind, size, need_none, error_bind]
  · intro s q lo size c n data txn h mem
    obtain ⟨r, region, rfl, raddress⟩ := region_of_mem mem
    rcases h with ⟨rfl, ht, rfl, rfl, rfl⟩ | ⟨rfl, ht, sized, rfl, rfl⟩
    · have run : exec .flashWrite s = .next (s.taken.flashService q (s.judgeFlashWrite q.payload) .hostProgram).kick :=
        congrArg Host.Outcome.next (serve_takes s _ anyOf _ q ht rfl)
      intro offset fits placed locked
      have hfits : fits = (1 ≤ q.payload.length - 5 ∧ q.payload.length - 5 ≤ 256) := if_pos rfl
      have hplaced : placed = (offset / 256 = (offset + (q.payload.length - 5) - 1) / 256) := if_pos rfl
      clear_value fits placed
      subst hfits hplaced
      exact flashService_outcomes run (judgeFlashWrite_eq region) (raddress _) (.inl rfl)
    · have run : exec .flashErase s = .next (s.taken.flashService q (s.judgeFlashErase q.payload) .hostErase).kick :=
        congrArg Host.Outcome.next (serve_takes s _ anyOf _ q ht rfl)
      intro offset fits placed locked
      have hfits : fits = True := if_neg nofun
      have hplaced : placed = (offset % n = 0) := if_neg nofun
      have size : eraseSizeOf (u8 q.payload 5) = some n := by
        simp only [List.mem_cons, Prod.mk.injEq, List.not_mem_nil, or_false] at sized
        rcases sized with ⟨code, rfl⟩ | ⟨code, rfl⟩ <;> rw [code] <;> rfl
      clear_value fits placed
      subst hfits hplaced
      exact flashService_outcomes run (judgeFlashErase_eq region size) (raddress _) (.inr rfl)

end Sys2Proof.Machine
end

section
/-! The show link's line: characters, frames in, and the frames it sends (R180, R181, R183 to R185, R193; log entries 1, 31, 55). -/

namespace Sys2Proof.Machine

open State

/-! ## Characters -/

/-- A bit of a character is the majority of its three samples. -/
theorem charBits_bit (c : LinkChar) (i : Nat) : (charBits c).getLsbD i = ((c.s1.getLsbD i && c.s2.getLsbD i)
    || (c.s1.getLsbD i && c.s3.getLsbD i) || (c.s2.getLsbD i && c.s3.getLsbD i)) := by
  simp [charBits]

/-- The data byte is the eight bits behind the start bit. -/
theorem charByte_bit (c : LinkChar) {i : Nat} (hi : i < 8) :
    (charByte c).getLsbD i = (charBits c).getLsbD (i + 1) := by
  simp [charByte, hi, Nat.add_comm]

/-- Without an accepted start bit nothing is received. -/
theorem receive_noStart (s : State) {c : LinkChar} (h : charStarts c = false) : s.receive c = s := by
  simp [receive, h]

/-- A character with an error ends the frame and sets its flags. -/
theorem receive_bad (s : State) {c : LinkChar} (h : charStarts c = true) (bad : (parityBad c || framingBad c) = true) :
    s.receive c = { s with
      lif := { s.lif with rx := .hunting }
      flags := (s.flags.raiseIf (parityBad c) .parity).raiseIf (framingBad c) .framing } := by
  simp only [receive, h, bad, if_true]
  rfl

/-- A character without an error gives its byte. -/
theorem receive_good (s : State) {c : LinkChar} (h : charStarts c = true)
    (good : (parityBad c || framingBad c) = false) : s.receive c = s.takeByte (charByte c) := by
  simp [receive, h, good]

/-! ## Bytes -/

/-- Outside a frame only the start byte counts. -/
theorem takeByte_hunting {s : State} (d : Byte) (h : s.lif.rx = .hunting) :
    s.takeByte d = { s with lif := { s.lif with rx := if d = 0xC3 then .inFrame [] else .hunting } } := by
  have same : s.withRx .hunting = s := by rw [← h]; rfl
  rw [takeByte, h]
  by_cases start : d = 0xC3
  · rw [if_pos start]
    exact if_pos start
  · rw [if_neg start]
    exact (if_neg start).trans same.symm

/-- Inside a frame: too long a payload ends it. -/
theorem takeByte_long {s : State} {bs : List Byte} {d : Byte} (h : s.lif.rx = .inFrame bs)
    (long : (bs ++ [d]).length = 2 ∧ 1024 < u16 (bs ++ [d]) 0) :
    s.takeByte d = (s.withRx .hunting).flag .badCrc := by
  rw [takeByte, h]
  exact if_pos long

/-- Inside a frame whose payload's length is permitted: the last byte ends it, any other is gathered. -/
theorem takeByte_inFrame {s : State} {bs : List Byte} {d : Byte} (h : s.lif.rx = .inFrame bs)
    (fits : ¬((bs ++ [d]).length = 2 ∧ 1024 < u16 (bs ++ [d]) 0)) :
    s.takeByte d = if frameWhole (bs ++ [d]) then
        if frameGood (bs ++ [d]) then (s.withRx .hunting).frameIn (requestOf (bs ++ [d]))
        else (s.withRx .hunting).flag .badCrc
      else s.withRx (.inFrame (bs ++ [d])) := by
  rw [takeByte, h]
  exact if_neg fits

/-- A frame is whole when its length is its payload's and six more. -/
theorem frameWhole_iff (bs : List Byte) : frameWhole bs = true ↔ 2 ≤ bs.length ∧ bs.length = 6 + u16 bs 0 := by
  rw [frameWhole, Bool.and_eq_true, decide_eq_true_iff, decide_eq_true_iff]
  rfl

/-- A good character inside a frame completes it where the frame is whole and its check matches. -/
theorem completes_inFrame {s : State} {c : LinkChar} {bs : List Byte} (h : s.lif.rx = .inFrame bs)
    (starts : charStarts c = true) (good : (parityBad c || framingBad c) = false) :
    s.completes c = (frameWhole (bs ++ [charByte c]) && frameGood (bs ++ [charByte c])) := by
  obtain ⟨parity, framing⟩ := Bool.or_eq_false_iff.mp good
  simp [completes, h, starts, parity, framing]

/-- A byte that completes no good frame: too long a payload or a check that fails ends the frame. -/
theorem takeByte_ends {s : State} {c : LinkChar} {bs : List Byte} (h : s.lif.rx = .inFrame bs)
    (starts : charStarts c = true) (good : (parityBad c || framingBad c) = false) (not : s.completes c = false)
    (ends : ((bs ++ [charByte c]).length = 2 ∧ 1024 < u16 (bs ++ [charByte c]) 0)
      ∨ (2 ≤ (bs ++ [charByte c]).length ∧ (bs ++ [charByte c]).length = 6 + u16 (bs ++ [charByte c]) 0)) :
    s.takeByte (charByte c) = (s.withRx .hunting).flag .badCrc := by
  by_cases long : (bs ++ [charByte c]).length = 2 ∧ 1024 < u16 (bs ++ [charByte c]) 0
  · exact takeByte_long h long
  · have whole := (frameWhole_iff _).mpr (ends.resolve_left long)
    have bad : frameGood (bs ++ [charByte c]) = false := by
      rw [completes_inFrame h starts good, whole, Bool.true_and] at not
      exact not
    rw [takeByte_inFrame h long, if_pos whole, bad]
    rfl

/-- A byte that ends no frame is gathered. -/
theorem takeByte_gathers {s : State} {d : Byte} {bs : List Byte} (h : s.lif.rx = .inFrame bs)
    (goesOn : ¬(((bs ++ [d]).length = 2 ∧ 1024 < u16 (bs ++ [d]) 0)
      ∨ (2 ≤ (bs ++ [d]).length ∧ (bs ++ [d]).length = 6 + u16 (bs ++ [d]) 0))) :
    s.takeByte d = s.withRx (.inFrame (bs ++ [d])) := by
  obtain ⟨fits, part⟩ := not_or.mp goesOn
  rw [takeByte_inFrame h fits]
  exact if_neg fun whole => part ((frameWhole_iff _).mp whole)

/-- The byte that completes a good frame hands its request on. -/
theorem takeByte_completes {s : State} {d : Byte} {bs : List Byte} (h : s.lif.rx = .inFrame bs)
    (whole : (bs ++ [d]).length = 6 + u16 (bs ++ [d]) 0)
    (good : frameGood (bs ++ [d]) = true) :
    s.takeByte d = (s.withRx .hunting).frameIn (requestOf (bs ++ [d])) := by
  have fits : ¬((bs ++ [d]).length = 2 ∧ 1024 < u16 (bs ++ [d]) 0) := by omega
  rw [takeByte_inFrame h fits, if_pos ((frameWhole_iff _).mpr ⟨by omega, whole⟩), if_pos good]

/-! ## The transmitter -/

/-- A free transmitter takes the oldest answer. -/
theorem kick_answer {l : Lif} {w : Waiting} {rest : List Waiting} (free : l.tx = none) (h : l.answers = w :: rest) :
    l.kick = { l with tx := some (.answer w), answers := rest } := by
  simp [Lif.kick, free, h]

/-- Without an answer it takes the oldest report. -/
theorem kick_reportFirst {l : Lif} {r : Report} {rest : List Report} (free : l.tx = none) (none' : l.answers = [])
    (h : l.reports = r :: rest) : l.kick = { l with tx := some (.report r), reports := rest } := by
  simp [Lif.kick, free, none', h]

/-- With neither it stays free. -/
theorem kick_empty {l : Lif} (free : l.tx = none) (none' : l.answers = []) (empty : l.reports = []) : l.kick = l := by
  simp [Lif.kick, free, none', empty]

/-! ## Fields of reports -/

/-- An optional field that is present follows a one. -/
theorem optField_some (len : Nat) (bs : List Byte) : optField len (some bs) = 1 :: bs := rfl

/-- The causes' byte has a bit for each cause. -/
theorem causesByte_eq (k : Causes) : k.byte =
    [(if k.estop = true then 1 else 0) + (if k.intrA = true then 2 else 0) + (if k.intrB = true then 4 else 0)] := by
  obtain ⟨e, a, b⟩ := k
  revert e a b
  decide

/-- A validity's byte: 0 for a valid channel, 1 for another. -/
theorem validityByte_eq (valid : Bool) : byte1 (validityCode valid) = [if valid = true then 0 else 1] := by
  cases valid <;> rfl

/-! ## The statement -/

/-- A character that completes no good frame (R180; log entry 31). -/
theorem link_incomplete (s : State) (c : LinkChar) (part : s.completes c = false) :
    exec (.linkFrameReceived c) s = .next s
    ∧ exec (.linkByteReceived c) s = .next (s.receive c) :=
  ⟨by rw [exec, execLinkFrameReceived, part]; rfl, by rw [exec, execLinkByteReceived, part]; rfl⟩

/-- A character that completes a good frame (R181). -/
theorem link_complete (s : State) (c : LinkChar) (whole : s.completes c = true) :
    exec (.linkFrameReceived c) s = .next (s.receive c).kick
    ∧ exec (.linkByteReceived c) s = .next s :=
  ⟨by rw [exec, execLinkFrameReceived, whole]; rfl, by rw [exec, execLinkByteReceived, whole]; rfl⟩

/-- A good frame joins the inbox, or is answered BUSY, or is discarded. -/
theorem frameIn_cases (s : State) (q : Request) :
    (s.lif.inbox.length < 4 → s.frameIn q = { s with lif := { s.lif with inbox := s.lif.inbox ++ [q] } })
    ∧ (4 ≤ s.lif.inbox.length → s.lif.busyUsed < 8 → s.frameIn q = { s with
        lif := { s.lif with answers := s.lif.answers ++ [Waiting.busy ⟨q.tag, q.kind, .busy, []⟩] }
        flags := s.flags.raise .inboxBusy })
    ∧ (4 ≤ s.lif.inbox.length → 8 ≤ s.lif.busyUsed → s.frameIn q = { s with
        flags := s.flags.raise .inboxBusy }) := by
  refine ⟨fun room => if_pos room, fun full free => ?_, fun full taken => ?_⟩
  · rw [frameIn, if_neg (by omega), if_pos free]
    rfl
  · rw [frameIn, if_neg (by omega), if_neg (by omega)]
    rfl

/-- The gap timeout ends a frame that has begun. -/
theorem gapTimeout_cases (s : State) : (s.lif.rx = .hunting → exec .gapTimeout s = .next s)
    ∧ ∀ bs, s.lif.rx = .inFrame bs → exec .gapTimeout s = .next { s with
        lif := { s.lif with rx := .hunting }, flags := s.flags.raise .gapTimeout } := by
  refine ⟨fun h => ?_, fun bs h => ?_⟩
  · rw [exec, execGapTimeout, h]
  · rw [exec, execGapTimeout, h]
    rfl

/-- A frame sent frees the transmitter, which takes the next. -/
theorem frameSent_cases (s : State) : (s.lif.tx = none → exec .frameSent s = .next s)
    ∧ (s.lif.tx ≠ none →
      (∀ w rest, s.lif.answers = w :: rest → exec .frameSent s = .next { s with
        lif := { s.lif with tx := some (.answer w), answers := rest } })
      ∧ (∀ r rest, s.lif.answers = [] → s.lif.reports = r :: rest → exec .frameSent s = .next { s with
        lif := { s.lif with tx := some (.report r), reports := rest } })
      ∧ (s.lif.answers = [] → s.lif.reports = [] → exec .frameSent s = .next { s with
        lif := { s.lif with tx := none } })) := by
  refine ⟨fun free => ?_, fun busy => ?_⟩
  · rw [exec, execFrameSent, free]
    rfl
  have sent : exec .frameSent s = .next { s with lif := Lif.kick { s.lif with tx := none } } := by
    rw [exec, execFrameSent, if_pos (Option.isSome_iff_ne_none.mpr busy)]
    rfl
  rw [sent]
  refine ⟨fun w rest h => ?_, fun r rest hs h => ?_, fun hs h => ?_⟩
  · rw [kick_answer (l := { s.lif with tx := none }) rfl h]
  · rw [kick_reportFirst (l := { s.lif with tx := none }) rfl hs h]
  · rw [kick_empty (l := { s.lif with tx := none }) rfl hs h]

/-- Settles O55. -/
theorem linkReceivesCharactersAndFrames : Obligations.LinkReceivesCharactersAndFrames := by
  refine ⟨charBits_bit, fun c i => charByte_bit c, ?part, ?whole, gapTimeout_cases,
    fun s => ⟨(frameSent_cases s).1, (frameSent_cases s).2, ?frames, ?codes⟩⟩
  case part =>
    intro s c part
    obtain ⟨frame, byte⟩ := link_incomplete s c part
    refine ⟨frame, fun none' => by rw [byte, receive_noStart s none'],
      fun starts bad => by rw [byte, receive_bad s starts bad],
      fun starts good => ?_⟩
    rw [byte, receive_good s starts good]
    refine ⟨fun h => congrArg Host.Outcome.next (takeByte_hunting _ h), fun bs h => ⟨fun ends => ?_, fun goesOn => ?_⟩⟩
    · rw [takeByte_ends h starts good part ends]
      rfl
    · rw [takeByte_gathers h goesOn]
      rfl
  case whole =>
    intro s c bs h starts parity framing all n q fits len check
    have good : (parityBad c || framingBad c) = false := by rw [parity, framing]; rfl
    have matches' : frameGood all = true := decide_eq_true check
    have whole : s.completes c = true := by
      rw [completes_inFrame h starts good, (frameWhole_iff all).mpr ⟨by omega, len⟩, matches']
      rfl
    obtain ⟨frame, byte⟩ := link_complete s c whole
    have taken : s.receive c = (s.withRx .hunting).frameIn q := by
      rw [receive_good s starts good]
      exact takeByte_completes h len matches'
    obtain ⟨room, busy, full⟩ := frameIn_cases (s.withRx .hunting) q
    refine ⟨byte, fun short => ?_, fun long free => ?_, fun long used => ?_⟩
    · rw [frame, taken, room short]
      rfl
    · rw [frame, taken, busy long free]
      rfl
    · rw [frame, taken, full long used]
      rfl
  case frames =>
    refine ⟨fun a => ⟨rfl, rfl⟩, fun r => ?_⟩
    cases r with
    | ready => rfl
    | showState st slot time reason => cases slot <;> cases time <;> cases reason <;> rfl
    | mark => rfl
    | serviceDone slot k =>
      obtain ⟨status, kind, tag, failure, cue, image⟩ := k
      cases cue <;> cases image <;> rfl
    | trip k added clock =>
      change linkFrame _ _ (k.byte ++ _ ++ _) = _
      rw [causesByte_eq]
      rfl
    | groupState g left entered cause starved sent actual code => cases left <;> cases code <;> rfl
    | validity channel valid counter fatal =>
      change linkFrame _ _ (_ ++ byte1 (validityCode valid) ++ _ ++ _) = _
      rw [validityByte_eq]
      rfl
    | site => rfl
  case codes => decide

end Sys2Proof.Machine
end

section
/-! The cue records of a show and the order in which they are checked (R4 to R9, R21). -/

namespace Sys2Proof.Machine

/-! ## Cue records -/

/-- The records are the sixteen-byte pieces of the bytes read. -/
theorem recordsOf_getElem? (bytes : List Byte) (n i : Nat) :
    (recordsOf bytes n)[i]? = if i < n then some ((bytes.drop (16 * i)).take 16) else none := by
  induction n generalizing bytes i with
  | zero => rfl
  | succ n ih =>
    cases i with
    | zero => rfl
    | succ i =>
      rw [recordsOf, List.getElem?_cons_succ, ih, List.drop_drop]
      simp only [Nat.add_lt_add_iff_right, cueLen, Nat.mul_succ, Nat.add_comm]

section
variable {p : List Byte}

/-- Kind 1 is a jet cue. -/
theorem cueActOf_jet (h : u8 p 4 = 1) :
    cueActOf p = some (.jet (BitVec.ofNat 24 (u24 p 5)) (u16 p 8) (u16 p 10)) := by simp only [cueActOf, h]

/-- Kind 2 is a light cue. -/
theorem cueActOf_light (h : u8 p 4 = 2) :
    cueActOf p = some (.light (u8 p 5) (u8 p 6) (colourAt p 7) (u16 p 11)) := by simp only [cueActOf, h]

/-- Kind 3 is a clip cue. -/
theorem cueActOf_clip (h : u8 p 4 = 3) :
    cueActOf p = some (.clip (u8 p 5) (if u8 p 6 = 0 then 0 else u32 p 7)) := by simp only [cueActOf, h]

/-- Kind 4 is a mark. -/
theorem cueActOf_mark (h : u8 p 4 = 4) : cueActOf p = some (.mark (u16 p 5)) := by simp only [cueActOf, h]

/-- Kind 5 is the end. -/
theorem cueActOf_ended (h : u8 p 4 = 5) : cueActOf p = some .ended := by simp only [cueActOf, h]

/-- Any other kind is unknown. -/
theorem cueActOf_unknown (h : u8 p 4 = 0 ∨ 5 < u8 p 4) : cueActOf p = none := by
  unfold cueActOf
  split
  case h_6 => rfl
  all_goals omega

/-- The six kinds of a cue record. -/
theorem cueKind_cases (p : List Byte) :
    (u8 p 4 = 0 ∨ 5 < u8 p 4) ∨ u8 p 4 = 1 ∨ u8 p 4 = 2 ∨ u8 p 4 = 3 ∨ u8 p 4 = 4 ∨ u8 p 4 = 5 := by omega

/-- A record asks for the end when its kind is 5. -/
theorem cueActOf_eq_ended {act : CueAct} (h : cueActOf p = some act) : act = .ended ↔ u8 p 4 = 5 := by
  rcases cueKind_cases p with k | k | k | k | k | k
  · rw [cueActOf_unknown k] at h
    cases h
  · rw [cueActOf_jet k] at h
    cases h
    simp [k]
  · rw [cueActOf_light k] at h
    cases h
    simp [k]
  · rw [cueActOf_clip k] at h
    cases h
    simp [k]
  · rw [cueActOf_mark k] at h
    cases h
    simp [k]
  · rw [cueActOf_ended k] at h
    cases h
    simp [k]

end

/-! ## What a cue's fields may not be -/

/-- The group set names no group, or a group that is not configured. -/
def NoGroup (cfg : Settings) (p : List Byte) : Prop :=
  u24 p 5 = 0 ∨ ∃ g : Fin 24, (u24 p 5).testBit g.val = true ∧ (cfg.groups.get g).configured = false

/-- The fixture range is empty, passes fixture 95 or names a fixture that is not assigned. -/
def NoFixture (cfg : Settings) (p : List Byte) : Prop :=
  u8 p 6 < u8 p 5 ∨ 95 < u8 p 6
    ∨ ∃ x : Fin 96, u8 p 5 ≤ x.val ∧ x.val ≤ u8 p 6 ∧ (cfg.fixtures.get x).base = 0

/-- No clip has the id, or the offset is behind its end. -/
def NoClip (clips : Table 64 (Option Clip)) (p : List Byte) : Prop :=
  ¬∃ (k : Fin 64) (c : Clip), u8 p 5 = k.val + 1 ∧ clips.get k = some c
    ∧ (if u8 p 6 = 0 then 0 else u32 p 7) < c.frames

/-- The set of a jet cue is its three bytes. -/
theorem u24_lt (p : List Byte) (i : Nat) : u24 p i < 2 ^ 24 := by
  have a := (p.getD i 0).isLt
  have b := (p.getD (i + 1) 0).isLt
  have c := (p.getD (i + 2) 0).isLt
  simp only [u24, u16, u8]
  omega

/-- A jet cue is refused for its groups alone. -/
theorem jet_fault (cfg : Settings) (clips : Table 64 (Option Clip)) (p : List Byte) (h f : Nat) :
    (NoGroup cfg p ∧ (CueAct.jet (BitVec.ofNat 24 (u24 p 5)) h f).fault cfg clips = .badGroup)
    ∨ (¬NoGroup cfg p ∧ (CueAct.jet (BitVec.ofNat 24 (u24 p 5)) h f).fault cfg clips = .none) := by
  have refused : (BitVec.ofNat 24 (u24 p 5) = 0 ∨ ((List.finRange 24).any fun g =>
      (BitVec.ofNat 24 (u24 p 5)).getLsbD g.val && !(cfg.groups.get g).configured) = true) ↔ NoGroup cfg p := by
    refine or_congr ?_ ?_
    · rw [← BitVec.toNat_inj, BitVec.toNat_ofNat, Nat.mod_eq_of_lt (u24_lt p 5)]
      rfl
    · rw [List.any_eq_true]
      refine exists_congr fun g => ?_
      simp only [List.mem_finRange, true_and, Bool.and_eq_true, Bool.not_eq_true', BitVec.getLsbD_ofNat, g.isLt,
        decide_true, Bool.true_and]
  by_cases no : NoGroup cfg p
  · exact .inl ⟨no, if_pos (refused.mpr no)⟩
  · exact .inr ⟨no, if_neg (mt refused.mp no)⟩

/-- A light cue is refused for its fixtures alone. -/
theorem light_fault (cfg : Settings) (clips : Table 64 (Option Clip)) (p : List Byte) (c : Colour) (f : Nat) :
    (NoFixture cfg p ∧ (CueAct.light (u8 p 5) (u8 p 6) c f).fault cfg clips = .badFixture)
    ∨ (¬NoFixture cfg p ∧ (CueAct.light (u8 p 5) (u8 p 6) c f).fault cfg clips = .none) := by
  have passes : (u8 p 5 ≤ u8 p 6 ∧ u8 p 6 ≤ 95 ∧ ((List.finRange 96).all fun x =>
      !within (u8 p 5) (u8 p 6) x.val || (cfg.fixtures.get x).assigned) = true) ↔ ¬NoFixture cfg p := by
    rw [NoFixture, not_or, not_or, Nat.not_lt, Nat.not_lt, List.all_eq_true]
    refine and_congr_right' (and_congr_right' ?_)
    simp [FixtureRecord.assigned, within, imp_iff_not_or, or_assoc]
  by_cases no : NoFixture cfg p
  · exact .inl ⟨no, if_neg fun h => passes.mp h no⟩
  · exact .inr ⟨no, if_pos (passes.mpr no)⟩

/-- A clip id names the clip one before it in the table. -/
theorem lookupClip_eq_some {t : Table 64 (Option Clip)} {id : Nat} {c : Clip} :
    lookupClip t id = some c ↔ ∃ k : Fin 64, id = k.val + 1 ∧ t.get k = some c := by
  unfold lookupClip
  constructor
  · intro h
    split at h
    next lt =>
      split at h
      · cases h
      next pos => exact ⟨⟨id - 1, lt⟩, by dsimp only; omega, h⟩
    · cases h
  · rintro ⟨k, rfl, h⟩
    rw [dif_pos (by omega), if_neg (by omega)]
    exact h

/-- A clip cue is refused for its clip alone. -/
theorem clip_fault (cfg : Settings) (clips : Table 64 (Option Clip)) (p : List Byte) :
    (NoClip clips p ∧ (CueAct.clip (u8 p 5) (if u8 p 6 = 0 then 0 else u32 p 7)).fault cfg clips = .noClip)
    ∨ (¬NoClip clips p ∧ (CueAct.clip (u8 p 5) (if u8 p 6 = 0 then 0 else u32 p 7)).fault cfg clips = .none) := by
  unfold NoClip
  cases found : lookupClip clips (u8 p 5) with
  | none =>
    refine .inl ⟨fun ⟨k, c, hk, hc, _⟩ => ?_, by simp only [CueAct.fault, found]⟩
    rw [lookupClip_eq_some.mpr ⟨k, hk, hc⟩] at found
    cases found
  | some c =>
    by_cases inside : (if u8 p 6 = 0 then 0 else u32 p 7) < c.frames
    · obtain ⟨k, hk, hc⟩ := lookupClip_eq_some.mp found
      refine .inr ⟨not_not.mpr ⟨k, c, hk, hc, inside⟩, ?_⟩
      simp only [CueAct.fault, found, if_pos inside]
    · refine .inl ⟨fun ⟨k, d, hk, hd, less⟩ => ?_, by simp only [CueAct.fault, found, if_neg inside]⟩
      rw [lookupClip_eq_some.mpr ⟨k, hk, hd⟩] at found
      cases found
      exact inside less

/-! ## The failure of one record -/

/-- The failure code of a record, NONE where it is accepted; `late` says that its time or place is wrong. -/
def recordFault (cfg : Settings) (clips : Table 64 (Option Clip)) (duration prev : Nat) (ended : Bool) (p : List Byte) :
    Failure :=
  if ended = true ∨ duration < u32 p 0 ∨ u32 p 0 < prev then .badOrder
  else match cueActOf p with
    | none => .badKind
    | some act => act.fault cfg clips

/-- The failure code that R4 to R9 give a record, `late` being that its time or place is wrong. -/
def FaultSays (cfg : Settings) (clips : Table 64 (Option Clip)) (p : List Byte) (late : Prop) (f : Failure) : Prop :=
  (f = .badOrder ∧ late) ∨ (f = .badKind ∧ ¬late ∧ (u8 p 4 = 0 ∨ 5 < u8 p 4))
    ∨ (f = .badGroup ∧ ¬late ∧ u8 p 4 = 1 ∧ NoGroup cfg p) ∨ (f = .badFixture ∧ ¬late ∧ u8 p 4 = 2 ∧ NoFixture cfg p)
    ∨ (f = .noClip ∧ ¬late ∧ u8 p 4 = 3 ∧ NoClip clips p)

section
variable {cfg : Settings} {clips : Table 64 (Option Clip)} {duration prev : Nat} {ended : Bool} {p : List Byte}

/-- A record at a wrong time or place is BAD_ORDER. -/
theorem recordFault_late (late : ended = true ∨ duration < u32 p 0 ∨ u32 p 0 < prev) :
    recordFault cfg clips duration prev ended p = .badOrder := if_pos late

/-- A record of an unknown kind is BAD_KIND. -/
theorem recordFault_unknown (early : ¬(ended = true ∨ duration < u32 p 0 ∨ u32 p 0 < prev)) (h : cueActOf p = none) :
    recordFault cfg clips duration prev ended p = .badKind := by rw [recordFault, if_neg early, h]

/-- Any other record fails by its fields. -/
theorem recordFault_known {act : CueAct} (early : ¬(ended = true ∨ duration < u32 p 0 ∨ u32 p 0 < prev))
    (h : cueActOf p = some act) :
    recordFault cfg clips duration prev ended p = act.fault cfg clips := by rw [recordFault, if_neg early, h]

/-- A record's failure is the one that R4 to R9 give it. -/
theorem recordFault_iff {f : Failure} (bad : f ≠ .none) :
    recordFault cfg clips duration prev ended p = f
      ↔ FaultSays cfg clips p (ended = true ∨ duration < u32 p 0 ∨ u32 p 0 < prev) f := by
  by_cases late : ended = true ∨ duration < u32 p 0 ∨ u32 p 0 < prev
  · rw [recordFault_late late, FaultSays]
    simp only [late, eq_comm (a := f), not_true, false_and, and_false, or_false, and_true]
  · unfold FaultSays
    rcases cueKind_cases p with k | k | k | k | k | k
    · rw [recordFault_unknown late (cueActOf_unknown k)]
      have others : u8 p 4 ≠ 1 ∧ u8 p 4 ≠ 2 ∧ u8 p 4 ≠ 3 := by omega
      simp [late, k, others, eq_comm (a := f)]
    · rw [recordFault_known late (cueActOf_jet k)]
      rcases jet_fault cfg clips p (u16 p 8) (u16 p 10) with ⟨no, h⟩ | ⟨no, h⟩ <;>
        simp [h, no, late, k, eq_comm (a := f), bad.symm]
    · rw [recordFault_known late (cueActOf_light k)]
      rcases light_fault cfg clips p (colourAt p 7) (u16 p 11) with ⟨no, h⟩ | ⟨no, h⟩ <;>
        simp [h, no, late, k, eq_comm (a := f), bad.symm]
    · rw [recordFault_known late (cueActOf_clip k)]
      rcases clip_fault cfg clips p with ⟨no, h⟩ | ⟨no, h⟩ <;>
        simp [h, no, late, k, eq_comm (a := f), bad.symm]
    · rw [recordFault_known late (cueActOf_mark k)]
      simp [CueAct.fault, late, k, eq_comm (a := f), bad.symm]
    · rw [recordFault_known late (cueActOf_ended k)]
      simp [CueAct.fault, late, k, eq_comm (a := f), bad.symm]

/-- An accepted record is at its time and place, of a known kind, with fields that are accepted. -/
theorem recordFault_none (h : recordFault cfg clips duration prev ended p = .none) :
    ended = false ∧ u32 p 0 ≤ duration ∧ prev ≤ u32 p 0
      ∧ ∃ act, cueActOf p = some act ∧ act.fault cfg clips = .none := by
  by_cases late : ended = true ∨ duration < u32 p 0 ∨ u32 p 0 < prev
  · rw [recordFault_late late] at h
    cases h
  · obtain ⟨goesOn, inside, after⟩ : ended = false ∧ u32 p 0 ≤ duration ∧ prev ≤ u32 p 0 := by
      simpa only [not_or, Bool.not_eq_true, Nat.not_lt] using late
    cases known : cueActOf p with
    | none =>
      rw [recordFault_unknown late known] at h
      cases h
    | some act => exact ⟨goesOn, inside, after, act, rfl, (recordFault_known late known).symm.trans h⟩

end

end Sys2Proof.Machine
end

section
/-! The outcome of checking a list of cue records (R4, R6, R9, R21). -/

namespace Sys2Proof.Machine

/-- The cue that a record of a known kind becomes, with the clamps of R6. -/
def cueOf (p : List Byte) : Cue := ⟨u32 p 0, ((cueActOf p).getD .ended).clamp⟩

/-- How many fields of a record the clamps of R6 change. -/
def clampsOf (p : List Byte) : Nat := ((cueActOf p).getD .ended).clamps

/-- The failure of each record of a list, behind a record at time `prev` that is the end if `ended`. -/
def cueFaults (cfg : Settings) (clips : Table 64 (Option Clip)) (duration : Nat) :
    Nat → Bool → List (List Byte) → List Failure
  | _, _, [] => []
  | prev, ended, p :: rest =>
      recordFault cfg clips duration prev ended p :: cueFaults cfg clips duration (u32 p 0) (decide (u8 p 4 = 5)) rest

section
variable {cfg : Settings} {clips : Table 64 (Option Clip)} {duration : Nat}

/-- The first record's failure. -/
theorem cueFaults_zero (prev : Nat) (ended : Bool) (records : List (List Byte)) :
    (cueFaults cfg clips duration prev ended records)[0]?
      = records[0]?.map (recordFault cfg clips duration prev ended) := by
  cases records <;> rfl

/-- A later record's failure, by the record before it. -/
theorem cueFaults_succ (prev : Nat) (ended : Bool) (records : List (List Byte)) (j : Nat) :
    (cueFaults cfg clips duration prev ended records)[j + 1]? = records[j]?.bind fun q =>
      records[j + 1]?.map (recordFault cfg clips duration (u32 q 0) (decide (u8 q 4 = 5))) := by
  induction records generalizing prev ended j with
  | nil => rfl
  | cons p rest ih =>
    cases j with
    | zero => exact cueFaults_zero _ _ rest
    | succ j => exact ih _ _ j

/-- There is a failure for each record. -/
theorem cueFaults_length (prev : Nat) (ended : Bool) (records : List (List Byte)) :
    (cueFaults cfg clips duration prev ended records).length = records.length := by
  induction records generalizing prev ended with
  | nil => rfl
  | cons p rest ih => exact congrArg (· + 1) (ih _ _)

/-- One record is checked, and the rest where it is accepted. -/
theorem checkCues_cons (p : List Byte) (rest : List (List Byte)) (i prev : Nat) (ended : Bool) (acc : List Cue)
    (clamps : Nat) :
    checkCues cfg clips duration (p :: rest) i prev ended acc clamps =
      if recordFault cfg clips duration prev ended p = .none then
        checkCues cfg clips duration rest (i + 1) (u32 p 0) (decide (u8 p 4 = 5)) (cueOf p :: acc) (clamps + clampsOf p)
      else .bad (recordFault cfg clips duration prev ended p) i := by
  rw [checkCues]
  by_cases late : ended = true ∨ duration < u32 p 0 ∨ u32 p 0 < prev
  · rw [if_pos late, recordFault_late late]
    rfl
  · rw [if_neg late]
    cases known : cueActOf p with
    | none =>
      rw [recordFault_unknown late known]
      rfl
    | some act =>
      rw [recordFault_known late known]
      simp only [cueOf, clampsOf, known, Option.getD_some, cueActOf_eq_ended known]

/-- Where every record is accepted, the cues are the records' in order. -/
theorem checkCues_good (records : List (List Byte)) (i prev : Nat) (ended : Bool) (acc : List Cue) (clamps : Nat)
    (fine : ∀ f ∈ cueFaults cfg clips duration prev ended records, f = .none) :
    checkCues cfg clips duration records i prev ended acc clamps
      = .good (acc.reverse ++ records.map cueOf) (clamps + (records.map clampsOf).sum) := by
  induction records generalizing i prev ended acc clamps with
  | nil => simp [checkCues]
  | cons p rest ih =>
    obtain ⟨first, others⟩ := List.forall_mem_cons.mp fine
    rw [checkCues_cons, if_pos first, ih _ _ _ _ _ others]
    simp only [List.reverse_cons, List.append_assoc, List.singleton_append, List.map_cons, List.sum_cons,
      Nat.add_assoc]

/-- Otherwise the first failure ends the check. -/
theorem checkCues_first (records : List (List Byte)) (i prev : Nat) (ended : Bool) (acc : List Cue) (clamps k : Nat)
    {f : Failure} (found : (cueFaults cfg clips duration prev ended records)[k]? = some f) (bad : f ≠ .none)
    (first : ∀ j f', j < k → (cueFaults cfg clips duration prev ended records)[j]? = some f' → f' = .none) :
    checkCues cfg clips duration records i prev ended acc clamps = .bad f (i + k) := by
  induction records generalizing i prev ended acc clamps k with
  | nil => cases found
  | cons p rest ih =>
    rw [checkCues_cons]
    cases k with
    | zero =>
      cases found
      exact if_neg bad
    | succ k =>
      rw [if_pos (first 0 _ (Nat.zero_lt_succ k) rfl),
        ih _ _ _ _ _ k found fun j f' lt => first (j + 1) f' (Nat.succ_lt_succ lt), Nat.add_assoc, Nat.add_comm 1 k]

/-- A list of failures holds none but NONE, or has a first other one. -/
theorem firstFault_cases (l : List Failure) : (∀ f ∈ l, f = Failure.none)
    ∨ ∃ (k : Nat) (f : Failure), l[k]? = some f ∧ f ≠ Failure.none ∧ ∀ j f', j < k → l[j]? = some f' → f' = Failure.none := by
  induction l with
  | nil => exact .inl nofun
  | cons a l ih =>
    by_cases here : a = .none
    · rcases ih with fine | ⟨k, f, found, bad, first⟩
      · exact .inl (List.forall_mem_cons.mpr ⟨here, fine⟩)
      · refine .inr ⟨k + 1, f, found, bad, fun j f' lt at' => ?_⟩
        cases j with
        | zero =>
          cases at'
          exact here
        | succ j => exact first j f' (by omega) at'
    · exact .inr ⟨0, a, rfl, here, fun _ _ lt => (Nat.not_lt_zero _ lt).elim⟩

/-! ## Failures by their position -/

/-- Record i fails with f, as R4 to R9 say it of the list. -/
def CueFails (cfg : Settings) (clips : Table 64 (Option Clip)) (duration : Nat) (records : List (List Byte)) (i : Nat)
    (f : Failure) : Prop :=
  ∃ p, records[i]? = some p ∧ FaultSays cfg clips p (duration < u32 p 0
    ∨ ∃ j q, i = j + 1 ∧ records[j]? = some q ∧ (u32 p 0 < u32 q 0 ∨ u8 q 4 = 5)) f

/-- No record fails with NONE. -/
theorem faultSays_ne_none {p : List Byte} {late : Prop} {f : Failure} (h : FaultSays cfg clips p late f) :
    f ≠ .none := by
  rcases h with ⟨rfl, _⟩ | ⟨rfl, _⟩ | ⟨rfl, _⟩ | ⟨rfl, _⟩ | ⟨rfl, _⟩ <;> decide

/-- The first record cannot come after an end or a later time. -/
theorem late_zero {records : List (List Byte)} {p : List Byte} :
    (duration < u32 p 0 ∨ ∃ j q, 0 = j + 1 ∧ records[j]? = some q ∧ (u32 p 0 < u32 q 0 ∨ u8 q 4 = 5))
      ↔ (false = true ∨ duration < u32 p 0 ∨ u32 p 0 < 0) := by
  simp

/-- A later record is late by the record before it. -/
theorem late_succ {records : List (List Byte)} {p q : List Byte} {i : Nat} (before : records[i]? = some q) :
    (duration < u32 p 0 ∨ ∃ j r, i + 1 = j + 1 ∧ records[j]? = some r ∧ (u32 p 0 < u32 r 0 ∨ u8 r 4 = 5))
      ↔ (decide (u8 q 4 = 5) = true ∨ duration < u32 p 0 ∨ u32 p 0 < u32 q 0) := by
  constructor
  · rintro (long | ⟨j, r, hj, hr, h⟩)
    · exact .inr (.inl long)
    · obtain rfl := Nat.succ.inj hj
      obtain rfl := Option.some.inj (before.symm.trans hr)
      rcases h with early | ended
      · exact .inr (.inr early)
      · exact .inl (decide_eq_true ended)
  · rintro (ended | long | early)
    · exact .inr ⟨i, q, rfl, before, .inr (of_decide_eq_true ended)⟩
    · exact .inl long
    · exact .inr ⟨i, q, rfl, before, .inl early⟩

/-- The failures of the list are the records' of R4 to R9. -/
theorem cueFails_iff (records : List (List Byte)) (i : Nat) (f : Failure) :
    CueFails cfg clips duration records i f
      ↔ (cueFaults cfg clips duration 0 false records)[i]? = some f ∧ f ≠ .none := by
  have reads : ∀ {late late' : Prop} {p : List Byte}, (late ↔ late') →
      (FaultSays cfg clips p late f ↔ FaultSays cfg clips p late' f) := fun h => by rw [propext h]
  cases i with
  | zero =>
    rw [cueFaults_zero, Option.map_eq_some_iff]
    constructor
    · rintro ⟨p, hp, h⟩
      have bad := faultSays_ne_none h
      exact ⟨⟨p, hp, (recordFault_iff bad).mpr ((reads late_zero).mp h)⟩, bad⟩
    · rintro ⟨⟨p, hp, h⟩, bad⟩
      exact ⟨p, hp, (reads late_zero).mpr ((recordFault_iff bad).mp h)⟩
  | succ i =>
    rw [cueFaults_succ, Option.bind_eq_some_iff]
    constructor
    · rintro ⟨p, hp, h⟩
      have bad := faultSays_ne_none h
      obtain ⟨lt, _⟩ := List.getElem?_eq_some_iff.mp hp
      have before : records[i]? = some records[i] := List.getElem?_eq_getElem (by omega)
      refine ⟨⟨records[i], before, Option.map_eq_some_iff.mpr ⟨p, hp, ?_⟩⟩, bad⟩
      exact (recordFault_iff bad).mpr ((reads (late_succ before)).mp h)
    · rintro ⟨⟨q, before, h⟩, bad⟩
      obtain ⟨p, hp, h⟩ := Option.map_eq_some_iff.mp h
      exact ⟨p, hp, (reads (late_succ before)).mpr ((recordFault_iff bad).mp h)⟩

/-- Without a failure every record is accepted. -/
theorem fine_of_noFails {records : List (List Byte)} (fine : ∀ i f, ¬CueFails cfg clips duration records i f) :
    ∀ f ∈ cueFaults cfg clips duration 0 false records, f = .none := by
  intro f hf
  obtain ⟨i, hi⟩ := List.mem_iff_getElem?.mp hf
  by_contra bad
  exact fine i f ((cueFails_iff records i f).mpr ⟨hi, bad⟩)

/-- The check ends with the first failure. -/
theorem checkCues_bad_iff (records : List (List Byte)) (f : Failure) (i : Nat) :
    checkCues cfg clips duration records 0 0 false [] 0 = .bad f i
      ↔ CueFails cfg clips duration records i f ∧ ∀ j f', j < i → ¬CueFails cfg clips duration records j f' := by
  have ends : ∀ {k f}, CueFails cfg clips duration records k f →
      (∀ j f', j < k → ¬CueFails cfg clips duration records j f') →
      checkCues cfg clips duration records 0 0 false [] 0 = .bad f k := by
    intro k f fails first
    obtain ⟨found, bad⟩ := (cueFails_iff records k f).mp fails
    have := checkCues_first records 0 0 false [] 0 k found bad fun j f' lt at' => by
      by_contra bad'
      exact first j f' lt ((cueFails_iff records j f').mpr ⟨at', bad'⟩)
    rwa [Nat.zero_add] at this
  refine ⟨fun checked => ?_, fun ⟨fails, first⟩ => ends fails first⟩
  rcases firstFault_cases (cueFaults cfg clips duration 0 false records) with fine | ⟨k, f', found, bad, first⟩
  · rw [checkCues_good records 0 0 false [] 0 fine] at checked
    cases checked
  · have fails := (cueFails_iff records k f').mpr ⟨found, bad⟩
    have before : ∀ j g, j < k → ¬CueFails cfg clips duration records j g := fun j g lt h =>
      ((cueFails_iff records j g).mp h).2 (first j g lt ((cueFails_iff records j g).mp h).1)
    rw [ends fails before] at checked
    cases checked
    exact ⟨fails, before⟩

/-- A check that ends well has accepted every record. -/
theorem fine_of_good {records : List (List Byte)} {cues : List Cue} {n : Nat}
    (good : checkCues cfg clips duration records 0 0 false [] 0 = .good cues n) :
    (∀ f ∈ cueFaults cfg clips duration 0 false records, f = .none)
      ∧ cues = records.map cueOf ∧ n = (records.map clampsOf).sum := by
  rcases firstFault_cases (cueFaults cfg clips duration 0 false records) with fine | ⟨k, f, found, bad, first⟩
  · rw [checkCues_good records 0 0 false [] 0 fine] at good
    cases good
    exact ⟨fine, rfl, Nat.zero_add _⟩
  · rw [checkCues_first records 0 0 false [] 0 k found bad first] at good
    cases good

/-- The check ends well where no record fails. -/
theorem checkCues_good_iff (records : List (List Byte)) :
    (∃ cues n, checkCues cfg clips duration records 0 0 false [] 0 = .good cues n)
      ↔ ∀ i f, ¬CueFails cfg clips duration records i f := by
  refine ⟨fun ⟨cues, n, good⟩ i f fails => ?_, fun fine => ⟨_, _, checkCues_good records 0 0 false [] 0 (fine_of_noFails fine)⟩⟩
  obtain ⟨found, bad⟩ := (cueFails_iff records i f).mp fails
  exact bad ((fine_of_good good).1 f (List.mem_of_getElem? found))

/-! ## A cue table that was accepted -/

/-- The clamps make no END. -/
theorem clamp_eq_ended {act : CueAct} : act.clamp = .ended ↔ act = .ended := by
  cases act <;> simp [CueAct.clamp]

section
variable {records : List (List Byte)} (fine : ∀ f ∈ cueFaults cfg clips duration 0 false records, f = .none)
include fine

/-- An accepted record is inside the duration and of a known kind, with accepted fields. -/
theorem accepted_record {i : Nat} {p : List Byte} (at' : records[i]? = some p) :
    u32 p 0 ≤ duration ∧ ∃ act, cueActOf p = some act ∧ act.fault cfg clips = .none := by
  cases i with
  | zero =>
    have first := fine _ (List.mem_of_getElem? ((cueFaults_zero 0 false records).trans (congrArg _ at')))
    obtain ⟨_, inside, _, known⟩ := recordFault_none first
    exact ⟨inside, known⟩
  | succ i =>
    obtain ⟨lt, _⟩ := List.getElem?_eq_some_iff.mp at'
    have before : records[i]? = some records[i] := List.getElem?_eq_getElem (by omega)
    have later := fine _ (List.mem_of_getElem? ((cueFaults_succ 0 false records i).trans
      (by rw [before, at']; rfl)))
    obtain ⟨_, inside, _, known⟩ := recordFault_none later
    exact ⟨inside, known⟩

/-- A record behind another is at its time or later, and the other is not the end. -/
theorem accepted_pair {i : Nat} {p q : List Byte} (before : records[i]? = some q) (at' : records[i + 1]? = some p) :
    u32 q 0 ≤ u32 p 0 ∧ u8 q 4 ≠ 5 := by
  have later := fine _ (List.mem_of_getElem? ((cueFaults_succ 0 false records i).trans (by rw [before, at']; rfl)))
  obtain ⟨goesOn, _, after, _⟩ := recordFault_none later
  exact ⟨after, of_decide_eq_false goesOn⟩

/-- The times do not decrease. -/
theorem accepted_times : (records.map cueOf).Pairwise fun a b => a.time ≤ b.time := by
  have chain : ((records.map cueOf).map Cue.time).IsChain (· ≤ ·) := List.isChain_iff_getElem.mpr fun i lt => ?_
  · exact List.pairwise_map.mp (List.isChain_iff_pairwise.mp chain)
  rw [List.length_map, List.length_map] at lt
  simp only [List.getElem_map]
  exact (accepted_pair fine (List.getElem?_eq_getElem (by omega)) (List.getElem?_eq_getElem lt)).1

/-- An END stands only last. -/
theorem accepted_end : ∀ c ∈ (records.map cueOf).dropLast, c.act ≠ .ended := by
  intro c hc ended
  obtain ⟨i, lt, rfl⟩ := List.mem_iff_getElem.mp hc
  rw [List.length_dropLast, List.length_map] at lt
  have before : records[i]? = some records[i] := List.getElem?_eq_getElem (by omega)
  obtain ⟨_, act, known, _⟩ := accepted_record fine before
  rw [List.getElem_dropLast, List.getElem_map, cueOf, known, Option.getD_some] at ended
  refine (accepted_pair fine before (List.getElem?_eq_getElem (by omega))).2 ((cueActOf_eq_ended known).mp ?_)
  exact clamp_eq_ended.mp ended

end

/-- The cue of a record: its time, and what it asks for after the clamps. -/
theorem cueOf_known {p : List Byte} {act : CueAct} (known : cueActOf p = some act) : cueOf p = ⟨u32 p 0, act.clamp⟩ := by
  rw [cueOf, known]
  rfl

/-- A clamp takes the limit where it is passed. -/
theorem clamp_eq (limit n : Nat) : min limit n = if limit < n then limit else n := by
  split <;> omega

end

end Sys2Proof.Machine
end

section
/-! The lanes of a cue table: their entries, dispatch times, counts and preroll (R22 to R28). -/

namespace Sys2Proof.Machine

/-! ## Lanes in cue order -/

section
variable {ε : Type} {cueNo : ε → Nat} {f : Cue × Nat → Option ε}

/-- A lane gathered from the cues in order stands in cue order. -/
theorem lane_inOrder (numbered : ∀ c i e, f (c, i) = some e → cueNo e = i) (cues : List Cue) :
    (cues.zipIdx.filterMap f).Pairwise fun a b => cueNo a < cueNo b := by
  have order : (cues.zipIdx.map Prod.snd).Pairwise (· < ·) := by
    rw [List.zipIdx_map_snd]
    exact List.pairwise_lt_range'
  rw [List.pairwise_filterMap]
  refine (List.pairwise_map.mp order).imp fun {a b} lt x hx y hy => ?_
  rw [numbered a.1 a.2 x hx, numbered b.1 b.2 y hy]
  exact lt

/-- What a lane gathered from the cues holds. -/
theorem mem_lane {cues : List Cue} {e : ε} :
    e ∈ cues.zipIdx.filterMap f ↔ ∃ c i, cues[i]? = some c ∧ f (c, i) = some e := by
  rw [List.mem_filterMap]
  constructor
  · rintro ⟨⟨c, i⟩, mem, h⟩
    exact ⟨c, i, List.mem_zipIdx_iff_getElem?.mp mem, h⟩
  · rintro ⟨c, i, at', h⟩
    exact ⟨(c, i), List.mem_zipIdx_iff_getElem?.mpr at', h⟩

/-- How many entries a lane holds, where a cue gives an entry whatever its number. -/
theorem lane_length {gives : Cue → Bool} (h : ∀ c i, (f (c, i)).isSome = gives c) (cues : List Cue) (k : Nat) :
    ((cues.zipIdx k).filterMap f).length = cues.countP gives := by
  induction cues generalizing k with
  | nil => rfl
  | cons c rest ih =>
    have here := h c k
    rw [List.zipIdx_cons, List.countP_cons, ← ih (k + 1)]
    cases entry : f (c, k) with
    | none =>
      rw [entry] at here
      rw [List.filterMap_cons_none entry, ← here]
      rfl
    | some e =>
      rw [entry] at here
      rw [List.filterMap_cons_some entry, ← here]
      rfl

end

/-! ## Jet lanes -/

/-- The entry that a cue gives in group g's lane, before its dispatch time is known. -/
def jetEntry (g : Fin 24) (ci : Cue × Nat) : Option JetEntry :=
  match ci.1.act with
  | .jet set height fade => if set.getLsbD g.val then some ⟨ci.2, ci.1.time, height, fade, 0⟩ else none
  | _ => none

/-- A jet lane gathers its entries and holds their dispatch times back. -/
theorem jetLane_eq (r : GroupRecord) (g : Fin 24) (cues : List Cue) :
    jetLane r g cues = holdBack r (-10000) (cues.zipIdx.filterMap (jetEntry g)) := rfl

/-- A cue gives a jet entry where it is a jet cue that names the group. -/
theorem jetEntry_eq_some {g : Fin 24} {c : Cue} {i : Nat} {e : JetEntry} :
    jetEntry g (c, i) = some e ↔ ∃ set h f, c.act = .jet set h f ∧ set.getLsbD g.val = true
      ∧ e = ⟨i, c.time, h, f, 0⟩ := by
  obtain ⟨t, act⟩ := c
  cases act with
  | jet set h f =>
    have value : jetEntry g (⟨t, .jet set h f⟩, i) = if set.getLsbD g.val then some ⟨i, t, h, f, 0⟩ else none := rfl
    rw [value]
    constructor
    · intro given
      split at given
      next named => exact ⟨set, h, f, rfl, named, (Option.some.inj given).symm⟩
      · cases given
    · rintro ⟨_, _, _, ⟨⟩, named, rfl⟩
      exact if_pos named
  | _ => exact ⟨nofun, nofun⟩

section
variable (r : GroupRecord)

/-- Holding back keeps the entries. -/
theorem holdBack_length (prev : Int) (l : List JetEntry) : (holdBack r prev l).length = l.length := by
  induction l generalizing prev with
  | nil => rfl
  | cons e l ih => exact congrArg (· + 1) (ih _)

/-- Holding back changes dispatch times alone. -/
theorem holdBack_map (prev : Int) (l : List JetEntry) :
    (holdBack r prev l).map (fun e => { e with dispatch := 0 }) = l.map fun e => { e with dispatch := 0 } := by
  induction l generalizing prev with
  | nil => rfl
  | cons e l ih => exact congrArg (List.cons _) (ih _)

/-- The dispatch times: d_k = max(r_k, d_(k-1)), beginning with `prev`. -/
theorem holdBack_first (prev : Int) {l : List JetEntry} {e : JetEntry} (h : (holdBack r prev l)[0]? = some e) :
    e.dispatch = max (e.raw r) prev := by
  cases l with
  | nil => cases h
  | cons a l =>
    cases h
    rfl

/-- Each dispatch time follows from the one before it. -/
theorem holdBack_next (prev : Int) {l : List JetEntry} {k : Nat} {a b : JetEntry}
    (ha : (holdBack r prev l)[k]? = some a) (hb : (holdBack r prev l)[k + 1]? = some b) :
    b.dispatch = max (b.raw r) a.dispatch := by
  induction l generalizing prev k with
  | nil => cases ha
  | cons e l ih =>
    cases k with
    | zero =>
      cases ha
      exact holdBack_first r _ hb
    | succ k => exact ih _ ha hb

/-- No dispatch time is before `prev`. -/
theorem holdBack_least (prev : Int) (l : List JetEntry) : ∀ e ∈ holdBack r prev l, prev ≤ e.dispatch := by
  induction l generalizing prev with
  | nil => nofun
  | cons a l ih =>
    intro e he
    rcases List.mem_cons.mp he with rfl | he
    · exact le_max_right _ _
    · exact (le_max_right _ _).trans (ih _ e he)

/-- Dispatch times do not decrease. -/
theorem holdBack_inOrder (prev : Int) (l : List JetEntry) :
    (holdBack r prev l).Pairwise fun a b => a.dispatch ≤ b.dispatch := by
  induction l generalizing prev with
  | nil => exact List.Pairwise.nil
  | cons a l ih => exact List.Pairwise.cons (holdBack_least r _ l) (ih _)

variable (g : Fin 24) (cues : List Cue)

/-- A jet lane stands in cue order. -/
theorem jetLane_inOrder : (jetLane r g cues).Pairwise fun a b => a.cue < b.cue := by
  have before := lane_inOrder (cueNo := JetEntry.cue) (f := jetEntry g) (fun c i e h => by
    obtain ⟨_, _, _, _, _, rfl⟩ := jetEntry_eq_some.mp h
    rfl) cues
  have forget : ∀ l : List JetEntry, l.Pairwise (fun a b => a.cue < b.cue)
      ↔ (l.map fun e => { e with dispatch := 0 }).Pairwise fun a b => a.cue < b.cue := fun l =>
    (List.pairwise_map (f := fun e : JetEntry => { e with dispatch := 0 }) (R := fun a b => a.cue < b.cue)).symm
  rw [jetLane_eq, forget, holdBack_map, ← forget]
  exact before

/-- A jet lane holds one entry for each jet cue that names its group. -/
theorem mem_jetLane (i t h f : Nat) :
    (∃ e ∈ jetLane r g cues, e.cue = i ∧ e.time = t ∧ e.height = h ∧ e.fade = f)
      ↔ ∃ set, cues[i]? = some ⟨t, .jet set h f⟩ ∧ set.getLsbD g.val = true := by
  have forget : ∀ l : List JetEntry, (∃ e ∈ l, e.cue = i ∧ e.time = t ∧ e.height = h ∧ e.fade = f)
      ↔ (⟨i, t, h, f, 0⟩ : JetEntry) ∈ l.map fun e => { e with dispatch := 0 } := fun l => by
    simp [List.mem_map]
  rw [jetLane_eq, forget, holdBack_map, ← forget]
  constructor
  · rintro ⟨e, he, rfl, rfl, rfl, rfl⟩
    obtain ⟨c, k, at', h⟩ := mem_lane.mp he
    obtain ⟨set, height, fade, act, named, rfl⟩ := jetEntry_eq_some.mp h
    exact ⟨set, by rw [at', ← act], named⟩
  · rintro ⟨set, at', named⟩
    exact ⟨⟨i, t, h, f, 0⟩, mem_lane.mpr ⟨_, i, at', jetEntry_eq_some.mpr ⟨set, h, f, rfl, named, rfl⟩⟩, rfl, rfl, rfl, rfl⟩

/-- A jet lane holds as many entries as jet cues name its group. -/
theorem jetLane_length : (jetLane r g cues).length
    = cues.countP fun c => (jetEntry g (c, 0)).isSome := by
  rw [jetLane_eq, holdBack_length]
  refine lane_length (fun c i => ?_) cues 0
  rw [Bool.eq_iff_iff, Option.isSome_iff_exists, Option.isSome_iff_exists]
  simp only [jetEntry_eq_some]
  exact ⟨fun ⟨_, set, h, f, act, named, _⟩ => ⟨_, set, h, f, act, named, rfl⟩,
    fun ⟨_, set, h, f, act, named, _⟩ => ⟨_, set, h, f, act, named, rfl⟩⟩

end

/-! ## Overtaken entries and the preroll -/

/-- An entry is overtaken where the next has its dispatch time. -/
theorem overtakenIn_eq (lane : List JetEntry) : overtakenIn lane = (List.range (lane.length - 1)).countP fun k =>
    decide ((lane[k]?).map (·.dispatch) = (lane[k + 1]?).map (·.dispatch)) := by
  match lane with
  | [] => rfl
  | [_] => rfl
  | a :: b :: rest =>
    have tail := overtakenIn_eq (b :: rest)
    rw [overtakenIn, tail]
    simp only [List.length_cons, Nat.add_sub_cancel]
    rw [List.range_succ_eq_map, List.countP_cons, List.countP_map, Nat.add_comm]
    simp [Function.comp_def]

/-- The greatest of a start and the negated numbers of a list: it bounds them, and is one of them. -/
theorem foldl_max_neg (l : List Int) (m : Int) :
    m ≤ l.foldl (fun m r => max m (-r)) m ∧ (∀ x ∈ l, -x ≤ l.foldl (fun m r => max m (-r)) m)
      ∧ (l.foldl (fun m r => max m (-r)) m = m ∨ ∃ x ∈ l, l.foldl (fun m r => max m (-r)) m = -x) := by
  induction l generalizing m with
  | nil => exact ⟨Int.le_refl m, nofun, .inl rfl⟩
  | cons a l ih =>
    obtain ⟨least, bounds, one⟩ := ih (max m (-a))
    rw [List.foldl_cons]
    refine ⟨(le_max_left _ _).trans least, List.forall_mem_cons.mpr ⟨(le_max_right _ _).trans least, bounds⟩, ?_⟩
    rcases one with same | ⟨x, hx, h⟩
    · rw [same]
      rcases max_choice m (-a) with left | right
      · exact .inl left
      · exact .inr ⟨a, List.mem_cons_self, right⟩
    · exact .inr ⟨x, List.mem_cons_of_mem _ hx, h⟩

/-- The preroll lies between 0 and 10 s, covers every raw time, and is 0 or covers one exactly. -/
theorem prerollOf_spec (cfg : Settings) (l : Lanes) :
    (0 : Int) ≤ prerollOf cfg l ∧ (prerollOf cfg l : Int) ≤ 10000
      ∧ (∀ x ∈ rawTimes cfg l, min 10000 (-x) ≤ (prerollOf cfg l : Int))
      ∧ ((prerollOf cfg l : Int) = 0 ∨ ∃ x ∈ rawTimes cfg l, (prerollOf cfg l : Int) = min 10000 (-x)) := by
  obtain ⟨least, bounds, one⟩ := foldl_max_neg (rawTimes cfg l) 0
  have value : (prerollOf cfg l : Int) = min 10000 ((rawTimes cfg l).foldl (fun m r => max m (-r)) 0) :=
    Int.toNat_of_nonneg (le_min (by decide) least)
  rw [value]
  refine ⟨le_min (by decide) least, min_le_left _ _, fun x hx => min_le_min_left _ (bounds x hx), ?_⟩
  rcases one with zero | ⟨x, hx, h⟩
  · exact .inl (by rw [zero]; rfl)
  · exact .inr ⟨x, hx, by rw [h]⟩

/-! ## The number of lane entries -/

section
variable (cues : List Cue)

/-- No cue passes the limit where all entries together do not. -/
theorem laneFullAt_none (i n : Nat) (fits : n ≤ 8192) :
    laneFullAt cues i n = none ↔ n + (cues.map fun c => c.act.entries).sum ≤ 8192 := by
  induction cues generalizing i n with
  | nil => simp [laneFullAt, fits]
  | cons c rest ih =>
    rw [laneFullAt, List.map_cons, List.sum_cons, ← Nat.add_assoc]
    by_cases passes : laneMax < n + c.act.entries
    · have : 8192 < n + c.act.entries := passes
      rw [if_pos passes]
      exact ⟨nofun, fun h => by omega⟩
    · have : ¬8192 < n + c.act.entries := passes
      rw [if_neg passes, ih (i + 1) (n + c.act.entries) (by omega)]

/-- The cue found is not one before the first looked at. -/
theorem laneFullAt_ge {cues : List Cue} {i n k : Nat} (h : laneFullAt cues i n = some k) : i ≤ k := by
  induction cues generalizing i n with
  | nil => cases h
  | cons c rest ih =>
    rw [laneFullAt] at h
    split at h
    · exact Nat.le_of_eq (Option.some.inj h)
    · exact Nat.le_of_succ_le (ih h)

/-- Otherwise the cue is the first whose entries pass it. -/
theorem laneFullAt_some (i n k : Nat) (fits : n ≤ 8192) :
    laneFullAt cues i n = some (i + k) ↔ k < cues.length
      ∧ n + ((cues.take k).map fun c => c.act.entries).sum ≤ 8192
      ∧ 8192 < n + ((cues.take (k + 1)).map fun c => c.act.entries).sum := by
  induction cues generalizing i n k with
  | nil => simp [laneFullAt]
  | cons c rest ih =>
    rw [laneFullAt, List.take_succ_cons, List.map_cons, List.sum_cons, ← Nat.add_assoc, List.length_cons]
    by_cases passes : laneMax < n + c.act.entries
    · have more : 8192 < n + c.act.entries := passes
      rw [if_pos passes]
      cases k with
      | zero => exact ⟨fun _ => ⟨Nat.succ_pos _, fits, more⟩, fun _ => rfl⟩
      | succ k =>
        rw [List.take_succ_cons, List.map_cons, List.sum_cons]
        constructor
        · intro h
          have := Option.some.inj h
          omega
        · rintro ⟨-, h, -⟩
          omega
    · have less : ¬8192 < n + c.act.entries := passes
      rw [if_neg passes]
      cases k with
      | zero =>
        simp only [Nat.add_zero, List.take_zero, List.map_nil, List.sum_nil]
        refine ⟨fun h => ?_, fun h => by omega⟩
        have := laneFullAt_ge h
        omega
      | succ k =>
        rw [List.take_succ_cons, List.map_cons, List.sum_cons, ← Nat.add_assoc n, Nat.add_lt_add_iff_right,
          ← ih (i + 1) (n + c.act.entries) k (by omega), Nat.add_assoc i 1 k, Nat.add_comm 1 k]

end

end Sys2Proof.Machine
end

section
/-! The lanes that a cue table gives, and what LoadedCuesAreInOrder says (R4 to R9, R21 to R28). -/

namespace Sys2Proof.Machine

/-! ## The light, clip and mark lanes -/

/-- The light lane's entry of a cue. -/
def lightEntry (ci : Cue × Nat) : Option LightEntry :=
  match ci.1.act with
  | .light a b c f => some ⟨ci.2, ci.1.time, a, b, c, f⟩
  | _ => none

/-- The clip lane's entry of a cue. -/
def clipEntry (ci : Cue × Nat) : Option ClipEntry :=
  match ci.1.act with
  | .clip id o => some ⟨ci.2, ci.1.time, id, o⟩
  | _ => none

/-- The mark lane's entry of a cue. -/
def markEntry (ci : Cue × Nat) : Option MarkEntry :=
  match ci.1.act with
  | .mark n => some ⟨ci.2, ci.1.time, some n⟩
  | .ended => some ⟨ci.2, ci.1.time, none⟩
  | _ => none

/-- The light lane gathers its entries. -/
theorem lightLane_eq (cfg : Settings) (cues : List Cue) :
    (buildLanes cfg cues).lights = ⟨cues.zipIdx.filterMap lightEntry, 0⟩ := rfl

/-- The clip lane gathers its entries. -/
theorem clipLane_eq (cfg : Settings) (cues : List Cue) :
    (buildLanes cfg cues).clips = ⟨cues.zipIdx.filterMap clipEntry, 0⟩ := rfl

/-- The mark lane gathers its entries. -/
theorem markLane_eq (cfg : Settings) (cues : List Cue) :
    (buildLanes cfg cues).marks = ⟨cues.zipIdx.filterMap markEntry, 0⟩ := rfl

/-- A group's jet lane. -/
theorem buildLanes_jets (cfg : Settings) (cues : List Cue) (g : Fin 24) :
    (buildLanes cfg cues).jets.get g = ⟨jetLane (cfg.groups.get g) g cues, 0⟩ := Table.get_ofFn _ g

section
variable {c : Cue} {i : Nat}

/-- A light cue gives a light entry. -/
theorem lightEntry_eq_some {e : LightEntry} :
    lightEntry (c, i) = some e ↔ ∃ a b q f, c.act = .light a b q f ∧ e = ⟨i, c.time, a, b, q, f⟩ := by
  obtain ⟨t, act⟩ := c
  cases act with
  | light a b q f =>
    constructor
    · rintro ⟨⟩
      exact ⟨a, b, q, f, rfl, rfl⟩
    · rintro ⟨_, _, _, _, ⟨⟩, rfl⟩
      rfl
  | _ => exact ⟨nofun, nofun⟩

/-- A clip cue gives a clip entry. -/
theorem clipEntry_eq_some {e : ClipEntry} :
    clipEntry (c, i) = some e ↔ ∃ id o, c.act = .clip id o ∧ e = ⟨i, c.time, id, o⟩ := by
  obtain ⟨t, act⟩ := c
  cases act with
  | clip id o =>
    constructor
    · rintro ⟨⟩
      exact ⟨id, o, rfl, rfl⟩
    · rintro ⟨_, _, ⟨⟩, rfl⟩
      rfl
  | _ => exact ⟨nofun, nofun⟩

/-- A mark or the end gives a mark entry. -/
theorem markEntry_eq_some {e : MarkEntry} : markEntry (c, i) = some e
    ↔ (∃ n, c.act = .mark n ∧ e = ⟨i, c.time, some n⟩) ∨ (c.act = .ended ∧ e = ⟨i, c.time, none⟩) := by
  obtain ⟨t, act⟩ := c
  cases act with
  | mark n =>
    constructor
    · rintro ⟨⟩
      exact .inl ⟨n, rfl, rfl⟩
    · rintro (⟨_, ⟨⟩, rfl⟩ | ⟨⟨⟩, _⟩)
      rfl
  | ended =>
    constructor
    · rintro ⟨⟩
      exact .inr ⟨rfl, rfl⟩
    · rintro (⟨_, ⟨⟩, _⟩ | ⟨_, rfl⟩)
      rfl
  | _ => exact ⟨nofun, nofun⟩

end

section
variable (cues : List Cue)

/-- The light lane stands in cue order. -/
theorem lightLane_inOrder : (cues.zipIdx.filterMap lightEntry).Pairwise fun a b => a.cue < b.cue :=
  lane_inOrder (fun _ _ _ h => by
    obtain ⟨_, _, _, _, _, rfl⟩ := lightEntry_eq_some.mp h
    rfl) cues

/-- The clip lane stands in cue order. -/
theorem clipLane_inOrder : (cues.zipIdx.filterMap clipEntry).Pairwise fun a b => a.cue < b.cue :=
  lane_inOrder (fun _ _ _ h => by
    obtain ⟨_, _, _, rfl⟩ := clipEntry_eq_some.mp h
    rfl) cues

/-- The mark lane stands in cue order. -/
theorem markLane_inOrder : (cues.zipIdx.filterMap markEntry).Pairwise fun a b => a.cue < b.cue :=
  lane_inOrder (fun _ _ _ h => by
    rcases markEntry_eq_some.mp h with ⟨_, _, rfl⟩ | ⟨_, rfl⟩ <;> rfl) cues

/-- The light lane holds the light cues. -/
theorem mem_lightLane (i t a b : Nat) (q : Colour) (f : Nat) :
    (⟨i, t, a, b, q, f⟩ : LightEntry) ∈ cues.zipIdx.filterMap lightEntry ↔ cues[i]? = some ⟨t, .light a b q f⟩ := by
  rw [mem_lane]
  constructor
  · rintro ⟨c, k, at', h⟩
    obtain ⟨_, _, _, _, act, ⟨⟩⟩ := lightEntry_eq_some.mp h
    rw [at', ← act]
  · exact fun at' => ⟨_, i, at', rfl⟩

/-- The clip lane holds the clip cues. -/
theorem mem_clipLane (i t id o : Nat) :
    (⟨i, t, id, o⟩ : ClipEntry) ∈ cues.zipIdx.filterMap clipEntry ↔ cues[i]? = some ⟨t, .clip id o⟩ := by
  rw [mem_lane]
  constructor
  · rintro ⟨c, k, at', h⟩
    obtain ⟨_, _, act, ⟨⟩⟩ := clipEntry_eq_some.mp h
    rw [at', ← act]
  · exact fun at' => ⟨_, i, at', rfl⟩

/-- The mark lane holds the marks. -/
theorem mem_markLane (i t m : Nat) :
    (⟨i, t, some m⟩ : MarkEntry) ∈ cues.zipIdx.filterMap markEntry ↔ cues[i]? = some ⟨t, .mark m⟩ := by
  rw [mem_lane]
  constructor
  · rintro ⟨c, k, at', h⟩
    rcases markEntry_eq_some.mp h with ⟨_, act, ⟨⟩⟩ | ⟨_, ⟨⟩⟩
    rw [at', ← act]
  · exact fun at' => ⟨_, i, at', rfl⟩

/-- The mark lane holds the end. -/
theorem mem_markLane_end (i t : Nat) :
    (⟨i, t, none⟩ : MarkEntry) ∈ cues.zipIdx.filterMap markEntry ↔ cues[i]? = some ⟨t, .ended⟩ := by
  rw [mem_lane]
  constructor
  · rintro ⟨c, k, at', h⟩
    rcases markEntry_eq_some.mp h with ⟨_, _, ⟨⟩⟩ | ⟨act, ⟨⟩⟩
    rw [at', ← act]
  · exact fun at' => ⟨_, i, at', rfl⟩

/-! ## How many entries the lanes hold -/

/-- Whether a cue gives a light entry does not hang on its number. -/
theorem lightLane_length : (cues.zipIdx.filterMap lightEntry).length
    = cues.countP fun c => (lightEntry (c, 0)).isSome :=
  lane_length (fun ⟨_, act⟩ _ => by cases act <;> rfl) cues 0

/-- Whether a cue gives a clip entry does not hang on its number. -/
theorem clipLane_length : (cues.zipIdx.filterMap clipEntry).length
    = cues.countP fun c => (clipEntry (c, 0)).isSome :=
  lane_length (fun ⟨_, act⟩ _ => by cases act <;> rfl) cues 0

/-- Whether a cue gives a mark entry does not hang on its number. -/
theorem markLane_length : (cues.zipIdx.filterMap markEntry).length
    = cues.countP fun c => (markEntry (c, 0)).isSome :=
  lane_length (fun ⟨_, act⟩ _ => by cases act <;> rfl) cues 0

end

/-- Ones summed where a test holds are its count. -/
theorem sum_ones_eq_countP {ι : Type} (l : List ι) (test : ι → Bool) :
    (l.map fun x => if test x = true then 1 else 0).sum = l.countP test := by
  induction l with
  | nil => rfl
  | cons a l ih => rw [List.map_cons, List.sum_cons, ih, List.countP_cons, Nat.add_comm]

/-- The entries that one cue gives the four kinds of lanes. -/
theorem entries_eq (c : Cue) :
    ((List.finRange 24).map fun g => if (jetEntry g (c, 0)).isSome = true then 1 else 0).sum
      + (if (lightEntry (c, 0)).isSome = true then 1 else 0) + (if (clipEntry (c, 0)).isSome = true then 1 else 0)
      + (if (markEntry (c, 0)).isSome = true then 1 else 0) = c.act.entries := by
  rw [sum_ones_eq_countP]
  obtain ⟨t, act⟩ := c
  cases act with
  | jet set h f =>
    have named : ∀ g : Fin 24, (jetEntry g (⟨t, .jet set h f⟩, 0)).isSome = set.getLsbD g.val := fun g => by
      change (if set.getLsbD g.val = true then some _ else none).isSome = _
      cases set.getLsbD g.val <;> rfl
    simp only [named]
    rfl
  | _ => rfl

/-- The lanes hold as many entries as the cues give. -/
theorem lanes_size (cfg : Settings) (cues : List Cue) :
    ((List.finRange 24).map fun g => ((buildLanes cfg cues).jets.get g).entries.length).sum
      + (buildLanes cfg cues).lights.entries.length + (buildLanes cfg cues).clips.entries.length
      + (buildLanes cfg cues).marks.entries.length = (cues.map fun c => c.act.entries).sum := by
  simp only [buildLanes_jets, lightLane_eq, clipLane_eq, markLane_eq, jetLane_length, lightLane_length,
    clipLane_length, markLane_length]
  induction cues with
  | nil => simp
  | cons c rest ih =>
    have one := entries_eq c
    simp only [List.countP_cons, List.map_cons, List.sum_cons, List.sum_map_add]
    omega

/-! ## The statement -/

/-- What the lanes of a cue table hold, and the figures of a load (R22, R23, R25 to R28). -/
theorem rawTimes_iff (cfg : Settings) (l : Lanes) (x : Int) : x ∈ rawTimes cfg l
    ↔ (∃ g : Fin 24, ∃ e ∈ (l.jets.get g).entries, x = e.raw (cfg.groups.get g))
      ∨ ∃ e ∈ l.clips.entries, x = (e.time : Int) - 200 := by
  simp only [rawTimes, prefetchLead, List.mem_append, List.mem_flatMap, List.mem_map, List.mem_finRange, true_and,
    eq_comm (a := x)]

/-- Settles O11. -/
theorem loadedCuesAreInOrder : Obligations.LoadedCuesAreInOrder := by
  refine ⟨recordsOf_getElem?, fun p => ⟨cueActOf_jet, cueActOf_light, cueActOf_clip, cueActOf_mark, cueActOf_ended,
    cueActOf_unknown⟩, fun cfg clips duration records =>
      ⟨fun f i => checkCues_bad_iff records f i, checkCues_good_iff records⟩, ?good, ?lane, ⟨?leads, by decide⟩, ?lanes⟩
  case good =>
    intro cfg clips duration records cues n good
    obtain ⟨fine, rfl, rfl⟩ := fine_of_good good
    refine ⟨List.length_map _, accepted_times fine, fun c hc => ?_, accepted_end fine, fun i p c hp hc => ?_, ?_⟩
    · obtain ⟨p, hp, rfl⟩ := List.mem_map.mp hc
      obtain ⟨i, at'⟩ := List.mem_iff_getElem?.mp hp
      exact (accepted_record fine at').1
    · obtain ⟨_, act, known, accepted⟩ := accepted_record fine hp
      rw [List.getElem?_map, hp] at hc
      cases hc
      refine ⟨rfl, act, known, accepted, ?_⟩
      rw [cueOf_known known]
      cases act <;> simp only [CueAct.clamp, clamp_eq]
    · refine congrArg List.sum (List.map_congr_left fun p hp => ?_)
      obtain ⟨i, at'⟩ := List.mem_iff_getElem?.mp hp
      obtain ⟨_, act, known, _⟩ := accepted_record fine at'
      rw [clampsOf, known]
      cases act <;> rfl
  case lane =>
    intro r g cues lane lead
    refine ⟨jetLane_inOrder r g cues, mem_jetLane r g cues, fun e first => holdBack_first r _ first,
      fun k a b ha hb => ?_, holdBack_inOrder r _ _⟩
    rw [holdBack_next r _ ha hb]
    exact (max_eq_left ((holdBack_least r _ _ a (List.mem_of_getElem? ha)).trans (le_max_right _ _))).symm
  case leads =>
    intro r h rising
    exact ⟨fun p first le => interp_first r.leads p h first (Int.ofNat_le.mpr le),
      fun p last le => interp_last r.leads p h rising last (Int.ofNat_le.mpr le),
      fun i p q hp hq le lt => interp_between r.leads p q i h rising hp hq (Int.ofNat_le.mpr le) (Int.ofNat_lt.mpr lt)⟩
  case lanes =>
    intro cfg cues n l raw isRaw preroll size
    have total : size = (cues.map fun c => c.act.entries).sum := lanes_size cfg cues
    obtain ⟨least, most, covers, one⟩ := prerollOf_spec cfg l
    refine ⟨buildLanes_jets cfg cues, rfl, rfl, rfl, lightLane_inOrder cues, clipLane_inOrder cues,
      markLane_inOrder cues, mem_lightLane cues, mem_clipLane cues, mem_markLane cues, mem_markLane_end cues,
      ⟨least, most, fun x hx => covers x ((rawTimes_iff cfg l x).mpr hx), ?_⟩, ?_, fun i => ?_, ?_⟩
    · exact one.imp_right fun ⟨x, hx, h⟩ => ⟨x, (rawTimes_iff cfg l x).mp hx, h⟩
    · rw [total, laneFullAt_none cues 0 0 (Nat.zero_le _), Nat.zero_add]
    · have := laneFullAt_some cues 0 0 i (Nat.zero_le _)
      rwa [Nat.zero_add, Nat.zero_add, Nat.zero_add] at this
    · rw [total, loadCounts]
      simp only [overtakenIn_eq]
      rfl

end Sys2Proof.Machine
end

section
/-! What the records that SAVE_SETTINGS writes are read back as (R173, R175, R193). -/

namespace Sys2Proof.Machine

/-! ## Fields behind others -/

section
variable {p q : List Byte} {n : Nat} (shift : ∀ i, u8 p (n + i) = u8 q i)
include shift

/-- A two-byte number behind other fields. -/
theorem u16_shift (i : Nat) : u16 p (n + i) = u16 q i := by
  rw [u16, Nat.add_assoc, shift, shift, u16]

/-- A four-byte number behind other fields. -/
theorem u32_shift (i : Nat) : u32 p (n + i) = u32 q i := by
  rw [u32, Nat.add_assoc, u16_shift shift, u16_shift shift, u32]

end

/-- A field behind others whose length is known. -/
theorem u8_behind {l m : List Byte} {n : Nat} (len : l.length = n) (i : Nat) : u8 (l ++ m) (n + i) = u8 m i := by
  rw [← len, u8_append]

/-- A field before others. -/
theorem u8_before {l m : List Byte} {i : Nat} (h : i < l.length) : u8 (l ++ m) i = u8 l i := by
  simp [u8, List.getD_eq_getElem?_getD, List.getElem?_append_left h]

/-- A field of one block of a run of blocks of equal length. -/
theorem u8_flatMap {α : Type} {f : α → List Byte} {k : Nat} (len : ∀ a, (f a).length = k) {l : List α} {i : Nat} {a : α}
    (at' : l[i]? = some a) {j : Nat} (h : j < k) (rest : List Byte) :
    u8 (l.flatMap f ++ rest) (k * i + j) = u8 (f a) j := by
  induction l generalizing i with
  | nil => cases at'
  | cons b l ih =>
    rw [List.flatMap_cons, List.append_assoc]
    cases i with
    | zero =>
      cases at'
      rw [Nat.mul_zero, Nat.zero_add]
      exact u8_before (by rw [len]; exact h)
    | succ i =>
      rw [Nat.mul_succ, Nat.add_comm (k * i), Nat.add_assoc, u8_behind (len b)]
      exact ih at'

/-- A byte holds a number below 256. -/
theorem toNat_byte {n : Nat} (h : n < 256) : (BitVec.ofNat 8 n).toNat = n := Nat.mod_eq_of_lt h

/-! ## Runs of two-byte numbers -/

/-- Two-byte numbers written one behind another are read back. -/
theorem numbers_readBack {l : List Nat} {head rest : List Byte} {pos n : Nat} (start : head.length = pos)
    (count : l.length = n) (small : ∀ x ∈ l, x < 65536) :
    ((List.range n).map fun i => u16 (head ++ (l.flatMap byte2 ++ rest)) (pos + 2 * i)) = l := by
  refine List.ext_getElem? fun i => ?_
  by_cases h : i < l.length
  · have at' : l[i]? = some l[i] := List.getElem?_eq_getElem h
    have two : ∀ n, (byte2 n).length = 2 := fun _ => rfl
    rw [List.getElem?_map, List.getElem?_range (by omega), at']
    refine congrArg some ?_
    dsimp only
    have low := u8_flatMap (j := 0) two at' (by decide) rest
    have high := u8_flatMap (j := 1) two at' (by decide) rest
    rw [Nat.add_zero] at low
    rw [u16_shift (u8_behind start), u16, low, high]
    have := small _ (List.getElem_mem h)
    simp [u8, byte2]
    omega
  · rw [List.getElem?_eq_none (by simp; omega), List.getElem?_eq_none (by omega)]

/-! ## Points -/

/-- The four bytes of position i of a point table. -/
def pointBlock (pts : List Point) (pos : Nat) (unused : Nat → Byte) (i : Nat) : List Byte :=
  match pts[i]? with
  | some q => byte2 q.h ++ byte2 q.v
  | none => (List.range 4).map fun j => unused (pos + 4 * i + j)

/-- A point table is its blocks. -/
theorem pointBytes_blocks (pts : List Point) (pos n : Nat) (unused : Nat → Byte) :
    pointBytes pts pos n unused = (List.range n).flatMap (pointBlock pts pos unused) := rfl

/-- Every block has four bytes. -/
theorem pointBlock_length (pts : List Point) (pos : Nat) (unused : Nat → Byte) (i : Nat) :
    (pointBlock pts pos unused i).length = 4 := by
  unfold pointBlock
  split
  · rfl
  · simp

/-- The block of a point. -/
theorem pointBlock_some {pts : List Point} {i : Nat} {x : Point} (h : pts[i]? = some x) (pos : Nat) (unused : Nat → Byte) :
    pointBlock pts pos unused i = byte2 x.h ++ byte2 x.v := by rw [pointBlock, h]

/-- Points written into a table of n positions are read back. -/
theorem points_readBack {pts : List Point} {head rest : List Byte} {pos n : Nat} (at' : Nat) (unused : Nat → Byte)
    (start : head.length = pos) (fits : pts.length ≤ n)
    (small : ∀ (i : Nat) (x : Point), pts[i]? = some x → x.h < 65536 ∧ x.v < 65536) :
    pts = pointsAt (head ++ (pointBytes pts at' n unused ++ rest)) pos pts.length := by
  refine (eq_pointsAt_iff _ _ _ _).mpr ⟨rfl, fun i x hx => ?_⟩
  obtain ⟨lt, _⟩ := List.getElem?_eq_some_iff.mp hx
  obtain ⟨height, value⟩ := small i x hx
  have position : (List.range n)[i]? = some i := List.getElem?_range (by omega)
  have block : ∀ j, j < 4 → u8 (pointBytes pts at' n unused ++ rest) (4 * i + j) = u8 (byte2 x.h ++ byte2 x.v) j := by
    intro j lt4
    rw [pointBytes_blocks, u8_flatMap (pointBlock_length pts at' unused) position lt4, pointBlock_some hx]
  obtain ⟨h, v⟩ := x
  have first := block 0 (by decide)
  rw [Nat.add_zero] at first
  rw [Nat.add_assoc, u16_shift (u8_behind start), u16_shift (u8_behind start), u16, u16, first, block 1 (by decide),
    block 2 (by decide), Nat.add_assoc, block 3 (by decide)]
  exact congrArg₂ Point.mk (u16_byte2 h (byte2 v) height).symm (u16_byte2 v [] value).symm

/-! ## The records of the nine tables -/

/-- Level settings are read back. -/
theorem levelOf_bytes {l : LevelSettings} (ok : l.ok = true) : levelOf l.bytes = some l := by
  obtain ⟨span, low, dry, cap⟩ := l
  have bounds := ok
  simp only [LevelSettings.ok, Bool.and_eq_true, within_iff, decide_eq_true_eq] at bounds
  have hspan : u16 (LevelSettings.bytes ⟨span, low, dry, cap⟩) 0 = span := by
    simp [LevelSettings.bytes, u16, u8, byte2]; omega
  have hlow : u16 (LevelSettings.bytes ⟨span, low, dry, cap⟩) 2 = low := by
    simp [LevelSettings.bytes, u16, u8, byte2]; omega
  have hdry : u16 (LevelSettings.bytes ⟨span, low, dry, cap⟩) 4 = dry := by
    simp [LevelSettings.bytes, u16, u8, byte2]; omega
  have hcap : u16 (LevelSettings.bytes ⟨span, low, dry, cap⟩) 6 = cap := by
    simp [LevelSettings.bytes, u16, u8, byte2]; omega
  rw [levelOf, hspan, hlow, hdry, hcap]
  exact if_pos ok

/-- Feeder settings are read back. -/
theorem feederOf_bytes {f : FeederSettings} (ok : f.ok = true) : feederOf f.bytes = some f := by
  obtain ⟨budget, share⟩ := f
  have bounds := ok
  simp only [FeederSettings.ok, Bool.and_eq_true, decide_eq_true_eq] at bounds
  have hbudget : u32 (FeederSettings.bytes ⟨budget, share⟩) 0 = budget := by
    simp [FeederSettings.bytes, u32, u16, u8, byte2, byte4]; omega
  have hshare : u16 (FeederSettings.bytes ⟨budget, share⟩) 4 = share := by
    simp [FeederSettings.bytes, u16, u8, byte2, byte4]; omega
  rw [feederOf, hbudget, hshare]
  exact if_pos ok

/-- A channel's limit and hold are read back. -/
theorem counterOf_bytes (i : Fin 27) {k : CounterSettings} (ok : k.ok = true) : counterOf (k.bytes i) = some k := by
  obtain ⟨limit, hold⟩ := k
  have bounds := ok
  simp only [CounterSettings.ok, Bool.and_eq_true, within_iff, decide_eq_true_eq] at bounds
  have hlimit : u8 (CounterSettings.bytes i ⟨limit, hold⟩) 1 = limit := toNat_byte (n := limit) (by omega)
  have hhold : u8 (CounterSettings.bytes i ⟨limit, hold⟩) 2 = hold := toNat_byte (n := hold) (by omega)
  rw [counterOf, hlimit, hhold]
  exact if_pos ok

/-- The window is read back. -/
theorem windowOf_bytes {w : Nat} (ok : 1 ≤ w ∧ w ≤ 10) : windowOf (byte1 w) = some w := by
  have value : u8 (byte1 w) 0 = w := toNat_byte (by omega)
  rw [windowOf_eq, value, if_pos ok]

/-- Show options are read back. -/
theorem optionsOf_bytes {o : ShowOptions} (ok : o.ok = true) : optionsOf o.bytes = some o := by
  obtain ⟨gain, clip, gap, fade⟩ := o
  have bounds := ok
  simp only [ShowOptions.ok, Bool.and_eq_true, decide_eq_true_eq] at bounds
  have hgain : u16 (ShowOptions.bytes ⟨gain, clip, gap, fade⟩) 0 = gain := by
    simp [ShowOptions.bytes, u16, u8, byte1, byte2]; omega
  have hclip : u8 (ShowOptions.bytes ⟨gain, clip, gap, fade⟩) 2 = clip := toNat_byte (n := clip) (by omega)
  have hgap : u8 (ShowOptions.bytes ⟨gain, clip, gap, fade⟩) 3 = gap := toNat_byte (n := gap) (by omega)
  have hfade : u16 (ShowOptions.bytes ⟨gain, clip, gap, fade⟩) 4 = fade := by
    simp [ShowOptions.bytes, u16, u8, byte1, byte2]; omega
  rw [optionsOf, hgain, hclip, hgap, hfade]
  exact if_pos ok

/-- A zone's record is read back. -/
theorem zoneOf_bytes (i : Fin 4) {z : ZoneRecord} (ok : z.ok = true) : zoneOf (z.bytes i) = some z := by
  obtain ⟨source, gain, delay⟩ := z
  have bounds := ok
  simp only [ZoneRecord.ok, Bool.and_eq_true, decide_eq_true_eq] at bounds
  have hsource : u8 (ZoneRecord.bytes i ⟨source, gain, delay⟩) 1 = source.code := by cases source <;> rfl
  have hgain : gain = u16 (ZoneRecord.bytes i ⟨source, gain, delay⟩) 2 := by
    simp [ZoneRecord.bytes, u16, u8, byte1, byte2]; omega
  have hdelay : delay = u8 (ZoneRecord.bytes i ⟨source, gain, delay⟩) 4 := (toNat_byte (n := delay) (by omega)).symm
  exact (zoneOf_iff _ _).mpr ⟨hsource, hgain, bounds.1, hdelay, bounds.2⟩

/-- A fixture's record is read back. -/
theorem fixtureOf_bytes (f : Fin 96) {r : FixtureRecord} (ok : r.ok = true) : fixtureOf (r.bytes f) = some r := by
  obtain ⟨base, bound, rated, dryCap, dryGrace, house, rescue⟩ := r
  have bounds := ok
  simp only [FixtureRecord.ok, Bool.and_eq_true, decide_eq_true_eq] at bounds
  obtain ⟨⟨hbase, hrated⟩, hgrace⟩ := bounds
  refine (fixtureOf_iff _ _).mpr ⟨?_, hbase, fun g hg => ?_, fun hn => ?_, ?_, hrated, rfl, ?_, hgrace, rfl, rfl⟩
  · simp [FixtureRecord.bytes, u16, u8, byte1, byte2]; omega
  · dsimp only at hg
    subst hg
    exact toNat_byte (n := g.val) (by omega)
  · dsimp only at hn
    subst hn
    rfl
  · simp [FixtureRecord.bytes, u16, u8, byte1, byte2]; omega
  · simp [FixtureRecord.bytes, u16, u8, byte1, byte2]; omega

/-- Wind settings are read back. -/
theorem windOf_bytes {w : WindSettings} (ok : w.ok = true) : windOf w.bytes = some w := by
  obtain ⟨factor, plausible, still, thresholds, hysteresis, hold, derate⟩ := w
  have bounds := ok
  simp only [WindSettings.ok, Bool.and_eq_true, within_iff, decide_eq_true_eq, List.all_eq_true] at bounds
  obtain ⟨⟨⟨⟨⟨⟨⟨⟨⟨⟨⟨hf, hp⟩, hs⟩, tl⟩, tin⟩, hh⟩, hc⟩, dl⟩, din⟩, -⟩, -⟩, -⟩ := bounds
  have two : ∀ n, (byte2 n).length = 2 := fun _ => rfl
  have first : WindSettings.bytes ⟨factor, plausible, still, thresholds, hysteresis, hold, derate⟩
      = (byte2 factor ++ byte2 plausible ++ byte2 still) ++ (thresholds.flatMap byte2
        ++ (byte1 hysteresis ++ byte2 hold ++ derate.flatMap byte2)) := by
    simp only [WindSettings.bytes, List.append_assoc]
  have second : WindSettings.bytes ⟨factor, plausible, still, thresholds, hysteresis, hold, derate⟩
      = (byte2 factor ++ byte2 plausible ++ byte2 still ++ thresholds.flatMap byte2 ++ byte1 hysteresis ++ byte2 hold)
        ++ (derate.flatMap byte2 ++ []) := by
    simp only [WindSettings.bytes, List.append_assoc, List.append_nil]
  have middle : ∀ i, u8 (WindSettings.bytes ⟨factor, plausible, still, thresholds, hysteresis, hold, derate⟩) (20 + i)
      = u8 (byte1 hysteresis ++ byte2 hold ++ derate.flatMap byte2) i := by
    intro i
    rw [first, ← List.append_assoc]
    exact u8_behind (by rw [List.length_append, length_flatMap_const two, tl]; rfl) i
  have hfactor : u16 (WindSettings.bytes ⟨factor, plausible, still, thresholds, hysteresis, hold, derate⟩) 0 = factor := by
    simp [WindSettings.bytes, u16, u8, byte2]; omega
  have hplausible : u16 (WindSettings.bytes ⟨factor, plausible, still, thresholds, hysteresis, hold, derate⟩) 2
      = plausible := by
    simp [WindSettings.bytes, u16, u8, byte2]; omega
  have hstill : u16 (WindSettings.bytes ⟨factor, plausible, still, thresholds, hysteresis, hold, derate⟩) 4 = still := by
    simp [WindSettings.bytes, u16, u8, byte2]; omega
  have hhyst : u8 (WindSettings.bytes ⟨factor, plausible, still, thresholds, hysteresis, hold, derate⟩) 20
      = hysteresis := (middle 0).trans (toNat_byte (n := hysteresis) (by omega))
  have hhold : u16 (WindSettings.bytes ⟨factor, plausible, still, thresholds, hysteresis, hold, derate⟩) 21 = hold := by
    rw [u16_shift (n := 20) middle 1]
    simp [u16, u8, byte1, byte2]
    omega
  have hthresholds := numbers_readBack (head := byte2 factor ++ byte2 plausible ++ byte2 still)
    (rest := byte1 hysteresis ++ byte2 hold ++ derate.flatMap byte2) rfl tl fun x hx => by
      have := tin x hx
      omega
  have hderate := numbers_readBack (rest := []) (pos := 23) (head := byte2 factor ++ byte2 plausible ++ byte2 still
    ++ thresholds.flatMap byte2 ++ byte1 hysteresis ++ byte2 hold)
    (by simp only [List.length_append, length_flatMap_const two, tl]; rfl) dl fun x hx => by
      have := din x hx
      omega
  rw [← first] at hthresholds
  rw [← second] at hderate
  unfold windOf
  rw [hfactor, hplausible, hstill, hhyst, hhold]
  refine (congrArg₂ (fun a b => if WindSettings.ok ⟨factor, plausible, still, a, hysteresis, hold, b⟩ = true then
    some (⟨factor, plausible, still, a, hysteresis, hold, b⟩ : WindSettings) else none) hthresholds hderate).trans ?_
  exact if_pos ok

end Sys2Proof.Machine
end

section
/-! What a stored group record is read back as, and the records of a settings image (R173, R175). -/

namespace Sys2Proof.Machine

/-! ## Group records -/

/-- The fields of a group record before its curve. -/
def groupHead (g : Fin 24) (r : GroupRecord) : List Byte :=
  byte1 g.val ++ byteYes r.configured ++ byte1 r.address ++ byte1 r.curve.length

/-- The fields of a group record behind its leads. -/
def groupTail (r : GroupRecord) : List Byte :=
  byte2 r.offLead ++ byte2 r.maxHeight ++ byte4 r.rated ++ byte1 r.exposure ++ byte2 r.rampUp ++ byte2 r.rampDown
    ++ byte2 r.closeSpeed ++ byte2 r.wetSpeed ++ byte2 r.stroke

section
variable (g : Fin 24) (r : GroupRecord) (unused : Nat → Byte)

/-- A group record by its parts, seen from its curve. -/
theorem groupBytes_curve : r.bytes g unused = groupHead g r ++ (pointBytes r.curve 4 6 unused
    ++ (byte1 r.leads.length ++ pointBytes r.leads 29 4 unused ++ groupTail r)) := by
  simp only [GroupRecord.bytes, groupHead, groupTail, List.append_assoc]

/-- A group record by its parts, seen from its leads. -/
theorem groupBytes_leads : r.bytes g unused = (groupHead g r ++ pointBytes r.curve 4 6 unused ++ byte1 r.leads.length)
    ++ (pointBytes r.leads 29 4 unused ++ groupTail r) := by
  simp only [GroupRecord.bytes, groupHead, groupTail, List.append_assoc]

/-- The fields before the curve. -/
theorem group_head {i : Nat} (h : i < 4) : u8 (r.bytes g unused) i = u8 (groupHead g r) i := by
  rw [groupBytes_curve]
  exact u8_before h

/-- The number of leads stands behind the curve. -/
theorem group_count : u8 (r.bytes g unused) 28 = u8 (byte1 r.leads.length) 0 := by
  have start : (groupHead g r ++ pointBytes r.curve 4 6 unused).length = 28 := by
    rw [List.length_append, pointBytes_length]
    rfl
  rw [groupBytes_leads, List.append_assoc (groupHead g r ++ _)]
  exact u8_behind start 0

/-- The fields behind the leads. -/
theorem group_tail (i : Nat) : u8 (r.bytes g unused) (45 + i) = u8 (groupTail r) i := by
  have start : (groupHead g r ++ pointBytes r.curve 4 6 unused ++ byte1 r.leads.length
      ++ pointBytes r.leads 29 4 unused).length = 45 := by
    rw [List.length_append, List.length_append, List.length_append, pointBytes_length, pointBytes_length]
    rfl
  rw [groupBytes_leads, ← List.append_assoc]
  exact u8_behind start i

end

/-- The fields behind the leads are read back. -/
theorem groupTail_reads {r : GroupRecord} (offLead : r.offLead < 65536) (height : r.maxHeight < 65536)
    (rated : r.rated < 4294967296) (exposure : r.exposure < 256) (up : r.rampUp < 65536) (down : r.rampDown < 65536)
    (close : r.closeSpeed < 65536) (wet : r.wetSpeed < 65536) (stroke : r.stroke < 65536) :
    u16 (groupTail r) 0 = r.offLead ∧ u16 (groupTail r) 2 = r.maxHeight ∧ u32 (groupTail r) 4 = r.rated
      ∧ u8 (groupTail r) 8 = r.exposure ∧ u16 (groupTail r) 9 = r.rampUp ∧ u16 (groupTail r) 11 = r.rampDown
      ∧ u16 (groupTail r) 13 = r.closeSpeed ∧ u16 (groupTail r) 15 = r.wetSpeed ∧ u16 (groupTail r) 17 = r.stroke :=
  let behind (n : Nat) := (groupTail r).drop n
  ⟨u16_byte2 _ (behind 2) offLead, u16_byte2 _ (behind 4) height, u32_byte4 _ (behind 8) rated,
    u8_byte1 _ (behind 9) exposure, u16_byte2 _ (behind 11) up, u16_byte2 _ (behind 13) down,
    u16_byte2 _ (behind 15) close, u16_byte2 _ (behind 17) wet, u16_byte2 _ [] stroke⟩

/-- A group's record is read back. -/
theorem groupOf_bytes (g : Fin 24) (unused : Nat → Byte) {r : GroupRecord} (ok : r.ok = true) :
    groupOf (r.bytes g unused) = some r := by
  have bounds := ok
  simp only [GroupRecord.ok, Bool.and_eq_true, within_iff, decide_eq_true_eq, curveOk_iff, leadsOk_iff] at bounds
  obtain ⟨⟨⟨⟨⟨⟨⟨⟨⟨⟨⟨address, curveLen, curveIn, -⟩, leadsLen, leadsIn, -⟩, offLead⟩, height⟩, rated⟩, exposure⟩, up⟩,
    down⟩, close⟩, wet⟩, stroke⟩ := bounds
  obtain ⟨offLead', height', rated', exposure', up', down', close', wet', stroke'⟩ := groupTail_reads (r := r)
    (by omega) (by omega) (by omega) (by omega) (by omega) (by omega) (by omega) (by omega) (by omega)
  have tail16 := fun i => u16_shift (group_tail g r unused) i
  have count : u8 (r.bytes g unused) 3 = r.curve.length :=
    (group_head g r unused (by decide)).trans (toNat_byte (n := r.curve.length) (by omega))
  have counted : u8 (r.bytes g unused) 28 = r.leads.length :=
    (group_count g r unused).trans (toNat_byte (n := r.leads.length) (by omega))
  have curve : r.curve = pointsAt (r.bytes g unused) 4 r.curve.length := by
    rw [groupBytes_curve]
    refine points_readBack 4 unused rfl curveLen.2 fun i x hx => ?_
    have := curveIn i x hx
    omega
  have leads : r.leads = pointsAt (r.bytes g unused) 29 r.leads.length := by
    rw [groupBytes_leads]
    refine points_readBack 29 unused ?_ leadsLen.2 fun i x hx => ?_
    · rw [List.length_append, List.length_append, pointBytes_length]
      rfl
    · have := leadsIn i x hx
      omega
  have configured : u8 (r.bytes g unused) 1 = if r.configured = true then 1 else 0 := by
    rw [group_head g r unused (by decide)]
    change ((if r.configured = true then (1 : Byte) else 0)).toNat = _
    split <;> rfl
  have addressed : u8 (r.bytes g unused) 2 = r.address :=
    (group_head g r unused (by decide)).trans (toNat_byte (n := r.address) (by omega))
  unfold groupOf
  rw [count, counted, ← curve, ← leads, configured, addressed, (tail16 0).trans offLead', (tail16 2).trans height',
    (u32_shift (group_tail g r unused) 4).trans rated', (group_tail g r unused 8).trans exposure', (tail16 9).trans up',
    (tail16 11).trans down', (tail16 13).trans close', (tail16 15).trans wet', (tail16 17).trans stroke']
  have flag : decide ((if r.configured = true then 1 else 0) = 1) = r.configured := by cases r.configured <;> rfl
  have small : (if r.configured = true then 1 else 0) ≤ 1 := by split <;> decide
  rw [flag]
  exact if_pos ⟨small, (within_iff _ _ _).mpr curveLen, (within_iff _ _ _).mpr leadsLen, ok⟩

/-! ## The records of an image -/

/-- The records that SAVE_SETTINGS writes, in order. -/
def Settings.records (c : Settings) (unused : Nat → Byte) : List ImageRecord :=
  ((List.finRange 24).map fun g => ⟨1, g.val, GroupRecord.bytes g (c.groups.get g) fun i => unused (64 * g.val + i)⟩)
    ++ ((List.finRange 96).map fun f => ⟨2, f.val, FixtureRecord.bytes f (c.fixtures.get f)⟩)
    ++ ((List.finRange 4).map fun z => ⟨3, z.val, ZoneRecord.bytes z (c.zones.get z)⟩)
    ++ [⟨4, 0, c.wind.bytes⟩, ⟨5, 0, c.level.bytes⟩, ⟨6, 0, c.feeder.bytes⟩]
    ++ ((List.finRange 27).map fun i => ⟨7, i.val, CounterSettings.bytes i (c.counters.get i)⟩)
    ++ [⟨8, 0, byte1 c.window⟩, ⟨9, 0, c.options.bytes⟩]

/-- The bytes of a list of records. -/
def listedRecords (rs : List ImageRecord) : List Byte := rs.flatMap fun r => recordBytes r.table r.index r.content

/-- The bytes that SAVE_SETTINGS writes are its records'. -/
theorem recordBytes_eq (c : Settings) (unused : Nat → Byte) : c.recordBytes unused = listedRecords (c.records unused) := by
  simp only [Settings.recordBytes, listedRecords, Settings.records, List.flatMap_append, List.flatMap_map,
    List.flatMap_cons, List.flatMap_nil, List.append_nil, List.append_assoc]

/-- The tables of an image: id, content length, count (11 section 11.8). -/
def imageTables : List (Nat × Nat × Nat) :=
  [(1, 64, 24), (2, 17, 96), (3, 5, 4), (4, 87, 1), (5, 8, 1), (6, 6, 1), (7, 3, 27), (8, 1, 1), (9, 6, 1)]

/-- A table is known when the list has it. -/
theorem imageTable_iff (table len count : Nat) :
    imageTable table = some (len, count) ↔ (table, len, count) ∈ imageTables := by
  constructor
  · intro h
    unfold imageTable at h
    split at h <;> cases h <;> decide
  · intro h
    simp only [imageTables, List.mem_cons, Prod.mk.injEq, List.not_mem_nil, or_false] at h
    rcases h with ⟨rfl, rfl, rfl⟩ | ⟨rfl, rfl, rfl⟩ | ⟨rfl, rfl, rfl⟩ | ⟨rfl, rfl, rfl⟩ | ⟨rfl, rfl, rfl⟩
      | ⟨rfl, rfl, rfl⟩ | ⟨rfl, rfl, rfl⟩ | ⟨rfl, rfl, rfl⟩ | ⟨rfl, rfl, rfl⟩ <;> rfl

/-- The tables and indices of the records, in order. -/
theorem records_keys (c : Settings) (unused : Nat → Byte) :
    (c.records unused).map (fun r => (r.table, r.index))
      = imageTables.flatMap fun x => (List.range x.2.2).map fun i => (x.1, i) := by
  simp only [Settings.records, List.map_append, List.map_map, Function.comp_def, List.map_cons, List.map_nil]
  rfl

end Sys2Proof.Machine
end

section
/-! How an image is read and judged (R173, R175, R193; log entry 58). -/

namespace Sys2Proof.Machine

/-! ## Known records -/

/-- A record that a load knows: its table, its length and its index are the table's, and the number its content names is its
index. -/
def ImageRecord.Known (r : ImageRecord) : Prop :=
  ∃ count, (r.table, r.content.length, count) ∈ imageTables ∧ r.index < count
    ∧ (r.table = 1 ∨ r.table = 2 ∨ r.table = 3 ∨ r.table = 7 → u8 r.content 0 = r.index)

/-- The tables are small. -/
theorem imageTables_bounds {table len count : Nat} (h : (table, len, count) ∈ imageTables) :
    1 ≤ table ∧ table < 256 ∧ len < 65536 ∧ count ≤ 256 := by
  have all : ∀ x ∈ imageTables, 1 ≤ x.1 ∧ x.1 < 256 ∧ x.2.1 < 65536 ∧ x.2.2 ≤ 256 := by decide
  exact all _ h

/-- What a load asks of an index. -/
theorem indexOk_iff (table index count : Nat) (content : List Byte) : indexOk table index count content = true
    ↔ index < count ∧ (table = 1 ∨ table = 2 ∨ table = 3 ∨ table = 7 → u8 content 0 = index) := by
  rw [indexOk, Bool.and_eq_true, decide_eq_true_eq, Bool.or_eq_true, Bool.not_eq_true', decide_eq_false_iff_not,
    decide_eq_true_eq, ← imp_iff_not_or]
  simp only [List.mem_cons, List.not_mem_nil, or_false]

/-- A known record by the load's own tests. -/
theorem known_iff (r : ImageRecord) : r.Known ↔
    ∃ count, imageTable r.table = some (r.content.length, count) ∧ indexOk r.table r.index count r.content = true := by
  simp only [ImageRecord.Known, imageTable_iff, indexOk_iff]

/-! ## Reading -/

/-- Known records are read whole, and the reading goes on behind them. -/
theorem readRecords_listed (rs : List ImageRecord) (known : ∀ r ∈ rs, r.Known) (fuel used : Nat) (rest : List Byte)
    (acc : List ImageRecord) :
    readRecords (fuel + rs.length) (listedRecords rs ++ rest) used acc
      = readRecords fuel rest (used + (listedRecords rs).length) (rs.reverse ++ acc) := by
  induction rs generalizing used acc with
  | nil => rfl
  | cons r rs ih =>
    obtain ⟨here, others⟩ := List.forall_mem_cons.mp known
    obtain ⟨count, table, suits⟩ := (known_iff r).mp here
    obtain ⟨-, small, short, least⟩ := imageTables_bounds ((imageTable_iff _ _ _).mp table)
    have index := ((indexOk_iff _ _ _ _).mp suits).1
    have bytes : listedRecords (r :: rs) = recordBytes r.table r.index r.content ++ listedRecords rs := List.flatMap_cons ..
    rw [bytes, List.append_assoc, List.length_cons, ← Nat.add_assoc,
      readRecords_record _ _ _ _ _ _ _ _ table short suits ⟨small, by omega⟩, ih others, List.length_append,
      recordBytes_length, List.reverse_cons, List.append_assoc]
    exact congrArg (fun n => readRecords fuel rest n _) (by omega)

/-- Records take at least a byte each. -/
theorem listedRecords_length (rs : List ImageRecord) : rs.length ≤ (listedRecords rs).length := by
  induction rs with
  | nil => exact Nat.le_refl 0
  | cons r rs ih =>
    have bytes : listedRecords (r :: rs) = recordBytes r.table r.index r.content ++ listedRecords rs := List.flatMap_cons ..
    rw [bytes, List.length_append, recordBytes_length, List.length_cons]
    omega

section
variable {fuel used : Nat} {rest : List Byte} {acc : List ImageRecord}

/-- Less than a record's four first bytes: more are needed. -/
theorem readRecords_short (short : rest.length < 4) : readRecords (fuel + 1) rest used acc = .more := by
  rw [readRecords, if_pos short]

/-- The end record ends the reading. -/
theorem readRecords_end (long : 4 ≤ rest.length) (ended : u8 rest 0 = 0 ∧ u8 rest 1 = 0 ∧ u16 rest 2 = 0) :
    readRecords (fuel + 1) rest used acc = .records acc.reverse (used + 4) := by
  rw [readRecords, if_neg (Nat.not_lt.mpr long)]
  exact if_pos ended

/-- A record of an unknown table or length is damage. -/
theorem readRecords_unknown (long : 4 ≤ rest.length) (goesOn : ¬(u8 rest 0 = 0 ∧ u8 rest 1 = 0 ∧ u16 rest 2 = 0))
    (unknown : ∀ count, (u8 rest 0, u16 rest 2, count) ∉ imageTables) :
    readRecords (fuel + 1) rest used acc = .bad := by
  rw [readRecords, if_neg (Nat.not_lt.mpr long)]
  dsimp only
  rw [if_neg goesOn]
  cases table : imageTable (u8 rest 0) with
  | none => rfl
  | some x =>
    obtain ⟨len, count⟩ := x
    have other : u16 rest 2 ≠ len := by
      rintro rfl
      exact unknown count ((imageTable_iff _ _ _).mp table)
    exact if_pos other

/-- A record of a known table and length whose content is not all there: more bytes are needed; one whose index or number does
not suit is damage. -/
theorem readRecords_table {count : Nat} (long : 4 ≤ rest.length)
    (goesOn : ¬(u8 rest 0 = 0 ∧ u8 rest 1 = 0 ∧ u16 rest 2 = 0))
    (table : (u8 rest 0, u16 rest 2, count) ∈ imageTables) :
    (rest.length < 4 + u16 rest 2 → readRecords (fuel + 1) rest used acc = .more)
    ∧ (4 + u16 rest 2 ≤ rest.length →
      indexOk (u8 rest 0) (u8 rest 1) count ((rest.drop 4).take (u16 rest 2)) = false →
      readRecords (fuel + 1) rest used acc = .bad) := by
  rw [readRecords, if_neg (Nat.not_lt.mpr long)]
  dsimp only
  rw [if_neg goesOn, (imageTable_iff _ _ _).mpr table]
  dsimp only
  rw [if_neg (not_not.mpr rfl)]
  refine ⟨fun short => if_pos short, fun whole bad => ?_⟩
  rw [if_neg (Nat.not_lt.mpr whole), bad]
  rfl

end

/-! ## Judging -/

/-- What a judgement makes of the records read. -/
def judgeRead (bytes : List Byte) (r : ImageRead) : Judged :=
  let short := if Region.size .settings ≤ bytes.length then judgedBad else .more
  match r with
  | .more => short
  | .bad => judgedBad
  | .records rs used =>
      if bytes.length < used + 4 then short
      else if u32 bytes used ≠ (crc32 (bytes.take used)).toNat then judgedBad
      else if noDuplicates rs = false then judgedBad
      else
        match Settings.default.takeRecords rs with
        | none => judgedBad
        | some c => if c.consistent = true then .found .loaded c else judgedBad

/-- Four bytes of 0xFF are BLANK. -/
theorem judgeImage_blank {bytes : List Byte} (h : bytes.take 4 = List.replicate 4 0xFF) :
    judgeImage bytes = .found .blank Settings.default := by
  rw [judgeImage, h]
  exact if_pos rfl

/-- Four bytes that are not all 0xFF go on to the header word. -/
theorem not_blank {bytes : List Byte} (long : 4 ≤ bytes.length) (h : bytes.take 4 ≠ List.replicate 4 0xFF) :
    ¬(bytes.take 4).all (fun b => decide (b = 0xFF)) = true := fun all => h <| by
  refine List.eq_replicate_iff.mpr ⟨by rw [List.length_take]; omega, fun b hb => ?_⟩
  exact of_decide_eq_true (List.all_eq_true.mp all b hb)

/-- Another header word is BAD. -/
theorem judgeImage_foreign {bytes : List Byte} (long : 4 ≤ bytes.length) (used : bytes.take 4 ≠ List.replicate 4 0xFF)
    (h : bytes.take 4 ≠ imageHeader) : judgeImage bytes = judgedBad := by
  rw [judgeImage, if_neg (not_blank long used), if_pos h]

/-- Behind the header word the records decide. -/
theorem judgeImage_header (bytes : List Byte) : judgeImage (imageHeader ++ bytes)
    = judgeRead (imageHeader ++ bytes) (readRecords (imageHeader ++ bytes).length bytes 4 []) := by
  have first : (imageHeader ++ bytes).take 4 = imageHeader := rfl
  rw [judgeImage, first, if_neg (by decide), if_neg (not_not.mpr rfl)]
  rfl

/-- An image of known records is judged by what stands behind them. -/
theorem judgeImage_listed (rs : List ImageRecord) (known : ∀ r ∈ rs, r.Known) (rest : List Byte) :
    ∃ fuel, judgeImage (imageHeader ++ listedRecords rs ++ rest) = judgeRead (imageHeader ++ listedRecords rs ++ rest)
      (readRecords (fuel + 1) rest (imageHeader ++ listedRecords rs).length rs.reverse) := by
  have four : imageHeader.length = 4 := rfl
  have least := listedRecords_length rs
  refine ⟨3 + (listedRecords rs).length - rs.length + rest.length, ?_⟩
  have fuel : (imageHeader ++ (listedRecords rs ++ rest)).length
      = 3 + (listedRecords rs).length - rs.length + rest.length + 1 + rs.length := by
    rw [List.length_append, List.length_append, four]
    omega
  rw [List.append_assoc, judgeImage_header, fuel, readRecords_listed rs known, List.append_nil, List.length_append, four]

/-- Two records of one table and index: none. -/
theorem noDuplicates_iff (rs : List ImageRecord) :
    noDuplicates rs = true ↔ rs.Pairwise fun a b => ¬(a.table = b.table ∧ a.index = b.index) := by
  induction rs with
  | nil => exact ⟨fun _ => List.Pairwise.nil, fun _ => rfl⟩
  | cons r rs ih =>
    rw [noDuplicates, Bool.and_eq_true, ih, List.pairwise_cons, List.all_eq_true]
    refine and_congr_left' (forall₂_congr fun q _ => ?_)
    rw [Bool.not_eq_true', Bool.and_eq_false_iff, decide_eq_false_iff_not, decide_eq_false_iff_not, not_and_or,
      eq_comm (a := q.table), eq_comm (a := q.index)]

/-- The records that an image's check values and the settings they give accept. -/
def ReadAccepts (bytes : List Byte) (rs : List ImageRecord) (used : Nat) (c : Settings) : Prop :=
  u32 bytes used = (crc32 (bytes.take used)).toNat ∧ noDuplicates rs = true
    ∧ Settings.default.takeRecords rs = some c ∧ c.consistent = true

/-- A BAD judgement is no LOADED one. -/
theorem judgedBad_ne_loaded (c : Settings) : judgedBad ≠ .found .loaded c := fun h => by
  injection h with image _
  cases image

/-- A whole image is LOADED where its check values and its settings are accepted, and BAD otherwise. -/
theorem judgeRead_records {bytes : List Byte} {rs : List ImageRecord} {used : Nat} (whole : used + 4 ≤ bytes.length) :
    (∀ c, judgeRead bytes (.records rs used) = .found .loaded c ↔ ReadAccepts bytes rs used c)
    ∧ ((∀ c, ¬ReadAccepts bytes rs used c) → judgeRead bytes (.records rs used) = judgedBad) := by
  unfold judgeRead ReadAccepts
  dsimp only
  rw [if_neg (Nat.not_lt.mpr whole)]
  by_cases check : u32 bytes used = (crc32 (bytes.take used)).toNat
  · rw [if_neg (not_not.mpr check)]
    by_cases apart : noDuplicates rs = true
    · rw [if_neg (by rw [apart]; decide)]
      cases taken : Settings.default.takeRecords rs with
      | none => exact ⟨fun c => ⟨fun h => absurd h (judgedBad_ne_loaded c), fun ⟨_, _, h, _⟩ => nomatch h⟩, fun _ => rfl⟩
      | some d =>
        by_cases fine : d.consistent = true
        · dsimp only
          rw [if_pos fine]
          refine ⟨fun c => ⟨?_, ?_⟩, fun none' => absurd ⟨check, apart, rfl, fine⟩ (none' d)⟩
          · rintro ⟨⟩
            exact ⟨check, apart, rfl, fine⟩
          · rintro ⟨_, _, h, _⟩
            cases h
            rfl
        · dsimp only
          rw [if_neg fine]
          refine ⟨fun c => ⟨fun h => absurd h (judgedBad_ne_loaded c), ?_⟩, fun _ => rfl⟩
          rintro ⟨_, _, h, consistent⟩
          cases h
          exact absurd consistent fine
    · rw [if_pos (Bool.not_eq_true _ ▸ apart)]
      exact ⟨fun c => ⟨fun h => absurd h (judgedBad_ne_loaded c), fun ⟨_, h, _⟩ => absurd h apart⟩, fun _ => rfl⟩
  · rw [if_pos check]
    exact ⟨fun c => ⟨fun h => absurd h (judgedBad_ne_loaded c), fun ⟨h, _⟩ => absurd h check⟩, fun _ => rfl⟩

end Sys2Proof.Machine
end

section
/-! The settings that an image's records give, and what ImagesAreJudgedAndReadBack says (R173, R175, R193). -/

namespace Sys2Proof.Machine

/-! ## The records of one table and index -/

section
variable {α : Type} {r : ImageRecord} {rs : List ImageRecord} {table index : Nat} {read : List Byte → Option α} {v u : α}

/-- Without records the value is the usual one. -/
theorem listedAs_nil : listedAs [] table index read v u ↔ v = u :=
  ⟨fun ⟨_, usual⟩ => usual nofun, fun h => ⟨nofun, fun _ => h⟩⟩

/-- A record of another table or index says nothing. -/
theorem listedAs_other (h : ¬(r.table = table ∧ r.index = index)) :
    listedAs (r :: rs) table index read v u ↔ listedAs rs table index read v u := by
  simp only [listedAs, List.forall_mem_cons]
  refine and_congr ⟨fun ⟨_, rest⟩ => rest, fun rest => ⟨fun ht hi => absurd ⟨ht, hi⟩ h, rest⟩⟩ ?_
  exact ⟨fun all none' => all ⟨fun ht hi => h ⟨ht, hi⟩, none'⟩, fun all ⟨_, none'⟩ => all none'⟩

/-- A record of another table says nothing. -/
theorem listedAs_otherTable {t i : Nat} {content : List Byte} (h : t ≠ table) :
    listedAs (⟨t, i, content⟩ :: rs) table index read v u ↔ listedAs rs table index read v u :=
  listedAs_other fun ⟨same, _⟩ => h same

/-- The only record of a table and index gives the value. -/
theorem listedAs_here (ht : r.table = table) (hi : r.index = index)
    (fresh : ∀ q ∈ rs, ¬(r.table = q.table ∧ r.index = q.index)) :
    listedAs (r :: rs) table index read v u ↔ ∃ x, read r.content = some x ∧ listedAs rs table index read v x := by
  subst ht hi
  have none' : ∀ q ∈ rs, q.table = r.table → q.index ≠ r.index := fun q hq same other => fresh q hq ⟨same.symm, other.symm⟩
  constructor
  · rintro ⟨given, _⟩
    exact ⟨v, given r List.mem_cons_self rfl rfl, fun q hq same other => absurd other (none' q hq same), fun _ => rfl⟩
  · rintro ⟨x, hx, _, usual⟩
    cases usual none'
    refine ⟨List.forall_mem_cons.mpr ⟨fun _ _ => hx, fun q hq same other => absurd other (none' q hq same)⟩, fun h => ?_⟩
    exact absurd rfl (h r List.mem_cons_self rfl)

end

/-- The only record of an index of a table gives that entry of the table. -/
theorem listedAs_entry {α : Type} {n : Nat} {r : ImageRecord} {rs : List ImageRecord} {table : Nat}
    {read : List Byte → Option α} {v u : Table n α} (ht : r.table = table) (hn : r.index < n)
    (fresh : ∀ q ∈ rs, ¬(r.table = q.table ∧ r.index = q.index)) :
    (∀ i : Fin n, listedAs (r :: rs) table i.val read (v.get i) (u.get i))
      ↔ ∃ x, read r.content = some x
        ∧ ∀ i : Fin n, listedAs rs table i.val read (v.get i) ((u.set ⟨r.index, hn⟩ x).get i) := by
  have others : ∀ (x : α) (i : Fin n), ⟨r.index, hn⟩ ≠ i →
      (listedAs (r :: rs) table i.val read (v.get i) (u.get i)
        ↔ listedAs rs table i.val read (v.get i) ((u.set ⟨r.index, hn⟩ x).get i)) := by
    intro x i other
    rw [Table.get_set, if_neg other]
    exact listedAs_other fun ⟨_, same⟩ => other (Fin.ext same)
  have here := listedAs_here (v := v.get ⟨r.index, hn⟩) (u := u.get ⟨r.index, hn⟩) (read := read) ht rfl fresh
  constructor
  · intro all
    obtain ⟨x, hx, given⟩ := here.mp (all ⟨r.index, hn⟩)
    refine ⟨x, hx, fun i => ?_⟩
    by_cases same : ⟨r.index, hn⟩ = i
    · subst same
      rwa [Table.get_set, if_pos rfl]
    · exact (others x i same).mp (all i)
  · rintro ⟨x, hx, all⟩ i
    by_cases same : ⟨r.index, hn⟩ = i
    · subst same
      have given := all ⟨r.index, hn⟩
      rw [Table.get_set, if_pos rfl] at given
      exact here.mpr ⟨x, hx, given⟩
    · exact (others x i same).mpr (all i)

/-! ## Records taken over -/

/-- Settings c are settings u overlaid with the records of an image. -/
def Settings.Overlaid (u c : Settings) (rs : List ImageRecord) : Prop :=
  (∀ g : Fin 24, listedAs rs 1 g.val groupOf (c.groups.get g) (u.groups.get g))
    ∧ (∀ f : Fin 96, listedAs rs 2 f.val fixtureOf (c.fixtures.get f) (u.fixtures.get f))
    ∧ (∀ z : Fin 4, listedAs rs 3 z.val zoneOf (c.zones.get z) (u.zones.get z))
    ∧ listedAs rs 4 0 windOf c.wind u.wind ∧ listedAs rs 5 0 levelOf c.level u.level
    ∧ listedAs rs 6 0 feederOf c.feeder u.feeder
    ∧ (∀ i : Fin 27, listedAs rs 7 i.val counterOf (c.counters.get i) (u.counters.get i))
    ∧ listedAs rs 8 0 windowOf c.window u.window ∧ listedAs rs 9 0 optionsOf c.options u.options

/-- The overlay of the defaults. -/
theorem overlays_iff (c : Settings) (rs : List ImageRecord) : c.overlays rs ↔ Settings.default.Overlaid c rs := Iff.rfl

/-- An entry taken over, where its index is in the table. -/
theorem bind_dite {α β : Type} {p : Prop} [Decidable p] (hp : p) (o : Option α) (put : p → α → β) :
    (o.bind fun x => if h : p then some (put h x) else none) = o.map (put hp) := by
  cases o with
  | none => rfl
  | some x => exact dif_pos hp

section
variable (u : Settings) {i : Nat} (content : List Byte)

/-- A record of table 1 replaces an entry of the groups. -/
theorem takeGroup_eq (index : i < 24) : u.takeRecord ⟨1, i, content⟩
    = (groupOf content).map fun x => { u with groups := u.groups.set ⟨i, index⟩ x } :=
  bind_dite index (groupOf content) fun h x => ({ u with groups := u.groups.set ⟨i, h⟩ x } : Settings)

/-- A record of table 2 replaces an entry of the fixtures. -/
theorem takeFixture_eq (index : i < 96) : u.takeRecord ⟨2, i, content⟩
    = (fixtureOf content).map fun x => { u with fixtures := u.fixtures.set ⟨i, index⟩ x } :=
  bind_dite index (fixtureOf content) fun h x => ({ u with fixtures := u.fixtures.set ⟨i, h⟩ x } : Settings)

/-- A record of table 3 replaces an entry of the zones. -/
theorem takeZone_eq (index : i < 4) : u.takeRecord ⟨3, i, content⟩
    = (zoneOf content).map fun x => { u with zones := u.zones.set ⟨i, index⟩ x } :=
  bind_dite index (zoneOf content) fun h x => ({ u with zones := u.zones.set ⟨i, h⟩ x } : Settings)

/-- A record of table 7 replaces an entry of the counters. -/
theorem takeCounter_eq (index : i < 27) : u.takeRecord ⟨7, i, content⟩
    = (counterOf content).map fun x => { u with counters := u.counters.set ⟨i, index⟩ x } :=
  bind_dite index (counterOf content) fun h x => ({ u with counters := u.counters.set ⟨i, h⟩ x } : Settings)

end

/-- A record's overlay, by what taking it over comes to. -/
theorem overlaid_of_taken {α : Type} {u c : Settings} {r : ImageRecord} {rs : List ImageRecord} {o : Option α}
    {put : α → Settings} (taken : u.takeRecord r = o.map put)
    (one : u.Overlaid c (r :: rs) ↔ ∃ x, o = some x ∧ (put x).Overlaid c rs) :
    u.Overlaid c (r :: rs) ↔ ∃ d, u.takeRecord r = some d ∧ d.Overlaid c rs := by
  rw [one, taken]
  constructor
  · rintro ⟨x, rfl, h⟩
    exact ⟨put x, rfl, h⟩
  · rintro ⟨d, hd, h⟩
    obtain ⟨x, hx, rfl⟩ := Option.map_eq_some_iff.mp hd
    exact ⟨x, hx, h⟩

/-- Overlaying with a known record that no other repeats is taking it over first. -/
theorem overlaid_cons {u c : Settings} {r : ImageRecord} {rs : List ImageRecord} (known : r.Known)
    (fresh : ∀ q ∈ rs, ¬(r.table = q.table ∧ r.index = q.index)) :
    u.Overlaid c (r :: rs) ↔ ∃ d, u.takeRecord r = some d ∧ d.Overlaid c rs := by
  obtain ⟨count, table, index, -⟩ := known
  obtain ⟨t, i, content⟩ := r
  simp only [imageTables, List.mem_cons, Prod.mk.injEq, List.not_mem_nil, or_false] at table
  rcases table with ⟨rfl, -, rfl⟩ | ⟨rfl, -, rfl⟩ | ⟨rfl, -, rfl⟩ | ⟨rfl, -, rfl⟩ | ⟨rfl, -, rfl⟩ | ⟨rfl, -, rfl⟩
    | ⟨rfl, -, rfl⟩ | ⟨rfl, -, rfl⟩ | ⟨rfl, -, rfl⟩
  · refine overlaid_of_taken (takeGroup_eq u content index) ?_
    rw [Settings.Overlaid, listedAs_entry (table := 1) rfl index fresh]
    cases groupOf content <;> simp [Settings.Overlaid, listedAs_otherTable]
  · refine overlaid_of_taken (takeFixture_eq u content index) ?_
    rw [Settings.Overlaid, listedAs_entry (table := 2) rfl index fresh]
    cases fixtureOf content <;> simp [Settings.Overlaid, listedAs_otherTable]
  · refine overlaid_of_taken (takeZone_eq u content index) ?_
    rw [Settings.Overlaid, listedAs_entry (table := 3) rfl index fresh]
    cases zoneOf content <;> simp [Settings.Overlaid, listedAs_otherTable]
  · obtain rfl : i = 0 := Nat.lt_one_iff.mp index
    refine overlaid_of_taken (o := windOf content) (put := fun x => { u with wind := x }) rfl ?_
    rw [Settings.Overlaid, listedAs_here (table := 4) rfl rfl fresh]
    cases windOf content <;> simp [Settings.Overlaid, listedAs_otherTable]
  · obtain rfl : i = 0 := Nat.lt_one_iff.mp index
    refine overlaid_of_taken (o := levelOf content) (put := fun x => { u with level := x }) rfl ?_
    rw [Settings.Overlaid, listedAs_here (table := 5) rfl rfl fresh]
    cases levelOf content <;> simp [Settings.Overlaid, listedAs_otherTable]
  · obtain rfl : i = 0 := Nat.lt_one_iff.mp index
    refine overlaid_of_taken (o := feederOf content) (put := fun x => { u with feeder := x }) rfl ?_
    rw [Settings.Overlaid, listedAs_here (table := 6) rfl rfl fresh]
    cases feederOf content <;> simp [Settings.Overlaid, listedAs_otherTable]
  · refine overlaid_of_taken (takeCounter_eq u content index) ?_
    rw [Settings.Overlaid, listedAs_entry (table := 7) rfl index fresh]
    cases counterOf content <;> simp [Settings.Overlaid, listedAs_otherTable]
  · obtain rfl : i = 0 := Nat.lt_one_iff.mp index
    refine overlaid_of_taken (o := windowOf content) (put := fun x => { u with window := x }) rfl ?_
    rw [Settings.Overlaid, listedAs_here (table := 8) rfl rfl fresh]
    cases windowOf content <;> simp [Settings.Overlaid, listedAs_otherTable]
  · obtain rfl : i = 0 := Nat.lt_one_iff.mp index
    refine overlaid_of_taken (o := optionsOf content) (put := fun x => { u with options := x }) rfl ?_
    rw [Settings.Overlaid, listedAs_here (table := 9) rfl rfl fresh]
    cases optionsOf content <;> simp [Settings.Overlaid, listedAs_otherTable]

end Sys2Proof.Machine
end

section
/-! The settings image, judged and read back: ImagesAreJudgedAndReadBack (R173, R175, R193). -/

namespace Sys2Proof.Machine

/-- Without records the settings stay. -/
theorem overlaid_nil (u c : Settings) : u.Overlaid c [] ↔ u = c := by
  constructor
  · rintro ⟨groups, fixtures, zones, wind, level, feeder, counters, window, options⟩
    obtain ⟨_, _, _, _, _, _, _, _, _⟩ := u
    obtain ⟨_, _, _, _, _, _, _, _, _⟩ := c
    cases Table.ext_get fun g => listedAs_nil.mp (groups g)
    cases Table.ext_get fun f => listedAs_nil.mp (fixtures f)
    cases Table.ext_get fun z => listedAs_nil.mp (zones z)
    cases listedAs_nil.mp wind
    cases listedAs_nil.mp level
    cases listedAs_nil.mp feeder
    cases Table.ext_get fun i => listedAs_nil.mp (counters i)
    cases listedAs_nil.mp window
    cases listedAs_nil.mp options
    rfl
  · rintro rfl
    exact ⟨fun _ => listedAs_nil.mpr rfl, fun _ => listedAs_nil.mpr rfl, fun _ => listedAs_nil.mpr rfl,
      listedAs_nil.mpr rfl, listedAs_nil.mpr rfl, listedAs_nil.mpr rfl, fun _ => listedAs_nil.mpr rfl,
      listedAs_nil.mpr rfl, listedAs_nil.mpr rfl⟩

/-- Taking over known records of which none repeats another gives the overlay. -/
theorem takeRecords_iff {rs : List ImageRecord} (known : ∀ r ∈ rs, r.Known)
    (apart : rs.Pairwise fun a b => ¬(a.table = b.table ∧ a.index = b.index)) (u c : Settings) :
    u.takeRecords rs = some c ↔ u.Overlaid c rs := by
  induction rs generalizing u with
  | nil =>
    rw [overlaid_nil]
    exact ⟨Option.some.inj, congrArg some⟩
  | cons r rs ih =>
    obtain ⟨here, others⟩ := List.forall_mem_cons.mp known
    obtain ⟨fresh, apart⟩ := List.pairwise_cons.mp apart
    rw [overlaid_cons here fresh, Settings.takeRecords, Option.bind_eq_some_iff]
    simp only [ih others apart]

/-! ## The image that the machine writes -/

section
variable (c : Settings) (unused : Nat → Byte)

/-- The image is the header word, the records, the end record and the check value. -/
theorem image_eq : c.image unused = imageHeader ++ listedRecords (c.records unused) ++ [0, 0, 0, 0]
    ++ byte4 (crc32 (imageHeader ++ listedRecords (c.records unused) ++ [0, 0, 0, 0])).toNat := by
  rw [← recordBytes_eq]
  rfl

/-- The tables and indices of an image are all different. -/
theorem records_nodup : ((c.records unused).map fun r => (r.table, r.index)).Nodup := by
  rw [records_keys]
  decide +kernel

/-- No two records of an image have one table and index. -/
theorem records_apart : (c.records unused).Pairwise fun a b => ¬(a.table = b.table ∧ a.index = b.index) :=
  (List.pairwise_map.mp (records_nodup c unused)).imp fun differ ⟨table, index⟩ => differ (Prod.ext table index)

/-- What is a record of the image. -/
theorem mem_records {r : ImageRecord} : r ∈ c.records unused ↔
    (∃ g : Fin 24, r = ⟨1, g.val, GroupRecord.bytes g (c.groups.get g) fun i => unused (64 * g.val + i)⟩)
    ∨ (∃ f : Fin 96, r = ⟨2, f.val, FixtureRecord.bytes f (c.fixtures.get f)⟩)
    ∨ (∃ z : Fin 4, r = ⟨3, z.val, ZoneRecord.bytes z (c.zones.get z)⟩)
    ∨ r = ⟨4, 0, c.wind.bytes⟩ ∨ r = ⟨5, 0, c.level.bytes⟩ ∨ r = ⟨6, 0, c.feeder.bytes⟩
    ∨ (∃ i : Fin 27, r = ⟨7, i.val, CounterSettings.bytes i (c.counters.get i)⟩)
    ∨ r = ⟨8, 0, byte1 c.window⟩ ∨ r = ⟨9, 0, c.options.bytes⟩ := by
  simp only [Settings.records, List.mem_append, List.mem_map, List.mem_finRange, true_and, List.mem_cons,
    List.not_mem_nil, or_false, or_assoc, eq_comm (b := r)]

variable {c}

/-- A record of the image gives the value that its content is read as. -/
theorem listedAs_record {α : Type} {read : List Byte → Option α} {table index : Nat} {content : List Byte} {value : α}
    (usual : α) (mem : ⟨table, index, content⟩ ∈ c.records unused) (given : read content = some value) :
    listedAs (c.records unused) table index read value usual := by
  refine ⟨fun r hr ht hi => ?_, fun none' => absurd rfl (none' _ mem rfl)⟩
  rw [List.inj_on_of_nodup_map (records_nodup c unused) hr mem (Prod.ext ht hi)]
  exact given

/-- The image of settings in their ranges gives those settings. -/
theorem records_overlay (fit : c.InRange) : c.overlays (c.records unused) := by
  have mem : ∀ r, _ → r ∈ c.records unused := fun r => (mem_records c unused).mpr
  exact ⟨fun g => listedAs_record unused _ (mem _ (.inl ⟨g, rfl⟩)) (groupOf_bytes g _ (fit.groups g)),
    fun f => listedAs_record unused _ (mem _ (.inr (.inl ⟨f, rfl⟩))) (fixtureOf_bytes f (fit.fixtures f)),
    fun z => listedAs_record unused _ (mem _ (.inr (.inr (.inl ⟨z, rfl⟩)))) (zoneOf_bytes z (fit.zones z)),
    listedAs_record unused _ (mem _ (.inr (.inr (.inr (.inl rfl))))) (windOf_bytes fit.wind),
    listedAs_record unused _ (mem _ (.inr (.inr (.inr (.inr (.inl rfl)))))) (levelOf_bytes fit.level),
    listedAs_record unused _ (mem _ (.inr (.inr (.inr (.inr (.inr (.inl rfl))))))) (feederOf_bytes fit.feeder),
    fun i => listedAs_record unused _ (mem _ (.inr (.inr (.inr (.inr (.inr (.inr (.inl ⟨i, rfl⟩))))))))
      (counterOf_bytes i (fit.counters i)),
    listedAs_record unused _ (mem _ (.inr (.inr (.inr (.inr (.inr (.inr (.inr (.inl rfl)))))))))
      (windowOf_bytes fit.window),
    listedAs_record unused _ (mem _ (.inr (.inr (.inr (.inr (.inr (.inr (.inr (.inr rfl)))))))))
      (optionsOf_bytes fit.options)⟩

/-- A record with its table's length, an index of the table and its own number is known. -/
theorem known_of {table index len count : Nat} {content : List Byte} (whole : content.length = len)
    (listed : (table, len, count) ∈ imageTables) (inside : index < count)
    (named : table = 1 ∨ table = 2 ∨ table = 3 ∨ table = 7 → u8 content 0 = index) :
    ImageRecord.Known ⟨table, index, content⟩ := by
  subst whole
  exact ⟨count, listed, inside, named⟩

/-- The image of settings in their ranges holds records that a load knows. -/
theorem records_known (fit : c.InRange) : ∀ r ∈ c.records unused, r.Known := by
  have no : ∀ {table : Nat} {p : Prop}, ¬(table = 1 ∨ table = 2 ∨ table = 3 ∨ table = 7) →
      (table = 1 ∨ table = 2 ∨ table = 3 ∨ table = 7 → p) := fun other h => absurd h other
  intro r hr
  rcases (mem_records c unused).mp hr with ⟨g, rfl⟩ | ⟨f, rfl⟩ | ⟨z, rfl⟩ | rfl | rfl | rfl | ⟨i, rfl⟩ | rfl | rfl
  · exact known_of (GroupRecord.bytes_length g _ _) (by decide) g.isLt fun _ =>
      (group_head g _ _ (by decide)).trans (toNat_byte (n := g.val) (by omega))
  · exact known_of (FixtureRecord.bytes_length f _) (by decide) f.isLt fun _ => toNat_byte (n := f.val) (by omega)
  · exact known_of (ZoneRecord.bytes_length z _) (by decide) z.isLt fun _ => toNat_byte (n := z.val) (by omega)
  · exact known_of (WindSettings.bytes_length (windWhole_of_ok fit.wind)) (by decide) Nat.zero_lt_one (no (by decide))
  · exact known_of (LevelSettings.bytes_length _) (by decide) Nat.zero_lt_one (no (by decide))
  · exact known_of (FeederSettings.bytes_length _) (by decide) Nat.zero_lt_one (no (by decide))
  · exact known_of (CounterSettings.bytes_length i _) (by decide) i.isLt fun _ => toNat_byte (n := i.val) (by omega)
  · exact known_of (len := 1) rfl (by decide) Nat.zero_lt_one (no (by decide))
  · exact known_of (ShowOptions.bytes_length _) (by decide) Nat.zero_lt_one (no (by decide))

end

/-! ## The statement -/

/-- What stands behind an image's end record accepts settings. -/
def Accepted (rs : List ImageRecord) (tail : List Byte) (c : Settings) : Prop :=
  u32 tail 0 = (crc32 (imageHeader ++ listedRecords rs ++ [0, 0, 0, 0])).toNat
    ∧ rs.Pairwise (fun a b => ¬(a.table = b.table ∧ a.index = b.index)) ∧ c.overlays rs ∧ c.sound

/-- The check value and the settings, as the load tests them. -/
theorem readAccepts_iff {rs : List ImageRecord} (known : ∀ r ∈ rs, r.Known) (tail : List Byte) (c : Settings) :
    ReadAccepts (imageHeader ++ listedRecords rs ++ ([0, 0, 0, 0] ++ tail)) rs
      ((imageHeader ++ listedRecords rs).length + 4) c ↔ Accepted rs tail c := by
  have len : (imageHeader ++ listedRecords rs ++ [0, 0, 0, 0]).length = (imageHeader ++ listedRecords rs).length + 4 := by
    rw [List.length_append]
    rfl
  have behind : u32 (imageHeader ++ listedRecords rs ++ ([0, 0, 0, 0] ++ tail))
      ((imageHeader ++ listedRecords rs).length + 4) = u32 tail 0 := by
    rw [← List.append_assoc]
    exact u32_shift (u8_behind len) 0
  have body : (imageHeader ++ listedRecords rs ++ ([0, 0, 0, 0] ++ tail)).take
      ((imageHeader ++ listedRecords rs).length + 4) = imageHeader ++ listedRecords rs ++ [0, 0, 0, 0] := by
    rw [← List.append_assoc, ← len]
    exact List.take_left
  rw [ReadAccepts, Accepted, behind, body, noDuplicates_iff, Settings.consistent_iff, overlays_iff]
  exact and_congr_right' (and_congr_right fun apart => and_congr_left' (takeRecords_iff known apart _ _))

/-- What stands behind known records decides the judgement. -/
theorem judgeImage_ended {rs : List ImageRecord} (known : ∀ r ∈ rs, r.Known) (tail : List Byte) :
    let all := imageHeader ++ listedRecords rs ++ ([0, 0, 0, 0] ++ tail)
    (tail.length < 4 → judgeImage all = if 0x10000 ≤ all.length then judgedBad else .more)
      ∧ (4 ≤ tail.length → (∀ c, judgeImage all = .found .loaded c ↔ Accepted rs tail c)
        ∧ ((∀ c, ¬Accepted rs tail c) → judgeImage all = judgedBad)) := by
  intro all
  obtain ⟨fuel, judged⟩ := judgeImage_listed rs known ([0, 0, 0, 0] ++ tail)
  have total : all.length = (imageHeader ++ listedRecords rs).length + 4 + tail.length := by
    simp only [all, List.length_append, List.length_cons, List.length_nil]
    omega
  rw [readRecords_end (by simp) ⟨rfl, rfl, rfl⟩, List.reverse_reverse] at judged
  rw [judged]
  refine ⟨fun short => ?_, fun long => ?_⟩
  · exact if_pos (by rw [total]; omega)
  · have := judgeRead_records (rs := rs) (bytes := all) (used := (imageHeader ++ listedRecords rs).length + 4)
      (by rw [total]; omega)
    simp only [all, readAccepts_iff known] at this
    exact this

/-- Settles O51. -/
theorem imagesAreJudgedAndReadBack : Obligations.ImagesAreJudgedAndReadBack := by
  unfold Obligations.ImagesAreJudgedAndReadBack
  intro header tables knows listed bad short
  refine ⟨fun c unused => ⟨c.records unused, image_eq c unused, records_keys c unused, fun fit => ?_⟩,
    fun bytes long => ⟨judgeImage_blank, judgeImage_foreign long⟩, ?_, fun c unused rest fit => ?_⟩
  · have range := ((Settings.fit_iff c).mp fit).1
    exact ⟨records_known unused range, records_overlay unused range, c.image_length (windWhole_of_ok range.wind) unused⟩
  · intro rs rest known all len
    obtain ⟨fuel, judged⟩ := judgeImage_listed rs known rest
    refine ⟨fun less => ?_, fun four goesOn => ⟨fun unknown => ?_, fun ⟨count, table⟩ less => ?_, fun whole other => ?_⟩, ?_⟩
    · rw [readRecords_short less] at judged
      exact judged
    · rw [readRecords_unknown four goesOn unknown] at judged
      exact judged
    · rw [(readRecords_table four goesOn table).1 less] at judged
      exact judged
    · by_cases table : ∃ count, (u8 rest 0, u16 rest 2, count) ∈ imageTables
      · obtain ⟨count, table⟩ := table
        have unsuited : indexOk (u8 rest 0) (u8 rest 1) count ((rest.drop 4).take (u16 rest 2)) = false := by
          refine Bool.not_eq_true _ ▸ fun suits => other ⟨count, ?_, (indexOk_iff _ _ _ _).mp suits⟩
          have content : ((rest.drop 4).take len).length = u16 rest 2 := by
            rw [List.length_take, List.length_drop]
            exact Nat.min_eq_left (by omega)
          dsimp only
          rw [content]
          exact table
        rw [(readRecords_table four goesOn table).2 whole unsuited] at judged
        exact judged
      · rw [readRecords_unknown four goesOn fun count h => table ⟨count, h⟩] at judged
        exact judged
    · rintro tail rfl
      exact judgeImage_ended known tail
  · have range := ((Settings.fit_iff c).mp fit).1
    obtain ⟨-, ended⟩ := judgeImage_ended (records_known unused range)
      (byte4 (crc32 (imageHeader ++ listedRecords (c.records unused) ++ [0, 0, 0, 0])).toNat ++ rest)
    rw [image_eq, List.append_assoc _ _ rest, List.append_assoc]
    refine ((ended ?_).1 c).mpr ⟨u32_byte4 _ _ (BitVec.isLt _), records_apart c unused, records_overlay unused range,
      ((Settings.fit_iff c).mp fit).2⟩
    rw [List.length_append]
    exact Nat.le_add_right 4 _

end Sys2Proof.Machine
end

section
/-! A settings load with no show: what the records of the groups do to the groups and to their demands (R72, R81, R175). -/

namespace Sys2Proof.Machine

open State

/-! ## One entry for each group -/

section
variable {α : Type} {E : State → Fin 24 → α} {Q : State → Prop} {F : Fin 24 → α → α} {f : Fin 24 → State → State}
  (keeps : ∀ g t, Q t → Q (f g t)) (own : ∀ g t, Q t → E (f g t) g = F g (E t g))
  (other : ∀ g h t, Q t → h ≠ g → E (f g t) h = E t h)
include keeps own other

/-- A fold that acts on one entry for each group of a list has acted on the entries of its list. -/
theorem foldl_entry (gs : List (Fin 24)) (nodup : gs.Nodup) (s : State) (hs : Q s) (g : Fin 24) :
    E (gs.foldl (fun t g => f g t) s) g = if g ∈ gs then F g (E s g) else E s g := by
  induction gs generalizing s with
  | nil => rw [if_neg List.not_mem_nil, List.foldl_nil]
  | cons e gs ih =>
    obtain ⟨hnot, nodup⟩ := List.nodup_cons.mp nodup
    rw [List.foldl_cons, ih nodup _ (keeps e s hs)]
    by_cases he : g = e
    · subst he
      rw [if_neg hnot, if_pos List.mem_cons_self, own g s hs]
    · simp only [List.mem_cons, he, false_or, other e g s hs he]

/-- Each group's entry after an action on every group. -/
theorem eachGroup_entry (s : State) (hs : Q s) (g : Fin 24) : E (s.eachGroup f) g = F g (E s g) := by
  have h := foldl_entry keeps own other (List.finRange 24) (List.nodup_finRange 24) s hs g
  rwa [if_pos (List.mem_finRange g)] at h

end

/-! ## What a load leaves while no show is there -/

/-- A state that a settings load has come to from a base state whose calm count is 0: only groups, demands, channels, and what
the link, the flags and PERMIT follow have changed. -/
structure State.Steady (b t : State) : Prop where
  cfg : t.cfg = b.cfg
  clock : t.clock = b.clock
  seq : t.seq = b.seq
  aud : t.aud = b.aud
  lgt : t.lgt = b.lgt
  fda : b.fda.Reposted t.fda
  measured : t.sup.measured = b.sup.measured
  calm : t.sup.calm = 0

namespace State.Steady

variable {b t u : State}

/-- A base state is steady. -/
theorem refl (calm : b.sup.calm = 0) : b.Steady b := ⟨rfl, rfl, rfl, rfl, rfl, rfl, rfl, calm⟩

/-- What leaves the blocks leaves the state steady. -/
theorem frame (h : b.Steady t) (cfg : u.cfg = t.cfg) (clock : u.clock = t.clock) (seq : u.seq = t.seq) (aud : u.aud = t.aud)
    (lgt : u.lgt = t.lgt) (fda : t.fda.Reposted u.fda) (measured : u.sup.measured = t.sup.measured)
    (calm : u.sup.calm = t.sup.calm) : b.Steady u :=
  ⟨cfg.trans h.cfg, clock.trans h.clock, seq.trans h.seq, aud.trans h.aud, lgt.trans h.lgt, h.fda.trans fda,
    measured.trans h.measured, calm.trans h.calm⟩

/-- What leaves the supervision as well leaves the state steady. -/
theorem frame_sup (h : b.Steady t) (cfg : u.cfg = t.cfg) (clock : u.clock = t.clock) (seq : u.seq = t.seq)
    (aud : u.aud = t.aud) (lgt : u.lgt = t.lgt) (fda : t.fda.Reposted u.fda) (sup : u.sup = t.sup) : b.Steady u :=
  h.frame cfg clock seq aud lgt fda (congrArg Sup.measured sup) (congrArg Sup.calm sup)

end State.Steady

/-- PERMIT that drops leaves the level and the calm count. -/
theorem judgeDrop_measured (t : State) : t.judgeDrop.sup.measured = t.sup.measured ∧ t.judgeDrop.sup.calm = t.sup.calm := by
  unfold State.judgeDrop
  split <;> exact ⟨rfl, rfl⟩

section
variable {b t : State} (idle : b.seq.st = .idle)
include idle

/-- A steady state has no show that stops. -/
theorem State.Steady.still (h : b.Steady t) : t.seq.st ≠ .stopping := by
  rw [h.seq, idle]
  exact nofun

/-- A group's record leaves the state steady. -/
theorem State.Steady.regroup (h : b.Steady t) (g : Fin 24) (old : GroupRecord) : b.Steady (t.regroup g old) := by
  have still := h.still idle
  have parts := regroup_regrouped still g old
  have configured (v : State) (still : v.seq.st ≠ .stopping) : (v.configure g none).aud = v.aud
      ∧ (v.configure g none).sup.measured = v.sup.measured ∧ (v.configure g none).sup.calm = v.sup.calm := by
    rw [configure_other still]
    obtain ⟨measured, calm⟩ := judgeDrop_measured (((v.withGroup g (v.freshGroup g)).postDemand g 0).sayGroup g none none)
    rw [judgeDrop_aud, measured, calm, sayGroup_aud, sayGroup_sup, postDemand_aud, postDemand_sup]
    exact ⟨rfl, rfl, rfl⟩
  have others : (t.regroup g old).aud = t.aud ∧ (t.regroup g old).sup.measured = t.sup.measured
      ∧ (t.regroup g old).sup.calm = t.sup.calm := by
    rw [regroup_eq]
    split
    · split
      · exact ⟨rfl, rfl, rfl⟩
      · exact configured t.struck still
    · split
      · rw [unconfigure_aud, unconfigure_sup]
        exact ⟨rfl, rfl, rfl⟩
      · exact ⟨rfl, rfl, rfl⟩
  obtain ⟨aud, measured, calm⟩ := others
  exact h.frame (regroup_cfg _ _ _) (regroup_clock _ _ _) parts.seq aud (regroup_lgt _ _ _) parts.fda measured calm

/-- A group whose record stands keeps its demand, and one that enters afresh or leaves demands nothing (R72). -/
theorem State.Steady.regroup_own (h : b.Steady t) (g : Fin 24) (old : GroupRecord) :
    (t.regroup g old).fda.demand.get g =
      if (b.groupRecord g).configured = true then
        if old.configured = true ∧ old.address = (b.groupRecord g).address then t.fda.demand.get g else 0
      else if old.configured = true then 0 else t.fda.demand.get g := by
  have record : b.groupRecord g = t.groupRecord g := by rw [groupRecord, groupRecord, h.cfg]
  rw [record]
  by_cases now : (t.groupRecord g).configured = true
  · rw [if_pos now]
    by_cases same : old.configured = true ∧ old.address = (t.groupRecord g).address
    · rw [if_pos same, regroup_eq, if_pos now, if_pos same]
      rfl
    · rw [if_neg same]
      exact regroup_demand (h.still idle) (by rw [if_pos now]; exact same)
  · rw [if_neg now]
    by_cases before : old.configured = true
    · rw [if_pos before]
      exact regroup_demand (h.still idle) (by rw [if_neg now]; exact before)
    · rw [if_neg before, regroup_eq, if_neg now, if_neg before]
      rfl

end

/-! ## The groups of new settings -/

/-- The state under new settings, before the records act. -/
def State.underSettings (s : State) (new : Settings) : State :=
  { s with
    cfg := new
    lgt := s.lgt.reassign s.cfg.fixtures new.fixtures fun f => Config.fixtureFadeStart s.fresh f.val
    aud := { s.aud with lines := zeroLines new.zones }
    sup := { s.sup with calm := 0 }
    fresh := s.fresh + 1 }

/-- The records act on every group. -/
theorem regroupAll_eq (s : State) (new : Settings) :
    s.regroupAll new = (s.underSettings new).eachGroup fun g a => a.regroup g (s.cfg.groups.get g) := rfl

section
variable {s : State} (new : Settings)

/-- The groups as the records leave them (R72, R175). -/
theorem regroupAll_get (g : Fin 24) : (s.regroupAll new).groups.get g = s.regrouped new g := by
  rw [regroupAll_eq, eachGroup_regroup_groups]
  rfl

variable (idle : s.seq.st = .idle)
include idle

/-- The records leave the state steady. -/
theorem regroupAll_steady : (s.underSettings new).Steady (s.regroupAll new) :=
  have idle : (s.underSettings new).seq.st = .idle := idle
  eachGroup_induction (P := (s.underSettings new).Steady) (fun g _ h => h.regroup idle g _) (.refl rfl)

/-- The demands as the records leave them (R72, R81). -/
theorem regroupAll_demand (g : Fin 24) : (s.regroupAll new).fda.demand.get g =
    if (new.groups.get g).configured = true then
      if (s.groupRecord g).configured = true ∧ (s.groupRecord g).address = (new.groups.get g).address then
        s.fda.demand.get g
      else 0
    else if (s.groupRecord g).configured = true then 0 else s.fda.demand.get g :=
  have idle : (s.underSettings new).seq.st = .idle := idle
  eachGroup_entry (E := fun t g => t.fda.demand.get g) (Q := (s.underSettings new).Steady)
    (f := fun g a => a.regroup g (s.cfg.groups.get g))
    (F := fun g d => if (new.groups.get g).configured = true then
        if (s.groupRecord g).configured = true ∧ (s.groupRecord g).address = (new.groups.get g).address then d else 0
      else if (s.groupRecord g).configured = true then 0 else d)
    (fun g _ h => h.regroup idle g _) (fun g _ h => h.regroup_own idle g _)
    (fun g h _ steady ne => (regroup_regrouped (steady.still idle) g _).demand h ne) _ (.refl rfl) g

end

end Sys2Proof.Machine
end

section
/-! A settings load with no show: what the reset of the channels does to the groups and to their demands (R75, R81, R99, R145,
R152, R175). -/

namespace Sys2Proof.Machine

open State

/-! ## One channel reset -/

section
variable {b t : State} (idle : b.seq.st = .idle)

/-- New channel values and their report leave the state steady. -/
theorem State.Steady.turned (h : b.Steady t) (i : Fin 27) (c : Channel) (r : Report) :
    b.Steady ((t.withChannel i c).report r) := h.frame rfl rfl rfl rfl rfl rfl rfl rfl

/-- A level that moves leaves the state steady. -/
theorem State.Steady.levelMoved (h : b.Steady t) (before : LevelState) (idle : b.seq.st = .idle) :
    b.Steady (t.levelMoved before) := by
  have owes : b.Steady (t.oweSite true) := h.frame rfl rfl rfl rfl rfl rfl rfl rfl
  unfold State.levelMoved
  split
  · exact h
  · split
    · unfold State.enterDry
      rw [if_neg (by rw [owes.seq, idle]; decide)]
      exact owes.frame rfl rfl rfl rfl rfl rfl rfl rfl
    · exact owes

include idle

/-- An interlock change leaves the state steady. -/
theorem State.Steady.changeInterlock (h : b.Steady t) (g : Fin 24) (left into : Interlock) (cause : FaultCause)
    (code : Option Byte) : b.Steady (t.changeInterlock g left into cause code) := by
  have changed : b.Steady (t.changed g left into cause code) := by
    unfold State.changed State.postAtChange
    split
    · exact h.frame rfl rfl rfl rfl rfl rfl rfl rfl
    · exact h.frame_sup (postDemand_cfg ..) (postDemand_clock ..) (postDemand_seq ..) (postDemand_aud ..)
        (postDemand_lgt ..) (postDemand_reposted _ _ _) (postDemand_sup ..)
  rcases changeInterlock_ways (h.still idle) g left into cause code with e | e
  · rw [e]
    exact changed
  · rw [e]
    exact changed.frame rfl rfl rfl rfl rfl rfl rfl rfl

/-- A group that is looked for leaves the state steady. -/
theorem State.Steady.findGroup (h : b.Steady t) (g : Fin 24) : b.Steady (t.findGroup g) := by
  unfold State.findGroup
  split
  · exact h.changeInterlock idle _ _ _ _ _
  · exact h

/-- A channel that turns VALID leaves the state steady. -/
theorem State.Steady.found (h : b.Steady t) (i : Fin 27) (before : LevelState)
    (valid : (t.sup.channels.get i).valid = true) : b.Steady (t.validityActs i before) := by
  unfold State.validityActs
  dsimp only
  split
  · exact ⟨h.cfg, h.clock, h.seq, h.aud, h.lgt, h.fda, h.measured, rfl⟩
  · split
    · exact h.levelMoved _ idle
    · split
      · rw [valid]
        exact h.frame rfl rfl rfl rfl rfl rfl rfl rfl
      · split
        · exact h.findGroup idle _
        · exact h

/-- The reset of a channel leaves the state steady. -/
theorem State.Steady.reset (h : b.Steady t) (i : Fin 27) : b.Steady (t.resetChannel i) := by
  cases live : (t.sup.channels.get i).fatal with
  | true =>
    rw [resetChannel_fatal live]
    exact h
  | false =>
    rw [resetChannel_live live]
    cases up : (t.sup.channels.get i).valid with
    | true =>
      rw [moveChannel_same up.symm]
      exact h.frame rfl rfl rfl rfl rfl rfl rfl rfl
    | false =>
      rw [moveChannel_turned (by rw [up]; exact Bool.noConfusion)]
      refine (h.turned i _ _).found idle i _ ?_
      rw [report_sup, withChannel_get]

end

/-! ## The DRIVE channels -/

/-- A group, its demand and its DRIVE channel. -/
def State.drive (t : State) (g : Fin 24) : Group × Nat × Channel :=
  (t.groups.get g, t.fda.demand.get g, t.sup.channels.get (driveChannel g))

/-- What the reset of a DRIVE channel makes of its group and of its demand (R81, R95, R99). -/
def State.driveReset (b : State) (g : Fin 24) (e : Group × Nat × Channel) : Group × Nat × Channel :=
  if e.2.2.fatal = false ∧ e.2.2.valid = false ∧ e.1.interlock = some .lost then
    ({ e.1 with interlock := some .closing, cause := .none, c0 := 0, stroke := some ⟨b.clock, (b.groupRecord g).stroke⟩ },
      e.1.figs.s, e.2.2.restarted)
  else (e.1, e.2.1, e.2.2.restarted)

/-- Channels of different groups are different. -/
theorem driveChannel_inj {g h : Fin 24} (e : driveChannel g = driveChannel h) : g = h := by
  have := congrArg Fin.val e
  simp only [driveChannel_val] at this
  exact Fin.ext (by omega)

/-- A demand post acts on FDA by the demands and the settings. -/
theorem postDemand_fda_congr {u v : State} {g : Fin 24} {n : Nat} (fda : u.fda = v.fda) (cfg : u.cfg = v.cfg) :
    (u.postDemand g n).fda = (v.postDemand g n).fda := by
  unfold State.postDemand
  rw [fda]
  split
  · exact fda
  · unfold State.rescale State.loads State.groupRecord
    dsimp only
    rw [cfg]

/-- What an interlock change of a LOST group that enters CLOSING does to FDA: S of its last figures is posted (R81). -/
theorem changeInterlock_found_fda {t : State} (still : t.seq.st ≠ .stopping) (g : Fin 24) :
    (t.changeInterlock g .lost .closing .none none).fda = (t.postDemand g (t.groups.get g).figs.s).fda := by
  have posts : (t.changed g .lost .closing .none none).fda = (t.postDemand g (t.groups.get g).figs.s).fda := by
    have figs : ((t.entered g .lost .closing .none).groups.get g).figs = (t.groups.get g).figs := by
      unfold State.entered State.withGroup
      rw [Table.get_set_self]
    unfold State.changed State.postAtChange
    rw [if_neg (by decide), if_neg (by decide), report_groups, figs]
    exact postDemand_fda_congr rfl rfl
  rcases changeInterlock_ways still g .lost .closing .none none with e | e <;> rw [e]
  · exact posts
  · exact posts

section
variable {b t : State} (idle : b.seq.st = .idle) (h : b.Steady t)
include idle h

/-- A DRIVE channel's reset, on its own group. -/
theorem State.Steady.drive_own (g : Fin 24) : (t.resetChannel (driveChannel g)).drive g = b.driveReset g (t.drive g) := by
  have channel : (t.resetChannel (driveChannel g)).sup.channels.get (driveChannel g)
      = (t.sup.channels.get (driveChannel g)).restarted := by
    rw [resetChannel_channels, Table.get_set_self]
  have still := h.still idle
  have clock : t.clock = b.clock := h.clock
  have record : t.groupRecord g = b.groupRecord g := by rw [groupRecord, groupRecord, h.cfg]
  unfold State.drive State.driveReset
  rw [channel]
  dsimp only
  by_cases found : (t.sup.channels.get (driveChannel g)).fatal = false
      ∧ (t.sup.channels.get (driveChannel g)).valid = false ∧ (t.groups.get g).interlock = some .lost
  · obtain ⟨live, down, lost⟩ := found
    rw [if_pos ⟨live, down, lost⟩, resetChannel_groups_lost lost live down, Table.get_set_self, clock, record]
    rw [resetChannel_live live, moveChannel_found down rfl]
    unfold State.findGroup
    rw [report_groups, withChannel_groups, lost]
    dsimp only
    rw [changeInterlock_found_fda, postDemand_get]
    · rfl
    · exact still
  · rw [if_neg found]
    have parts : (t.resetChannel (driveChannel g)).groups = t.groups ∧ (t.resetChannel (driveChannel g)).fda = t.fda := by
      cases live : (t.sup.channels.get (driveChannel g)).fatal with
      | true =>
        rw [resetChannel_fatal live]
        exact ⟨rfl, rfl⟩
      | false =>
        rw [resetChannel_live live]
        cases down : (t.sup.channels.get (driveChannel g)).valid with
        | true =>
          rw [moveChannel_same down.symm]
          exact ⟨rfl, rfl⟩
        | false =>
          rw [moveChannel_found down rfl]
          unfold State.findGroup
          rw [report_groups, withChannel_groups]
          split
          next lost => exact absurd ⟨live, down, lost⟩ found
          · exact ⟨rfl, rfl⟩
    rw [parts.1, parts.2]

/-- A DRIVE channel's reset leaves the other groups. -/
theorem State.Steady.drive_other (g k : Fin 24) (ne : k ≠ g) : (t.resetChannel (driveChannel g)).drive k = t.drive k := by
  have channel : (t.resetChannel (driveChannel g)).sup.channels.get (driveChannel k)
      = t.sup.channels.get (driveChannel k) := by
    rw [resetChannel_channels, Table.get_set, if_neg fun e => ne (driveChannel_inj e).symm]
  have still := h.still idle
  have others : (t.resetChannel (driveChannel g)).groups.get k = t.groups.get k
      ∧ (t.resetChannel (driveChannel g)).fda.demand.get k = t.fda.demand.get k := by
    cases live : (t.sup.channels.get (driveChannel g)).fatal with
    | true =>
      rw [resetChannel_fatal live]
      exact ⟨rfl, rfl⟩
    | false =>
      rw [resetChannel_live live]
      cases down : (t.sup.channels.get (driveChannel g)).valid with
      | true =>
        rw [moveChannel_same down.symm]
        exact ⟨rfl, rfl⟩
      | false =>
        rw [moveChannel_found down rfl]
        unfold State.findGroup
        split
        · rw [changeInterlock_groups, Table.get_set, if_neg ne.symm, changeInterlock_found_fda, postDemand_get_other _ ne]
          · exact ⟨rfl, rfl⟩
          · exact still
        · exact ⟨rfl, rfl⟩
  unfold State.drive
  rw [channel, others.1, others.2]

end

/-! ## The WIND, LEVEL and AUDIO channels -/

/-- The reset of the WIND or the AUDIO channel leaves the groups and FDA. -/
theorem resetChannel_site {t : State} {i : Fin 27} (site : i.val = 0 ∨ i.val = 26) :
    (t.resetChannel i).groups = t.groups ∧ (t.resetChannel i).fda = t.fda := by
  cases live : (t.sup.channels.get i).fatal with
  | true =>
    rw [resetChannel_fatal live]
    exact ⟨rfl, rfl⟩
  | false =>
    rw [resetChannel_live live]
    unfold State.moveChannel
    dsimp only
    split
    · exact ⟨rfl, rfl⟩
    · unfold State.validityActs
      dsimp only
      rcases site with first | last
      · rw [if_pos first]
        split <;> exact ⟨rfl, rfl⟩
      · rw [if_neg (by omega), if_neg (by omega), if_pos last]
        exact ⟨rfl, rfl⟩

/-- The reset of the LEVEL channel uncovers DRY: the channel was INVALID and is not fatal, and the level measured is DRY. -/
abbrev State.uncoversDry (t : State) : Prop :=
  (t.sup.channels.get 1).valid = false ∧ (t.sup.channels.get 1).fatal = false ∧ t.sup.measured = .dry

/-- Where the reset of the LEVEL channel uncovers DRY, the fade records go to 0 (R75, R152). -/
theorem resetChannel_level {t : State} (idle : t.seq.st = .idle) :
    (t.uncoversDry → (t.resetChannel 1).groups = t.groups.map fun x => x.withFade (GroupFade.zero t.clock))
      ∧ (¬t.uncoversDry → (t.resetChannel 1).groups = t.groups) ∧ (t.resetChannel 1).fda = t.fda := by
  unfold State.uncoversDry
  cases live : (t.sup.channels.get 1).fatal with
  | true =>
    rw [resetChannel_fatal live]
    exact ⟨fun h => Bool.noConfusion h.2.1, fun _ => rfl, rfl⟩
  | false =>
    rw [resetChannel_live live]
    cases up : (t.sup.channels.get 1).valid with
    | true =>
      rw [moveChannel_same up.symm]
      exact ⟨fun h => Bool.noConfusion h.1, fun _ => rfl, rfl⟩
    | false =>
      rw [moveChannel_turned (by rw [up]; exact Bool.noConfusion)]
      generalize hc : ({ t.sup.channels.get 1 with counter := 0, valid := true } : Channel) = c
      generalize hv : (t.withChannel 1 c).report (.validity 1 c.valid c.counter c.fatal) = v
      have seq : v.seq.st = .idle := by rw [← hv]; exact idle
      have groups : v.groups = t.groups := by rw [← hv]; rfl
      have fda : v.fda = t.fda := by rw [← hv]; rfl
      have clock : v.clock = t.clock := by rw [← hv]; rfl
      have before : t.sup.effective = .low := by
        unfold Sup.effective
        rw [up]
        rfl
      have now : v.sup.effective = t.sup.measured := by
        have valid : (v.sup.channels.get 1).valid = true := by rw [← hv, report_sup, withChannel_get, ← hc]
        have measured : v.sup.measured = t.sup.measured := by rw [← hv]; rfl
        unfold Sup.effective
        rw [if_pos valid, measured]
      have acts : v.validityActs 1 t.sup.effective = v.levelMoved .low := by
        unfold State.validityActs
        dsimp only
        rw [if_neg (by decide), if_pos (by decide), before]
      rw [acts]
      unfold State.levelMoved
      rw [now]
      cases level : t.sup.measured with
      | dry =>
        rw [if_neg (by decide), if_pos rfl]
        unfold State.enterDry
        rw [if_neg (by rw [oweSite_seq, seq]; decide)]
        refine ⟨fun _ => ?_, fun no => absurd ⟨rfl, rfl, rfl⟩ no, ?_⟩
        · unfold State.zeroFades
          dsimp only [oweSite_groups, oweSite_clock]
          rw [groups, clock]
        · rw [zeroFades_fda, oweSite_fda, fda]
      | low =>
        rw [if_pos rfl]
        exact ⟨fun h => (nomatch h.2.2), fun _ => groups, fda⟩
      | normal =>
        rw [if_neg (by decide), if_neg (by decide)]
        exact ⟨fun h => (nomatch h.2.2), fun _ => groups, fda⟩

end Sys2Proof.Machine
end

section
/-! What new settings come to with no show: the statement's effects (R65, R72, R75, R81, R99, R113 to R119, R125, R145, R149,
R152, R175). -/

namespace Sys2Proof.Machine

open State

/-! ## The channels one after another -/

/-- The reset of the DRIVE channels. -/
def State.resetDrives (t : State) : State := t.eachGroup fun g u => u.resetChannel (driveChannel g)

/-- Every channel is reset: WIND, LEVEL, the DRIVE channels, AUDIO. -/
theorem eachChannel_reset (t : State) :
    t.eachChannel (fun i a => a.resetChannel i) = (((t.resetChannel 0).resetChannel 1).resetDrives).resetChannel 26 := by
  have order : List.finRange 27 = 0 :: 1 :: ((List.finRange 24).map driveChannel ++ [26]) := by decide +kernel
  unfold State.eachChannel State.resetDrives State.eachGroup
  rw [order, List.foldl_cons, List.foldl_cons, List.foldl_append, List.foldl_map, List.foldl_cons, List.foldl_nil]

/-- A load ends with FDA, the announcement's lock and the announcement. -/
theorem takeSettings_ends (s : State) (new : Settings) : s.takeSettings new =
    ((((s.regroupAll new).resetChannel 0).resetChannel 1).resetDrives.resetChannel 26).refeed.relockAnnouncement.restartIfTripped := by
  rw [takeSettings_eq, eachChannel_reset]

section
variable {s : State} (new : Settings) (idle : s.seq.st = .idle)

/-- The channels of the groups stand until their own reset. -/
theorem regroupAll_channels : (s.regroupAll new).sup.channels = s.sup.channels :=
  eachGroup_field (fun a => a.sup.channels) (fun g (a : State) => a.regroup g (s.cfg.groups.get g))
    (fun _ _ => regroup_channels _ _ _) _

include idle

/-- The state is steady before the LEVEL channel's reset, before the DRIVE channels' and behind all. -/
theorem channels_steady : (s.underSettings new).Steady ((s.regroupAll new).resetChannel 0)
    ∧ (s.underSettings new).Steady (((s.regroupAll new).resetChannel 0).resetChannel 1)
    ∧ (s.underSettings new).Steady ((((s.regroupAll new).resetChannel 0).resetChannel 1).resetDrives.resetChannel 26) := by
  have idle' : (s.underSettings new).seq.st = .idle := idle
  have wind := (regroupAll_steady new idle).reset idle' 0
  have level := wind.reset idle' 1
  have drives : (s.underSettings new).Steady (((s.regroupAll new).resetChannel 0).resetChannel 1).resetDrives :=
    eachGroup_induction (P := (s.underSettings new).Steady) (fun g _ h => h.reset idle' (driveChannel g)) level
  exact ⟨wind, level, drives.reset idle' 26⟩

/-- The groups before the DRIVE channels are reset: the fade records are 0 where DRY has been uncovered. -/
theorem levelled_drive (g : Fin 24) : (((s.regroupAll new).resetChannel 0).resetChannel 1).drive g =
    ((if s.uncoversDry then (s.regrouped new g).withFade (GroupFade.zero s.clock) else s.regrouped new g),
      (s.regroupAll new).fda.demand.get g, s.sup.channels.get (driveChannel g)) := by
  obtain ⟨wind, -, -⟩ := channels_steady new idle
  obtain ⟨groups, fda⟩ := resetChannel_site (t := s.regroupAll new) (i := 0) (.inl rfl)
  have windChannels : ((s.regroupAll new).resetChannel 0).sup.channels
      = s.sup.channels.set 0 (s.sup.channels.get 0).restarted := by
    rw [resetChannel_channels, regroupAll_channels]
  have channels : ∀ i : Fin 27, i ≠ 0 → ((s.regroupAll new).resetChannel 0).sup.channels.get i = s.sup.channels.get i :=
    fun i ne => by rw [windChannels, Table.get_set, if_neg ne.symm]
  have same : ((s.regroupAll new).resetChannel 0).uncoversDry ↔ s.uncoversDry := by
    unfold State.uncoversDry
    rw [channels 1 (by decide), show ((s.regroupAll new).resetChannel 0).sup.measured = s.sup.measured from wind.measured]
  have clock : ((s.regroupAll new).resetChannel 0).clock = s.clock := wind.clock
  have seq : ((s.regroupAll new).resetChannel 0).seq.st = .idle := by rw [wind.seq]; exact idle
  obtain ⟨dry, wet, level⟩ := resetChannel_level seq
  have channel : (((s.regroupAll new).resetChannel 0).resetChannel 1).sup.channels.get (driveChannel g)
      = s.sup.channels.get (driveChannel g) := by
    have other : ∀ k : Fin 27, k.val < 2 → k ≠ driveChannel g := fun k lt e => by
      rw [e, driveChannel_val] at lt
      omega
    rw [resetChannel_channels, Table.get_set, if_neg (other 1 (by decide)), channels _ (other 0 (by decide)).symm]
  unfold State.drive
  rw [channel, level, fda]
  by_cases uncovers : s.uncoversDry
  · rw [if_pos uncovers, dry (same.mpr uncovers), Table.get_map, clock, groups, regroupAll_get]
  · rw [if_neg uncovers, wet (mt same.mp uncovers), groups, regroupAll_get]

/-- The groups and their demands after every channel's reset. -/
theorem reset_drive (g : Fin 24) :
    ((((s.regroupAll new).resetChannel 0).resetChannel 1).resetDrives.resetChannel 26).groups.get g =
        ((s.underSettings new).driveReset g ((((s.regroupAll new).resetChannel 0).resetChannel 1).drive g)).1
      ∧ ((((s.regroupAll new).resetChannel 0).resetChannel 1).resetDrives.resetChannel 26).fda.demand.get g =
        ((s.underSettings new).driveReset g ((((s.regroupAll new).resetChannel 0).resetChannel 1).drive g)).2.1 := by
  have idle' : (s.underSettings new).seq.st = .idle := idle
  obtain ⟨-, level, -⟩ := channels_steady new idle
  obtain ⟨groups, fda⟩ := resetChannel_site
    (t := (((s.regroupAll new).resetChannel 0).resetChannel 1).resetDrives) (i := 26) (.inr rfl)
  have drives : (((s.regroupAll new).resetChannel 0).resetChannel 1).resetDrives.drive g =
      (s.underSettings new).driveReset g ((((s.regroupAll new).resetChannel 0).resetChannel 1).drive g) :=
    eachGroup_entry (E := State.drive) (Q := (s.underSettings new).Steady) (F := (s.underSettings new).driveReset)
      (f := fun g u => u.resetChannel (driveChannel g)) (fun g _ h => h.reset idle' _) (fun g _ h => h.drive_own idle' g)
      (fun g h _ steady ne => steady.drive_other idle' g h ne) _ level g
  rw [← drives, groups, fda]
  exact ⟨rfl, rfl⟩

end

/-! ## Groups and demands after a load -/

/-- A group that the reset of its channel finds, by its channel and its state after the records. -/
theorem foundByLoad_iff (s : State) (new : Settings) (g : Fin 24) : s.foundByLoad new g = true ↔
    (s.sup.channels.get (driveChannel g)).fatal = false ∧ (s.sup.channels.get (driveChannel g)).valid = false
      ∧ (s.regrouped new g).interlock = some .lost := by
  rw [State.foundByLoad, Bool.and_eq_true, Bool.and_eq_true, decide_eq_true_eq, Bool.not_eq_true', Bool.not_eq_true',
    and_assoc]

/-- A new fade record leaves the interlock and the figures. -/
theorem withFade_parts (x : Group) (f : GroupFade) : (x.withFade f).interlock = x.interlock ∧ (x.withFade f).figs = x.figs := by
  unfold Group.withFade
  split <;> exact ⟨rfl, rfl⟩

/-- A new fade record is taken by a group in the interlock alone. -/
theorem withFade_eq (x : Group) (f : GroupFade) :
    x.withFade f = if x.interlock ≠ none then { x with fade := f } else x := by
  unfold Group.withFade
  simp only [Option.isSome_iff_ne_none]

section
variable {s : State} (new : Settings) (idle : s.seq.st = .idle)
include idle

/-- The groups after a load (R72, R75, R99, R152). -/
theorem takeSettings_groups (g : Fin 24) : (s.takeSettings new).groups.get g =
    if s.uncoversDry then (s.loadedGroup new g).withFade (GroupFade.zero s.clock) else s.loadedGroup new g := by
  have known := (reset_drive new idle g).1
  rw [levelled_drive new idle] at known
  rw [takeSettings_ends, restartIfTripped_groups, relockAnnouncement_groups, refeed_groups, known]
  obtain ⟨faded, -⟩ := withFade_parts (s.regrouped new g) (GroupFade.zero s.clock)
  unfold State.driveReset
  dsimp only
  by_cases found : s.foundByLoad new g = true
  · obtain ⟨live, down, lost⟩ := (foundByLoad_iff s new g).mp found
    have loaded : s.loadedGroup new g = { s.regrouped new g with
        interlock := some .closing, cause := .none, c0 := 0, stroke := some ⟨s.clock, (new.groups.get g).stroke⟩ } :=
      if_pos found
    rw [loaded]
    by_cases uncovers : s.uncoversDry
    · rw [if_pos uncovers, if_pos uncovers, if_pos ⟨live, down, faded.trans lost⟩, withFade_eq, withFade_eq,
        if_pos (by rw [lost]; exact nofun), if_pos nofun]
      rfl
    · rw [if_neg uncovers, if_neg uncovers, if_pos ⟨live, down, lost⟩]
      rfl
  · have rest := mt (foundByLoad_iff s new g).mpr found
    have loaded : s.loadedGroup new g = s.regrouped new g := if_neg found
    rw [loaded]
    by_cases uncovers : s.uncoversDry
    · rw [if_pos uncovers, faded, if_neg rest]
    · rw [if_neg uncovers, if_neg rest]

/-- The demands after a load (R72, R81). -/
theorem takeSettings_demand (g : Fin 24) : (s.takeSettings new).fda.demand.get g = s.loadedDemand new g := by
  have known := (reset_drive new idle g).2
  rw [levelled_drive new idle] at known
  have fed : ∀ t : State, t.refeed.fda.demand = t.fda.demand := fun _ => rfl
  rw [takeSettings_ends, restartIfTripped_fda, relockAnnouncement_fda, fed, known]
  obtain ⟨faded, figs⟩ := withFade_parts (s.regrouped new g) (GroupFade.zero s.clock)
  have interlock : (if s.uncoversDry then (s.regrouped new g).withFade (GroupFade.zero s.clock) else s.regrouped new g).interlock
      = (s.regrouped new g).interlock := by split <;> [exact faded; rfl]
  have speed : (if s.uncoversDry then (s.regrouped new g).withFade (GroupFade.zero s.clock) else s.regrouped new g).figs
      = (s.regrouped new g).figs := by split <;> [exact figs; rfl]
  unfold State.driveReset State.loadedDemand
  dsimp only
  rw [interlock, speed, regroupAll_demand new idle]
  by_cases found : s.foundByLoad new g = true
  · rw [if_pos found, if_pos ((foundByLoad_iff s new g).mp found)]
  · rw [if_neg found, if_neg (mt (foundByLoad_iff s new g).mpr found)]
    cases (new.groups.get g).configured <;> cases (s.groupRecord g).configured <;> simp

/-! ## FDA, AUD and LGT after a load -/

/-- What a load does to SEQ, LGT, the calm count and the feeder (R113, R116, R119, R125, R149). -/
theorem takeSettings_blocks : (s.takeSettings new).seq = s.seq
    ∧ (s.takeSettings new).lgt = s.lgt.reassign s.cfg.fixtures new.fixtures (fun f => Config.fixtureFadeStart s.fresh f.val)
    ∧ (s.takeSettings new).sup.calm = 0 ∧ (s.takeSettings new).fda.load = s.fda.load
    ∧ (s.takeSettings new).fda.kL = s.fda.kL ∧ (s.takeSettings new).fda.cap = new.feeder.budget * new.feeder.share / 1000
    ∧ (s.takeSettings new).fda.allowance = new.feeder.budget - min s.fda.load (s.takeSettings new).fda.cap
    ∧ (s.takeSettings new).fda.k = waterScale (s.takeSettings new).loads (s.takeSettings new).fda.allowance := by
  obtain ⟨-, -, steady⟩ := channels_steady new idle
  have cfg := takeSettings_cfg s new
  rw [takeSettings_ends] at cfg ⊢
  generalize (((s.regroupAll new).resetChannel 0).resetChannel 1).resetDrives.resetChannel 26 = e at *
  rw [restartIfTripped_cfg, relockAnnouncement_cfg, refeed_cfg] at cfg
  have load : e.fda.load = s.fda.load := (congrArg Fda.load steady.fda :)
  have kL : e.fda.kL = s.fda.kL := (congrArg Fda.kL steady.fda :)
  have loads : e.refeed.relockAnnouncement.restartIfTripped.loads = e.loads := by
    unfold State.loads State.groupRecord
    rw [restartIfTripped_cfg, relockAnnouncement_cfg, refeed_cfg, restartIfTripped_fda, relockAnnouncement_fda]
    rfl
  rw [loads, restartIfTripped_seq, relockAnnouncement_seq, restartIfTripped_lgt, relockAnnouncement_lgt,
    restartIfTripped_sup, relockAnnouncement_sup, restartIfTripped_fda, relockAnnouncement_fda]
  refine ⟨steady.seq, steady.lgt, steady.calm, load, kL, ?_, ?_, rfl⟩
  · rw [← cfg]
    rfl
  · rw [← cfg, ← load]
    rfl

/-- What a load does to AUD: new delay lines, and the announcement restarted where the site is TRIPPED (R61, R65). -/
theorem takeSettings_aud : (s.takeSettings new).aud =
    if s.sup.mode = .tripped ∧ s.lif.halted = false then ({ s.aud with lines := zeroLines new.zones } : Aud).restart new.options
    else { s.aud with lines := zeroLines new.zones } := by
  have calm := takeSettings_calm (new := new) (.refl s)
  have mode := calm.mode
  have halted := calm.halted
  have cfg := takeSettings_cfg s new
  obtain ⟨-, -, steady⟩ := channels_steady new idle
  rw [takeSettings_ends] at mode halted cfg ⊢
  generalize (((s.regroupAll new).resetChannel 0).resetChannel 1).resetDrives.resetChannel 26 = e at *
  rw [restartIfTripped_sup] at mode
  rw [restartIfTripped_cfg] at cfg
  have aud : e.refeed.relockAnnouncement.aud = { s.aud with lines := zeroLines new.zones } := by
    rw [relockAnnouncement_aud, refeed_aud, steady.aud]
    rfl
  generalize e.refeed.relockAnnouncement = v at *
  have lif : v.lif.halted = s.lif.halted := halted
  unfold State.restartIfTripped State.isTripped
  dsimp only
  rw [mode, lif, aud, cfg]
  simp only [Bool.and_eq_true, decide_eq_true_eq, Bool.not_eq_true']

end

end Sys2Proof.Machine
end

section
/-! A settings load with no show: the link gets reports alone, and none where their categories are disabled (R175, R185). -/

namespace Sys2Proof.Machine

open State

/-- A link that reports of other categories than SERVICE have been made to. -/
inductive Lif.Told (l : Lif) : Lif → Prop where
  | refl : l.Told l
  | report {m : Lif} {r : Report} {k : Category} : l.Told m → r.category = some k → k ≠ .service → l.Told (m.withReport r)

/-- Every category but SERVICE is disabled (R185). -/
def Lif.Hushed (l : Lif) : Prop := ∀ k : Category, k ≠ .service → l.enable.getLsbD k.bit = false

/-- Where their categories are disabled the reports are none (R185). -/
theorem Lif.Told.of_hushed {l m : Lif} (h : l.Told m) (hushed : l.Hushed) : m = l := by
  induction h with
  | refl => rfl
  | @report m r k _ of other ih =>
    have silent : m.makes r = false := by
      unfold Lif.makes
      rw [of, ih]
      exact hushed k other
    unfold Lif.withReport
    rw [silent, ih]
    rfl

/-- Reports leave the SETTINGS slot. -/
theorem Lif.Told.settingsSlot {l m : Lif} (h : l.Told m) : m.settingsSlot = l.settingsSlot := by
  induction h with
  | refl => rfl
  | report _ _ _ ih => rw [withReport_settingsSlot, ih]

section
variable {b t : State}

/-- A load has come to a state with no show, the link having got reports alone. -/
structure State.Tells (b t : State) : Prop extends b.Steady t where
  lif : b.lif.Told t.lif

/-- New values of a channel, reported. -/
theorem State.Tells.turned (h : b.Tells t) (i : Fin 27) (c : Channel) :
    b.Tells ((t.withChannel i c).report (.validity i c.valid c.counter c.fatal)) :=
  ⟨h.frame rfl rfl rfl rfl rfl rfl rfl rfl, h.lif.report (k := .site) rfl nofun⟩

theorem sayGroup_told (h : b.lif.Told t.lif) (g : Fin 24) (left : Option Interlock) (code : Option Byte) :
    b.lif.Told (t.sayGroup g left code).lif := by
  unfold State.sayGroup
  split
  · exact h.report (k := .water) rfl nofun
  · exact h

/-- The end of a step reports the site. -/
theorem settleSite_told (h : b.lif.Told t.lif) : b.lif.Told t.settleSite.lif := by
  unfold State.settleSite
  dsimp only
  split
  · exact h.report (k := .site) rfl nofun
  · exact h

variable (idle : b.seq.st = .idle)
include idle

/-- An interlock change is reported (R88, R90). -/
theorem changeInterlock_told (h : b.Tells t) (g : Fin 24) (left into : Interlock) (cause : FaultCause) (code : Option Byte) :
    b.lif.Told (t.changeInterlock g left into cause code).lif := by
  have changed : b.lif.Told (t.changed g left into cause code).lif := by
    unfold State.changed State.postAtChange
    split
    · exact h.lif.report (k := .water) rfl nofun
    · rw [postDemand_lif]
      exact h.lif.report (k := .water) rfl nofun
  rcases changeInterlock_ways (h.still idle) g left into cause code with e | e
  · rw [e]
    exact changed
  · rw [e]
    exact changed

/-- A group that enters the interlock afresh is reported (R72, R88). -/
theorem State.Tells.regroup (h : b.Tells t) (g : Fin 24) (old : GroupRecord) : b.Tells (t.regroup g old) := by
  refine ⟨h.toSteady.regroup idle g old, ?_⟩
  rw [regroup_eq]
  split
  · split
    · exact h.lif
    · have afresh : ((t.struck.withGroup g (t.struck.freshGroup g)).postDemand g 0).lif = t.lif := by
        rw [postDemand_lif]
        rfl
      have still : t.seq.st ≠ .stopping := h.still idle
      rw [configure_other (s := t.struck) still, judgeDrop_lif]
      exact sayGroup_told (by rw [afresh]; exact h.lif) _ _ _
  · split
    · rw [unconfigure_lif]
      exact h.lif
    · exact h.lif

/-- What a channel that turns VALID does: an interlock change is reported. -/
theorem validityActs_told (h : b.Tells t) (i : Fin 27) (before : LevelState) (valid : (t.sup.channels.get i).valid = true) :
    b.lif.Told (t.validityActs i before).lif := by
  unfold State.validityActs
  dsimp only
  rw [valid]
  split
  · exact h.lif
  · split
    · unfold State.levelMoved
      split
      · exact h.lif
      · split
        · unfold State.enterDry
          rw [if_neg (by rw [oweSite_seq, h.seq, idle]; decide)]
          exact h.lif
        · exact h.lif
    · split
      · exact h.lif
      · split
        · rw [if_pos rfl]
          unfold State.findGroup
          split
          · exact changeInterlock_told idle h _ _ _ _ _
          · exact h.lif
        · exact h.lif

/-- The reset of a channel is reported where the channel turns VALID (R144, R145). -/
theorem State.Tells.reset (h : b.Tells t) (i : Fin 27) : b.Tells (t.resetChannel i) := by
  refine ⟨h.toSteady.reset idle i, ?_⟩
  cases live : (t.sup.channels.get i).fatal with
  | true =>
    rw [resetChannel_fatal live]
    exact h.lif
  | false =>
    rw [resetChannel_live live]
    cases up : (t.sup.channels.get i).valid with
    | true =>
      rw [moveChannel_same up.symm]
      exact h.lif
    | false =>
      rw [moveChannel_turned (by rw [up]; exact Bool.noConfusion)]
      refine validityActs_told idle (h.turned i _) i _ ?_
      rw [report_sup, withChannel_get]

end

/-- The image state, the start-up mark and PERMIT leave the link. -/
theorem marked_lif (t : State) (image : ImageState) : (t.marked image).raisePermit.lif = t.lif := rfl

section
variable {s : State} (image : ImageState) (new : Settings) (idle : s.seq.st = .idle)
include idle

/-- New settings taking effect make reports of the water and of the site alone. -/
theorem takeSettings_told : s.lif.Told (s.takeSettings new).lif := by
  have idle : (s.underSettings new).seq.st = .idle := idle
  have groups : (s.underSettings new).Tells (s.regroupAll new) :=
    eachGroup_induction (P := (s.underSettings new).Tells) (fun g _ h => h.regroup idle g _) ⟨.refl rfl, .refl⟩
  have channels : (s.underSettings new).Tells ((s.regroupAll new).eachChannel fun i a => a.resetChannel i) :=
    List.foldlRecOn _ _ groups fun _ h i _ => h.reset idle i
  rw [takeSettings_eq, restartIfTripped_lif, relockAnnouncement_lif, refeed_lif]
  exact channels.lif

/-- The end of a settings load makes reports of the water and of the site alone (R175). -/
theorem settingsLoaded_told : s.lif.Told (s.settingsLoaded image new).lif := by
  have marked : s.lif.Told ((s.takeSettings new).marked image).raisePermit.lif := by
    rw [marked_lif]
    exact takeSettings_told new idle
  rw [settingsLoaded_eq]
  exact settleSite_told marked

end

end Sys2Proof.Machine
end

section
/-! New working settings that take effect with the show IDLE, as the statement lists it (R65, R72, R113 to R125, R145, R149,
R175). -/

namespace Sys2Proof.Machine

open State

/-! ## The parts of the list -/

/-- A fixture after its record has been replaced (R125). -/
theorem reassign_iff (x : Fixture) (old r : FixtureRecord) (start : Tick) :
    (old.base ≠ r.base → (x.reassign old r start).latch = none ∧ (x.reassign old r start).dryStart = none
        ∧ (x.reassign old r start).fade.starts = Quad.fill 0 ∧ (x.reassign old r start).fade.targets = Quad.fill 0
        ∧ (x.reassign old r start).fade.dur = 0 ∧ (x.reassign old r start).fade.began.clock = .siteClock)
      ∧ (old.base = r.base → x.reassign old r start =
        { x with dryStart := if old.base ≠ 0 ∧ old.bound ≠ r.bound then none else x.dryStart }) := by
  unfold Fixture.reassign
  refine ⟨fun moved => ?_, fun same => ?_⟩
  · rw [if_neg moved]
    exact ⟨rfl, rfl, rfl, rfl, rfl, rfl⟩
  · rw [if_pos same]
    split <;> rfl

/-- Seeking and giving the announcement leave the delay lines. -/
theorem seek_lines (a : Aud) : a.seek.lines = a.lines :=
  have e := a.seek_eq
  (congrArg Aud.lines e :)

theorem restart_table (a : Aud) (o : ShowOptions) : (a.restart o).clips = a.clips ∧ (a.restart o).lines = a.lines := by
  unfold Aud.restart Aud.giveAnnouncement
  split <;> exact ⟨rfl, rfl⟩

/-- A restart leaves the announcement clip PENDING in buffer A, wherever AUD then fetches (R65). -/
theorem restart_announces (a : Aud) (o : ShowOptions) : (a.restart o).seek.announces a.clips o.annClip :=
  announces_of_given (a := { a.discard .a with gapLeft := none }) rfl

section
variable {s : State} (new : Settings) (idle : s.seq.st = .idle)
include idle

/-- AUD after a load, wherever it then fetches (R65). -/
theorem takeSettings_seek : (s.takeSettings new).aud.seek.clips = s.aud.clips
    ∧ (s.takeSettings new).aud.seek.lines = zeroLines new.zones
    ∧ (s.sup.mode = .tripped → s.lif.halted = false →
      (s.takeSettings new).aud.seek.announces s.aud.clips new.options.annClip) := by
  rw [takeSettings_aud new idle]
  split
  · obtain ⟨clips, lines⟩ := restart_table { s.aud with lines := zeroLines new.zones } new.options
    exact ⟨(seek_table _).1.trans clips, (seek_lines _).trans lines, fun _ _ => restart_announces _ _⟩
  next stands =>
    exact ⟨(seek_table _).1, seek_lines _, fun tripped runs => absurd ⟨tripped, runs⟩ stands⟩

/-! ## The list -/

/-- What has the blocks of a load has taken the settings. -/
theorem takesSettings_of {t : State} (cfg : t.cfg = new) (seq : t.seq = (s.takeSettings new).seq)
    (groups : t.groups = (s.takeSettings new).groups) (fda : t.fda = (s.takeSettings new).fda)
    (lgt : t.lgt = (s.takeSettings new).lgt) (aud : t.aud = (s.takeSettings new).aud.seek)
    (channels : t.sup.channels = (s.takeSettings new).sup.channels) (calm : t.sup.calm = (s.takeSettings new).sup.calm) :
    s.takesSettings t new := by
  obtain ⟨blockSeq, blockLgt, blockCalm, load, kL, cap, allowance, k⟩ := takeSettings_blocks new idle
  obtain ⟨clips, lines, announces⟩ := takeSettings_seek new idle
  have loads : t.loads = (s.takeSettings new).loads := by
    refine loads_congr (cfg.trans (takeSettings_cfg s new).symm) ?_
    rw [fda]
  unfold State.takesSettings
  dsimp only
  refine ⟨cfg, by rw [seq, blockSeq, idle], by rw [aud, clips], fun g => ?_, fun g => ?_, fun i => ?_, fun f => ?_,
    fun z => ?_, by rw [fda, load], by rw [fda, kL], by rw [fda, cap], by rw [fda, allowance],
    by rw [loads, fda, k], by rw [calm, blockCalm], fun tripped runs => aud ▸ announces tripped runs⟩
  · rw [groups, takeSettings_groups new idle, withFade_eq]
    by_cases uncovers : s.uncoversDry
    · obtain ⟨down, live, dry⟩ := uncovers
      rw [if_pos ⟨down, live, dry⟩]
      exact if_congr ⟨fun there => ⟨down, live, dry, there⟩, fun h => h.2.2.2⟩ rfl rfl
    · rw [if_neg uncovers, if_neg fun h => uncovers ⟨h.1, h.2.1, h.2.2.1⟩]
  · rw [fda, takeSettings_demand new idle]
  · rw [channels, takeSettings_channels]
    rfl
  · have fixture : t.lgt.fixtures.get f = (s.lgt.fixtures.get f).reassign (s.cfg.fixtures.get f) (new.fixtures.get f)
        (Config.fixtureFadeStart s.fresh f.val) := by
      rw [lgt, blockLgt]
      exact Table.get_mapIdx _ _ f
    rw [fixture]
    exact reassign_iff _ _ _ _
  · rw [aud, lines]
    exact Table.get_ofFn _ z

end

end Sys2Proof.Machine
end

section
/-! Settings reads that have ended well: the next read, the end of a load, and a reload that conflicts (R175, R177, R178). -/

namespace Sys2Proof.Machine

open State

/-! ## What a load has left at the end of its step -/

/-- A state with the blocks of another; the link, the flags and the flash port may differ. -/
structure State.Bears (v w : State) : Prop where
  cfg : w.cfg = v.cfg
  clock : w.clock = v.clock
  seq : w.seq = v.seq
  groups : w.groups = v.groups
  fda : w.fda = v.fda
  lgt : w.lgt = v.lgt
  aud : w.aud = v.aud
  sup : w.sup = v.sup
  image : w.flp.image = v.flp.image
  work : w.flp.settingsWork = v.flp.settingsWork

/-- The end of a service leaves the blocks. -/
theorem endService_bears (v : State) (k : ServiceSlot) (f : Failure) (c : Option Nat) (i : Option ImageState) :
    v.Bears (v.endService k f c i) := ⟨rfl, rfl, rfl, rfl, rfl, rfl, rfl, rfl, rfl, rfl⟩

/-- READY leaves the blocks. -/
theorem startUpReady_bears (v : State) : v.Bears v.startUpReady where
  cfg := startUpReady_cfg v
  clock := startUpReady_clock v
  seq := startUpReady_seq v
  groups := startUpReady_groups v
  fda := startUpReady_fda v
  lgt := startUpReady_lgt v
  aud := startUpReady_aud v
  sup := startUpReady_sup v
  image := by rw [startUpReady_flp, relockAnnouncement_image]
  work := by rw [startUpReady_flp, relockAnnouncement_flp]

/-- The image state, the start-up mark and PERMIT leave the show, the groups, FDA and the lights. -/
theorem marked_blocks (t : State) (image : ImageState) : (t.marked image).raisePermit.seq = t.seq
    ∧ (t.marked image).raisePermit.groups = t.groups ∧ (t.marked image).raisePermit.fda = t.fda
    ∧ (t.marked image).raisePermit.lgt = t.lgt ∧ (t.marked image).raisePermit.sup.channels = t.sup.channels
    ∧ (t.marked image).raisePermit.sup.calm = t.sup.calm := ⟨rfl, rfl, rfl, rfl, rfl, rfl⟩

theorem settleSite_calmCount (u : State) : u.settleSite.sup.calm = u.sup.calm := by
  rw [settleSite_sup]
  rfl

section
variable {s : State} (image : ImageState) (new : Settings)

/-- The blocks at the end of a load are those that the settings have left. -/
theorem settingsLoaded_blocks : (s.settingsLoaded image new).seq = (s.takeSettings new).seq
    ∧ (s.settingsLoaded image new).groups = (s.takeSettings new).groups
    ∧ (s.settingsLoaded image new).fda = (s.takeSettings new).fda
    ∧ (s.settingsLoaded image new).lgt = (s.takeSettings new).lgt
    ∧ (s.settingsLoaded image new).aud = (s.takeSettings new).aud
    ∧ (s.settingsLoaded image new).sup.channels = (s.takeSettings new).sup.channels
    ∧ (s.settingsLoaded image new).sup.calm = (s.takeSettings new).sup.calm := by
  obtain ⟨seq, groups, fda, lgt, channels, calm⟩ := marked_blocks (s.takeSettings new) image
  obtain ⟨-, aud, -⟩ := marked_frame (s.takeSettings new) image
  rw [settingsLoaded_eq, settleSite_seq, settleSite_groups, settleSite_fda, settleSite_lgt, settleSite_aud,
    settleSite_channels, settleSite_calmCount]
  exact ⟨seq, groups, fda, lgt, aud, channels, calm⟩

/-- A load at the end of its step: the settings and the image state are taken, the start-up mark is set, PERMIT rises where it
may, and the site is judged (R155, R157, R174, R175). -/
theorem settle_of_loaded {w : State} (bears : (s.settingsLoaded image new).Bears w) :
    w.settle.flp.settingsWork = none ∧ w.settle.clock = s.clock ∧ w.settle.cfg = new
      ∧ (s.seq.st = .idle → s.takesSettings w.settle new) ∧ w.settle.flp.image = image ∧ w.settle.sup.startMark = true
      ∧ (s.lif.halted = false → s.sup.mode ≠ .tripped → w.settle.sup.permit = true) ∧ w.settle.siteJudged := by
  obtain ⟨seq, groups, fda, lgt, aud, channels, calm⟩ := settingsLoaded_blocks (s := s) image new
  obtain ⟨mark, permit⟩ := settingsLoaded_permit (s := s) image new
  have cfg : w.settle.cfg = new := by rw [settle_cfg, bears.cfg, settingsLoaded_cfg]
  refine ⟨?_, ?_, cfg, fun idle => ?_, ?_, ?_, fun runs untripped => ?_, settle_siteJudged w⟩
  · rw [settle_settingsWork, bears.work, settingsLoaded_flp]
  · rw [settle_clock, bears.clock, settingsLoaded_clock]
  · exact takesSettings_of new idle cfg (by rw [settle_seq, bears.seq, seq]) (by rw [settle_groups, bears.groups, groups])
      (by rw [settle_fda, bears.fda, fda]) (by rw [settle_lgt, bears.lgt, lgt]) (by rw [settle_aud, bears.aud, aud])
      (by rw [settle_channels, bears.sup, channels]) (by rw [settle_sup, bears.sup, calm])
  · rw [settle_image, bears.image, settingsLoaded_flp]
  · rw [settle_sup, bears.sup, mark]
  · rw [settle_permit, bears.sup, permit runs untripped]

end

/-! ## Settings reads -/

/-- The port FREE again, with "settings bad" set where the image is BAD (R175). -/
def State.judgedImage (s : State) (image : ImageState) : State :=
  (s.withPort .free).flagIf (decide (image = .bad)) .settingsBad

/-- The settings work is over, with nothing taken. -/
def State.worksNoMore (s : State) : State := { s with flp := { s.flp with settingsWork := none } }

section
variable {s : State} {o n : Nat} {startUp : Bool} {read : List Byte} (port : s.flp.port = .reading (.settingsRead o n))
  (work : s.flp.settingsWork = some (.load startUp read))
include port work

/-- What a settings read that has ended well does, by the judgement of the bytes read so far (R175). -/
theorem exec_settingsReadDone :
    (judgeImage (read ++ Memory.readBytes s.flash o n) = .more → exec .settingsReadDone s =
        .next ((s.withPort .free).askSettings startUp (read ++ Memory.readBytes s.flash o n)).settle)
      ∧ ∀ image new, judgeImage (read ++ Memory.readBytes s.flash o n) = .found image new → exec .settingsReadDone s =
        .next ((s.withPort .free).imageFound startUp image new).settle := by
  have runs : exec .settingsReadDone s =
      .next ((s.withPort .free).settingsRead (Memory.readBytes s.flash o n)).settle := by
    show execSettingsReadDone s = _
    unfold execSettingsReadDone
    rw [port]
    dsimp only
    rw [show Region.base .settings + o = o from Nat.zero_add o]
  have work' : (s.withPort .free).flp.settingsWork = some (.load startUp read) := work
  rw [runs]
  unfold State.settingsRead
  rw [work']
  refine ⟨fun more => ?_, fun image new found => ?_⟩
  · dsimp only
    rw [more]
  · dsimp only
    rw [found]

/-- Bytes that decide nothing: the next read begins at once (R175). -/
theorem settingsRead_goes_on (quiet : s.flashQuiet = true)
    (more : judgeImage (read ++ Memory.readBytes s.flash o n) = .more) :
    ∃ t, exec .settingsReadDone s = .next t
      ∧ t.flp.port = .reading (.settingsRead (read ++ Memory.readBytes s.flash o n).length 4096)
      ∧ t.flp.settingsWork = some (.load startUp (read ++ Memory.readBytes s.flash o n))
      ∧ t.cfg = s.cfg ∧ t.groups = s.groups ∧ t.seq = s.seq ∧ t.lgt = s.lgt ∧ t.dbm = s.dbm ∧ t.flash = s.flash := by
  obtain ⟨chunk, seeks, internal, lifQ⟩ := (flashQuiet_iff s).mp quiet
  refine ⟨_, (exec_settingsReadDone port work).1 more, ?_, ?_, ?_, ?_, ?_, ?_, ?_, ?_⟩
  · have waits : ((s.withPort .free).askSettings startUp (read ++ Memory.readBytes s.flash o n)).flp.internalQ =
        [.settingsRead (read ++ Memory.readBytes s.flash o n).length 4096] :=
      congrArg (· ++ [Txn.settingsRead (read ++ Memory.readBytes s.flash o n).length 4096]) internal
    rw [settle_port, settleFlash_internal (s := (s.withPort .free).askSettings startUp _) rfl chunk seeks waits lifQ,
      startTxn_port]
    rfl
  · rw [settle_settingsWork]
    rfl
  · rw [settle_cfg]
    rfl
  · rw [settle_groups]
    rfl
  · rw [settle_seq]
    rfl
  · rw [settle_lgt]
    rfl
  · rw [settle_dbm]
    rfl
  · rw [settle_flash_of_free rfl]
    rfl

end

/-! ## The image is decided -/

section
variable (s : State) (image : ImageState) (new : Settings)

theorem judgedImage_bad (bad : image = .bad) : (s.judgedImage image).flags.has .settingsBad = true := by
  rw [State.judgedImage, bad, decide_eq_true rfl, flagIf_true]
  exact raise_has (s.withPort .free).flags .settingsBad

/-- At start-up the load is judged in every state of the show (R178). -/
theorem imageFound_starts : (s.withPort .free).imageFound true image new =
    ((s.judgedImage image).settingsLoaded image new).startUpReady := imageFound_startUp _ _ _

/-- A reload takes the settings where the show is IDLE and no group moves, and conflicts otherwise (R177). -/
theorem imageFound_reloads : (s.withPort .free).imageFound false image new =
    if s.seq.st = .idle ∧ s.groupsDown = true then
      ((s.judgedImage image).settingsLoaded image new).endService .settings .none none (some image)
    else (s.judgedImage image).worksNoMore.endService .settings .conflict none none := by
  have moves : (!(s.judgedImage image).isIdle || (s.judgedImage image).waterMoving) = true
      ↔ ¬(s.seq.st = .idle ∧ s.groupsDown = true) := by
    unfold State.waterMoving
    rw [show (s.judgedImage image).isIdle = decide (s.seq.st = .idle) from rfl,
      show (s.judgedImage image).groupsDown = s.groupsDown from rfl]
    simp only [Bool.or_eq_true, Bool.not_eq_true', decide_eq_false_iff_not, not_and, Bool.not_eq_true]
    tauto
  have reloads : (s.withPort .free).imageFound false image new = (s.judgedImage image).reloadFound image new := rfl
  rw [reloads]
  unfold State.reloadFound
  by_cases takes : s.seq.st = .idle ∧ s.groupsDown = true
  · rw [if_pos takes, if_neg (fun h => moves.mp h takes)]
  · rw [if_neg takes, if_pos (moves.mpr takes)]
    rfl

/-- What has taken the settings from the judged state has taken them from the state before. -/
theorem takesSettings_judged {t : State} (h : (s.judgedImage image).takesSettings t new) : s.takesSettings t new := h

end

/-- The load at start-up at the end of its step (R175, R178). -/
theorem startUp_settles (s : State) (image : ImageState) (new : Settings) :
    let t := ((s.withPort .free).imageFound true image new).settle
    (image = .bad → t.flags.has .settingsBad = true) ∧ t.flp.settingsWork = none ∧ t.clock = s.clock ∧ t.cfg = new
      ∧ (s.seq.st = .idle → s.takesSettings t new) ∧ t.flp.image = image ∧ t.sup.startMark = true
      ∧ (s.lif.halted = false → s.sup.mode ≠ .tripped → t.sup.permit = true)
      ∧ t.lif.starting = false ∧ t.lif.settingsSlot.status = .idle ∧ t.siteJudged := by
  rw [imageFound_starts]
  obtain ⟨work, clock, cfg, takes, state, mark, permit, judged⟩ :=
    settle_of_loaded (s := s.judgedImage image) image new (startUpReady_bears _)
  obtain ⟨starting, slot⟩ := startUpReady_lif ((s.judgedImage image).settingsLoaded image new)
  exact ⟨fun bad => settle_kept (startUpReady_kept (settingsLoaded_kept image new (judgedImage_bad s image bad))), work,
    clock, cfg, fun idle => takesSettings_judged s image new (takes idle), state, mark, permit,
    (settle_starting _).trans starting, (congrArg SlotRecord.status (settle_settingsSlot _)).trans slot, judged⟩

/-- A reload that takes the settings, at the end of its step (R175, R177). -/
theorem reload_settles {s : State} (image : ImageState) (new : Settings) (idle : s.seq.st = .idle)
    (down : s.groupsDown = true) :
    let t := ((s.withPort .free).imageFound false image new).settle
    (image = .bad → t.flags.has .settingsBad = true) ∧ t.flp.settingsWork = none ∧ t.clock = s.clock ∧ t.cfg = new
      ∧ s.takesSettings t new ∧ t.flp.image = image ∧ t.sup.startMark = true
      ∧ (s.lif.halted = false → s.sup.mode ≠ .tripped → t.sup.permit = true)
      ∧ t.lif.settingsSlot =
        { s.lif.settingsSlot with status := .done, failure := .none, cueIndex := none, imageFound := some image }
      ∧ (s.lif.Hushed → s.says t 0 (.serviceDone .settings t.lif.settingsSlot)) ∧ t.siteJudged := by
  rw [imageFound_reloads, if_pos ⟨idle, down⟩]
  have told : s.lif.Told ((s.judgedImage image).settingsLoaded image new).lif :=
    settingsLoaded_told (s := s.judgedImage image) image new idle
  obtain ⟨work, clock, cfg, takes, state, mark, permit, judged⟩ :=
    settle_of_loaded (s := s.judgedImage image) image new (endService_bears _ .settings .none none (some image))
  have bad (h : image = .bad) := settingsLoaded_kept image new (judgedImage_bad s image h)
  generalize (s.judgedImage image).settingsLoaded image new = v at *
  have slot : (v.endService .settings .none none (some image)).settle.lif.settingsSlot
      = v.endRecord .settings .none none (some image) :=
    (settle_settingsSlot _).trans (endService_slot v .settings .none none (some image))
  refine ⟨fun h => settle_kept (report_has (bad h)), work, clock, cfg, takesSettings_judged s image new (takes idle), state,
    mark, permit, ?_, fun hushed => ?_, judged⟩
  · rw [slot, State.endRecord, show v.lif.slot .settings = v.lif.settingsSlot from rfl, told.settingsSlot]
    rfl
  · rw [slot]
    have same : v.lif = s.lif := told.of_hushed hushed
    exact endService_says (l := s.lif) (n := 0) .settings .none none (some image) rfl rfl (by rw [same]; exact .refl 0 _)
      (Nat.le_refl 0) fun _ h => settle_carries h

/-- A reload that conflicts, at the end of its step (R177). -/
theorem reload_conflicts {s : State} (image : ImageState) (new : Settings)
    (moves : ¬(s.seq.st = .idle ∧ s.groupsDown = true)) :
    let t := ((s.withPort .free).imageFound false image new).settle
    (image = .bad → t.flags.has .settingsBad = true) ∧ t.flp.settingsWork = none ∧ t.clock = s.clock
      ∧ t.cfg = s.cfg ∧ t.flp.image = s.flp.image ∧ t.groups = s.groups ∧ t.seq = s.seq ∧ t.lif.settingsSlot =
        { s.lif.settingsSlot with status := .failed, failure := .conflict, cueIndex := none, imageFound := none }
      ∧ s.says t 1 (.serviceDone .settings t.lif.settingsSlot) ∧ t.sup.permit = s.sup.permit
      ∧ t.sup.startMark = s.sup.startMark := by
  rw [imageFound_reloads, if_neg moves]
  have bad (h : image = .bad) : (s.judgedImage image).worksNoMore.flags.has .settingsBad = true :=
    judgedImage_bad s image h
  have bears := endService_bears (s.judgedImage image).worksNoMore .settings .conflict none none
  have slot : ((s.judgedImage image).worksNoMore.endService .settings .conflict none none).settle.lif.settingsSlot
      = (s.judgedImage image).worksNoMore.endRecord .settings .conflict none none :=
    (settle_settingsSlot _).trans (endService_slot _ .settings .conflict none none)
  refine ⟨fun h => settle_kept (report_has (bad h)), (settle_settingsWork _).trans bears.work,
    (settle_clock _).trans bears.clock, (settle_cfg _).trans bears.cfg, (settle_image _).trans bears.image,
    (settle_groups _).trans bears.groups, (settle_seq _).trans bears.seq, slot, ?_, settle_permit _, ?_⟩
  · rw [slot]
    exact endService_says (l := s.lif) (n := 0) .settings .conflict none none rfl rfl (.refl 0 _) (Nat.zero_le 1)
      fun _ h => settle_carries h
  · rw [settle_sup, bears.sup]
    rfl

end Sys2Proof.Machine
end

section
/-! SAVE_SETTINGS and RELOAD_SETTINGS, and the settings saved and loaded (R173 to R178). -/

namespace Sys2Proof.Machine

open State

/-! ## The judgements -/

/-- A request that LIF takes has the kind of its row. -/
theorem takes_kind {s : State} {r : RequestRule} {q : Request} (taken : s.takes r q = true) : q.kind = r.kind := by
  simp only [State.takes, Bool.and_eq_true, decide_eq_true_eq] at taken
  obtain ⟨⟨⟨⟨⟨⟨-, kind⟩, -⟩, -⟩, -⟩, -⟩, -⟩ := taken
  exact kind

theorem judgeSave_eq (s : State) : s.judgeSave = if s.flp.presence = .missing then .error .noFlash
    else if s.lif.flashSlot.active = true then .error .conflict else .ok () := by
  unfold State.judgeSave
  rw [refuseIf_bind, refuseIf_eq]
  simp only [noFlash_iff]

theorem judgeReload_eq (s : State) : s.judgeReload = if s.flp.presence = .missing then .error .noFlash
    else if s.lif.flashSlot.active = true then .error .conflict
    else if s.seq.st ≠ .idle then .error .showActive else .ok () := by
  have active : (!s.isIdle) = true ↔ s.seq.st ≠ .idle := by
    rw [Bool.not_eq_true', State.isIdle, decide_eq_false_iff_not]
  unfold State.judgeReload
  rw [judgeSave_eq, refuseIf_eq]
  simp only [active]
  by_cases missing : s.flp.presence = .missing
  · rw [if_pos missing, if_pos missing, error_bind]
  · rw [if_neg missing, if_neg missing]
    by_cases busy : s.lif.flashSlot.active = true
    · rw [if_pos busy, if_pos busy, error_bind]
    · rw [if_neg busy, if_neg busy, ok_bind]

theorem exec_saveSettings {s : State} {q : Request} (taken : s.takes .saveSettings q = true) :
    exec .saveSettings s = .next (s.taken.judged q s.judgeSave fun _ =>
      ((s.taken.answer q .accepted []).beginSave q).settleFlash).kick :=
  congrArg Host.Outcome.next (serve_takes s _ anyOf _ q taken rfl)

theorem exec_reloadSettings {s : State} {q : Request} (taken : s.takes .reloadSettings q = true) :
    exec .reloadSettings s = .next (s.taken.judged q s.judgeReload fun _ =>
      ((State.beginService (s.taken.answer q .accepted []) .settings .running q.kind q.tag).askSettings false
        []).settleFlash).kick :=
  congrArg Host.Outcome.next (serve_takes s _ anyOf _ q taken rfl)

/-! ## What begins -/

/-- An Internal transaction begins at once at a FREE port with nothing waiting, and the transmitter then acts (R169, R184). -/
theorem settleFlash_begins {s u : State} {x : Txn} (internal : x ≠ .hostProgram ∧ x ≠ .hostErase)
    (free : s.flp.port = .free) (quiet : s.flashQuiet = true) (port : u.flp.port = s.flp.port) (aud : u.aud = s.aud)
    (waits : u.flp.internalQ = s.flp.internalQ ++ [x]) (lif : u.flp.lifQ = s.flp.lifQ) :
    u.settleFlash.kick = { u with
      flp := { u.flp with port := x.port, internalQ := [], turn := .lif }
      lif := u.lif.kick } := by
  obtain ⟨chunk, seeks, empty, noneWaits⟩ := (flashQuiet_iff s).mp quiet
  rw [empty] at waits
  rw [settleFlash_internal (port.trans free) ((congrArg Aud.chunk aud).trans chunk) ((congrArg Aud.seeker aud).trans seeks)
    waits (lif.trans noneWaits)]
  unfold State.startTxn
  rw [if_neg fun host => host.elim internal.1 internal.2]
  rfl

section
variable {s : State} {q : Request} (there : s.flp.presence ≠ .missing) (rests : s.lif.flashSlot.active = false)
  (free : s.flp.port = .free) (quiet : s.flashQuiet = true)
include there rests free quiet

/-- A save begins with the erase of the settings region, its image built from the settings as they stand (R176). -/
theorem saveSettings_begins (taken : s.takes .saveSettings q = true) :
    ∃ (t : State) (unused : Nat → Byte), exec .saveSettings s = .next t ∧ t.flp.port = .erasing .settingsErase
      ∧ t.flp.settingsWork = some (.save (s.cfg.image unused) false)
      ∧ t.lif = ({ s.lif.answering q .accepted [] with
          settingsSlot := ⟨.running, 0x3B, q.tag, .none, none, none⟩ }).kick
      ∧ t = { s with flp := t.flp, lif := t.lif, fresh := t.fresh } := by
  have passes : s.judgeSave = .ok () := by
    rw [judgeSave_eq, if_neg there, if_neg (by rw [rests]; decide)]
  have kind : q.kind = 0x3B := takes_kind taken
  refine ⟨_, Config.unusedPointByte s.fresh, exec_saveSettings taken, ?_⟩
  rw [judged_passed passes, settleFlash_begins (s := s) (u := (s.taken.answer q .accepted []).beginSave q)
    (x := .settingsErase) ⟨nofun, nofun⟩ free quiet rfl rfl rfl rfl]
  refine ⟨rfl, rfl, ?_, rfl⟩
  rw [← kind]
  rfl

/-- A reload begins with the first read of the settings region (R175, R177). -/
theorem reloadSettings_begins (idle : s.seq.st = .idle) (taken : s.takes .reloadSettings q = true) :
    ∃ t, exec .reloadSettings s = .next t ∧ t.flp.port = .reading (.settingsRead 0 4096)
      ∧ t.flp.settingsWork = some (.load false [])
      ∧ t.lif = ({ s.lif.answering q .accepted [] with
          settingsSlot := ⟨.running, 0x3C, q.tag, .none, none, none⟩ }).kick
      ∧ t = { s with flp := t.flp, lif := t.lif } := by
  have passes : s.judgeReload = .ok () := by
    rw [judgeReload_eq, if_neg there, if_neg (by rw [rests]; decide), if_neg (not_not.mpr idle)]
  have kind : q.kind = 0x3C := takes_kind taken
  refine ⟨_, exec_reloadSettings taken, ?_⟩
  rw [judged_passed passes, settleFlash_begins (s := s)
    (u := (State.beginService (s.taken.answer q .accepted []) .settings .running q.kind q.tag).askSettings false [])
    (x := .settingsRead 0 4096) ⟨nofun, nofun⟩ free quiet rfl rfl rfl rfl]
  refine ⟨rfl, rfl, ?_, rfl⟩
  rw [← kind]
  rfl

end

/-! ## The requests -/

section
variable {s : State} {q : Request}

/-- SAVE_SETTINGS by the conditions of its judgement (R176). -/
theorem saveSettings_judged (taken : s.takes .saveSettings q = true) :
    (s.flp.presence = .missing → exec .saveSettings s = .next (s.answered q .noFlash []))
      ∧ (s.flp.presence ≠ .missing → s.lif.flashSlot.active = true →
        exec .saveSettings s = .next (s.answered q .conflict [])) := by
  rw [exec_saveSettings taken]
  refine ⟨fun missing => congrArg _ (judged_refused ?_), fun there busy => congrArg _ (judged_refused ?_)⟩
  · rw [judgeSave_eq, if_pos missing]
  · rw [judgeSave_eq, if_neg there, if_pos busy]

/-- RELOAD_SETTINGS by the conditions of its judgement (R177). -/
theorem reloadSettings_judged (taken : s.takes .reloadSettings q = true) :
    (s.flp.presence = .missing → exec .reloadSettings s = .next (s.answered q .noFlash []))
      ∧ (s.flp.presence ≠ .missing → s.lif.flashSlot.active = true →
        exec .reloadSettings s = .next (s.answered q .conflict []))
      ∧ (s.flp.presence ≠ .missing → s.lif.flashSlot.active = false → s.seq.st ≠ .idle →
        exec .reloadSettings s = .next (s.answered q .showActive [])) := by
  rw [exec_reloadSettings taken]
  refine ⟨fun missing => congrArg _ (judged_refused ?_), fun there busy => congrArg _ (judged_refused ?_),
    fun there rests shows => congrArg _ (judged_refused ?_)⟩
  · rw [judgeReload_eq, if_pos missing]
  · rw [judgeReload_eq, if_neg there, if_pos busy]
  · rw [judgeReload_eq, if_neg there, if_neg (by rw [rests]; decide), if_pos shows]

end

/-! ## The obligation -/

/-- Settles O50: the requests by their judgements, the next read, and the image decided at start-up, in a reload that takes the
settings and in one that conflicts. -/
theorem settingsAreSavedAndLoaded : Obligations.SettingsAreSavedAndLoaded := by
  unfold Obligations.SettingsAreSavedAndLoaded
  refine ⟨fun s q => ⟨fun taken => ?_, fun taken => ?_⟩, ?_⟩
  · obtain ⟨missing, busy⟩ := saveSettings_judged taken
    exact ⟨missing, busy, fun there rests free quiet => saveSettings_begins there rests free quiet taken⟩
  · obtain ⟨missing, busy, shows⟩ := reloadSettings_judged taken
    exact ⟨missing, busy, shows,
      fun there rests idle free quiet => reloadSettings_begins there rests free quiet idle taken⟩
  · intro s o n startUp read port work quiet all
    refine ⟨settingsRead_goes_on port work quiet, fun image new found => ?_⟩
    refine ⟨_, (exec_settingsReadDone port work).2 image new found, ?_⟩
    cases startUp with
    | true =>
      obtain ⟨bad, done, clock, cfg, takes, state, mark, permit, starting, slot, judged⟩ := startUp_settles s image new
      refine ⟨bad, done, clock, ?_⟩
      rw [if_pos (.inl rfl)]
      exact ⟨cfg, takes, state, mark, permit, fun _ => ⟨starting, slot⟩, (nomatch ·), judged⟩
    | false =>
      by_cases still : s.seq.st = .idle ∧ s.groupsDown = true
      · obtain ⟨bad, done, clock, cfg, takes, state, mark, permit, slot, hushed, judged⟩ :=
          reload_settles image new still.1 still.2
        refine ⟨bad, done, clock, ?_⟩
        rw [if_pos (.inr still)]
        exact ⟨cfg, fun _ => takes, state, mark, permit, (nomatch ·), fun _ => ⟨slot, hushed⟩, judged⟩
      · obtain ⟨bad, done, clock, kept⟩ := reload_conflicts image new still
        refine ⟨bad, done, clock, ?_⟩
        rw [if_neg fun either => either.elim (nomatch ·) still]
        exact kept

end Sys2Proof.Machine
end
